-- ==== Sys2Proof/Word.lean ====
section
/-! DEFINITION. The byte and the plainest counter arithmetic of the GP4890 model. -/

namespace Sys2Proof

/-- One byte of a packet, frame or record. -/
abbrev Byte := BitVec 8

/-- An 8-byte identifier (SYS_UID, digests in DIGEST8 form). -/
abbrev Word64 := BitVec 64

/-- A counter of `w` bits that wraps to 0 (Table 15.11, "wraps"). -/
def wrapAdd (w a b : Nat) : Nat := (a + b) % 2 ^ w

/-- A counter of `w` bits that holds at its maximum (Table 15.11, "saturates"). -/
def satAdd (w a b : Nat) : Nat := min (a + b) (2 ^ w - 1)

/-- The difference of two uptimes modulo 2^32 (R465). -/
def since (now old : Nat) : Nat := (now + 2 ^ 32 - old) % 2 ^ 32

end Sys2Proof
end

