-- ==== Sys2Proof/Syntax.lean ====
section
/-! DEFINITION. The commands of the GP4890: one constructor per row of the operation and event table, with the operands
that the model gives each row (log 2). -/

namespace Sys2Proof

/-- A supply that can carry VSEL (R59), or none. -/
inductive Source
  | bus | sto | field | bak
deriving DecidableEq, Repr

/-- What the strap pads read at a sampling (R5, R33, R34, R36, R38): pad voltages in mV, and whether TEST is high
(R26). -/
structure Straps where
  gpio7Mv : Nat
  gpio6Mv : Nat
  sdoMv : Nat
  u0deMv : Nat
  test : Bool
deriving DecidableEq, Repr

/-- What the boot ROM and the hardware find at a cold boot: whether each firmware bank passes its digest check (R440),
whether the self-test of each die passes (R293), which banks and copies in NVM pass their CRC (R235, R428, R459). -/
structure BootCheck where
  fwPass : BitVec 2
  diePass : BitVec 4
  bankPass : BitVec 2
  counterPass : Bool
deriving DecidableEq, Repr

/-- What stands at the passive start paths of the harvest front end (R79, R82, R85, R86): open-circuit voltages of TEG and PV,
the TEG's source resistance, the VIB input peak and its frequency. -/
structure PassiveIn where
  tegVocUv : Nat
  tegRsMohm : Nat
  pvVocMv : Nat
  vibPeakMv : Nat
  vibHz : Nat
deriving DecidableEq, Repr

/-- A tracked harvest channel (R88). -/
inductive HarvestCh
  | teg | vib | pv
deriving DecidableEq, Repr

/-- A converter stage of the harvest front end (R101). -/
inductive Stage
  | teg | vib | pv | store
deriving DecidableEq, Repr

/-- What the gauge reads at a ledger instant (R103, R111, R122): the STO and STO_MID voltages and the slot in which ADC-P took
that sample (R149); the present net current out of STO, the largest magnitude that it has had since the last instant, and the
charge in microcoulombs that it has moved; the present current of the store stage into STO; and since the last instant the
energies that VHOST and everything else took from STO and that harvest delivered into it. -/
structure Gauge where
  stoMv : Nat
  midMv : Nat
  slot : Fin 128
  netUa : Int
  peakUa : Nat
  dqUc : Int
  harvUa : Nat
  hostUj : Nat
  outUj : Nat
  harvUj : Nat
deriving DecidableEq, Repr

/-- An internal job that reserves energy, in the order of Table 4.5. -/
inductive Job
  | shutdownCommit | faultRecord | keyCommit | patinaFlush | calendarSave | configSave | fwBlock | nfcSession
  | lineTxDark
deriving DecidableEq, Repr

/-- A wake source of Table 5.6. -/
inductive WakeSrc
  | vbus | nfcField | shelfTimer | rtcRun | rtcAlarm | gpioEdge | event | hold | hostByte | i2cAddr | miovin
  | lineCarrier
deriving DecidableEq, Repr

/-- A transport of Table 6.2, and the Miovin link that carries the inner request of a TAB_FORWARD (R213). -/
inductive Transport
  | spi | i2c | uart | gateway | line | nfc | link
deriving DecidableEq, Repr

/-- One Camyx request as its opcode row carries it: the transport, the line addresses where the line carries it (R180),
CTRL, SEQ, PARAMS and MAC of Table 6.1. The row itself gives OPC. -/
structure Request where
  via : Transport
  origin : Nat
  dst : Nat
  ctrl : Byte
  seq : BitVec 16
  params : List Byte
  mac : List Byte
deriving DecidableEq, Repr

/-- Why a switch die is fenced (Table 9.4). -/
inductive FenceReason
  | absent | selftest | diebus | tsense | offset | repeated
deriving DecidableEq, Repr

/-- The mean sense voltage of each phase in µV over the last balancing period, of the samples in the middle of its on-times and
off-times (R314). -/
structure PhaseMeans where
  uv : Vector Int 8
deriving DecidableEq, Repr

/-- What the pre-start checks of a rail find (R340): FB open, pre-bias above over-voltage, TRK above 1.35 V, and the phases that fail their
sense, gate and boot checks. -/
structure PreStart where
  rail : Fin 2
  fbOpen : Bool
  preBias : Bool
  trkHigh : Bool
  sense : BitVec 8
  gate : BitVec 8
  boot : BitVec 8
deriving DecidableEq, Repr

/-- Why braking ends (R324). -/
inductive BrakeEnd
  | recovered | maxTime | overVoltage
deriving DecidableEq, Repr

/-- The failed path that sheds a phase (R341). -/
inductive ShedReason
  | sense | gate | boot | share
deriving DecidableEq, Repr

/-- What the hardware captures hand to the wear update (R462). -/
inductive WearIn
  | die (d : Fin 4) (deltaK maxC : Int)
  | phase (p : Fin 8) (meanMa : Nat) (tempC : Int)
  | limited (p : Fin 8) (count : Nat)
  | store
  | nvm (maxErase : Nat)
deriving DecidableEq, Repr

/-- The commands of the block: the rows of the operation and event table, in its order. -/
inductive Instr
  /-- R152: VPLN rises from below 1.0 V or SHELF is left, and everything is reset except switch-die latches on dies that keep VBUS. -/
  | plinthPowerOnReset (src : Source) (straps : Straps)
  /-- R152: RST_N low performs a device reset that keeps the Plinth, retained RAM and switch-die latches and stops the Armature. -/
  | rstNAssert
  /-- R5: The rising edge of RST_N resamples the straps and starts a cold boot. -/
  | rstNRelease (straps : Straps)
  /-- R151: The watchdog counts SYS_WDT_MS without service and performs a sequencer reset with cause WDT. -/
  | watchdogExpiry
  /-- R152: A core fault performs a sequencer reset with cause LOCKUP. -/
  | coreLockup
  /-- R152: A VCORE brown-out performs a sequencer reset with cause VCORE. -/
  | vcoreBrownout
  /-- R157: RC48 stops or leaves ±2 % for 10 µs, which performs a sequencer reset with cause CLK and raises CLK_FAIL. -/
  | rc48Failure
  /-- R157: RC48 is not restarted within 1 ms, which performs a device reset with cause CLKSTOP. -/
  | rc48RestartTimeout
  /-- R153: The warm restart ends and Roeno rebuilds its state from the block registers and retained RAM, with staged changes discarded. -/
  | warmRestartComplete
  /-- R154: A cold boot checks the bank, loads the configuration, restores latches and fences, and adopts the channel latches. -/
  | coldBootComplete (chk : BootCheck)
  /-- R132: XO32 fails to start, stops or deviates, and the RTC moves to RC32. -/
  | xtalFail
  /-- R132: Every 3,600 s, XO32 is retried while XTAL_FAIL stands. -/
  | xtalRetry
  /-- R132: A retry runs 10 s without failure and XTAL_FAIL clears. -/
  | xtalFailClear
  /-- R45: VBUS falls below 5.50 V for 1 µs, BUS is disqualified and a downgrade hand-over starts. -/
  | busUvFall (vbusMv : Int)
  /-- R59: VBUS stays above 6.00 V for 2 ms with no reverse or open ground, BUS qualifies and BUS_UP is raised. -/
  | busQualify (vbusMv : Int)
  /-- R45: The bus-loss count reaches PWR_BUS_LOST_MS with BUS unqualified, BUS_LOST is raised and shutdown begins. -/
  | busLost
  /-- R44: VBUS crosses BUS_FULL, which changes the charger limit and raises BUS_LOWPERF on a fall. -/
  | busFullCrossing (rising : Bool) (vbusMv : Int)
  /-- R44: VBUS crosses BUS_HIGH and BUS_HIGH is raised on a rise. -/
  | busHighCrossing (rising : Bool) (vbusMv : Int)
  /-- R44: VBUS rises above BUS_OV, the charger stops and the line transmitter is inhibited. -/
  | busOv (vbusMv : Int)
  /-- R335: BUS_OV qualifies falling and rails stopped with reason VIN_OV start again. -/
  | busOvFall (vbusMv : Int)
  /-- R69: VBUS rises above BUS_DUMP, PWR_DUMP_COUNT increments, and REPEAT is raised within 10 s. -/
  | busDump (vbusMv : Int)
  /-- R298: VBUS falls below 64.0 V and deferred command turn-offs of mode 1 channels take effect. -/
  | busDumpFall (vbusMv : Int)
  /-- R70: VBUS goes below BUS_REVERSE, BUS is disqualified, and VREG10 and the charger are kept off. -/
  | busReverse (vbusMv : Int)
  /-- R300: Reverse ends, and each channel whose demand was not OFF raises LSW_RT REVERSE and awaits restore. -/
  | busReverseRelease (vbusMv : Int)
  /-- R299: VBUS between −6 V and −60 V turns all switches of each die fully on within 100 µs. -/
  | reverseHoldOn (vbusMv : Int)
  /-- R71: PGND to GND exceeds 0.25 V for 50 µs, GND_OPEN is raised, BUS is disqualified and the charger stops. -/
  | gndOpen
  /-- R71: The PGND to GND voltage stays below 0.10 V for 1 s, GND_OPEN clears and deferred latch writes are made. -/
  | gndOpenClear
  /-- R65: The old switch is confirmed open and the target switch closes, the dwell starts and PWR_HO_COUNT increments. -/
  | handoverMake
  /-- R62: PWR_DWELL_MS ends and an upgrade to the best qualified higher source begins. -/
  | dwellExpiry
  /-- R63: VSEL falls below 1.6 V within 2 µs of a make, the target is disqualified and a downgrade starts. -/
  | vselCollapseAfterMake
  /-- R59: STO reaches its qualification level and becomes a candidate source. -/
  | stoQualify (stoMv : Nat)
  /-- R59: STO stays below PWR_STO_FLOOR_MV for 1 ms, is disqualified and a downgrade begins. -/
  | stoDisqualify (stoMv : Nat)
  /-- R59: The field rectifier stays at 2.2 V or more for 20 ms and FIELD qualifies. -/
  | fieldQualify
  /-- R59: The field rectifier falls below 1.9 V for 50 µs and FIELD is disqualified. -/
  | fieldDisqualify
  /-- R54: BAK crosses 2.20 V and becomes qualified or disqualified. -/
  | bakQualifyChange (bakMv : Int)
  /-- R60: No source qualifies before VPLN falls to its reset level, and the power path enters NONE. -/
  | plinthSupplyFail
  /-- R49: The controller die crosses 65 °C rising or 60 °C falling, and the supercapacitor derating is applied or removed. -/
  | scDerateChange (tempC : Int)
  /-- R72: STO is still below 0.20 V after 600 s of charging, STO_FAULT SHORT is raised and STO is disqualified. -/
  | stoShortDetect (stoMv : Nat)
  /-- R72: Every 600 s, charging is retried at 5 mA for 60 s, and SHORT clears above 0.50 V. -/
  | stoShortRetry (stoMv : Nat)
  /-- R72: STO rises faster than 100 V/s while charging, and STO_FAULT OPEN stops charging. -/
  | stoOpenDetect (stoMv : Nat)
  /-- R72: STO is above PWR_STO_VMAX_MV + 200 mV for 10 ms, and every charging path stops. -/
  | stoOvervoltage (stoMv : Nat)
  /-- R72: An LFP or LIO cell is still below its pre-charge voltage after 1 h, and charging stops. -/
  | prechargeTimeout (stoMv : Nat)
  /-- R47: The cell charge current falls to the termination level, charging ends and the count is set to 100 %. -/
  | chargeTermination
  /-- R52: STO_MID stays outside 25 % to 75 % of STO for 1 s, the balancer goes off and end-of-charge is limited to 2,700 mV. -/
  | midOpen (midMv : Nat)
  /-- R52: STO_MID stays within 40 % to 60 % for 10 s and the MID_OPEN limit lifts. -/
  | midOpenClear (midMv : Nat)
  /-- R53: The cells differ by more than 300 mV for 60 s while balancing, and STO_IMBALANCE is raised. -/
  | stoImbalance (cleared : Bool)
  /-- R51: The balancer stops 10 s after the last charging path stops. -/
  | balancerStop
  /-- R56: BAK is measured daily, at SHELF exit and after switch-in, and BAK_LOW or BAK_ABSENT is raised as the reading directs. -/
  | bakMeasure (bakMv : Int) (loaded : Bool)
  /-- R58: VHOST stays 2 ms in current limit, turns off and schedules a retry. -/
  | vhostCurrentLimit (loadMa : Nat)
  /-- R58: 500 ms after a limit turn-off VHOST retries, and after five failures stays off with VHOST_FAULT. -/
  | vhostRetry (failed : Bool)
  /-- R79: With the Plinth unpowered, VHB reaches 2.0 V and the cold-start controller runs the store stage and boosts. -/
  | cscStart (p : PassiveIn)
  /-- R79: VHB falls below 1.7 V and the cold-start controller stops. -/
  | cscStop
  /-- R79: Every 2 s the cold-start controller resamples the TEG and PV open-circuit voltages. -/
  | cscVocSample (p : PassiveIn)
  /-- R80: In NONE, STO at or above 1.00 V starts the Plinth, harvest is taken over and COLDSTART is raised. -/
  | plinthStartFromSto (stoMv : Nat) (delivering : BitVec 4) (straps : Straps)
  /-- R469: During a start from nothing, STO reaches PWR_STO_FLOOR_MV + 100 mV and the cold boot begins. -/
  | coldBootTrigger (stoMv : Nat)
  /-- R83: The TEG open-circuit voltage reaches 12 mV with the Plinth running, and the TEG channel starts. -/
  | tegUp (vocUv : Nat)
  /-- R83: The TEG cannot hold 8 mV or delivers below 1 µW for 10 s, and the channel stops. -/
  | tegLost
  /-- R84: The VIB input peak reaches its start level and the channel starts. -/
  | vibUp (vocUv hz : Nat)
  /-- R84: The VIB start condition fails for 10 s and VIB_LOST is raised. -/
  | vibLost
  /-- R86: The PV open-circuit voltage reaches 0.50 V and the PV channel starts. -/
  | pvUp (vocUv : Nat)
  /-- R86: The PV operating voltage falls below 0.40 V or its power stays below 1 µW for 10 s, and PV_LOST is raised. -/
  | pvLost
  /-- R87: The field rectifier stands above 2.5 V and field harvesting into VHB starts. -/
  | nfcHrv (rectMv uw : Nat)
  /-- R88: At each tracker period, a perturb-and-observe step is applied in clean time and the direction is updated. -/
  | trackerPeriod (c : HarvestCh) (meanUw : Nat)
  /-- R91: No clean time is found within 4 periods, the step is abandoned and HRV_PO_SKIPS increments. -/
  | trackerSkip (c : HarvestCh)
  /-- R90: At each open-circuit interval, the stage stops in clean time and the open-circuit value is sampled and the point reset if needed. -/
  | vocSample (c : HarvestCh) (vocUv : Nat) (carrier : Bool)
  /-- R90: A stage held stopped after a sample restarts once rx_busy clears, or after at most 40 ms. -/
  | vocSampleRestart (c : HarvestCh)
  /-- R92: A channel reaches its power or current limit, its tracker holds, and MPPT_LIMIT is raised. -/
  | mpptLimit (c : HarvestCh) (uw ma : Nat)
  /-- R92: The channel stays below its limit for 10 s and MPPT_LIMIT clears. -/
  | mpptLimitClear (c : HarvestCh)
  /-- R93: VHB reaches its target + 0.5 V while charging is limited, and the boosts and bridges stop and hold. -/
  | storeFullStop (vhbMv : Nat)
  /-- R93: VHB falls back to its target and each stage resumes at its held point. -/
  | storeResume (vhbMv : Nat)
  /-- R77: VHB_target crosses 14.0 V or 13.5 V, and the TEG and PV boosts stop or resume. -/
  | boostCeiling (rising : Bool)
  /-- R95: At 4 Hz, the Plinth refreshes every sampled-and-held reference over 1 ms. -/
  | referenceRefresh
  /-- R100: The VHB shunt clamp conducts at 26 V and HB_CLAMP is raised. -/
  | hbClamp (conducting : Bool)
  /-- R101: The daily oscillator check releases the TEG oscillator for 20 ms and raises HRV_FAULT TEG_OSC if VHB gains no charge. -/
  | tegOscCheck (gained : Bool)
  /-- R101: The store stage switches for 100 ms with no output charge, and all channels stop. -/
  | lstoOpen
  /-- R101: Every 60 s, the store stage is retried after LSTO_OPEN. -/
  | lstoRetry (works : Bool)
  /-- R101: A stage peak current at 1.5 times its limit for 3 pulses stops that stage. -/
  | stageOc (st : Stage)
  /-- R101: 1 s after STAGE_OC the stage retries, and after 5 failures it stays stopped. -/
  | stageOcRetry (st : Stage) (works : Bool)
  /-- R101: VHB stays below 1.7 V for 1 s while a channel reports input power, and the channels restart. -/
  | vhbLow (cleared : Bool)
  /-- R101: HB_CLAMP holds for 10 s and the VIB bridge stops. -/
  | vibDcOv (cleared : Bool)
  /-- R122: At each 1 ms or 250 ms grid instant, the ledger core updates the gauge, the thresholds and the grant pins. -/
  | ledgerUpdate (g : Gauge)
  /-- R117: HOLD qualifies high, and a HOST reservation opens if a pin is asserted. -/
  | holdRise
  /-- R117: HOLD qualifies low, the HOST reservation closes and both pins go low for NRG_REARM_MS. -/
  | holdFall
  /-- R117: NRG_REARM_MS ends after a HOLD fall and the pins are evaluated afresh. -/
  | rearmEnd
  /-- R119: HOLD stays high for NRG_HOLD_MAX_MS, the reservation closes and HOLD is ignored until it falls. -/
  | holdOverrun
  /-- R120: HOLD is still high NRG_BREACH_GRACE_MS after a breach, and VHOST is turned off. -/
  | breachGraceExpiry
  /-- R114: An internal job requests a reservation, which is granted or left waiting under the rules of its class. -/
  | reservationRequest (j : Job) (units : Nat)
  /-- R113: A waiting reservation reaches its wait limit and the job is handled as Table 4.5 states, for example ENERGY. -/
  | reservationWaitExpiry (j : Job)
  /-- R113: A job ends and its reservation is released. -/
  | reservationRelease (j : Job)
  /-- R128: The ledger firmware has stopped for 2 s and the core drives both pins low. -/
  | ledgerFirmwareTimeout
  /-- R123: At the end of each hour with valid time, the calendar bin of that hour is updated. -/
  | calendarHourEnd
  /-- R123: Once a day the calendar is written to NVM under CALENDAR_SAVE. -/
  | calendarSave (ok : Bool)
  /-- R125: NRG_FC_HORIZON_H after a forecast grant, the harvest is checked against the deficit and a miss is counted. -/
  | forecastCheck
  /-- R125: 24 h after FC_SUSPEND, forecast grants resume. -/
  | fcSuspendEnd
  /-- R137: No RUN condition has held for SYS_RUN_LINGER_MS, and the device moves to PLINTH or DOZE. -/
  | runLingerExpiry
  /-- R141: An enabled wake source arises and wakes the device to the mode Table 5.6 names, or is latched. -/
  | wakeSource (w : WakeSrc)
  /-- R143: At each housekeeping period on STO or hourly on BAK, a run processes latched wakes and deferred work. -/
  | housekeepingRun
  /-- R143: The housekeeping run reaches its time limit and returns to PLINTH. -/
  | housekeepingLimit
  /-- R229: At the system tick after a COMMIT, all staged values take effect together. -/
  | shadowTransfer
  /-- R176: A new SYS_U0_BAUD takes effect once the reply to its COMMIT has been sent. -/
  | u0BaudChange
  /-- R149: ADC-S takes a channel sample at a quiet point of its slot, or marks it noisy. -/
  | adcSSample (ch : Fin 16) (slot : Fin 128) (pos : Nat) (ma : Int)
  /-- R138: Every 100 ms in DOZE, each on channel is sampled in a burst of 16. -/
  | dozeBurst (ch : Fin 16) (ma : Vector Int 16)
  /-- R148: A task is blocked beyond its level bound and BLOCK_OVERRUN is raised. -/
  | blockOverrun (level : Fin 6) (us : Nat)
  /-- R167: An SPI transaction with header 0x5A carries one request packet. -/
  | spiWriteTransaction (bytes : List Byte)
  /-- R167: An SPI transaction with header 0xA5 shifts out PORT_STAT and the oldest unread reply. -/
  | spiReadTransaction (n : Nat)
  /-- R167: An SPI transaction with any other header is void and shifts out 0xFF. -/
  | spiVoidTransaction (header : Byte) (n : Nat)
  /-- R170: An I2C write carries exactly one request packet. -/
  | i2cWriteTransaction (addr : BitVec 7) (bytes : List Byte)
  /-- R171: An I2C read returns PORT_STAT and the oldest unread reply. -/
  | i2cReadTransaction (addr : BitVec 7) (n : Nat)
  /-- R173: A complete packet arrives in the UART0 byte stream. -/
  | uartPacketReceived (bytes : List Byte)
  /-- R173: An inter-byte gap inside a packet exceeds its limit and the packet is discarded. -/
  | uartGapTimeout
  /-- R175: Three character times after the last received byte, a reply is sent with U0DE framing. -/
  | uartReplyTransmit
  /-- R178: A 0xAB bridge frame arrives at a HEAD and is passed to the line or answered by the HEAD. -/
  | bridgeFrame (bytes : List Byte)
  /-- R178: No bridged reply comes within the class bound plus 3 s, and the HEAD answers TIMEOUT. -/
  | bridgeReplyTimeout (addr : Nat) (seq : Nat)
  /-- R163: A request part with MORE set is stored and acknowledged with OK and MORE. -/
  | packetPart (opc : Byte) (rq : Request)
  /-- R181: A Camyx command APDU over ISO-DEP carries one request. -/
  | camyxApdu (bytes : List Byte)
  /-- R182: A reply is not ready within the frame waiting time, and an S(WTX) extension is sent. -/
  | sWtx
  /-- R190: A pending session not established within 10 s lapses. -/
  | sessionPendingLapse (t : Transport)
  /-- R197: No verified request for SYS_SESS_IDLE_S ends the session with reason IDLE. -/
  | sessionIdleExpiry (t : Transport)
  /-- R210: PING is answered with STATUS only. -/
  | ping (rq : Request)
  /-- R188: OPEN_SESSION derives session keys and replies with UID, NONCE_D and SID under the new K_MAC. -/
  | openSession (rq : Request)
  /-- R197: CLOSE_SESSION ends the session with reason CLOSED. -/
  | closeSession (rq : Request)
  /-- R206: ABORT sets the target's abort mark unless its point of no return is already set. -/
  | abort (rq : Request)
  /-- R215: GET_INFO returns the identity, role, time and configuration state. -/
  | getInfo (rq : Request)
  /-- R213: TAB_FORWARD carries an inner request to a Tableau member and returns its reply. -/
  | tabForward (rq : Request)
  /-- R214: READ_PARAM returns parameter values from the committed, maquette or saved source. -/
  | readParam (rq : Request)
  /-- R228: WRITE_PARAM checks and stages all its entries into the maquette at one instant. -/
  | writeParam (rq : Request)
  /-- R229: COMMIT checks the maquette and arms the shadow transfer for the next tick. -/
  | commit (rq : Request)
  /-- R231: REVERT empties the maquette or stages the saved bank or factory defaults. -/
  | revert (rq : Request)
  /-- R233: SAVE writes the committed configuration into the inactive bank and makes it active. -/
  | save (rq : Request)
  /-- R214: READ_LIVE returns live values from one 1 ms snapshot. -/
  | readLive (rq : Request)
  /-- R240: IMAGE_EXPORT returns a FULL Vanger image of the saved or committed configuration. -/
  | imageExport (rq : Request)
  /-- R239: IMAGE_IMPORT checks a Vanger image and stages, commits or saves it. -/
  | imageImport (rq : Request)
  /-- R216: CH_SET changes the demand of the masked channels of one member together. -/
  | chSet (rq : Request)
  /-- R216: CH_CLEAR releases the current, escalated and thermal latches of the masked channels. -/
  | chClear (rq : Request)
  /-- R345: RAIL_CTRL ACTION 0 soft-stops a rail, or puts a faulted rail in state 0 and clears its hiccup count. -/
  | railCtrlStop (rq : Request)
  /-- R326: RAIL_CTRL ACTION 1 starts a rail and replies once it regulates or has stopped on fault. -/
  | railCtrlStart (rq : Request)
  /-- R339: RAIL_CTRL ACTION 2 clears the output over-voltage latch once VOSx is below 10 % of target. -/
  | railCtrlClearLatch (rq : Request)
  /-- R347: FAULT_READ returns a rail fault record whose MAGIC and CRC pass. -/
  | faultRead (rq : Request)
  /-- R380: SHED_SET sets the commanded shed level at a HEAD or at a node, held for HOLD_S. -/
  | shedSet (rq : Request)
  /-- R360: TIME_SET sets device time and makes it valid. -/
  | timeSet (rq : Request)
  /-- R384: ALLOWANCE_SET sets the daily allowance of a shed class, and broadcasts it at a HEAD. -/
  | allowanceSet (rq : Request)
  /-- R210: NODE_LIST returns the feeder ID and the bitmap of joined addresses. -/
  | nodeList (rq : Request)
  /-- R452: EVT_READ returns FIFO entries and removes them with MODE 0. -/
  | evtRead (rq : Request)
  /-- R458: PATINA_READ returns Patina records in ascending PSEQ from FROM. -/
  | patinaRead (rq : Request)
  /-- R460: TRACE ACTION 0 empties the buffer and arms the trace. -/
  | traceArm (rq : Request)
  /-- R460: TRACE ACTION 1 stops the trace at once. -/
  | traceStop (rq : Request)
  /-- R461: TRACE ACTION 2 returns the trace state and samples from FROM. -/
  | traceRead (rq : Request)
  /-- R430: KEY_WRITE checks the KCV and writes a key slot into both store copies in turn. -/
  | keyWrite (rq : Request)
  /-- R431: KEY_ERASE empties a key slot, but never the last OWNER slot. -/
  | keyErase (rq : Request)
  /-- R219: ATTEST signs the challenge, UID, digests and time with the attestation key. -/
  | attest (rq : Request)
  /-- R437: FW_BEGIN erases the inactive bank for a new image. -/
  | fwBegin (rq : Request)
  /-- R437: FW_BLOCK programs image data at NEXT_OFFSET into the inactive bank. -/
  | fwBlock (rq : Request)
  /-- R438: FW_ACTIVATE writes the boot selector, puts the new bank in trial and schedules a reset. -/
  | fwActivate (rq : Request)
  /-- R210: DEBUG_UNLOCK unlocks the debug port for MINUTES to a SERVICE session. -/
  | debugUnlock (rq : Request)
  /-- R220: The debug unlock time runs out and the port relocks. -/
  | debugUnlockLapse
  /-- R218: RESET replies and schedules a sequencer reset with cause CMD. -/
  | reset (rq : Request)
  /-- R218: 10 ms after the reply, or at the end of the next line slot, the commanded sequencer reset takes place. -/
  | resetExecute
  /-- R489: SHELF with CONFIRM SHLF is accepted and leaves shelf entry pending. -/
  | shelf (rq : Request)
  /-- R492: DECOMMISSION takes its reservations and writes the decommission marker. -/
  | decommission (rq : Request)
  /-- R250: At a TB8 tick that is a multiple of the divider, a PWM cycle starts and the pulse is timed. -/
  | pwmCycleStart (ch : Fin 16) (tick : Nat)
  /-- R252: At the second boundary, a new divider or phase offset takes effect. -/
  | secondBoundaryPattern (ch : Fin 16)
  /-- R256: A switch die loses its TB8 strobe and its PWM free-runs. -/
  | strobeLoss (d : Fin 4)
  /-- R256: The TB8 strobe returns and the die's cycles realign. -/
  | strobeReturn (d : Fin 4)
  /-- R257: 100 ms with every sample below 3,000 mA returns the channel to the 4 A range. -/
  | rangeSwitchDown (ch : Fin 16)
  /-- R258: At the end of each 16 ms window, LSW_I_MA, LSW_ION_MA and the energy are updated and the open-load timer advances. -/
  | measurementWindow (ch : Fin 16)
  /-- R264: The open-load timer reaches LSW_OL_FILT_MS and LSW_OL OPEN is raised. -/
  | openLoadDetect (ch : Fin 16)
  /-- R264: LSW_ION_MA stays at 1.2 × LSW_OL_MA for the filter time and LSW_OL clears. -/
  | openLoadClear (ch : Fin 16)
  /-- R263: A pair's share stays outside 30 % to 70 % for 1 s and LSW_OL PAIR_SHARE is raised. -/
  | pairShare (ch : Fin 16)
  /-- R266: A wall-switch pad level holds for its debounce time and the mapper decodes an action. -/
  | gpioDebounceComplete (g : Fin 8) (high : Bool)
  /-- R267: A DIM press held 500 ms starts a duty ramp. -/
  | dimHold (g : Fin 8)
  /-- R267: Every 2 ms of a DIM hold, the duty steps by 1 until release or a limit. -/
  | dimRampStep (g : Fin 8)
  /-- R268: A queued wall-switch action is applied at P5 as a change of demand. -/
  | wallActionApply
  /-- R270: A die comes up with cleared latches, and each channel demand is re-established from LSW_RESTORE. -/
  | restoreAtStart (d : Fin 4)
  /-- R277: An idle on channel sees a sample above 50 mA and opens an inrush window. -/
  | livePlugWindow (ch : Fin 16)
  /-- R276: LSW_INR_WIN_MS ends and the normal current limit applies. -/
  | inrushWindowClose (ch : Fin 16)
  /-- R278: Channel current reaches the limit in effect, is regulated there and the limit timer runs. -/
  | currentLimitReached (ch : Fin 16)
  /-- R279: The limit timer reaches its time and the output turns off with reason LIMIT or SHORT. -/
  | limitTrip (ch : Fin 16) (hard : Bool)
  /-- R280: The back-off spacing ends and the channel turns on again as a retry. -/
  | inrushRetry (ch : Fin 16)
  /-- R279: A channel on and out of limit for 100 µs has its limit timer reset. -/
  | limitTimerReset (ch : Fin 16)
  /-- R283: A channel junction reaches 170 °C, the output turns off and LSW_TH is raised. -/
  | thermalShutdown (ch : Fin 16) (tempC : Int)
  /-- R283: The junction falls below the restart temperature and the output returns to its demand. -/
  | thermalRestart (ch : Fin 16) (tempC : Int)
  /-- R284: A die sensor crosses 140 °C or 130 °C, and WARN TEMP is raised or cleared. -/
  | dieTempWarn (d : Fin 4) (tempC : Int)
  /-- R287: An active clamp event ends, its energy is estimated and LSW_RT CLAMP is raised if needed. -/
  | clampEvent (ch : Fin 16) (ma tclUs vclMv : Nat)
  /-- R287: The clamp acts on more than half of a PWM channel's turn-offs over 1 s. -/
  | noFreewheel (ch : Fin 16)
  /-- R291: A die's heartbeat is absent for LSW_ORPHAN_S, and orphan channels turn off. -/
  | heartbeatLoss (d : Fin 4)
  /-- R291: The heartbeat returns, ORPHAN is raised and orphaned channels turn on again. -/
  | heartbeatReturn (d : Fin 4)
  /-- R292: A die is fenced, its outputs turn off within 20 µs and a record is pinned. -/
  | dieFence (d : Fin 4) (why : FenceReason)
  /-- R293: At cold boot and hourly the die self-test runs, and may fence or lift a fence. -/
  | dieSelfTest (d : Fin 4) (pass : Bool)
  /-- R296: A die's on-state sum exceeds its continuous limit for 10 s, or falls back, and WARN SUM is raised or cleared. -/
  | dieSumWarn (d : Fin 4) (above : Bool)
  /-- R301: A VBUS dip longer than 50 µs or a PGND loss clears the die latches. -/
  | dieSupplyLoss (d : Fin 4)
  /-- R301: A die is supplied again and LSW_RT SUPPLY is raised for channels with demand. -/
  | dieSupplyReturn (d : Fin 4)
  /-- R307: The rail comparator fires and starts an on-time on the next phase of the rotation. -/
  | railFiring (r : Fin 2) (dt fbUv : Nat) (integUv : Int) (vosMv vbusMv : Nat) (low : BitVec 8)
  /-- R312: A rail gains or loses grid lock and LOCK_CHANGE is raised. -/
  | lockChange (r : Fin 2) (locked : Bool) (corrLimit : Bool)
  /-- R313: The edge map is recomputed, ARM_QUIET_SLOTS is updated and QUIET_PLAN is raised or cleared. -/
  | quietMapRecompute (vbusMv : Nat)
  /-- R315: Every 1 ms, phase trims are moved by one count towards balance. -/
  | balanceTick (r : Fin 2) (means : PhaseMeans)
  /-- R315: A trim stays at its limit for 1 s and BALANCE_LIMIT is raised. -/
  | balanceLimit (p : Fin 8) (cleared : Bool)
  /-- R317: PLL384 locks during a start, and boot pulses and the reference ramp begin. -/
  | pll384Locked (chk : PreStart)
  /-- R317: The reference reaches its target and the rail is regulating. -/
  | railUp (r : Fin 2)
  /-- R318: The reference reaches 10 % of target, the gates go low and the rail is stopped. -/
  | softStopComplete (r : Fin 2)
  /-- R320: A TRK follower is still short of target after 2 × ARM_SS_MS, and completes its ramp alone. -/
  | trackFault (r : Fin 2)
  /-- R321: 64 good SYNC periods are acquired and TBA glides to SYNC. -/
  | syncAcquire
  /-- R321: SYNC edges are missing or out of band, and TBA glides back to TB8. -/
  | syncLoss
  /-- R324: FBx rises above the reference by the braking margin and every phase holds its gates low. -/
  | brakeStart (r : Fin 2)
  /-- R324: Braking ends on recovery, on ARM_BRAKE_MAX_US, or on over-voltage. -/
  | brakeEnd (r : Fin 2) (why : BrakeEnd)
  /-- R330: The phase sense reaches the short-circuit limit and the on-time ends within 100 ns. -/
  | scLimit (p : Fin 8)
  /-- R332: The overload timer reaches ARM_OL_T_MS and the rail soft-stops into state 5. -/
  | overloadTimeout (r : Fin 2) (onePhase : Bool)
  /-- R345: ARM_OL_RETRY_S after an overload stop, the rail restarts automatically. -/
  | overloadRetry (r : Fin 2)
  /-- R333: FBx stays below the under-voltage threshold for ARM_UV_T_US, giving dropout or a hiccup. -/
  | undervolt (r : Fin 2) (atMaxDuty limited : Bool)
  /-- R333: FBx stays above the threshold for 10 ms and the dropout event clears. -/
  | dropoutClear (r : Fin 2)
  /-- R334: ARM_HICCUP_MS after a hiccup, the rail starts again from its pre-biased output. -/
  | hiccupRestart (r : Fin 2)
  /-- R334: After 1 s of regulating, the hiccup count clears. -/
  | hiccupCountClear (r : Fin 2)
  /-- R336: VDRV falls below 8.0 V for 2 µs, the gates go low and running rails stop with reason VDRV. -/
  | vdrvLockout
  /-- R336: VDRV holds 9.0 V for 10 ms and rails stopped with reason VDRV restart. -/
  | vdrvRelease
  /-- R337: PLL384 loses lock and running rails soft-stop on RC48 timing. -/
  | pllLoss
  /-- R337: The PLL holds lock for 10 ms and rails stopped with reason PLL restart. -/
  | pllRelock
  /-- R338: Output over-voltage trips: GH is held low, GL high, and the rail enters state 4. -/
  | outOvLatch (r : Fin 2) (peakFbMv : Nat)
  /-- R341: The hardware flags a failed sense, gate, boot or share path on a running phase. -/
  | phaseFailedPath (p : Fin 8) (why : ShedReason)
  /-- R341: P2 firmware sheds the flagged phase and the rotation re-spaces. -/
  | phaseShed (p : Fin 8)
  /-- R342: VOSx and FBx disagree by more than 10 % for 1 ms and the rail stops with reason VOS. -/
  | vosMismatch (r : Fin 2)
  /-- R346: A captured rail fault record is written at P6 into the rail's ring. -/
  | faultRecordWrite (r : Fin 2)
  /-- R357: Each second a HEAD sends one pilot word carrying the level, SFN and a time nibble. -/
  | pilotWordSend
  /-- R358: A pilot word ends and is checked, giving lock, level and time nibble. -/
  | pilotWordReceived (w : BitVec 10)
  /-- R359: The pilot stays below 10 mV for 500 ms, or three words fail, and lock is lost. -/
  | pilotLoss (byWords : Bool)
  /-- R360: At the next pilot second, the node sets, steps or starts slewing its time from the pilot. -/
  | timeApply
  /-- R361: At each pilot second, a superframe of 50 slots begins. -/
  | superframeStart
  /-- R370: The HEAD fills an exchange with its highest-priority item and sends the HEAD frame. -/
  | headExchange (slotsLeft : Nat)
  /-- R355: A line frame is received whole, checked and processed. -/
  | lineFrameReceived (desc : Byte) (bytes : List Byte) (snrQ : Nat)
  /-- R362: In its granted reply window, a node sends at most one REPLY frame. -/
  | replyWindow (rlen : Nat) (rmode : Fin 3)
  /-- R362: After its backoff, a node sends a JOIN or ALERT in the access window. -/
  | accessFrameSend
  /-- R373: The HEAD receives a JOIN and answers in its next JOIN_ACK broadcast. -/
  | joinReceived (desc : Byte) (bytes : List Byte)
  /-- R373: No JOIN_ACK record arrives within 4 superframes, and the node retries. -/
  | joinRetry
  /-- R365: A partial packet is discarded after LINE_REASM_S. -/
  | reassemblyTimeout (addr : Nat)
  /-- R368: A lane's SNR history drops or restores the lane and LANE_DROP is raised. -/
  | laneDrop (lane : Fin 4) (restore : Bool)
  /-- R375: The HEAD has had no intact REPLY for LINE_NODE_LOST_S and frees the address. -/
  | nodeLost (addr : Nat)
  /-- R375: A node ungranted for LINE_NODE_LOST_S counts itself unjoined and joins again. -/
  | nodeUnjoin
  /-- R377: An alert-group event has had no reply window within 1 s and the node sends ALERT. -/
  | alertTrigger (group : Fin 16)
  /-- R378: LINE_PILOT_HOLD_S after loss of lock, the held pilot level drops to 0. -/
  | pilotHoldExpiry
  /-- R380: HOLD_S of a SHED_SET expires and the commanded level returns to 0. -/
  | shedHoldExpiry
  /-- R381: VBUS stays below a droop threshold for LINE_DROOP_T_MS and the droop level rises. -/
  | droopRise (level : Fin 4) (vbusMv : Int)
  /-- R381: VBUS stays above the threshold plus the release margin for LINE_DROOP_REL_S and the droop level falls. -/
  | droopFall (vbusMv : Int)
  /-- R383: The pickup delay after a SHED or ALLOWANCE clearing ends, and the output returns as a fresh turn-on. -/
  | pickupDelayExpiry (ch : Fin 16)
  /-- R384: A class's daily energy reaches its allowance and its channels take the ALLOWANCE inhibit. -/
  | allowanceReached (cls : Fin 8)
  /-- R385: The allowance day starts, LSW_E_DAY_J is cleared and ALLOWANCE inhibits lift. -/
  | allowanceDayStart
  /-- R388: The coupling monitor finds an open or shorted drive, and the transmitter stops. -/
  | txFault (short : Bool)
  /-- R388: Every 60 s after TX_FAULT, one burst is retried. -/
  | txFaultRetry (works : Bool)
  /-- R415: A HEAD ends its 3 s listen and either generates the pilot or stands down. -/
  | headStartupListenEnd (heard : Bool)
  /-- R415: A HEAD hears another head's frame, stops its pilot and listens for a random time. -/
  | headClash
  /-- R415: The clash listen ends and the HEAD resumes or stands down. -/
  | headClashListenEnd (heard : Bool)
  /-- R415: A stood-down HEAD checks every 60 s and resumes after 10 s without a pilot. -/
  | stoodDownCheck (quiet : Bool)
  /-- R396: At each 1 ms cycle start, the lead sends its lead frame and drives the cycle. -/
  | tabCycleStart
  /-- R405: A member receives a lead frame and applies time, level, allowances and gang state. -/
  | leadFrameReceived (bytes : List Byte)
  /-- R409: At the cycle start after a lead's RSTATE change, a carrier starts or soft-stops its share. -/
  | gangShareStart (r : Fin 2)
  /-- R399: The lead receives a member frame and records its state and share current. -/
  | memberFrameReceived (bytes : List Byte)
  /-- R402: A bulk frame carries one fragment of a transfer between the lead and a member. -/
  | bulkFrameReceived (bytes : List Byte)
  /-- R413: The lead receives a join frame in the join window and answers JOIN_ACK. -/
  | joinFrameReceived (bytes : List Byte)
  /-- R403: No valid lead frame for 100 ms starts the lead election. -/
  | electionStart
  /-- R403: The election listen ends with no lead heard, and the device becomes lead. -/
  | electionListenEnd
  /-- R403: A lead's readback fails in consecutive cycles and it stops sending or raises LINK_FAULT. -/
  | readbackFailure
  /-- R394: 16 good TSYNC edges give lock and TB8 follows TSYNC. -/
  | tsyncLock
  /-- R394: Four expected TSYNC edges are missing and lock is lost. -/
  | tsyncLoss
  /-- R395: A lead finds TSYNC different from its drive in 16 periods and raises LINK_FAULT. -/
  | tsyncContention
  /-- R412: The lead misses 3 consecutive member frames and marks the member silent. -/
  | memberSilent (m : Fin 8)
  /-- R412: A member is silent for TAB_LOST_T, is marked lost, and its phases leave P_tot. -/
  | memberLost (m : Fin 8)
  /-- R412: A member without a lead frame for TAB_LOST_T soft-stops its gang shares. -/
  | leadLostTimeout
  /-- R413: A returning member's record is checked over one rotation, and it returns seamlessly or joins anew. -/
  | memberReturn (m : Fin 8)
  /-- R414: The lead checks a member's record and admits, adopts or sets it aside. -/
  | disagreementCheck (m : Fin 8)
  /-- R416: Excess CRC failures or readback failures raise LINK_FAULT, which clears after 10 s clean. -/
  | linkFault (cleared : Bool)
  /-- R419: REQA or WUPA is answered with ATQA 0x0004. -/
  | nfcReqa (rectMv : Nat)
  /-- R419: Anticollision and SELECT are answered with the random NFCID1 and SAK 0x20. -/
  | nfcAnticollision (uid : BitVec 32)
  /-- R420: RATS with CID 0 is answered with the fixed ATS. -/
  | nfcRats (param : Byte)
  /-- R420: PPS is accepted only with DRI and DSI 0. -/
  | nfcPps (param : Byte)
  /-- R422: SELECT by name selects the Type 4 Tag or Camyx application. -/
  | appSelect (bytes : List Byte)
  /-- R423: READ BINARY returns the capability container or the NDEF pairing record. -/
  | readBinary (file : BitVec 16) (offset len : Nat)
  /-- R423: UPDATE BINARY is answered 0x6982. -/
  | updateBinary
  /-- R427: The NFC field is lost, the session ends and SEC_NFC_SESSIONS counts it. -/
  | fieldLost
  /-- R426: Every 10 ms, a field-only key commit waits for 3,000 µW of surplus and ends with ENERGY after 2 s. -/
  | keyCommitSurplusCheck (uw rectMv : Nat) (expired : Bool)
  /-- R439: A trial bank runs SEC_FW_TRIAL_S without a WDT or LOCKUP reset and is confirmed. -/
  | fwTrialConfirm
  /-- R450: A queued raise or clear is written as a FIFO entry. -/
  | fifoWrite
  /-- R446: A pulse name on an unqueued source is acknowledged 1 ms after its raise. -/
  | pulseAckTimeout (g : Fin 16) (bit : Fin 16)
  /-- R453: A logged raise or a pinned happening is built into a Patina record in RAM. -/
  | patinaCapture
  /-- R454: Every 60 s the bucket gains a token, and a pending SUMMARY record takes it. -/
  | tokenGain
  /-- R455: The Patina RAM and the counter record are written to NVM. -/
  | patinaFlush (ok : Bool)
  /-- R460: Every EVT_TRC_PERIOD_MS in RUN, four live values are sampled into the trace ring. -/
  | traceSample
  /-- R460: The trigger source is raised and the post-trigger capture begins. -/
  | traceTrigger
  /-- R460: The post-trigger samples are taken, the trace stops and TRACE_DONE is raised. -/
  | traceDone
  /-- R462: P3 firmware updates the wear indices from the hardware captures. -/
  | wearUpdate (w : WearIn)
  /-- R474: Once every rail has stopped, SHUTDOWN is set class by class from 7 to 0. -/
  | shutdownStep2
  /-- R475: Once operations past their point of no return end, a full, essential or no commit is chosen. -/
  | shutdownStep3
  /-- R476: Fault records, Patina records, the counter record and the SHUTDOWN record are written. -/
  | shutdownCommit
  /-- R474: After the commit, the sequencer stops and the node rests in PLINTH. -/
  | plinthEntry
  /-- R480: At t_ref plus the address term, rails with ARM_AUTOSTART start. -/
  | railPickup
  /-- R482: A refused autostart starts at the first tick at which VBUS and VDRV allow it. -/
  | autostartPending (r : Fin 2)
  /-- R483: At t_ref + D, SHUTDOWN clears and the channel returns to its demand. -/
  | channelPickup (ch : Fin 16)
  /-- R485: BUS carries VSEL for 60 s without BUS_LOST and SYS_CLP_RETRY returns to 0. -/
  | clpRetryReset
  /-- R488: STO first falls to the floor + 100 mV in darkness, and an essential commit is made. -/
  | floorEssentialCommit (stoMv : Nat)
  /-- R490: At BUS_LOST, or 100 ms after the reply on storage, the shutdown of shelf entry begins. -/
  | shelfShutdownStart
  /-- R490: After the commit, VHOST, STO and VSEL go off and BAK feeds only the shelf timer. -/
  | shelfEntry
  /-- R491: The shelf timer expires and the node leaves SHELF by a Plinth power-on reset. -/
  | shelfTimer (straps : Straps)
  /-- R491: With the shelf marker standing, the node re-enters SHELF after the field is lost or 60 s after a timer exit. -/
  | shelfReentry
  /-- R491: BUS stays qualified for 10 s and the shelf marker clears. -/
  | shelfMarkerClear
  /-- R492: After the marker, every demand is set OFF and every rail soft-stopped. -/
  | decommissionOutputs
  /-- R492: Once the outputs are off, keys, banks, calendar and retained demands are erased. -/
  | decommissionErase
  /-- R492: After the erase is verified, the node replies, resets and restarts unclaimed on defaults. -/
  | decommissionReset
  /-- R131: The 32.768 kHz crystal oscillator comes up, 0.4 s typical and at most 1.5 s after it is started, and the RTC, uptime divider and TB8 move from RC32 to XO32. -/
  | xo32Started
  /-- R147: A queued NVM program or erase, such as a bank write, key-store copy, firmware erase or page program, finishes and the waiting operation continues to its readback and reply. -/
  | nvmProgramEraseComplete (ok : Bool)
  /-- R247: LSW_ON_STAGGER_MS after one channel of a multi-channel turn-on switches, the next channel in ascending order switches, and the reply is sent after the last one. -/
  | onStaggerExpiry
  /-- R448: An event pin asserted by a routed raise is released once its 1 ms minimum assertion has elapsed and no routed source remains set. -/
  | evtPinMinHoldExpiry (pin : Fin 2)
  /-- R113: Every 10 s of an NFC session on STO, the NFC_SESSION reservation of 20 mJ is renewed, and if it is not granted, field-only limits apply from that moment. -/
  | nfcSessionRenewal
deriving DecidableEq, Repr

end Sys2Proof
end

