-- ==== Sys2Proof/Machine/Crypto.lean ====
section
/-! DEFINITION. Byte order, checksums and the cryptographic functions that the spec takes from published standards
(Chapter 0, Standards): CRC-16/CCITT-FALSE, CRC-32C, AES-128 (FIPS 197), CMAC (SP 800-38B), the counter-mode KDF
(SP 800-108) and SHA-256 (FIPS 180-4). PRESUMED: their algorithms come from those standards (log 11). -/

namespace Sys2Proof.Machine

/-! ### Byte order: multi-byte fields are little-endian (Table 0.5) -/

/-- The `w` bytes of `n`, least significant first. -/
def toLe (w n : Nat) : List Byte :=
  match w with
  | 0 => []
  | w + 1 => BitVec.ofNat 8 n :: toLe w (n / 256)

/-- The number that little-endian bytes spell. -/
def ofLe : List Byte → Nat
  | [] => 0
  | b :: bs => b.toNat + 256 * ofLe bs

/-- The `w` bytes of `n`, most significant first (fields of ISO/IEC 7816-4 and FIPS). -/
def toBe (w n : Nat) : List Byte := (toLe w n).reverse

/-- The number that big-endian bytes spell. -/
def ofBe (bs : List Byte) : Nat := ofLe bs.reverse

/-- The two's complement of `v` over `w` bytes (R223). -/
def ofInt (w : Nat) (v : Int) : Nat := (v % (2 ^ (8 * w) : Nat)).toNat

/-- The signed value of `n` over `bits` bits. -/
def toInt (bits n : Nat) : Int := if n < 2 ^ (bits - 1) then n else (n : Int) - (2 ^ bits : Nat)

/-- The field of `w` bytes at offset `o`. -/
def fieldAt (bs : List Byte) (o w : Nat) : Nat := ofLe ((bs.drop o).take w)

/-! ### Checksums -/

/-- One bit of CRC-16/CCITT-FALSE, `k` times. -/
def crc16Bits (c : BitVec 16) : Nat → BitVec 16
  | 0 => c
  | k + 1 => crc16Bits (if c.msb then (c <<< 1) ^^^ 0x1021 else c <<< 1) k

/-- CRC-16/CCITT-FALSE: polynomial 0x1021, start 0xFFFF (R159). -/
def crc16 (bs : List Byte) : BitVec 16 :=
  bs.foldl (fun c b => crc16Bits (c ^^^ BitVec.ofNat 16 (256 * b.toNat)) 8) 0xFFFF

/-- One bit of the reflected CRC-32C, `k` times. -/
def crc32cBits (c : BitVec 32) : Nat → BitVec 32
  | 0 => c
  | k + 1 => crc32cBits (if c.getLsbD 0 then (c >>> 1) ^^^ 0x82F63B78 else c >>> 1) k

/-- CRC-32C, polynomial 0x1EDC6F41 reflected (R232, R457). -/
def crc32c (bs : List Byte) : BitVec 32 :=
  ~~~ (bs.foldl (fun c b => crc32cBits (c ^^^ b.zeroExtend 32) 8) 0xFFFFFFFF)

/-! ### AES-128 -/

/-- Multiplication by x in GF(2^8). -/
def xtime (b : Byte) : Byte := if b.msb then (b <<< 1) ^^^ 0x1B else b <<< 1

/-- Multiplication in GF(2^8), over the low `k` bits of `b`. -/
def gmul (a b : Byte) : Nat → Byte
  | 0 => 0
  | k + 1 => (if b.getLsbD 0 then a else 0) ^^^ gmul (xtime a) (b >>> 1) k

/-- The inverse in GF(2^8) as the power 254, by squaring and multiplying seven times. -/
def ginv (a : Byte) : Nat → Byte → Byte
  | 0, acc => gmul acc acc 8
  | k + 1, acc => ginv a k (gmul (gmul acc acc 8) a 8)

/-- The S-box of FIPS 197. -/
def sboxOf (a : Byte) : Byte :=
  let i := ginv a 6 a
  i ^^^ i.rotateLeft 1 ^^^ i.rotateLeft 2 ^^^ i.rotateLeft 3 ^^^ i.rotateLeft 4 ^^^ 0x63

/-- All S-box values by index. -/
def sboxTable : Array Byte := ((List.range 256).map fun n => sboxOf (BitVec.ofNat 8 n)).toArray

/-- The S-box by look-up. -/
def sbox (a : Byte) : Byte := sboxTable.getD a.toNat 0

/-- XOR of two byte lists, place by place. -/
def xorBytes (a b : List Byte) : List Byte := List.zipWith (· ^^^ ·) a b

/-- The next round key from the last one and the round constant. -/
def nextRoundKey (k : List Byte) (rc : Byte) : List Byte :=
  let t := match (k.drop 12).map sbox with
    | [a, b, c, d] => [b ^^^ rc, c, d, a]
    | l => l
  let w0 := xorBytes (k.take 4) t
  let w1 := xorBytes ((k.drop 4).take 4) w0
  let w2 := xorBytes ((k.drop 8).take 4) w1
  w0 ++ w1 ++ w2 ++ xorBytes (k.drop 12) w2

/-- ShiftRows on sixteen bytes in column order. -/
def shiftRows (s : List Byte) : List Byte :=
  (List.range 16).map fun i => s.getD ((i + 4 * (i % 4)) % 16) 0

/-- MixColumns on one column. -/
def mixColumn (a b c d : Byte) : List Byte :=
  [xtime a ^^^ (xtime b ^^^ b) ^^^ c ^^^ d, a ^^^ xtime b ^^^ (xtime c ^^^ c) ^^^ d,
   a ^^^ b ^^^ xtime c ^^^ (xtime d ^^^ d), (xtime a ^^^ a) ^^^ b ^^^ c ^^^ xtime d]

/-- MixColumns on sixteen bytes. -/
def mixColumns (s : List Byte) : List Byte :=
  (List.range 4).flatMap fun c =>
    mixColumn (s.getD (4 * c) 0) (s.getD (4 * c + 1) 0) (s.getD (4 * c + 2) 0) (s.getD (4 * c + 3) 0)

/-- The rounds left to do, with the key and constant of the last one. -/
def aesRounds (s k : List Byte) (rc : Byte) : Nat → List Byte
  | 0 => s
  | n + 1 =>
    let k' := nextRoundKey k rc
    let t := shiftRows (s.map sbox)
    aesRounds (xorBytes (if n = 0 then t else mixColumns t) k') k' (xtime rc) n

/-- AES-128 of one block of sixteen bytes. -/
def aes128 (key block : List Byte) : List Byte := aesRounds (xorBytes block key) key 1 10

/-- The inverse of the S-box, by index. -/
def invSboxTable : Array Byte := ((List.range 256).map fun n => BitVec.ofNat 8 (sboxTable.toList.idxOf (BitVec.ofNat 8 n))).toArray

/-- InvShiftRows and InvSubBytes on sixteen bytes in column order. -/
def invShiftSub (s : List Byte) : List Byte :=
  (List.range 16).map fun i => invSboxTable.getD (s.getD ((i + 16 - 4 * (i % 4)) % 16) 0).toNat 0

/-- InvMixColumns on sixteen bytes. -/
def invMixColumns (s : List Byte) : List Byte :=
  let m := fun (k : Byte) (i : Nat) => gmul (s.getD i 0) k 8
  (List.range 4).flatMap fun c => (List.range 4).map fun r =>
    m 14 (4 * c + r) ^^^ m 11 (4 * c + (r + 1) % 4) ^^^ m 13 (4 * c + (r + 2) % 4) ^^^ m 9 (4 * c + (r + 3) % 4)

/-- The round keys from a key on, `n` more after it. -/
def roundKeys : Nat → List Byte → Byte → List (List Byte)
  | 0, k, _ => [k]
  | n + 1, k, rc => k :: roundKeys n (nextRoundKey k rc) (xtime rc)

/-- The inverse of AES-128 on one block: undoes the rounds under the round keys, the last first. -/
def aesInvRounds : List (List Byte) → List Byte → List Byte
  | [], s => s
  | [k], s => xorBytes (invShiftSub s) k
  | k :: ks, s => aesInvRounds ks (invMixColumns (xorBytes (invShiftSub s) k))

/-- The block whose AES-128 under a key is the one given. -/
def aes128Inv (key block : List Byte) : List Byte :=
  match (roundKeys 10 key 1).reverse with
  | k :: ks => aesInvRounds ks (xorBytes block k)
  | [] => block

/-! ### CMAC and key derivation -/

/-- Doubling in GF(2^128), big-endian. -/
def cmacDouble (l : List Byte) : List Byte :=
  let n := 2 * ofBe l
  if n < 2 ^ 128 then toBe 16 n else toBe 16 ((n % 2 ^ 128) ^^^ 0x87)

/-- CMAC over the blocks left: `fuel` bounds the number of blocks. -/
def cmacBlocks (key k1 k2 : List Byte) : Nat → List Byte → List Byte → List Byte
  | 0, acc, _ => acc
  | fuel + 1, acc, m =>
    if m.length > 16 then cmacBlocks key k1 k2 fuel (aes128 key (xorBytes acc (m.take 16))) (m.drop 16)
    else if m.length = 16 then aes128 key (xorBytes (xorBytes acc m) k1)
    else
      let padded := m ++ 0x80 :: List.replicate (15 - m.length) 0
      aes128 key (xorBytes (xorBytes acc padded) k2)

/-- AES-128 CMAC. -/
def cmac (key m : List Byte) : List Byte :=
  let k1 := cmacDouble (aes128 key (List.replicate 16 0))
  cmacBlocks key k1 (cmacDouble k1) (m.length + 1) (List.replicate 16 0) m

/-- The MAC of R192: the leftmost 8 bytes of the CMAC. -/
def mac8 (key m : List Byte) : List Byte := (cmac key m).take 8

/-- One block of the KDF of R189: counter, label, 0x00, context, L. -/
def kdfBlock (key : List Byte) (i : Nat) (label context l : List Byte) : List Byte :=
  cmac key (BitVec.ofNat 8 i :: label ++ 0x00 :: context ++ l)

/-- "CAMYX SESSION". -/
def labelSession : List Byte := [0x43, 0x41, 0x4D, 0x59, 0x58, 0x20, 0x53, 0x45, 0x53, 0x53, 0x49, 0x4F, 0x4E]

/-- "CAMYX GROUP". -/
def labelGroup : List Byte := [0x43, 0x41, 0x4D, 0x59, 0x58, 0x20, 0x47, 0x52, 0x4F, 0x55, 0x50]

/-- K_MAC (`i` = 1) and K_ENC (`i` = 2) of R189. -/
def sessionKey (key : List Byte) (i : Nat) (context : List Byte) : List Byte :=
  kdfBlock key i labelSession context [0x00, 0x01]

/-- K_GRP of R195. -/
def groupKey (lineKey : List Byte) (feeder : Nat) : List Byte :=
  kdfBlock lineKey 1 labelGroup (toLe 2 feeder) (toLe 2 128)

/-! ### SHA-256

The constants are the fractional parts of roots of the first primes, as FIPS 180-4 defines them, computed here. -/

/-- The largest `r` below 2^40 with `r ^ k ≤ n`, bit by bit from the top. -/
def rootOf (k n : Nat) : Nat :=
  (List.range 40).foldr (fun i r => let x := r + 2 ^ i; if x ^ k ≤ n then x else r) 0

/-- The first 32 bits of the fractional part of the `k`-th root of `p`. -/
def rootWord (k p : Nat) : BitVec 32 := BitVec.ofNat 32 (rootOf k (p * 2 ^ (32 * k)))

/-- The primes below 312, of which there are 64. -/
def shaPrimes : List Nat :=
  (List.range 312).filter fun p => decide (2 ≤ p) && (List.range 18).all fun d => d < 2 || d * d > p || p % d != 0

/-- What each of the 64 steps adds to its message word: cube roots. -/
def shaSteps : List (BitVec 32) := shaPrimes.map (rootWord 3)

/-- The hash before the first block: square roots of the first eight primes. -/
def shaStart : List (BitVec 32) := (shaPrimes.take 8).map (rootWord 2)

/-- A word turned right by three amounts, added without carry. -/
def turned (i j k : Nat) (x : BitVec 32) : BitVec 32 := (x.rotateRight i ^^^ x.rotateRight j) ^^^ x.rotateRight k

/-- A word turned right by two amounts and shifted by a third, added without carry. -/
def blended (i j k : Nat) (x : BitVec 32) : BitVec 32 := (x.rotateRight i ^^^ x.rotateRight j) ^^^ (x >>> k)

/-- The message words of a block, the newest first, after `n` have been made from the sixteen given. -/
def shaSchedule : Nat → List (BitVec 32) → List (BitVec 32)
  | 0, ws => ws
  | n + 1, ws =>
    shaSchedule n ((blended 17 19 10 (ws.getD 1 0) + ws.getD 6 0 + blended 7 18 3 (ws.getD 14 0) + ws.getD 15 0) :: ws)

/-- One step on the eight working words, with the sum `kw` of its constant and its message word. -/
def shaStep (v : List (BitVec 32)) (kw : BitVec 32) : List (BitVec 32) :=
  let at' := fun i => v.getD i 0
  let pick := at' 6 ^^^ (at' 4 &&& (at' 5 ^^^ at' 6))
  let most := (at' 0 &&& (at' 1 ||| at' 2)) ||| (at' 1 &&& at' 2)
  let inn := at' 7 + turned 6 11 25 (at' 4) + pick + kw
  [inn + turned 2 13 22 (at' 0) + most, at' 0, at' 1, at' 2, at' 3 + inn, at' 4, at' 5, at' 6]

/-- The big-endian words of a block. -/
def shaWords : Nat → List Byte → List (BitVec 32)
  | 0, _ => []
  | n + 1, b => BitVec.ofNat 32 (ofBe (b.take 4)) :: shaWords n (b.drop 4)

/-- The hash after one more block of 64 bytes. -/
def shaAbsorb (v : List (BitVec 32)) (blk : List Byte) : List (BitVec 32) :=
  let ws := (shaSchedule 48 (shaWords 16 blk).reverse).reverse
  List.zipWith (· + ·) v ((List.zipWith (· + ·) shaSteps ws).foldl shaStep v)

/-- The hash after `n` more blocks. -/
def shaRun : Nat → List (BitVec 32) → List Byte → List (BitVec 32)
  | 0, v, _ => v
  | n + 1, v, m => shaRun n (shaAbsorb v (m.take 64)) (m.drop 64)

/-- SHA-256: the message, a one bit, zeros to 56 modulo 64 bytes, the length in bits. -/
def sha256 (m : List Byte) : List Byte :=
  let zeros := (119 - m.length % 64) % 64
  let whole := m ++ (0x80 :: List.replicate zeros 0) ++ toBe 8 (8 * m.length)
  (shaRun (whole.length / 64) shaStart whole).flatMap fun x => toBe 4 x.toNat

end Sys2Proof.Machine
end

