-- ==== Sys2Proof/Config.lean ====
section
/-! DEFINITION. Values that the spec leaves open: constants with no body, so that no proof can see one (log 8). -/

namespace Sys2Proof.Config

/-- Output bytes of the TRNG (NONCE_D of R188, NFCID1 of R419), one per draw. -/
opaque trngByte : Nat → BitVec 8

/-- The random number of superframes that a backoff waits (R362), below the bound given. -/
opaque backoff : Nat → Nat

/-- The per-signature secret number of ECDSA (R219): FIPS 186 leaves it to the signer. -/
opaque signNonce : Nat → Nat

/-- Terdal's four public keys for firmware images, x then y (R436): they are not in the spec. -/
opaque terdalKey : Nat → List (BitVec 8)

/-- The image digest of the firmware that leaves the factory (R435): its bytes are not in the spec. -/
opaque factoryFw : Nat → BitVec 8

/-- ROLLBACK of the firmware that leaves the factory (R436). -/
opaque factoryRollback : Nat

/-- KEY_ID of the firmware that leaves the factory (R436). -/
opaque factoryKeyId : Nat

/-- FLAGS of the firmware that leaves the factory (R439). -/
opaque factoryFlags : Nat

/-- A reading of a quantity that only analogue hardware decides and that the spec gives no value for. -/
opaque reading : Nat → Nat

/-- The single-pulse clamp energy in mJ at a current outside the rows of Table 9.2, below 0.5 A or above 8 A. -/
opaque clampLimit : Nat → Nat

/-- The lock correction c of R312 in parts per million, before its limit of ±25 %: the loop's dynamics are not in the
spec. -/
opaque lockCorr : Nat → Int

/-- The TTEG primary that the board carries, by its column of Table 3.3: 0 is 7.5 µH, 1 is 22 µH, 2 is 47 µH. -/
opaque ttegPrimary : Fin 3

/-- The trim of the RTC in parts per billion that the pilot gives (R134): it depends on the crystal. -/
opaque rtcTrim : Nat → Int

end Sys2Proof.Config
end

