-- ==== Sys2Proof/Machine/State.lean ====
section
/-! DEFINITION. The state of the GP4890 as plain data, and its value right after reset (log 4). -/

namespace Sys2Proof.Machine

/-! ### Names of fixed sets -/

/-- The role in effect (Table 0.1); its code is the index in Table 7.3. -/
inductive Role
  | home | head | plant
deriving DecidableEq, Repr

/-- The storage type that the SDO strap gives (Table 1.7, Table 2.4), in the order of its code. -/
inductive StoType
  | sc1 | sc2 | lfp | lio
deriving DecidableEq, Repr

/-- The power modes of Table 5.4. -/
inductive Mode
  | shelf | plinth | doze | run | field
deriving DecidableEq, Repr

/-- What the sequencer does: off, in a cold boot or a warm restart, running Roeno, or in the recovery of R441. -/
inductive Seq
  | off | coldBoot | warmRestart | running | recovery
deriving DecidableEq, Repr

/-- The source of TB8 (R133, R394). -/
inductive Tb8
  | xo32 | pilot | rc32 | tsync
deriving DecidableEq, Repr

/-- The lifecycle states of Table 16.1, in the order of their codes. -/
inductive Life
  | running | plinthStart | boot | shut1 | shut2 | shut3 | shut4 | shut5 | down | pickup | shelfPending
  | decommissioning
deriving DecidableEq, Repr

/-- The commit that step 3 of a shutdown chooses (R475). -/
inductive CommitKind
  | full | essential | none
deriving DecidableEq, Repr

/-- The privilege at which a request runs (Table 6.9, R432). -/
inductive Priv
  | pub | operator | owner | service | line | claim
deriving DecidableEq, Repr

/-- The status codes of Table 6.10. -/
inductive Status
  | ok | aborted | alreadyDone | badFrame | badOpc | badParam | unknownId | range | size | auth | noSession | rekey
  | replay | denied | noKey | busy | energy | fenced | role | state | timeout | noRoute | internal
deriving DecidableEq, Repr

/-! ### Events, Patina, trace -/

/-- One event name: group, bit and name code of Table 15.2. -/
structure Src where
  grp : Nat
  bit : Nat
  code : Nat
deriving DecidableEq, Repr

/-- A name that holds (R446), with the reason and DETAIL of its raise, and whether it is a pulse. -/
structure Held where
  src : Src
  reason : Nat
  detail : Nat
  pulse : Bool
deriving DecidableEq, Repr

/-- A raise or a clear captured for the event FIFO (R450), with the uptime and device time of the capture. -/
structure Capture where
  src : Src
  clear : Bool
  reason : Nat
  detail : Nat
  up : Nat
  time : Nat
deriving DecidableEq, Repr

/-- One entry of the event FIFO (Table 15.4). -/
structure FifoEntry where
  cap : Capture
  dropped : Bool
  eseq : Nat
deriving DecidableEq, Repr

/-- Event state (Chapter 15): held names, captures not yet written, the FIFO (oldest first), ESEQ, EVT_LOST, the
1 ms hold of each event pin (R448), wakes and alerts that a raise left waiting (R449, R377). -/
structure Events where
  held : List Held
  caps : List Capture
  fifo : List FifoEntry
  eseq : Nat
  lost : Nat
  hold : BitVec 2
  wake : Bool
  alert : BitVec 16
deriving DecidableEq, Repr

/-- The body of a Patina record (Table 15.7). Signed fields stand as integers. -/
inductive PatBody
  | event (grp src reason detail : Nat) (vbus10 : Int) (stoMv : Nat) (temp dtemp : Int) (value : Nat)
  | summary (count groups first last : Nat)
  | boot (cause mode fw bank path wdt prevUp : Nat)
  | wear (kind unit step prev index driver : Nat) (temp : Int)
  | shutdown (demand pwm rails step eMj stoMv : Nat) (vbus10 : Int)
deriving DecidableEq, Repr

/-- A record captured for the Patina and not yet admitted (R453). -/
structure PatCap where
  pinned : Bool
  up : Nat
  time : Nat
  grp : Nat
  body : PatBody
deriving DecidableEq, Repr

/-- One Patina record (Table 15.6), with the bits of FLAGS as the record now reads. -/
structure PatRec where
  pseq : Nat
  up : Nat
  time : Nat
  pinned : Bool
  byShutdown : Bool
  pinRefused : Bool
  released : Bool
  body : PatBody
deriving DecidableEq, Repr

/-- Patina state (R453 to R458): captures, RAM, token bucket, refusals awaiting their SUMMARY, the ring and the pinned
region in NVM, the times of the pins within the budget of R456, the flush request of R454, and the uptime of the last
flush. -/
structure Patina where
  caps : List PatCap
  ram : List PatRec
  tokens : Nat
  refused : Option (Nat × Nat × Nat × Nat)
  ring : List PatRec
  pins : List PatRec
  pinTimes : List Nat
  flushReq : Bool
  lastFlush : Nat
deriving DecidableEq, Repr

/-- One trace sample: uptime and the low 16 bits of the four selected values. -/
structure Sample where
  up : Nat
  v0 : Nat
  v1 : Nat
  v2 : Nat
  v3 : Nat
deriving DecidableEq, Repr

/-- TRACE_STATE (R461). -/
inductive TraceState
  | idle | armed | triggered | complete | stopped
deriving DecidableEq, Repr

/-- The trace buffer (R460, R461): samples oldest first, the trigger index, samples left after the trigger, GAPS, the
values of the EVT_TRC_ parameters at the arm, and whether the trigger source was raised or sampling paused since. -/
structure Trace where
  st : TraceState
  buf : List Sample
  trig : Nat
  left : Nat
  gaps : Nat
  sel : List Nat
  trigCfg : Nat
  prePct : Nat
  seen : Bool
  paused : Bool
deriving DecidableEq, Repr

/-! ### Counters of persistence SAVED and access Read -/

/-- The wear indices of Table 15.8: the index in millionths of a ppm, the DRIVER count and the step. -/
structure Wear where
  micro : Nat
  driver : Nat
  step : Nat
deriving DecidableEq, Repr

/-- Everything that the counter record holds (R459): the Read parameters of persistence SAVED, the LINE-keyed pair of
R196, the wear indices with the throughput at the last EVT_STO_RESET (R463), the fence states, the Patina position, and
the markers of R490 and R492. -/
structure Counters where
  bakUsedUah : Nat
  hoCount : Nat
  dumpCount : Nat
  coldSrc : Nat
  poSkips : Nat
  eInJ : Nat
  capMeas : Nat
  rebases : Nat
  resRefused : Nat
  thruJ : Nat
  rtcTrim : Int
  wdtCount : Nat
  authFail : Nat
  saveCount : Nat
  commitCount : Nat
  eDayJ : Vector Nat 16
  eTotWh : Vector Nat 16
  trips : Vector Nat 16
  clamps : Vector Nat 16
  dieFences : Vector Nat 4
  brakes : Vector Nat 2
  faults : Vector Nat 2
  lineTx : Nat
  lineRx : Nat
  lineCrc : Nat
  lineRetry : Nat
  allowWh : Vector Nat 8
  fwRollback : Nat
  nfcSessions : Nat
  pseq : Nat
  suppressed : Nat
  linePair : Nat × Nat
  wearDie : Vector Wear 4
  wearPh : Vector Wear 8
  wearSto : Wear
  stoBaseJ : Nat
  wearNvm : Wear
  fences : Vector (Option FenceReason) 4
  shelfMark : Bool
  decomMark : Bool
deriving DecidableEq, Repr

/-! ### Configuration -/

/-- A list of parameter values in canonical form: IDs strictly rising. A value list of a configuration lists no value
equal to the default in force. -/
abbrev Vals := List (Nat × Nat)

/-- A configuration bank in NVM (R232): the bytes that it holds (GEN, a FULL image, CRC-32C), and what they were last read
as: GEN, the role and storage type whose defaults its values rest on, the values that differ from them, and whether it
failed its check. -/
structure Bank where
  bytes : List Byte
  gen : Nat
  role : Role
  sto : StoType
  vals : Vals
  bad : Bool
deriving DecidableEq, Repr

/-- Configuration state (Chapter 7); `armedBy` and `baudBy` name the COMMIT, by transport and SEQ, that armed the transfer and
whose reply a new rate of UART0 waits for (R176). -/
structure Config where
  inForce : Vals
  staged : Vals
  armed : Option Vals
  armedBy : Option (Transport × Nat)
  baudBy : Option (Transport × Nat)
  maqGen : Nat
  bankA : Option Bank
  bankB : Option Bank
  replaced : Bool
  mismatch : Bool
  baud : Nat
  baudNext : Option Nat
  wdtLoadMs : Nat
deriving DecidableEq, Repr

/-! ### Camyx -/

/-- A reply (R161, R164): SEQ, OPC, STATUS and the fields after it, the K_MAC or K_GRP that authenticates it, the line
address that goes into a LINE-keyed MAC (R195), the next part to send, its session, whether ABORT has cut its parts
(R207), and the ESEQs of the FIFO entries that leave once its parts are handed over (Table 7.4). -/
structure Reply where
  seq : Nat
  opc : Nat
  status : Status
  data : List Byte
  key : Option (List Byte)
  lineAddr : Option Nat
  more : Bool
  part : Nat
  sid : Option Nat
  cut : Bool
  drops : List Nat
deriving DecidableEq, Repr

/-- A session, pending or established (R188 to R193), with the SEQs accepted so far (R205), the uptime of its opening or of its
last verified request, and the idle limit in s that applied then (R197, R209). -/
structure Session where
  priv : Priv
  slot : Nat
  kMac : List Byte
  kEnc : List Byte
  sid : Nat
  seq : Nat
  mac : List Byte
  rekeyDue : Bool
  stored : Option Reply
  seqs : List Nat
  verifiedAt : Nat
  idleS : Nat
deriving DecidableEq, Repr

/-- A request that its transport has accepted (R201) and that waits to be executed, with its parameters as assembled from
its parts and without the TIME of R195, the SEQ of its first part, and its number in the order of arrival (R184). -/
structure Waiting where
  n : Nat
  opc : Nat
  first : Nat
  rq : Request
  body : List Byte
  priv : Priv
  sid : Option Nat
  key : Option (List Byte)
  lineKeyed : Bool
deriving DecidableEq, Repr

/-- The parts of a request received so far, with the SEQ of the first (R163, R207) and the sender. -/
structure Parts where
  opc : Nat
  first : Nat
  next : Nat
  data : List Byte
  sid : Option Nat
  lineKeyed : Bool
deriving DecidableEq, Repr

/-- One transport's queue (Table 6.6), sessions and last output. -/
structure Port where
  waiting : List Waiting
  replies : List Reply
  parts : List Parts
  pend : Option Session
  est : Option Session
  out : List Byte
deriving DecidableEq, Repr

/-- What an operation in hand waits for. -/
inductive Wait
  | grant (j : Job) (units : Nat) | surplus | nvm | tick | rail (r : Fin 2) | stagger | link
deriving DecidableEq, Repr

/-- An operation in hand, past its dispatch. -/
inductive OpKind
  | save (image : Bool) (applied : Nat) (snap : Vals)
  | keyWrite (role slot : Nat) (key : List Byte) (funded second : Bool)
  | fwBegin (size version : Nat)
  | fwBlock (off : Nat) (data : List Byte)
  | keyErase (role slot : Nat)
  | railStart (r : Fin 2)
  | chOn
  | chClear (mask : Nat)
  | forward (m : Nat)
  | shelf
  | decommission
deriving DecidableEq, Repr

/-- An operation in hand with its control word (R206): the request it came from, whether that came by
group or broadcast (R179), and its point-of-no-return mark. -/
structure Op where
  via : Transport
  first : Nat
  seq : Nat
  opc : Nat
  sid : Option Nat
  key : Option (List Byte)
  lineAddr : Option Nat
  cast : Bool
  pnr : Bool
  wait : Wait
  kind : OpKind
deriving DecidableEq, Repr

/-- A packet that a HEAD bridges to the line (R178): destination, the packet from LEN through MAC, and whether it still
waits for a reply. -/
structure Bridged where
  addr : Nat
  pkt : List Byte
  sent : Bool
deriving DecidableEq, Repr

/-- What R425 records under field-only limits until its block is powered. -/
inductive Late
  | chClear (mask : Nat)
  | shed (level hold : Nat)
  | allow (cls wh : Nat)
deriving DecidableEq, Repr

/-- Camyx state (Chapter 6): ports, how many requests have arrived (R184), what is left of the time in which UART0 transmits
(R175), operations in hand, bridge and gateway, packet counts, the next SID, an APDU that waits for its reply, a reset owed on a transport (R218) and whether it waits for a restart's pickups (R477), minutes of debug
unlock, the last pair sent under the LINE key, and what R425 records. -/
structure Camyx where
  ports : Vector Port 7
  arrived : Nat
  u0TxMs : Nat
  ops : List Op
  bridge : List Bridged
  gwOut : List (List Byte)
  rx : Nat
  err : Nat
  sidNext : Nat
  apdu : Bool
  resetOwed : Option Transport
  resetHeld : Bool
  debugMin : Nat
  lineSent : Nat × Nat
  late : List Late
deriving DecidableEq, Repr

/-! ### NFC, keys, firmware -/

/-- Where the NFC interface stands (R419 to R422). -/
inductive NfcState
  | idle | ready | active | isoDep
deriving DecidableEq, Repr

/-- The selected NFC application (R422). -/
inductive NfcApp
  | none | type4 | camyx
deriving DecidableEq, Repr

/-- NFC state (Chapter 14); `txMs` is what is left of the reply frame on the air. -/
structure Nfc where
  st : NfcState
  app : NfcApp
  file : Nat
  ndef : List Byte
  fsd : Nat
  nfcid : List Byte
  out : List Byte
  txMs : Nat
  opened : Nat
  fieldOnly : Bool
  sessionRes : Bool
  held : Option (List Byte)
deriving DecidableEq, Repr

/-- One copy of the key store (R428): a write count and the ten slots, OWNER 0 and 1, OPERATOR 0 to 3, SERVICE 0 and 1,
LINE 0 and 1. -/
structure KeyCopy where
  count : Nat
  slots : Vector (Option (List Byte)) 10
deriving DecidableEq, Repr

/-- A firmware bank (R437): the image bytes programmed from offset 0, the SIZE and VERSION of FW_BEGIN, and whether it
holds the firmware that left the factory. -/
structure FwBank where
  size : Nat
  version : Nat
  data : List Byte
  factory : Bool
deriving DecidableEq, Repr

/-- Keys and firmware (Chapter 14). -/
structure Sec where
  copyA : KeyCopy
  copyB : KeyCopy
  fwA : FwBank
  fwB : FwBank
  fwActiveB : Bool
  fwRunningB : Bool
  trial : Bool
  trialMs : Nat
  fallbackRan : Bool
  fallbackReq : Bool
  revoked : BitVec 4
  fwOpen : Bool
deriving DecidableEq, Repr

/-! ### Identity, Plinth, lifecycle -/

/-- Identity and straps (Chapters 0 and 1); `attKey` is the private key of attestation (R434). -/
structure Ident where
  qb : Bool
  uid : List Byte
  claimKey : List Byte
  attKey : Nat
  attCert : List Byte
  roleStrap : Nat
  role : Role
  sto : StoType
  sdoDecoded : Bool
  i2cAddr : Nat
deriving DecidableEq, Repr

/-- Plinth, clocks, modes and resets (Chapter 5): `rtcSub` is the 15-bit fraction of the RTC and `rtcRem` what it has beyond,
in 10⁻¹² of its unit (R134, log 10); `upFrac` the fraction of an XO32 cycle that the uptime divider carries, in thousandths
(R135); `wdtMs` what the watchdog has left to count, `wdtSeen` and `wdtDone` the levels P1 to P6 that have had work ready
and that have completed a task since its last service (R151). -/
structure Plinth where
  mode : Mode
  upMs : Nat
  prevUp : Nat
  rtcSec : Nat
  rtcSub : Nat
  rtcRem : Nat
  upFrac : Nat
  slew : Int
  timeValid : Bool
  tb8 : Tb8
  xo : Bool
  xtalFail : Bool
  rc48 : Bool
  pll : Bool
  rc32Trim : Bool
  seq : Seq
  rstLow : Bool
  testHeld : Bool
  cause : Nat
  wdtRun : Nat
  wdtAt : Option Nat
  wdtMs : Nat
  wdtSeen : BitVec 6
  wdtDone : BitVec 6
  wakes : List WakeSrc
  hk : Bool
  blockMax : Vector Nat 6
  quietMiss : Nat
deriving DecidableEq, Repr

/-- Lifecycle (Chapter 16): the state of Table 16.1 and the one before SHELF_PENDING, whether the bus has returned since
step 4 began (R478), the uptime at which the last restart began, t_ref and r of R480, whether BUS has carried since the
last shutdown began (R473), the commit chosen (R475), a SHELF that is pending, whether the shutdown in hand re-entered
from a restart (R485) and whether SHELF alone began it (R490), whether the next bus begins a restart (R471), the last
step completed, whether P3 has started the rails, and what ended the last SHELF (R491). -/
structure Lifecycle where
  st : Life
  prev : Life
  restart : Bool
  restartAt : Nat
  tRef : Nat
  retry : Nat
  carried : Bool
  commit : CommitKind
  shelfPend : Bool
  again : Bool
  own : Bool
  due : Bool
  step : Nat
  railsUp : Bool
  shelfExit : Option WakeSrc
deriving DecidableEq, Repr

/-! ### Power path (Chapter 2) -/

/-- The states of Table 2.7, in the order of their codes. -/
inductive Path
  | none | onBus | onSto | onField | onBak | handover | shelf
deriving DecidableEq, Repr

/-- Power path, charger, store faults, backup cell and VHOST: `dwellMs` is what is left of the dwell that the last make began
(R62, R74), `retryMs` the time in the current 600 s of retries under SHORT (Table 2.9), `vhostMv` the voltage that VHOST is
regulated to, which slews (R74). -/
structure Power where
  path : Path
  target : Option Source
  vbusMv : Int
  busQ : Bool
  stoQ : Bool
  fieldQ : Bool
  bakQ : Bool
  busUv : Bool
  busFull : Bool
  busHigh : Bool
  busOv : Bool
  busDump : Bool
  busRev : Bool
  gndOpen : Bool
  lossCount : Bool
  lastDump : Option Nat
  dwell : Bool
  floorSusp : Bool
  stoMv : Nat
  midMv : Nat
  bakMv : Int
  fShort : Bool
  fOpen : Bool
  fPre : Bool
  fMid : Bool
  fOv : Bool
  fType : Bool
  shortMs : Nat
  ended : Bool
  derated : Bool
  balancer : Bool
  tempC : Int
  vhostOn : Bool
  vhostWait : Bool
  vhostFails : Nat
  vhostFault : Bool
  vhostBreach : Bool
  vhostMv : Nat
  dwellMs : Nat
  retryMs : Nat
  fieldMv : Nat
  fieldUw : Nat
deriving DecidableEq, Repr

/-! ### Harvest front end (Chapter 3) -/

/-- One tracked channel (Procedure 3.1): operating point and open-circuit value in microvolts, direction, powers in
microwatts, skipped cycles in a row, the limit of R92, the stop of STAGE_OC with its failed retries, and the hold of
R90 with the uptime at which it began. -/
structure Tracker where
  running : Bool
  vop : Nat
  voc : Nat
  up : Bool
  pLast : Nat
  pin : Nat
  skips : Nat
  limited : Bool
  oc : Bool
  ocFails : Nat
  dead : Bool
  held : Bool
  heldAt : Nat
deriving DecidableEq, Repr

/-- Harvest state: the trackers, NFC harvest and its power, VHB and its stops (R77, R93), the store stage with its faults
(R101) and its present output current `outUa`, the cold-start controller with the open-circuit values that it sampled
(R79), clamp and faults, the last refresh, and the microjoules not yet in HRV_E_IN_J. -/
structure Harvest where
  teg : Tracker
  vib : Tracker
  pv : Tracker
  nfc : Bool
  nfcUw : Nat
  vhbMv : Nat
  ceiling : Bool
  full : Bool
  storeOc : Bool
  storeFails : Nat
  storeDead : Bool
  lstoOpen : Bool
  csc : Bool
  cscRan : Bool
  cscTegUv : Nat
  cscPvMv : Nat
  cscVibMv : Nat
  outUa : Nat
  clamp : Bool
  vhbLow : Bool
  vibOv : Bool
  tegOsc : Bool
  refreshAt : Nat
  inUj : Nat
deriving DecidableEq, Repr

/-! ### Energy ledger (Chapter 4)

Energies stand in units of mF × mV², half a nanojoule each, so that C × V² of R103 is exact: 1 mJ is 2,000,000 units
(log 7). Charge stands in microcoulombs, mF × mV. -/

/-- A forecast grant to be checked (R125): the deficit at assertion and the harvest since, in units. -/
structure Forecast where
  deficit : Nat
  harvested : Nat
deriving DecidableEq, Repr

/-- The calendar of R123: bins in units of 10 mJ and how often each was updated. -/
structure Calendar where
  bins : Vector Nat 168
  count : Vector Nat 168
deriving DecidableEq, Repr

/-- Ledger state. `host` is what remains of the HOST reservation; `waiting` are the requests refused so far and `fresh` those
that no update has evaluated yet (R114, R115); `learn` is the interval of R106 or R107 in hand (rest voltage and charge at
its start) and `disAt` the uptime since which STO discharges; `lastAt` is the uptime of the last update, `calmMs` and
`restMs` how long the current has stayed within the bounds of R111, `above` whether E_est stood at KEEP_eff or more at the
last update (R120); `ignored` is a HOLD of R120 that counts as no rise, `overrun` one of R119; `fcRec` whether the present
BUNCH has its deficit recorded (R125); `outUj` and `outHours` are the STO outflow of R123 in this hour and in the last
24. -/
structure Ledger where
  qUc : Int
  ev : Nat
  evLast : Nat
  ecLast : Nat
  first : Bool
  unrested : Bool
  disagree : Bool
  belowKeep : Bool
  unreach : BitVec 3
  sprig : Bool
  bunch : Bool
  fc : Bool
  busGrant : Bool
  sprigAt : Option Nat
  bunchAt : Option Nat
  hold : Bool
  ignored : Bool
  overrun : Bool
  host : Option Nat
  rearm : Bool
  breach : Bool
  res : List (Job × Nat)
  waiting : List (Job × Nat)
  fresh : List (Job × Nat)
  fwStop : Bool
  coreLow : Bool
  learn : Option (Nat × Int)
  disAt : Option Nat
  lastAt : Nat
  calmMs : Nat
  restMs : Nat
  above : Bool
  cal : Calendar
  nvmCal : Calendar
  calSkip : Nat
  hourUj : Nat
  hourBad : Bool
  checks : List Forecast
  misses : Nat
  suspended : Bool
  fcRec : Bool
  outUj : Nat
  outHours : List Nat
  thruUj : Nat
deriving DecidableEq, Repr

/-! ### Load switch channels (Chapters 8 and 9) -/

/-- The demand of a channel: OFF, ON, or PWM at a duty. -/
inductive Demand
  | off | on
  | pwm (duty : Nat)
deriving DecidableEq, Repr

/-- One channel: demand and last non-off demand (R267), the output that the switch-die latch drives, the inhibits of
Table 8.2 other than FENCE and PROTECT, the uptime at which a pickup delay ends (R383, R483), the protection states of
Table 9.3 with the retry count and the uptimes of latches (R282) and thermal shutdowns (R283), the PWM pattern in
effect with its edges in 250 ns steps after the cycle start (R250 to R252), how long a pulse of the cycle before still runs
and how long ago it began, whether the output is on from ON until the first off edge (R251), and the shift still to align
(R255), the measurement (R257 to R259) with the sums of the window and of the second in hand and the energy not yet counted
in fJ and J, how long the shares of a pair have been apart and together (R263), the open-load and live-plug timers (R264, R277), the junction temperature, turn-offs
or latch writes that wait (R298, R302), a fresh turn-on whose PWM window has yet to open (R276), and the direction of
the last DIM ramp (R267). -/
structure Chan where
  demand : Demand
  lastOn : Option Demand
  out : Bool
  shed : Bool
  allow : Bool
  shut : Bool
  bus : Bool
  pickAt : Option Nat
  limiting : Bool
  backoff : Bool
  curLatch : Bool
  thermOff : Bool
  thermLatch : Bool
  window : Bool
  escalated : Bool
  orphan : Bool
  retries : Nat
  latchUps : List Nat
  thermUps : List Nat
  div : Nat
  offset : Nat
  running : Bool
  duty : Nat
  onAt : Nat
  offAt : Nat
  tail : Nat
  tailAge : Nat
  fromOn : Bool
  shift : Int
  range16 : Bool
  hiRun : Nat
  lowRun : Nat
  lastMa : Nat
  iMa : Nat
  ionMa : Nat
  noisy : Bool
  saturated : Bool
  heldVal : Bool
  burst : Bool
  winSum : Nat
  winN : Nat
  onSum : Nat
  onN : Nat
  satWin : Bool
  secN : Nat
  secNoisy : Nat
  remFj : Nat
  remJ : Nat
  shareMs : Nat
  shareOkMs : Nat
  olMs : Nat
  olClearMs : Nat
  idleMs : Nat
  tjC : Int
  defOff : Bool
  fresh : Bool
  dimUp : Bool
  cutAt : Option Nat
  ilimHeld : Nat
  inrIlim : Nat
  inrRetries : Nat
  inrRearm : Bool
deriving DecidableEq, Repr

/-- One switch die: whether VBUS supplies it (R29, R301), its sensor (R284), TB8 strobe and heartbeat (R256, R291), and
the hold of R299. -/
structure Die where
  supplied : Bool
  tempC : Int
  strobeAbs : Bool
  hbAbs : Bool
  revHold : Bool
deriving DecidableEq, Repr

/-- A decoded wall-switch action (Table 8.5, R268) of a GPIO. -/
inductive WallAct
  | toggle (g : Nat)
  | follow (g : Nat) (active : Bool)
  | dim (g : Nat)
deriving DecidableEq, Repr

/-- One GPIO: the debounced level, whether a press is in progress, whether it has become a long press with its ramp
running (R267). -/
structure Gpio where
  level : Bool
  pressed : Bool
  long : Bool
  ramp : Bool
deriving DecidableEq, Repr

/-- Load switch state: channels, dies, GPIOs, the stagger queue of R247 and those in it whose turn-on
is no fresh one (R289), the latch writes that wait for GND_OPEN to
clear (R302), wall-switch actions with their numbers in the order of arrival (R243) and how many were dropped (R268), the demands in the record of the last shutdown
commit (R270), whether retained RAM holds demands, and the events and trips that the dies hold while the sequencer
stands (R290), and the uptime of the last staggered pickup (R383). -/
structure Switch where
  ch : Vector Chan 16
  die : Vector Die 4
  gpio : Vector Gpio 8
  staggerQ : List Nat
  calm : List Nat
  defWrites : List (Nat × Bool)
  wallQ : List (Nat × WallAct)
  dropped : Nat
  saved : Option (Vector Demand 16)
  retained : Bool
  dieEv : List (Src × Nat × Bool × Bool)
  tripPend : Vector Nat 16
  pickedAt : Option Nat
deriving DecidableEq, Repr

/-! ### Armature (Chapters 10 and 11) -/

/-- The rail states of Table 10.4, in the order of their codes. -/
inductive RailState
  | stopped | starting | regulating | stopping | ovLatched | faulted
deriving DecidableEq, Repr

/-- One rail: state, reason of Table 11.4 and the reason that a soft-stop in progress ends in (0 none), hiccups and the
UNDERVOLT reason of the last one, reference in effect and VOSx in mV, lock bits of ARM_LOCK, rotation position, last
on-time in PLL counts, waits for a leader (R320), a commanded start before PLL lock, an autostart that waits (R482),
the automatic restart due (R345), the captured records not yet written, those left to the shutdown commit, and the ring of
eight in NVM, newest first (R346). -/
structure Rail where
  st : RailState
  reason : Nat
  stopReason : Nat
  hiccups : Nat
  uvReason : Nat
  vref : Nat
  vos : Nat
  fsw : Nat
  locked : Bool
  corrLim : Bool
  tracking : Bool
  braking : Bool
  next : Nat
  onTime : Nat
  emuArea : Int
  emuLen : Nat
  emuMeanNa : Int
  olMs : Nat
  olOk : Nat
  waitLeader : Bool
  autoPend : Bool
  caps : List (List Byte)
  late : List (List Byte)
  ring : List (List Byte)
deriving DecidableEq, Repr

/-- One phase: running, shed reason of ARM_PH_PROT (0 none), flagged failed path (R341), trim in PLL counts, 1 ms mean,
trim at its limit, and the uptime of the last short-circuit limiting (R330). -/
structure Phase where
  running : Bool
  emuNa : Int
  onLeft : Nat
  offFor : Nat
  scRun : Nat
  scNow : Bool
  shed : Nat
  flagged : Option ShedReason
  trim : Int
  meanMa : Int
  atLimit : Bool
  scAt : Option Nat
deriving DecidableEq, Repr

/-- Armature state: rails, phases, SYNC and glide of TBA (R321, R323), VDRV in regulation and its value in 0.1 V
(R336), ARM_QUIET_SLOTS and the VBUS of the last edge map (R313). -/
structure Arm where
  rail : Vector Rail 2
  ph : Vector Phase 8
  sync : Bool
  glideMs : Nat
  vdrvOk : Bool
  vdrvDv : Nat
  quiet : Nat
  mapMv : Nat
deriving DecidableEq, Repr

/-! ### Feeder line (Chapter 12) -/

/-- The link modes of Table 12.3, in the order of their codes. -/
inductive LinkMode
  | normal | diversity | robust
deriving DecidableEq, Repr

/-- A packet being sent in fragments (R364, R365): the rest of the packet, the next fragment index, the frame awaiting
its acknowledgement as FSEQ, payload and last mark, and its resends. -/
structure FragTx where
  rest : List Byte
  frag : Nat
  cur : Option (Nat × List Byte × Bool)
  tries : Nat
deriving DecidableEq, Repr

/-- A packet being reassembled (R365): the next fragment index and the bytes so far. -/
structure Reasm where
  next : Nat
  data : List Byte
deriving DecidableEq, Repr

/-- A packet for a group, for broadcast or of the HEAD's own (R366): destination, PTYPE, what is left of it, the index of the
fragment in hand and that fragment with whether it is the last, how often a frame is sent and how often the present one is
still to be sent; whether the gateway bridged it. -/
structure Cast where
  addr : Nat
  ptype : Nat
  rest : List Byte
  frag : Nat
  cur : Option (List Byte × Bool)
  times : Nat
  left : Nat
  bridged : Bool
deriving DecidableEq, Repr

/-- A burst as the transmitter sends it (R353): the lanes and the mode that its descriptor names, and the body. -/
structure Burst where
  lanes : BitVec 4
  mode : LinkMode
  body : List Byte
deriving DecidableEq, Repr

/-- The HEAD's record of a joined node (R367, R370, R373 to R376): address, UID, link mode, exchanges without and REPLY
frames in a row at 12 dB or more, the FSEQ last accepted and whether it awaits its acknowledgement, MORE or a reply
owed, an ALERT, uptimes of the last poll, REPLY and STATUS NOTIFY, transfers both ways, the last STATUS report, and a
reply window granted that has brought no REPLY yet. -/
structure Node where
  addr : Nat
  uid : List Byte
  mode : LinkMode
  bad : Nat
  good : Nat
  rxSeq : Option Nat
  ackDue : Bool
  owes : Bool
  alert : Bool
  polledAt : Nat
  heardAt : Nat
  tx : Option FragTx
  rx : Option Reasm
  report : List Byte
  reportAt : Nat
  granted : Bool
deriving DecidableEq, Repr

/-- Line state: the pilot and its words (R357 to R360), shed levels (R378 to R381), joining (R373, R374), the
transmitter and the HEAD's start and clash listens (R388, R415), lanes and link mode (R367, R368), frames both ways as
a node (R364, R365), the HEAD's tables and queues (R366, R370), what is left of a carrier heard and of a slot in which the
node is to receive (R89), and the last day clear (R385). -/
structure Line where
  pilot : Bool
  lock : Bool
  good : Nat
  bad : Nat
  lastSfn : Option Nat
  nibbles : List Nat
  applyT : Option Nat
  timeFrom : Bool
  level : Nat
  fall : Option Nat
  cmd : Nat
  cmdUntil : Option Nat
  droop : Nat
  eff : Nat
  joined : Bool
  conflict : Bool
  joinTry : Nat
  joinSent : Bool
  backoff : Option Nat
  alertDue : List Nat
  generating : Bool
  txFault : Bool
  stoodDown : Bool
  listening : Bool
  heardFirst : Bool
  clashByte : Nat
  lanes : BitVec 4
  mode : LinkMode
  snr : Vector Nat 4
  fseq : Nat
  tx : Option FragTx
  rx : Option Reasm
  rxSeq : Option Nat
  nodes : List Node
  joinAcks : List (List Byte)
  castQ : List Cast
  word : BitVec 10
  txOut : List Burst
  txMs : Nat
  exch : Nat
  used : Nat
  rxCast : Option Reasm
  pilotOffUs : Int
  rejoinAt : Nat
  grantAt : Nat
  rxMs : Nat
  slotMs : Nat
  dayTime : Option Nat
  dayUp : Nat
  hit : BitVec 8
deriving DecidableEq, Repr

/-! ### Tableau (Chapter 13) -/

/-- What the lead holds of a member: the words of its record received so far (Table 13.5), MSTATE, PHRUN, MFAULT, share
currents in 10 mA, consecutive cycles without its frame and the uptime at which it fell silent (R412), lost, the
set-aside reason (R414), its CLASS_E, and the words
received since it fell silent (R413). -/
structure Member where
  record : Vector (Option Nat) 20
  mstate : BitVec 8
  phrun : BitVec 8
  mfault : BitVec 8
  ia : Int
  ib : Int
  missed : Nat
  silentAt : Option Nat
  lost : Bool
  aside : Nat
  classE : Vector Nat 8
  fresh : Vector (Option Nat) 20
deriving DecidableEq, Repr

/-- Tableau state: TAB_STATE, MEMBERS and previous set (R404), shared state (R405), gang rails (R409 to R411), the
lead's member table, bulk transfers (R402), the cycle, readback failures, TSYNC drive, the frames last sent,
the UID under which the Tableau has joined the feeder (Table 13.5), whether a lead has answered this device's join, the
join windows that it still lets pass (R413, R417), and PHRUN of the other members as last heard (R408). -/
structure Tab where
  inTab : Bool
  lead : Bool
  aside : Bool
  leadLost : Bool
  electing : Bool
  adopting : Bool
  tsync : Bool
  qualified : Bool
  members : BitVec 8
  leadIdx : Nat
  prevSet : BitVec 8
  asideReason : Nat
  fwMix : Bool
  ptot : Nat
  devTrim : Vector Int 2
  skewMs : Int
  crcErr : Nat
  cyc : Nat
  level : Nat
  allow : BitVec 8
  rstate : Vector Nat 2
  rreason : Vector Nat 2
  setCa : Vector Int 2
  vref : Vector Nat 2
  startPend : Vector Bool 2
  stopPend : Vector Bool 2
  leadAt : Nat
  leadRec : Vector (Option Nat) 20
  leadState : BitVec 8
  member : Vector (Option Member) 8
  bulkOut : List (Nat × List Byte)
  bulkIn : List Byte
  bulkIdx : Nat
  framesOut : List (List Byte)
  readFails : Nat
  readFailed : Bool
  joinUid : List Byte
  drive : Bool
  acked : Bool
  joinWait : Nat
  peers : Vector Nat 8
deriving DecidableEq, Repr

/-! ### The whole machine -/

/-- Why a step stops. No meaning of this model raises a fault: a block's errors are replies, events and flags.
`halted` exists so that the type has a name to list (safe: nothing raises it). -/
inductive Fault
  | halted
deriving DecidableEq, Repr

/-- Why a command has no meaning. -/
inductive Refusal
  /-- A command whose meaning is not written: raised by its arm of `exec` alone (safe: the run stops). -/
  | notModelled (mnemonic : String)
deriving DecidableEq, Repr

/-- The state of one GP4890. `ctr` is the counter record in retained RAM and `nvm` its copy in NVM (R459); `free`
counts the draws of free values (log 8); `pending` is the queue of commands, first in first out. -/
structure State where
  ident : Ident
  plinth : Plinth
  power : Power
  harvest : Harvest
  ledger : Ledger
  config : Config
  camyx : Camyx
  nfc : Nfc
  sec : Sec
  sw : Switch
  arm : Arm
  line : Line
  tab : Tab
  events : Events
  patina : Patina
  trace : Trace
  ctr : Counters
  nvm : Counters
  life : Lifecycle
  free : Nat
  pending : List Instr
deriving DecidableEq, Repr

/-! ### The value right after reset (logs 4 to 6) -/

/-- A wear index at manufacture. -/
def Wear.zero : Wear := { micro := 0, driver := 0, step := 0 }

/-- The counter record as it leaves the factory (R459): every count 0, every allowance unlimited (Table 12.14). -/
def Counters.factory : Counters :=
  { bakUsedUah := 0, hoCount := 0, dumpCount := 0, coldSrc := 0, poSkips := 0, eInJ := 0, capMeas := 0, rebases := 0,
    resRefused := 0, thruJ := 0, rtcTrim := 0, wdtCount := 0, authFail := 0, saveCount := 0, commitCount := 0,
    eDayJ := Vector.replicate 16 0, eTotWh := Vector.replicate 16 0, trips := Vector.replicate 16 0,
    clamps := Vector.replicate 16 0, dieFences := Vector.replicate 4 0, brakes := Vector.replicate 2 0,
    faults := Vector.replicate 2 0, lineTx := 0, lineRx := 0, lineCrc := 0, lineRetry := 0,
    allowWh := Vector.replicate 8 0xFFFFFFFF, fwRollback := 0, nfcSessions := 0, pseq := 0, suppressed := 0,
    linePair := (0, 0), wearDie := Vector.replicate 4 Wear.zero, wearPh := Vector.replicate 8 Wear.zero,
    wearSto := Wear.zero, stoBaseJ := 0, wearNvm := Wear.zero, fences := Vector.replicate 4 none, shelfMark := false,
    decomMark := false }

/-- A transport with nothing in hand. -/
def Port.empty : Port :=
  { waiting := [], replies := [], parts := [], pend := none, est := none, out := [] }

/-- A harvest channel that has not started. -/
def Tracker.idle : Tracker :=
  { running := false, vop := 0, voc := 0, up := true, pLast := 0, pin := 0, skips := 0, limited := false, oc := false,
    ocFails := 0, dead := false, held := false, heldAt := 0 }

/-- A channel whose die has no supply (R29): demand OFF, the BUS inhibit set, the default divider. -/
def Chan.initial : Chan :=
  { demand := .off, lastOn := none, out := false, shed := false, allow := false, shut := false, bus := true,
    pickAt := none, limiting := false, backoff := false, curLatch := false, thermOff := false, thermLatch := false,
    window := false, escalated := false, orphan := false, retries := 0, latchUps := [], thermUps := [], div := 40,
    offset := 0, running := false, duty := 0, onAt := 0, offAt := 0, tail := 0, tailAge := 0, fromOn := false, shift := 0, range16 := false, hiRun := 0,
    lowRun := 0, lastMa := 0, iMa := 0, ionMa := 0, noisy := false, saturated := false, heldVal := false,
    burst := false, winSum := 0, winN := 0, onSum := 0, onN := 0, satWin := false, secN := 0, secNoisy := 0,
    remFj := 0, remJ := 0, shareMs := 0, shareOkMs := 0, olMs := 0, olClearMs := 0, idleMs := 0, tjC := 25,
    defOff := false, fresh := false, dimUp := false, cutAt := none, ilimHeld := 24, inrIlim := 48, inrRetries := 3
    inrRearm := true }

/-- A die without supply. -/
def Die.initial : Die := { supplied := false, tempC := 25, strobeAbs := true, hbAbs := false, revHold := false }

/-- A GPIO pad that is not pressed. -/
def Gpio.initial : Gpio := { level := true, pressed := false, long := false, ramp := false }

/-- A rail that is stopped. -/
def Rail.initial : Rail :=
  { st := .stopped, reason := 0, stopReason := 0, hiccups := 0, uvReason := 0, vref := 0, vos := 0, fsw := 0,
    locked := false, corrLim := false, tracking := false, braking := false, next := 0, onTime := 0, emuArea := 0,
    emuLen := 0, emuMeanNa := 0, olMs := 0, olOk := 0,
    waitLeader := false, autoPend := false, caps := [], late := [], ring := [] }

/-- A phase that is not running. -/
def Phase.initial : Phase :=
  { running := false, emuNa := 0, onLeft := 0, offFor := 0, scRun := 0, scNow := false, shed := 0, flagged := none, trim := 0, meanMa := 0, atLimit := false, scAt := none }

/-- The load switch of a device whose dies have no supply. -/
def Switch.initial : Switch :=
  { ch := Vector.replicate 16 Chan.initial, die := Vector.replicate 4 Die.initial,
    gpio := Vector.replicate 8 Gpio.initial, staggerQ := [], calm := [], defWrites := [], wallQ := [], dropped := 0,
    saved := none, retained := false, dieEv := [], tripPend := Vector.replicate 16 0,
    pickedAt := none }

/-- The Armature of a device without bus. -/
def Arm.initial : Arm :=
  { rail := Vector.replicate 2 Rail.initial, ph := Vector.replicate 8 Phase.initial, sync := false, glideMs := 0,
    vdrvOk := false, vdrvDv := 0, quiet := 0, mapMv := 0 }

/-- The line of a device that has heard nothing: four lanes, DIVERSITY (R367). -/
def Line.initial : Line :=
  { pilot := false, lock := false, good := 0, bad := 0, lastSfn := none, nibbles := [],
    applyT := none, timeFrom := false, level := 0, fall := none, cmd := 0, cmdUntil := none, droop := 0, eff := 0,
    joined := false,
    conflict := false, joinTry := 0, joinSent := false, backoff := none, alertDue := [], generating := false,
    txFault := false, stoodDown := false, listening := false, heardFirst := false, clashByte := 0, lanes := 0xF,
    mode := .diversity, snr := Vector.replicate 4 0, fseq := 0, tx := none, rx := none, rxSeq := none, nodes := [],
    joinAcks := [], castQ := [], word := 0, txOut := [], txMs := 0, exch := 0, used := 0, rxCast := none, pilotOffUs := 0,
    rejoinAt := 0, grantAt := 0, rxMs := 0, slotMs := 0,
    dayTime := none, dayUp := 0, hit := 0 }

/-- A device in no Tableau. -/
def Tab.initial : Tab :=
  { inTab := false, lead := false, aside := false, leadLost := false, electing := false, adopting := false,
    tsync := false, qualified := false, members := 0, leadIdx := 0, prevSet := 0, asideReason := 0, fwMix := false,
    ptot := 0, devTrim := Vector.replicate 2 0, skewMs := 0, crcErr := 0, cyc := 0, level := 0, allow := 0,
    rstate := Vector.replicate 2 7, rreason := Vector.replicate 2 0, setCa := Vector.replicate 2 0,
    vref := Vector.replicate 2 0, startPend := Vector.replicate 2 false, stopPend := Vector.replicate 2 false,
    leadAt := 0, leadRec := Vector.replicate 20 none, leadState := 0, member := Vector.replicate 8 none,
    bulkOut := [], bulkIn := [], bulkIdx := 0, framesOut := [], readFails := 0, readFailed := false,
    joinUid := List.replicate 8 0, drive := false, acked := false, joinWait := 0, peers := Vector.replicate 8 0 }

/-- The machine right after a Plinth power-on reset at N2 of a start from nothing on STO: a factory GP4890-QA in HOME
role with open straps (log 4); identity all zero (log 5); every value without a stated reset value as log 6 names
it. -/
def State.reset : State :=
  { ident :=
      { qb := false, uid := List.replicate 8 0, claimKey := List.replicate 16 0, attKey := 1,
        attCert := List.replicate 64 0, roleStrap := 0, role := .home, sto := .sc1, sdoDecoded := true,
        i2cAddr := 0x4C }
    plinth :=
      { mode := .plinth, upMs := 0, prevUp := 0, rtcSec := 0, rtcSub := 0, rtcRem := 0, upFrac := 0, slew := 0, timeValid := false, tb8 := .rc32,
        xo := false, xtalFail := false, rc48 := false, pll := false, rc32Trim := false, seq := .off, rstLow := false,
        testHeld := false, cause := 0, wdtRun := 0, wdtAt := none, wdtMs := 250,
        wdtSeen := 0, wdtDone := 0, wakes := [], hk := false,
        blockMax := Vector.replicate 6 0, quietMiss := 0 }
    power :=
      { path := .onSto, target := none, vbusMv := 0, busQ := false, stoQ := false, fieldQ := false, bakQ := false,
        busUv := true, busFull := false, busHigh := false, busOv := false, busDump := false, busRev := false,
        gndOpen := false, lossCount := false, lastDump := none, dwell := false, floorSusp := true, stoMv := 1000,
        midMv := 500, bakMv := 0, fShort := false, fOpen := false, fPre := false, fMid := false, fOv := false,
        fType := false, shortMs := 0, ended := false, derated := false, balancer := false,
        tempC := 25, vhostOn := false, vhostWait := false, vhostFails := 0, vhostFault := false, vhostBreach := false,
        vhostMv := 0, dwellMs := 0, retryMs := 0, fieldMv := 0, fieldUw := 0 }
    harvest :=
      { teg := Tracker.idle, vib := Tracker.idle, pv := Tracker.idle, nfc := false, nfcUw := 0, vhbMv := 0,
        ceiling := false, full := false, storeOc := false, storeFails := 0, storeDead := false, lstoOpen := false,
        csc := false, cscRan := true, cscTegUv := 0, cscPvMv := 0, cscVibMv := 0, outUa := 0, clamp := false, vhbLow := false, vibOv := false,
        tegOsc := false, refreshAt := 0, inUj := 0 }
    ledger :=
      { qUc := 0, ev := 0, evLast := 0, ecLast := 0, first := false, unrested := false, disagree := false,
        belowKeep := false, unreach := 0, sprig := false, bunch := false, fc := false, busGrant := false,
        sprigAt := none, bunchAt := none, hold := false, ignored := false, overrun := false, host := none, rearm := false,
        breach := false, res := [], waiting := [], fresh := [], fwStop := false, coreLow := false, learn := none,
        disAt := none, lastAt := 0, calmMs := 0, restMs := 0, above := false, cal := { bins := Vector.replicate 168 0, count := Vector.replicate 168 0 },
        nvmCal := { bins := Vector.replicate 168 0, count := Vector.replicate 168 0 }, calSkip := 0, hourUj := 0, hourBad := false,
        checks := [], misses := 0, suspended := false, fcRec := false, outUj := 0, outHours := [], thruUj := 0 }
    config :=
      { inForce := [], staged := [], armed := none, armedBy := none, baudBy := none, maqGen := 1, bankA := none, bankB := none, replaced := false,
        mismatch := false, baud := 115200, baudNext := none, wdtLoadMs := 250 }
    camyx :=
      { ports := Vector.replicate 7 Port.empty, arrived := 0, u0TxMs := 0, ops := [], bridge := [], gwOut := [], rx := 0, err := 0, sidNext := 1,
        apdu := false, resetOwed := none, resetHeld := false, debugMin := 0, lineSent := (0, 0), late := [] }
    nfc :=
      { st := .idle, app := .none, file := 0, ndef := [], fsd := 0, nfcid := [], out := [], txMs := 0, opened := 0,
        fieldOnly := false, sessionRes := false, held := none }
    sec :=
      { copyA := { count := 0, slots := Vector.replicate 10 none },
        copyB := { count := 0, slots := Vector.replicate 10 none },
        fwA := { size := 0, version := 0, data := [], factory := true },
        fwB := { size := 0, version := 0, data := [], factory := false }, fwActiveB := false, fwRunningB := false,
        trial := false, trialMs := 0, fallbackRan := false, fallbackReq := false, revoked := 0, fwOpen := false }
    sw := Switch.initial
    arm := Arm.initial
    line := Line.initial
    tab := Tab.initial
    events := { held := [], caps := [], fifo := [], eseq := 0, lost := 0, hold := 0, wake := false, alert := 0 }
    patina :=
      { caps := [], ram := [], tokens := 64, refused := none, ring := [], pins := [], pinTimes := [],
        flushReq := false, lastFlush := 0 }
    trace :=
      { st := .idle, buf := [], trig := 0xFFFF, left := 0, gaps := 0, sel := [], trigCfg := 0, prePct := 0, seen := false,
        paused := false }
    ctr := Counters.factory
    nvm := Counters.factory
    life :=
      { st := .plinthStart, prev := .plinthStart, restart := false, restartAt := 0, tRef := 0, retry := 0,
        carried := false, commit := .none, shelfPend := false, again := false, own := false, due := false, step := 0,
        railsUp := false, shelfExit := none }
    free := 0
    pending := [] }

end Sys2Proof.Machine
end

