-- ==== Sys2Proof/Machine/Params.lean ====
section
/-! DEFINITION. The parameter tables of the spec as data (R73, R102, R129, R158, R209, R241, R274, R275, R303, R329,
R350, R389, R418, R444, R466, R493): for each ID its width, access, persistence, range and default. -/

namespace Sys2Proof.Machine

/-- The access of a parameter: the privilege that a write needs (R223). -/
inductive Acc
  | read | operator | owner
deriving DecidableEq, Repr

/-- What a write accepts (the Meaning columns): a value outside is answered with RANGE. -/
inductive Rng
  | any
  | span (lo hi : Nat)
  | zeroOr (lo hi : Nat)
  | only (vals : List Nat)
  | steps (lo hi st : Nat)
  | signed (lo hi : Int)
  | stoVmax
  | stoFloor
  | traceSel
  | traceTrig
  | pwmDiv
  | evenOnly
  | lineAddr
deriving DecidableEq, Repr

/-- One row of a parameter table: first ID, how many and how far apart, bits, access, whether it is SAVED, "(local)",
"(stopped)", its range, and its default for a role, a storage type and an index. -/
structure PDesc where
  base : Nat
  count : Nat
  stride : Nat
  bits : Nat
  acc : Acc
  saved : Bool
  isLocal : Bool
  stop : Bool
  rng : Rng
  dflt : Role → StoType → Nat → Nat

/-- End-of-charge defaults of Table 2.4, in mV. -/
def stoVmaxDefault : StoType → Nat
  | .sc1 => 2700
  | .sc2 => 5000
  | .lfp => 3600
  | .lio => 4100

/-- Storage floor defaults of Table 2.4, in mV. -/
def stoFloorDefault : StoType → Nat
  | .sc1 => 1200
  | .sc2 => 1600
  | .lfp => 2800
  | .lio => 3300

/-- The range of PWR_STO_VMAX_MV per type (Table 2.4). -/
def stoVmaxRange : StoType → Nat × Nat
  | .sc1 => (2000, 2700)
  | .sc2 => (4000, 5400)
  | .lfp => (3400, 3650)
  | .lio => (4000, 4200)

/-- The range of PWR_STO_FLOOR_MV per type (Table 2.4). -/
def stoFloorRange : StoType → Nat × Nat
  | .sc1 => (1000, 2000)
  | .sc2 => (1200, 3000)
  | .lfp => (2700, 3000)
  | .lio => (3200, 3500)

/-- The dividers of Table 8.3. -/
def pwmDivs : List Nat := [4, 5, 8, 10, 16, 20, 25, 32, 40, 50, 64, 80, 100, 125, 160, 200, 250, 320, 400, 500, 800]

/-- EVT_Q of Table 15.3. -/
def evtQDefault (g : Nat) : Nat :=
  ([0x0FFF, 0x0FFC, 0x0FFF, 0x00FF, 0xFFFF, 0xFFFF, 0xFFFF, 0xFFFF, 0x0FFF, 0x0FFF, 0x03FF, 0x003F, 0x00FF, 0x00FE,
    0x00FF, 0x003F] : List Nat).getD g 0

/-- EVT_L of Table 15.3. -/
def evtLDefault (g : Nat) : Nat :=
  ([0x0FFF, 0x08BC, 0x0E00, 0x00FC, 0xFFFF, 0xFFFF, 0xFFFF, 0xFFFF, 0x0FE4, 0x0FE4, 0x024A, 0x0018, 0x00CD, 0x0084,
    0x00FF, 0x002D] : List Nat).getD g 0

/-- EVT_R0 of Table 15.3. -/
def evtR0Default (g : Nat) : Nat := if g = 13 then 0x0001 else 0

/-- EVT_R1 of Table 15.3. -/
def evtR1Default (g : Nat) : Nat :=
  ([0x0004, 0, 0, 0x0044, 0xFFFF, 0xFFFF, 0, 0xFFFF, 0x0900, 0x0900, 0, 0, 0, 0, 0x00F0, 0x0020] : List Nat).getD g 0

/-- EVT_W of Table 15.3. -/
def evtWDefault (g : Nat) : Nat := if g = 14 then 0x00F0 else 0

/-! ### Parameter IDs -/

namespace P

abbrev sysRole : Nat := 0x0000
abbrev sysRoleStrap : Nat := 0x0001
abbrev sysRoleEff : Nat := 0x0002
abbrev sysVariant : Nat := 0x0003
abbrev sysStepping : Nat := 0x0004
abbrev sysFwVersion : Nat := 0x0005
abbrev sysCompat : Nat := 0x0006
abbrev sysUid : Nat := 0x0007
abbrev sysI2cAddr : Nat := 0x0008
abbrev sysName : Nat := 0x0010
abbrev sysCfgDigest : Nat := 0x0020
abbrev sysRunDigest : Nat := 0x0021
abbrev sysCfgBank : Nat := 0x0022
abbrev sysCfgGen : Nat := 0x0023
abbrev sysMaqGen : Nat := 0x0024
abbrev sysMaqCount : Nat := 0x0025
abbrev sysCfgState : Nat := 0x0026
abbrev sysSaveCount : Nat := 0x0027
abbrev sysCommitCount : Nat := 0x0028
abbrev sysWdtMs : Nat := 0x0100
abbrev sysWdtFallback : Nat := 0x0101
abbrev sysDozeEn : Nat := 0x0102
abbrev sysRunLingerMs : Nat := 0x0103
abbrev sysHkPeriodS : Nat := 0x0104
abbrev sysWakeEn : Nat := 0x0105
abbrev sysShelfWakeD : Nat := 0x0106
abbrev sysClpBaseMs : Nat := 0x0110
abbrev sysU0Baud : Nat := 0x0200
abbrev sysPortEn : Nat := 0x0201
abbrev sysSessIdleS : Nat := 0x0202
abbrev nrgKeepMj : Nat := 0x1000
abbrev nrgSprigMj : Nat := 0x1001
abbrev nrgBunchMj : Nat := 0x1002
abbrev nrgCapNomMf : Nat := 0x1003
abbrev nrgCellMah : Nat := 0x1004
abbrev nrgEsrMohm : Nat := 0x1005
abbrev nrgCapLearnEn : Nat := 0x1006
abbrev nrgBusGrant : Nat := 0x1007
abbrev nrgHoldMaxMs : Nat := 0x1008
abbrev nrgRearmMs : Nat := 0x1009
abbrev nrgBreachGraceMs : Nat := 0x100A
abbrev nrgBreachVhostOff : Nat := 0x100B
abbrev nrgGrantHoldoffMs : Nat := 0x100C
abbrev nrgFcEn : Nat := 0x1010
abbrev nrgFcHorizonH : Nat := 0x1011
abbrev nrgFcConfPct : Nat := 0x1012
abbrev nrgFcMaxadvMj : Nat := 0x1013
abbrev nrgFcTzQ : Nat := 0x1014
abbrev nrgFcWeight : Nat := 0x1015
abbrev nrgFcMinWeeks : Nat := 0x1016
abbrev nrgFcClear : Nat := 0x1017
abbrev nrgFcBin (i : Nat) : Nat := 0x1100 + i
abbrev hrvTegEn : Nat := 0x2000
abbrev hrvTegIpk : Nat := 0x2001
abbrev hrvTegPoPeriodMs : Nat := 0x2002
abbrev hrvTegPoStep : Nat := 0x2003
abbrev hrvTegVocS : Nat := 0x2004
abbrev hrvTegOscchkEn : Nat := 0x2005
abbrev hrvVibEn : Nat := 0x2010
abbrev hrvVibMode : Nat := 0x2011
abbrev hrvVibVmaxMv : Nat := 0x2012
abbrev hrvVibPoPeriodMs : Nat := 0x2013
abbrev hrvVibPoStep : Nat := 0x2014
abbrev hrvVibVocS : Nat := 0x2015
abbrev hrvPvEn : Nat := 0x2020
abbrev hrvPvImaxMa : Nat := 0x2021
abbrev hrvPvPoPeriodMs : Nat := 0x2022
abbrev hrvPvPoStep : Nat := 0x2023
abbrev hrvPvVocS : Nat := 0x2024
abbrev hrvNfcEn : Nat := 0x2030
abbrev hrvPoDeadband : Nat := 0x2040
abbrev pwrStoTypeStrap : Nat := 0x3000
abbrev pwrStoVmaxMv : Nat := 0x3001
abbrev pwrStoFloorMv : Nat := 0x3002
abbrev pwrChgMa : Nat := 0x3003
abbrev pwrScDerateEn : Nat := 0x3004
abbrev pwrBusLostMs : Nat := 0x3005
abbrev pwrDwellMs : Nat := 0x3006
abbrev pwrBakEn : Nat := 0x3007
abbrev pwrBakVhost : Nat := 0x3008
abbrev pwrBakLowMv : Nat := 0x3009
abbrev pwrVhostEn : Nat := 0x300A
abbrev pwrVhostSet : Nat := 0x300B
abbrev lswMode (i : Nat) : Nat := 0x4000 + 0x40 * i
abbrev lswRestore (i : Nat) : Nat := 0x4001 + 0x40 * i
abbrev lswShedClass (i : Nat) : Nat := 0x4002 + 0x40 * i
abbrev lswPwmDiv (i : Nat) : Nat := 0x4003 + 0x40 * i
abbrev lswDuty (i : Nat) : Nat := 0x4004 + 0x40 * i
abbrev lswPhaseAuto (i : Nat) : Nat := 0x4005 + 0x40 * i
abbrev lswPhase (i : Nat) : Nat := 0x4006 + 0x40 * i
abbrev lswEdge (i : Nat) : Nat := 0x4007 + 0x40 * i
abbrev lswRange (i : Nat) : Nat := 0x4008 + 0x40 * i
abbrev lswOlMa (i : Nat) : Nat := 0x4009 + 0x40 * i
abbrev lswOlFiltMs (i : Nat) : Nat := 0x400A + 0x40 * i
abbrev lswOlAction (i : Nat) : Nat := 0x400B + 0x40 * i
abbrev lswPair (i : Nat) : Nat := 0x400C + 0x40 * i
abbrev lswIlim (i : Nat) : Nat := 0x4020 + 0x40 * i
abbrev lswIlimTUs (i : Nat) : Nat := 0x4021 + 0x40 * i
abbrev lswInrRetries (i : Nat) : Nat := 0x4022 + 0x40 * i
abbrev lswInrSpacingMs (i : Nat) : Nat := 0x4023 + 0x40 * i
abbrev lswInrWinMs (i : Nat) : Nat := 0x4024 + 0x40 * i
abbrev lswInrIlim (i : Nat) : Nat := 0x4025 + 0x40 * i
abbrev lswInrRearm (i : Nat) : Nat := 0x4026 + 0x40 * i
abbrev lswThMode (i : Nat) : Nat := 0x4027 + 0x40 * i
abbrev lswThMaxcyc (i : Nat) : Nat := 0x4028 + 0x40 * i
abbrev lswOrphan (i : Nat) : Nat := 0x4029 + 0x40 * i
abbrev lswClampGuard (i : Nat) : Nat := 0x402A + 0x40 * i
abbrev lswOnStaggerMs : Nat := 0x4400
abbrev lswStaggerAddr : Nat := 0x4401
abbrev lswOrphanS : Nat := 0x4410
abbrev lswEscCount : Nat := 0x4411
abbrev armEn (i : Nat) : Nat := 0x5000 + 0x100 * i
abbrev armAutostart (i : Nat) : Nat := 0x5001 + 0x100 * i
abbrev armVrefMv (i : Nat) : Nat := 0x5002 + 0x100 * i
abbrev armDivX1000 (i : Nat) : Nat := 0x5003 + 0x100 * i
abbrev armN (i : Nat) : Nat := 0x5004 + 0x100 * i
abbrev armPhase (i : Nat) : Nat := 0x5005 + 0x100 * i
abbrev armLNh (i : Nat) : Nat := 0x5006 + 0x100 * i
abbrev armRemuUohm (i : Nat) : Nat := 0x5007 + 0x100 * i
abbrev armSlew (i : Nat) : Nat := 0x5008 + 0x100 * i
abbrev armSsMs (i : Nat) : Nat := 0x5009 + 0x100 * i
abbrev armTrackSrc (i : Nat) : Nat := 0x500A + 0x100 * i
abbrev armTrackMode (i : Nat) : Nat := 0x500B + 0x100 * i
abbrev armTrkFullMv (i : Nat) : Nat := 0x500C + 0x100 * i
abbrev armBrakeEn (i : Nat) : Nat := 0x500D + 0x100 * i
abbrev armBrakePct (i : Nat) : Nat := 0x500E + 0x100 * i
abbrev armBrakeMaxUs (i : Nat) : Nat := 0x500F + 0x100 * i
abbrev armBalEn (i : Nat) : Nat := 0x5010 + 0x100 * i
abbrev armSinkEn (i : Nat) : Nat := 0x5011 + 0x100 * i
abbrev armScMa (i : Nat) : Nat := 0x5040 + 0x100 * i
abbrev armOlPhMa (i : Nat) : Nat := 0x5041 + 0x100 * i
abbrev armOlTMs (i : Nat) : Nat := 0x5042 + 0x100 * i
abbrev armOlRetryS (i : Nat) : Nat := 0x5043 + 0x100 * i
abbrev armOvPct (i : Nat) : Nat := 0x5044 + 0x100 * i
abbrev armUvPct (i : Nat) : Nat := 0x5045 + 0x100 * i
abbrev armUvTUs (i : Nat) : Nat := 0x5046 + 0x100 * i
abbrev armHiccupMs (i : Nat) : Nat := 0x5047 + 0x100 * i
abbrev armHiccupMax (i : Nat) : Nat := 0x5048 + 0x100 * i
abbrev armMinPh (i : Nat) : Nat := 0x5049 + 0x100 * i
abbrev armPhEn (i : Nat) : Nat := 0x5200 + 0x10 * i
abbrev armPhRsUohm (i : Nat) : Nat := 0x5201 + 0x10 * i
abbrev armPhSense (i : Nat) : Nat := 0x5202 + 0x10 * i
abbrev armMerge : Nat := 0x5300
abbrev armSyncMode : Nat := 0x5301
abbrev armSyncM : Nat := 0x5302
abbrev armStaggerAddr : Nat := 0x5303
abbrev lineFeederId : Nat := 0x6000
abbrev lineAddr : Nat := 0x6001
abbrev lineGroups : Nat := 0x6002
abbrev lineTxMv : Nat := 0x6003
abbrev linePilotMv : Nat := 0x6004
abbrev lineLaneEn : Nat := 0x6005
abbrev lineRetries : Nat := 0x6006
abbrev linePollS : Nat := 0x6007
abbrev lineNodeLostS : Nat := 0x6008
abbrev lineBcastRepeat : Nat := 0x6009
abbrev lineNotifyS : Nat := 0x600A
abbrev lineReasmS : Nat := 0x600B
abbrev linePilotHoldS : Nat := 0x600C
abbrev lineAlertGroups : Nat := 0x600D
abbrev lineShedFrom (i : Nat) : Nat := 0x6010 + i
abbrev lineDroopMv (i : Nat) : Nat := 0x6014 + i
abbrev lineDroopTMs : Nat := 0x6017
abbrev lineDroopRelMv : Nat := 0x6018
abbrev lineDroopRelS : Nat := 0x6019
abbrev lineDayStartH : Nat := 0x601A
abbrev tabEn : Nat := 0x7000
abbrev tabIndex : Nat := 0x7001
abbrev tabLeadPrio : Nat := 0x7002
abbrev tabAdopt : Nat := 0x7003
abbrev tabLostT : Nat := 0x7004
abbrev tabGangA : Nat := 0x7005
abbrev tabGangB : Nat := 0x7006
abbrev tabTerm : Nat := 0x7007
abbrev secLineTxSlot : Nat := 0x8000
abbrev secFieldKeys : Nat := 0x8001
abbrev secFwTrialS : Nat := 0x8002
abbrev secLocalRole : Nat := 0x8010
abbrev evtR0G (i : Nat) : Nat := 0x9000 + i
abbrev evtR1G (i : Nat) : Nat := 0x9010 + i
abbrev evtQG (i : Nat) : Nat := 0x9020 + i
abbrev evtLG (i : Nat) : Nat := 0x9030 + i
abbrev evtWG (i : Nat) : Nat := 0x9040 + i
abbrev evtQClr : Nat := 0x9050
abbrev evtFlushS : Nat := 0x9051
abbrev evtTrcPeriodMs : Nat := 0x9052
abbrev evtTrcSel (i : Nat) : Nat := 0x9053 + i
abbrev evtTrcTrig : Nat := 0x9057
abbrev evtTrcPrePct : Nat := 0x9058
abbrev evtStoLifeKj : Nat := 0x9059
abbrev evtPinRelease : Nat := 0x905A
abbrev evtPhReset : Nat := 0x905B
abbrev evtStoReset : Nat := 0x905C
abbrev sysMode : Nat := 0xA040
abbrev sysClkState : Nat := 0xA041
abbrev sysUptimeMs : Nat := 0xA042
abbrev sysTime : Nat := 0xA043
abbrev sysTimeValid : Nat := 0xA044
abbrev sysRtcTrimPpb : Nat := 0xA045
abbrev sysResetCause : Nat := 0xA046
abbrev sysWdtCount : Nat := 0xA047
abbrev sysBlockMaxUs (i : Nat) : Nat := 0xA048 + i
abbrev sysQuietMiss : Nat := 0xA04E
abbrev sysCamyxRx : Nat := 0xA050
abbrev sysCamyxErr : Nat := 0xA051
abbrev sysAuthFail : Nat := 0xA052
abbrev sysSessState : Nat := 0xA053
abbrev sysLifeState : Nat := 0xA060
abbrev sysClpRefMs : Nat := 0xA061
abbrev sysClpRetry : Nat := 0xA062
abbrev nrgEEstMj : Nat := 0xA100
abbrev nrgECntMj : Nat := 0xA101
abbrev nrgEVMj : Nat := 0xA102
abbrev nrgEResMj : Nat := 0xA103
abbrev nrgEAvailMj : Nat := 0xA104
abbrev nrgEFullMj : Nat := 0xA105
abbrev nrgCapMeas : Nat := 0xA106
abbrev nrgKeepMv : Nat := 0xA107
abbrev nrgSprigMv : Nat := 0xA108
abbrev nrgBunchMv : Nat := 0xA109
abbrev nrgGrantState : Nat := 0xA10A
abbrev nrgBaseDrainUw : Nat := 0xA10B
abbrev nrgRebaseCount : Nat := 0xA10C
abbrev nrgResRefused : Nat := 0xA10D
abbrev nrgFcState : Nat := 0xA10E
abbrev nrgStoThruJ : Nat := 0xA10F
abbrev hrvState : Nat := 0xA200
abbrev hrvTegVopUv : Nat := 0xA201
abbrev hrvVibVopMv : Nat := 0xA202
abbrev hrvPvVopMv : Nat := 0xA203
abbrev hrvTegPinUw : Nat := 0xA204
abbrev hrvVibPinUw : Nat := 0xA205
abbrev hrvPvPinUw : Nat := 0xA206
abbrev hrvNfcPinUw : Nat := 0xA207
abbrev hrvVhbMv : Nat := 0xA208
abbrev hrvColdstartSrc : Nat := 0xA209
abbrev hrvPoSkips : Nat := 0xA20A
abbrev hrvEInJ : Nat := 0xA20B
abbrev pwrPathState : Nat := 0xA300
abbrev pwrVbusMv : Nat := 0xA301
abbrev pwrStoMv : Nat := 0xA302
abbrev pwrStoMidMv : Nat := 0xA303
abbrev pwrBakMv : Nat := 0xA304
abbrev pwrBakUsedUah : Nat := 0xA305
abbrev pwrHoCount : Nat := 0xA306
abbrev pwrDumpCount : Nat := 0xA307
abbrev lswState (i : Nat) : Nat := 0xA400 + 0x8 * i
abbrev lswIMa (i : Nat) : Nat := 0xA401 + 0x8 * i
abbrev lswIonMa (i : Nat) : Nat := 0xA402 + 0x8 * i
abbrev lswIFlags (i : Nat) : Nat := 0xA403 + 0x8 * i
abbrev lswDutyNow (i : Nat) : Nat := 0xA404 + 0x8 * i
abbrev lswPhaseNow (i : Nat) : Nat := 0xA405 + 0x8 * i
abbrev lswEDayJ (i : Nat) : Nat := 0xA406 + 0x8 * i
abbrev lswETotWh (i : Nat) : Nat := 0xA407 + 0x8 * i
abbrev lswAlign : Nat := 0xA480
abbrev lswDemandMask : Nat := 0xA481
abbrev lswOutMask : Nat := 0xA482
abbrev lswProtState (i : Nat) : Nat := 0xA4A0 + 0x5 * i
abbrev lswIlimNow (i : Nat) : Nat := 0xA4A1 + 0x5 * i
abbrev lswTripCount (i : Nat) : Nat := 0xA4A2 + 0x5 * i
abbrev lswClampCount (i : Nat) : Nat := 0xA4A3 + 0x5 * i
abbrev lswTjC (i : Nat) : Nat := 0xA4A4 + 0x5 * i
abbrev lswDieState (i : Nat) : Nat := 0xA4F0 + 0x4 * i
abbrev lswDieTempC (i : Nat) : Nat := 0xA4F1 + 0x4 * i
abbrev lswDieFences (i : Nat) : Nat := 0xA4F2 + 0x4 * i
abbrev lswDieSumMa (i : Nat) : Nat := 0xA4F3 + 0x4 * i
abbrev armRailState (i : Nat) : Nat := 0xA5C0 + 0x8 * i
abbrev armVoutMv (i : Nat) : Nat := 0xA5C1 + 0x8 * i
abbrev armIoutMa (i : Nat) : Nat := 0xA5C2 + 0x8 * i
abbrev armFswHz (i : Nat) : Nat := 0xA5C3 + 0x8 * i
abbrev armLock (i : Nat) : Nat := 0xA5C4 + 0x8 * i
abbrev armPhRun (i : Nat) : Nat := 0xA5C5 + 0x8 * i
abbrev armVrefNowMv (i : Nat) : Nat := 0xA5C6 + 0x8 * i
abbrev armBrakeCount (i : Nat) : Nat := 0xA5C7 + 0x8 * i
abbrev armQuietSlots : Nat := 0xA5D0
abbrev armTbSrc : Nat := 0xA5D1
abbrev armFaultReason (i : Nat) : Nat := 0xA5D4 + 0x4 * i
abbrev armHiccupCount (i : Nat) : Nat := 0xA5D5 + 0x4 * i
abbrev armOlNowMa (i : Nat) : Nat := 0xA5D6 + 0x4 * i
abbrev armFaultCount (i : Nat) : Nat := 0xA5D7 + 0x4 * i
abbrev armPhIMa (i : Nat) : Nat := 0xA5E0 + 0x4 * i
abbrev armPhTrim (i : Nat) : Nat := 0xA5E1 + 0x4 * i
abbrev armPhFlags (i : Nat) : Nat := 0xA5E2 + 0x4 * i
abbrev armPhProt (i : Nat) : Nat := 0xA5E3 + 0x4 * i
abbrev lineState : Nat := 0xA600
abbrev lineLevelNow : Nat := 0xA601
abbrev lineLanesNow : Nat := 0xA602
abbrev lineModeNow : Nat := 0xA603
abbrev lineSnr : Nat := 0xA604
abbrev lineFseq : Nat := 0xA605
abbrev lineTxFrames : Nat := 0xA606
abbrev lineRxFrames : Nat := 0xA607
abbrev lineCrcErr : Nat := 0xA608
abbrev lineRetryCount : Nat := 0xA609
abbrev lineAllowWh (i : Nat) : Nat := 0xA610 + i
abbrev lineAllowHit : Nat := 0xA618
abbrev tabState : Nat := 0xA700
abbrev tabMembers : Nat := 0xA701
abbrev tabLeadIdx : Nat := 0xA702
abbrev tabAsideReason : Nat := 0xA703
abbrev tabFwMix : Nat := 0xA704
abbrev tabPtot : Nat := 0xA705
abbrev tabDevTrim : Nat := 0xA706
abbrev tabSkewMs : Nat := 0xA707
abbrev tabCrcErr : Nat := 0xA708
abbrev secSlotState : Nat := 0xA800
abbrev secFieldUw : Nat := 0xA801
abbrev secFwState : Nat := 0xA802
abbrev secFwOtherVer : Nat := 0xA803
abbrev secFwRollback : Nat := 0xA804
abbrev secSignkeyRevoked : Nat := 0xA805
abbrev secAttPub : Nat := 0xA806
abbrev secAttCert : Nat := 0xA807
abbrev secNfcSessions : Nat := 0xA808
abbrev evtStatG (i : Nat) : Nat := 0xA900 + i
abbrev evtFifoCount : Nat := 0xA910
abbrev evtEseq : Nat := 0xA911
abbrev evtLost : Nat := 0xA912
abbrev patinaSeq : Nat := 0xA913
abbrev patinaPinned : Nat := 0xA914
abbrev patinaSuppressed : Nat := 0xA915
abbrev traceState : Nat := 0xA916
abbrev evtWearDie (i : Nat) : Nat := 0xA920 + i
abbrev evtWearPh (i : Nat) : Nat := 0xA924 + i
abbrev evtWearSto : Nat := 0xA92C
abbrev evtWearNvm : Nat := 0xA92D
abbrev evtWearSteps : Nat := 0xA92E
abbrev gpioIn : Nat := 0xAB00
abbrev gpioDropped : Nat := 0xAB01
abbrev gpioMode (i : Nat) : Nat := 0xB000 + 0x10 * i
abbrev gpioMask (i : Nat) : Nat := 0xB001 + 0x10 * i
abbrev gpioPull (i : Nat) : Nat := 0xB002 + 0x10 * i
abbrev gpioDebounceMs (i : Nat) : Nat := 0xB003 + 0x10 * i
abbrev gpioInvert (i : Nat) : Nat := 0xB004 + 0x10 * i
abbrev gpioOut (i : Nat) : Nat := 0xB005 + 0x10 * i
end P

/-! ### The table -/

/-- Rows of the parameter tables, SYS_ROLE to SYS_SESS_IDLE_S in order of ID. -/
def rows0 : List PDesc :=
  [
   ⟨0x0000, 1, 1, 2, .owner, true, false, false, .span 0 2, fun _ _ _ => 0⟩,
   ⟨0x0001, 1, 1, 2, .read, false, false, false, .any, fun _ _ _ => 0⟩,
   ⟨0x0002, 1, 1, 2, .read, false, false, false, .any, fun _ _ _ => 0⟩,
   ⟨0x0003, 1, 1, 1, .read, false, false, false, .any, fun _ _ _ => 0⟩,
   ⟨0x0004, 1, 1, 16, .read, false, false, false, .any, fun _ _ _ => 0⟩,
   ⟨0x0005, 1, 1, 32, .read, false, false, false, .any, fun _ _ _ => 0⟩,
   ⟨0x0006, 1, 1, 16, .read, false, false, false, .any, fun _ _ _ => 0⟩,
   ⟨0x0007, 1, 1, 64, .read, false, false, false, .any, fun _ _ _ => 0⟩,
   ⟨0x0008, 1, 1, 7, .read, false, false, false, .any, fun _ _ _ => 0⟩,
   ⟨0x0010, 1, 1, 128, .operator, true, true, false, .any, fun _ _ _ => 0⟩,
   ⟨0x0020, 1, 1, 256, .read, false, false, false, .any, fun _ _ _ => 0⟩,
   ⟨0x0021, 1, 1, 256, .read, false, false, false, .any, fun _ _ _ => 0⟩,
   ⟨0x0022, 1, 1, 2, .read, false, false, false, .any, fun _ _ _ => 0⟩,
   ⟨0x0023, 1, 1, 32, .read, false, false, false, .any, fun _ _ _ => 0⟩,
   ⟨0x0024, 1, 1, 16, .read, false, false, false, .any, fun _ _ _ => 0⟩,
   ⟨0x0025, 1, 1, 16, .read, false, false, false, .any, fun _ _ _ => 0⟩,
   ⟨0x0026, 1, 1, 8, .read, false, false, false, .any, fun _ _ _ => 0⟩,
   ⟨0x0027, 1, 1, 32, .read, true, false, false, .any, fun _ _ _ => 0⟩,
   ⟨0x0028, 1, 1, 32, .read, true, false, false, .any, fun _ _ _ => 0⟩,
   ⟨0x0100, 1, 1, 16, .owner, true, false, false, .span 100 2000, fun _ _ _ => 250⟩,
   ⟨0x0101, 1, 1, 8, .owner, true, false, false, .span 2 16, fun _ _ _ => 4⟩,
   ⟨0x0102, 1, 1, 1, .owner, true, false, false, .any, fun _ _ _ => 1⟩,
   ⟨0x0103, 1, 1, 16, .operator, true, false, false, .span 2 1000, fun _ _ _ => 20⟩,
   ⟨0x0104, 1, 1, 32, .owner, true, false, false, .span 60 86400, fun _ _ _ => 600⟩,
   ⟨0x0105, 1, 1, 8, .operator, true, false, false, .span 0 127, fun _ _ _ => 0x7F⟩,
   ⟨0x0106, 1, 1, 16, .owner, true, false, false, .span 0 3650, fun _ _ _ => 0⟩,
   ⟨0x0110, 1, 1, 16, .owner, true, false, false, .span 0 30000, fun _ _ _ => 4000⟩,
   ⟨0x0200, 1, 1, 32, .owner, true, false, false, .only [9600, 19200, 38400, 57600, 115200, 230400, 460800, 921600], fun _ _ _ => 115200⟩,
   ⟨0x0201, 1, 1, 3, .owner, true, false, false, .any, fun _ _ _ => 0b111⟩,
   ⟨0x0202, 1, 1, 16, .owner, true, false, false, .span 10 3600, fun _ _ _ => 300⟩]

/-- Rows of the parameter tables, NRG_KEEP_MJ to HRV_VIB_MODE in order of ID. -/
def rows1 : List PDesc :=
  [
   ⟨0x1000, 1, 1, 32, .owner, true, false, false, .any, fun _ _ _ => 2430⟩,
   ⟨0x1001, 1, 1, 32, .owner, true, false, false, .any, fun _ _ _ => 2930⟩,
   ⟨0x1002, 1, 1, 32, .owner, true, false, false, .any, fun _ _ _ => 6430⟩,
   ⟨0x1003, 1, 1, 16, .owner, true, false, false, .span 100 25000, fun _ _ _ => 1500⟩,
   ⟨0x1004, 1, 1, 16, .owner, true, false, false, .span 50 3000, fun _ _ _ => 1000⟩,
   ⟨0x1005, 1, 1, 16, .owner, true, false, false, .span 0 2000, fun _ _ _ => 100⟩,
   ⟨0x1006, 1, 1, 1, .owner, true, false, false, .any, fun _ _ _ => 1⟩,
   ⟨0x1007, 1, 1, 1, .owner, true, false, false, .any, fun _ _ _ => 1⟩,
   ⟨0x1008, 1, 1, 16, .operator, true, false, false, .zeroOr 100 60000, fun _ _ _ => 10000⟩,
   ⟨0x1009, 1, 1, 8, .owner, true, false, false, .span 1 255, fun _ _ _ => 10⟩,
   ⟨0x100A, 1, 1, 16, .owner, true, false, false, .span 10 5000, fun _ _ _ => 100⟩,
   ⟨0x100B, 1, 1, 1, .owner, true, false, false, .any, fun _ _ _ => 1⟩,
   ⟨0x100C, 1, 1, 8, .owner, true, false, false, .span 0 200, fun _ _ _ => 20⟩,
   ⟨0x1010, 1, 1, 1, .owner, true, false, false, .any, fun _ _ _ => 0⟩,
   ⟨0x1011, 1, 1, 8, .owner, true, false, false, .span 1 12, fun _ _ _ => 2⟩,
   ⟨0x1012, 1, 1, 8, .owner, true, false, false, .span 10 100, fun _ _ _ => 50⟩,
   ⟨0x1013, 1, 1, 16, .owner, true, false, false, .span 0 60000, fun _ _ _ => 1000⟩,
   ⟨0x1014, 1, 1, 8, .owner, true, false, false, .signed (-48) 56, fun _ _ _ => 0⟩,
   ⟨0x1015, 1, 1, 8, .owner, true, false, false, .span 2 16, fun _ _ _ => 4⟩,
   ⟨0x1016, 1, 1, 8, .owner, true, false, false, .span 1 8, fun _ _ _ => 2⟩,
   ⟨0x1017, 1, 1, 1, .owner, false, false, false, .any, fun _ _ _ => 0⟩,
   ⟨0x1100, 168, 1, 16, .read, true, false, false, .any, fun _ _ _ => 0⟩,
   ⟨0x2000, 1, 1, 1, .owner, true, false, false, .any, fun r _ _ => if r = .plant then 1 else 0⟩,
   ⟨0x2001, 1, 1, 8, .owner, true, false, false, .span 10 100, fun _ _ _ => 40⟩,
   ⟨0x2002, 1, 1, 16, .owner, true, false, false, .span 20 10000, fun _ _ _ => 2000⟩,
   ⟨0x2003, 1, 1, 8, .owner, true, false, false, .span 1 32, fun _ _ _ => 8⟩,
   ⟨0x2004, 1, 1, 16, .owner, true, false, false, .zeroOr 10 3600, fun _ _ _ => 60⟩,
   ⟨0x2005, 1, 1, 1, .owner, true, false, false, .any, fun _ _ _ => 1⟩,
   ⟨0x2010, 1, 1, 1, .owner, true, false, false, .any, fun r _ _ => if r = .plant then 1 else 0⟩,
   ⟨0x2011, 1, 1, 1, .owner, true, false, false, .any, fun _ _ _ => 0⟩]

/-- Rows of the parameter tables, HRV_VIB_VMAX_MV to LSW_PHASE in order of ID. -/
def rows2 : List PDesc :=
  [
   ⟨0x2012, 1, 1, 16, .owner, true, false, false, .span 3000 22000, fun _ _ _ => 14000⟩,
   ⟨0x2013, 1, 1, 16, .owner, true, false, false, .span 20 10000, fun _ _ _ => 500⟩,
   ⟨0x2014, 1, 1, 8, .owner, true, false, false, .span 1 32, fun _ _ _ => 16⟩,
   ⟨0x2015, 1, 1, 16, .owner, true, false, false, .zeroOr 10 3600, fun _ _ _ => 60⟩,
   ⟨0x2020, 1, 1, 1, .owner, true, false, false, .any, fun r _ _ => if r = .home then 1 else 0⟩,
   ⟨0x2021, 1, 1, 8, .owner, true, false, false, .span 10 150, fun _ _ _ => 150⟩,
   ⟨0x2022, 1, 1, 16, .owner, true, false, false, .span 20 10000, fun _ _ _ => 250⟩,
   ⟨0x2023, 1, 1, 8, .owner, true, false, false, .span 1 32, fun _ _ _ => 4⟩,
   ⟨0x2024, 1, 1, 16, .owner, true, false, false, .zeroOr 10 3600, fun _ _ _ => 60⟩,
   ⟨0x2030, 1, 1, 1, .owner, true, false, false, .any, fun _ _ _ => 1⟩,
   ⟨0x2040, 1, 1, 8, .owner, true, false, false, .span 0 50, fun _ _ _ => 5⟩,
   ⟨0x3000, 1, 1, 2, .read, false, false, false, .any, fun _ _ _ => 0⟩,
   ⟨0x3001, 1, 1, 16, .owner, true, false, false, .stoVmax, fun _ t _ => stoVmaxDefault t⟩,
   ⟨0x3002, 1, 1, 16, .owner, true, false, false, .stoFloor, fun _ t _ => stoFloorDefault t⟩,
   ⟨0x3003, 1, 1, 8, .operator, true, false, false, .steps 5 60 5, fun _ _ _ => 30⟩,
   ⟨0x3004, 1, 1, 1, .owner, true, false, false, .any, fun _ _ _ => 1⟩,
   ⟨0x3005, 1, 1, 8, .owner, true, false, false, .span 10 250, fun _ _ _ => 50⟩,
   ⟨0x3006, 1, 1, 16, .owner, true, false, false, .span 200 5000, fun _ _ _ => 200⟩,
   ⟨0x3007, 1, 1, 1, .owner, true, false, false, .any, fun _ _ _ => 1⟩,
   ⟨0x3008, 1, 1, 1, .owner, true, false, false, .any, fun _ _ _ => 0⟩,
   ⟨0x3009, 1, 1, 16, .owner, true, false, false, .span 2300 3600, fun _ _ _ => 2700⟩,
   ⟨0x300A, 1, 1, 1, .operator, true, false, false, .any, fun r _ _ => if r = .home then 0 else 1⟩,
   ⟨0x300B, 1, 1, 8, .operator, true, false, false, .span 18 36, fun _ _ _ => 33⟩,
   ⟨0x4000, 16, 64, 2, .owner, true, false, false, .span 0 2, fun _ _ _ => 1⟩,
   ⟨0x4001, 16, 64, 2, .operator, true, false, false, .span 0 2, fun _ _ _ => 1⟩,
   ⟨0x4002, 16, 64, 3, .owner, true, false, false, .any, fun _ _ _ => 4⟩,
   ⟨0x4003, 16, 64, 16, .operator, true, false, false, .pwmDiv, fun _ _ _ => 40⟩,
   ⟨0x4004, 16, 64, 10, .operator, true, false, false, .any, fun _ _ _ => 512⟩,
   ⟨0x4005, 16, 64, 1, .operator, true, false, false, .any, fun _ _ _ => 1⟩,
   ⟨0x4006, 16, 64, 6, .operator, true, false, false, .any, fun _ _ _ => 0⟩]

/-- Rows of the parameter tables, LSW_EDGE to ARM_SLEW in order of ID. -/
def rows3 : List PDesc :=
  [
   ⟨0x4007, 16, 64, 1, .owner, true, false, false, .any, fun _ _ _ => 0⟩,
   ⟨0x4008, 16, 64, 2, .operator, true, false, false, .span 0 2, fun _ _ _ => 0⟩,
   ⟨0x4009, 16, 64, 16, .operator, true, false, false, .zeroOr 10 1000, fun _ _ _ => 0⟩,
   ⟨0x400A, 16, 64, 16, .operator, true, false, false, .span 10 10000, fun _ _ _ => 500⟩,
   ⟨0x400B, 16, 64, 1, .operator, true, false, false, .any, fun _ _ _ => 0⟩,
   ⟨0x400C, 16, 64, 1, .owner, true, false, true, .evenOnly, fun _ _ _ => 0⟩,
   ⟨0x4020, 16, 64, 8, .owner, true, false, false, .span 4 48, fun _ _ _ => 24⟩,
   ⟨0x4021, 16, 64, 16, .owner, true, false, false, .span 100 20000, fun _ _ _ => 1000⟩,
   ⟨0x4022, 16, 64, 4, .owner, true, false, false, .any, fun _ _ _ => 3⟩,
   ⟨0x4023, 16, 64, 8, .owner, true, false, false, .span 1 50, fun _ _ _ => 10⟩,
   ⟨0x4024, 16, 64, 16, .owner, true, false, false, .span 100 4000, fun _ _ _ => 500⟩,
   ⟨0x4025, 16, 64, 8, .owner, true, false, false, .span 4 48, fun _ _ _ => 48⟩,
   ⟨0x4026, 16, 64, 1, .owner, true, false, false, .any, fun _ _ _ => 1⟩,
   ⟨0x4027, 16, 64, 1, .owner, true, false, false, .any, fun _ _ _ => 0⟩,
   ⟨0x4028, 16, 64, 8, .owner, true, false, false, .span 1 50, fun _ _ _ => 10⟩,
   ⟨0x4029, 16, 64, 1, .owner, true, false, false, .any, fun _ _ _ => 0⟩,
   ⟨0x402A, 16, 64, 1, .owner, true, false, false, .any, fun _ _ _ => 1⟩,
   ⟨0x4400, 1, 1, 8, .owner, true, false, false, .span 0 20, fun _ _ _ => 2⟩,
   ⟨0x4401, 1, 1, 1, .owner, true, false, false, .any, fun _ _ _ => 1⟩,
   ⟨0x4410, 1, 1, 16, .owner, true, false, false, .span 5 3600, fun _ _ _ => 60⟩,
   ⟨0x4411, 1, 1, 8, .owner, true, false, false, .span 2 32, fun _ _ _ => 8⟩,
   ⟨0x5000, 2, 256, 1, .owner, true, false, true, .any, fun r _ _ => if r = .home then 1 else 0⟩,
   ⟨0x5001, 2, 256, 1, .owner, true, false, false, .any, fun r _ _ => if r = .home then 1 else 0⟩,
   ⟨0x5002, 2, 256, 16, .operator, true, false, false, .span 300 1200, fun _ _ _ => 1000⟩,
   ⟨0x5003, 2, 256, 16, .owner, true, false, true, .span 1000 60000, fun r _ i => if r = .home then (if i = 0 then 12000 else 5000) else 1000⟩,
   ⟨0x5004, 2, 256, 8, .owner, true, false, true, .span 25 125, fun _ _ _ => 40⟩,
   ⟨0x5005, 2, 256, 6, .owner, true, false, false, .any, fun _ _ i => 16 * i⟩,
   ⟨0x5006, 2, 256, 16, .owner, true, false, true, .span 100 65000, fun _ _ _ => 10000⟩,
   ⟨0x5007, 2, 256, 16, .owner, true, false, false, .span 200 60000, fun _ _ _ => 6000⟩,
   ⟨0x5008, 2, 256, 16, .operator, true, false, false, .span 1 1000, fun _ _ _ => 100⟩]

/-- Rows of the parameter tables, ARM_SS_MS to LINE_TX_MV in order of ID. -/
def rows4 : List PDesc :=
  [
   ⟨0x5009, 2, 256, 16, .owner, true, false, false, .span 5 2000, fun _ _ _ => 100⟩,
   ⟨0x500A, 2, 256, 2, .owner, true, false, true, .span 0 2, fun _ _ _ => 0⟩,
   ⟨0x500B, 2, 256, 1, .owner, true, false, true, .any, fun _ _ _ => 0⟩,
   ⟨0x500C, 2, 256, 16, .owner, true, false, false, .span 300 1200, fun _ _ _ => 1000⟩,
   ⟨0x500D, 2, 256, 1, .owner, true, false, false, .any, fun _ _ _ => 1⟩,
   ⟨0x500E, 2, 256, 4, .owner, true, false, false, .span 1 10, fun _ _ _ => 3⟩,
   ⟨0x500F, 2, 256, 8, .owner, true, false, false, .span 1 100, fun _ _ _ => 20⟩,
   ⟨0x5010, 2, 256, 1, .owner, true, false, false, .any, fun _ _ _ => 1⟩,
   ⟨0x5011, 2, 256, 1, .owner, true, false, true, .any, fun _ _ _ => 1⟩,
   ⟨0x5040, 2, 256, 16, .owner, true, false, false, .span 1000 60000, fun _ _ _ => 15000⟩,
   ⟨0x5041, 2, 256, 16, .owner, true, false, false, .span 500 48000, fun _ _ _ => 10000⟩,
   ⟨0x5042, 2, 256, 16, .owner, true, false, false, .span 1 10000, fun _ _ _ => 100⟩,
   ⟨0x5043, 2, 256, 16, .owner, true, false, false, .zeroOr 1 3600, fun _ _ _ => 0⟩,
   ⟨0x5044, 2, 256, 8, .owner, true, false, false, .span 105 130, fun _ _ _ => 115⟩,
   ⟨0x5045, 2, 256, 8, .owner, true, false, false, .span 50 95, fun _ _ _ => 80⟩,
   ⟨0x5046, 2, 256, 16, .owner, true, false, false, .span 10 10000, fun _ _ _ => 100⟩,
   ⟨0x5047, 2, 256, 16, .owner, true, false, false, .span 10 10000, fun _ _ _ => 500⟩,
   ⟨0x5048, 2, 256, 4, .owner, true, false, false, .any, fun _ _ _ => 5⟩,
   ⟨0x5049, 2, 256, 4, .owner, true, false, false, .span 1 8, fun _ _ _ => 1⟩,
   ⟨0x5200, 8, 16, 1, .owner, true, false, true, .any, fun r _ i => if r = .home ∧ (i < 3 ∨ i = 4) then 1 else 0⟩,
   ⟨0x5201, 8, 16, 16, .owner, true, false, true, .span 100 50000, fun _ _ _ => 2000⟩,
   ⟨0x5202, 8, 16, 1, .owner, true, false, true, .any, fun _ _ _ => 0⟩,
   ⟨0x5300, 1, 1, 1, .owner, true, false, true, .any, fun _ _ _ => 0⟩,
   ⟨0x5301, 1, 1, 2, .owner, true, false, true, .span 0 2, fun _ _ _ => 0⟩,
   ⟨0x5302, 1, 1, 8, .owner, true, false, false, .span 1 125, fun _ _ _ => 1⟩,
   ⟨0x5303, 1, 1, 1, .owner, true, false, false, .any, fun _ _ _ => 1⟩,
   ⟨0x6000, 1, 1, 16, .owner, true, false, false, .any, fun _ _ _ => 0xFFFF⟩,
   ⟨0x6001, 1, 1, 8, .owner, true, true, false, .lineAddr, fun _ _ _ => 0xFF⟩,
   ⟨0x6002, 1, 1, 4, .operator, true, false, false, .any, fun _ _ _ => 0⟩,
   ⟨0x6003, 1, 1, 16, .owner, true, false, false, .span 200 4000, fun _ _ _ => 1500⟩]

/-- Rows of the parameter tables, LINE_PILOT_MV to EVT_R1_G in order of ID. -/
def rows5 : List PDesc :=
  [
   ⟨0x6004, 1, 1, 16, .owner, true, false, false, .span 500 6000, fun _ _ _ => 2000⟩,
   ⟨0x6005, 1, 1, 4, .owner, true, false, false, .span 1 15, fun _ _ _ => 0xF⟩,
   ⟨0x6006, 1, 1, 4, .owner, true, false, false, .span 1 15, fun _ _ _ => 4⟩,
   ⟨0x6007, 1, 1, 16, .operator, true, false, false, .span 5 3600, fun _ _ _ => 30⟩,
   ⟨0x6008, 1, 1, 16, .owner, true, false, false, .span 30 3600, fun _ _ _ => 120⟩,
   ⟨0x6009, 1, 1, 2, .owner, true, false, false, .span 1 3, fun _ _ _ => 2⟩,
   ⟨0x600A, 1, 1, 32, .operator, true, false, false, .zeroOr 60 86400, fun _ _ _ => 0⟩,
   ⟨0x600B, 1, 1, 8, .owner, true, false, false, .span 2 30, fun _ _ _ => 5⟩,
   ⟨0x600C, 1, 1, 16, .owner, true, false, false, .span 0 3600, fun _ _ _ => 60⟩,
   ⟨0x600D, 1, 1, 16, .operator, true, false, false, .any, fun _ _ _ => 0x4330⟩,
   ⟨0x6010, 3, 1, 3, .owner, true, false, false, .any, fun _ _ i => if i = 0 then 6 else if i = 1 then 4 else 1⟩,
   ⟨0x6014, 3, 1, 16, .owner, true, false, false, .any, fun _ _ i => 44000 - 2000 * i⟩,
   ⟨0x6017, 1, 1, 16, .owner, true, false, false, .span 100 1000, fun _ _ _ => 500⟩,
   ⟨0x6018, 1, 1, 16, .owner, true, false, false, .span 200 5000, fun _ _ _ => 1000⟩,
   ⟨0x6019, 1, 1, 8, .owner, true, false, false, .span 1 255, fun _ _ _ => 10⟩,
   ⟨0x601A, 1, 1, 5, .operator, true, false, false, .span 0 23, fun _ _ _ => 6⟩,
   ⟨0x7000, 1, 1, 1, .owner, true, true, false, .any, fun _ _ _ => 0⟩,
   ⟨0x7001, 1, 1, 3, .owner, true, true, false, .any, fun _ _ _ => 0⟩,
   ⟨0x7002, 1, 1, 4, .owner, true, true, false, .any, fun _ _ _ => 8⟩,
   ⟨0x7003, 1, 1, 1, .owner, true, true, false, .any, fun _ _ _ => 1⟩,
   ⟨0x7004, 1, 1, 16, .owner, true, false, false, .span 500 30000, fun _ _ _ => 3000⟩,
   ⟨0x7005, 1, 1, 8, .owner, true, false, true, .any, fun _ _ _ => 0⟩,
   ⟨0x7006, 1, 1, 8, .owner, true, false, true, .any, fun _ _ _ => 0⟩,
   ⟨0x7007, 1, 1, 1, .owner, true, true, false, .any, fun _ _ _ => 0⟩,
   ⟨0x8000, 1, 1, 1, .owner, true, false, false, .any, fun _ _ _ => 0⟩,
   ⟨0x8001, 1, 1, 1, .owner, true, true, false, .any, fun _ _ _ => 1⟩,
   ⟨0x8002, 1, 1, 32, .owner, true, false, false, .span 600 604800, fun _ _ _ => 3600⟩,
   ⟨0x8010, 1, 1, 1, .owner, true, false, false, .any, fun _ _ _ => 0⟩,
   ⟨0x9000, 16, 1, 16, .operator, true, false, false, .any, fun _ _ i => evtR0Default i⟩,
   ⟨0x9010, 16, 1, 16, .operator, true, false, false, .any, fun _ _ i => evtR1Default i⟩]

/-- Rows of the parameter tables, EVT_Q_G to SYS_CLP_RETRY in order of ID. -/
def rows6 : List PDesc :=
  [
   ⟨0x9020, 16, 1, 16, .operator, true, false, false, .any, fun _ _ i => evtQDefault i⟩,
   ⟨0x9030, 16, 1, 16, .owner, true, false, false, .any, fun _ _ i => evtLDefault i⟩,
   ⟨0x9040, 16, 1, 16, .operator, true, false, false, .any, fun _ _ i => evtWDefault i⟩,
   ⟨0x9050, 1, 1, 1, .operator, true, false, false, .any, fun _ _ _ => 0⟩,
   ⟨0x9051, 1, 1, 16, .owner, true, false, false, .span 60 3600, fun _ _ _ => 600⟩,
   ⟨0x9052, 1, 1, 16, .operator, true, false, false, .span 1 1000, fun _ _ _ => 10⟩,
   ⟨0x9053, 4, 1, 16, .operator, true, false, false, .traceSel, fun _ _ _ => 0⟩,
   ⟨0x9057, 1, 1, 16, .operator, true, false, false, .traceTrig, fun _ _ _ => 0⟩,
   ⟨0x9058, 1, 1, 7, .operator, true, false, false, .span 0 100, fun _ _ _ => 75⟩,
   ⟨0x9059, 1, 1, 32, .owner, true, false, false, .any, fun _ t _ => if t = .sc1 ∨ t = .sc2 then 9375000 else 49000⟩,
   ⟨0x905A, 1, 1, 32, .owner, false, false, false, .any, fun _ _ _ => 0⟩,
   ⟨0x905B, 1, 1, 8, .owner, false, false, false, .any, fun _ _ _ => 0⟩,
   ⟨0x905C, 1, 1, 1, .owner, false, false, false, .any, fun _ _ _ => 0⟩,
   ⟨0xA040, 1, 1, 3, .read, false, false, false, .any, fun _ _ _ => 0⟩,
   ⟨0xA041, 1, 1, 8, .read, false, false, false, .any, fun _ _ _ => 0⟩,
   ⟨0xA042, 1, 1, 32, .read, false, false, false, .any, fun _ _ _ => 0⟩,
   ⟨0xA043, 1, 1, 32, .read, false, false, false, .any, fun _ _ _ => 0⟩,
   ⟨0xA044, 1, 1, 1, .read, false, false, false, .any, fun _ _ _ => 0⟩,
   ⟨0xA045, 1, 1, 32, .read, true, false, false, .any, fun _ _ _ => 0⟩,
   ⟨0xA046, 1, 1, 8, .read, false, false, false, .any, fun _ _ _ => 0⟩,
   ⟨0xA047, 1, 1, 16, .read, true, false, false, .any, fun _ _ _ => 0⟩,
   ⟨0xA048, 6, 1, 32, .read, false, false, false, .any, fun _ _ _ => 0⟩,
   ⟨0xA04E, 1, 1, 32, .read, false, false, false, .any, fun _ _ _ => 0⟩,
   ⟨0xA050, 1, 1, 32, .read, false, false, false, .any, fun _ _ _ => 0⟩,
   ⟨0xA051, 1, 1, 32, .read, false, false, false, .any, fun _ _ _ => 0⟩,
   ⟨0xA052, 1, 1, 16, .read, true, false, false, .any, fun _ _ _ => 0⟩,
   ⟨0xA053, 1, 1, 8, .read, false, false, false, .any, fun _ _ _ => 0⟩,
   ⟨0xA060, 1, 1, 4, .read, false, false, false, .any, fun _ _ _ => 0⟩,
   ⟨0xA061, 1, 1, 32, .read, false, false, false, .any, fun _ _ _ => 0⟩,
   ⟨0xA062, 1, 1, 2, .read, false, false, false, .any, fun _ _ _ => 0⟩]

/-- Rows of the parameter tables, NRG_E_EST_MJ to PWR_VBUS_MV in order of ID. -/
def rows7 : List PDesc :=
  [
   ⟨0xA100, 1, 1, 32, .read, false, false, false, .any, fun _ _ _ => 0⟩,
   ⟨0xA101, 1, 1, 32, .read, false, false, false, .any, fun _ _ _ => 0⟩,
   ⟨0xA102, 1, 1, 32, .read, false, false, false, .any, fun _ _ _ => 0⟩,
   ⟨0xA103, 1, 1, 32, .read, false, false, false, .any, fun _ _ _ => 0⟩,
   ⟨0xA104, 1, 1, 32, .read, false, false, false, .any, fun _ _ _ => 0⟩,
   ⟨0xA105, 1, 1, 32, .read, false, false, false, .any, fun _ _ _ => 0⟩,
   ⟨0xA106, 1, 1, 16, .read, true, false, false, .any, fun _ _ _ => 0⟩,
   ⟨0xA107, 1, 1, 16, .read, false, false, false, .any, fun _ _ _ => 0⟩,
   ⟨0xA108, 1, 1, 16, .read, false, false, false, .any, fun _ _ _ => 0⟩,
   ⟨0xA109, 1, 1, 16, .read, false, false, false, .any, fun _ _ _ => 0⟩,
   ⟨0xA10A, 1, 1, 8, .read, false, false, false, .any, fun _ _ _ => 0⟩,
   ⟨0xA10B, 1, 1, 32, .read, false, false, false, .any, fun _ _ _ => 0⟩,
   ⟨0xA10C, 1, 1, 16, .read, true, false, false, .any, fun _ _ _ => 0⟩,
   ⟨0xA10D, 1, 1, 16, .read, true, false, false, .any, fun _ _ _ => 0⟩,
   ⟨0xA10E, 1, 1, 8, .read, false, false, false, .any, fun _ _ _ => 0⟩,
   ⟨0xA10F, 1, 1, 32, .read, true, false, false, .any, fun _ _ _ => 0⟩,
   ⟨0xA200, 1, 1, 8, .read, false, false, false, .any, fun _ _ _ => 0⟩,
   ⟨0xA201, 1, 1, 32, .read, false, false, false, .any, fun _ _ _ => 0⟩,
   ⟨0xA202, 1, 1, 16, .read, false, false, false, .any, fun _ _ _ => 0⟩,
   ⟨0xA203, 1, 1, 16, .read, false, false, false, .any, fun _ _ _ => 0⟩,
   ⟨0xA204, 1, 1, 32, .read, false, false, false, .any, fun _ _ _ => 0⟩,
   ⟨0xA205, 1, 1, 32, .read, false, false, false, .any, fun _ _ _ => 0⟩,
   ⟨0xA206, 1, 1, 32, .read, false, false, false, .any, fun _ _ _ => 0⟩,
   ⟨0xA207, 1, 1, 16, .read, false, false, false, .any, fun _ _ _ => 0⟩,
   ⟨0xA208, 1, 1, 16, .read, false, false, false, .any, fun _ _ _ => 0⟩,
   ⟨0xA209, 1, 1, 4, .read, true, false, false, .any, fun _ _ _ => 0⟩,
   ⟨0xA20A, 1, 1, 32, .read, true, false, false, .any, fun _ _ _ => 0⟩,
   ⟨0xA20B, 1, 1, 32, .read, true, false, false, .any, fun _ _ _ => 0⟩,
   ⟨0xA300, 1, 1, 3, .read, false, false, false, .any, fun _ _ _ => 0⟩,
   ⟨0xA301, 1, 1, 32, .read, false, false, false, .any, fun _ _ _ => 0⟩]

/-- Rows of the parameter tables, PWR_STO_MV to ARM_FSW_HZ in order of ID. -/
def rows8 : List PDesc :=
  [
   ⟨0xA302, 1, 1, 16, .read, false, false, false, .any, fun _ _ _ => 0⟩,
   ⟨0xA303, 1, 1, 16, .read, false, false, false, .any, fun _ _ _ => 0⟩,
   ⟨0xA304, 1, 1, 16, .read, false, false, false, .any, fun _ _ _ => 0⟩,
   ⟨0xA305, 1, 1, 32, .read, true, false, false, .any, fun _ _ _ => 0⟩,
   ⟨0xA306, 1, 1, 32, .read, true, false, false, .any, fun _ _ _ => 0⟩,
   ⟨0xA307, 1, 1, 32, .read, true, false, false, .any, fun _ _ _ => 0⟩,
   ⟨0xA400, 16, 8, 8, .read, false, false, false, .any, fun _ _ _ => 0⟩,
   ⟨0xA401, 16, 8, 16, .read, false, false, false, .any, fun _ _ _ => 0⟩,
   ⟨0xA402, 16, 8, 16, .read, false, false, false, .any, fun _ _ _ => 0⟩,
   ⟨0xA403, 16, 8, 8, .read, false, false, false, .any, fun _ _ _ => 0⟩,
   ⟨0xA404, 16, 8, 10, .read, false, false, false, .any, fun _ _ _ => 0⟩,
   ⟨0xA405, 16, 8, 6, .read, false, false, false, .any, fun _ _ _ => 0⟩,
   ⟨0xA406, 16, 8, 32, .read, true, false, false, .any, fun _ _ _ => 0⟩,
   ⟨0xA407, 16, 8, 32, .read, true, false, false, .any, fun _ _ _ => 0⟩,
   ⟨0xA480, 1, 1, 8, .read, false, false, false, .any, fun _ _ _ => 0⟩,
   ⟨0xA481, 1, 1, 16, .read, false, false, false, .any, fun _ _ _ => 0⟩,
   ⟨0xA482, 1, 1, 16, .read, false, false, false, .any, fun _ _ _ => 0⟩,
   ⟨0xA4A0, 16, 5, 8, .read, false, false, false, .any, fun _ _ _ => 0⟩,
   ⟨0xA4A1, 16, 5, 8, .read, false, false, false, .any, fun _ _ _ => 0⟩,
   ⟨0xA4A2, 16, 5, 32, .read, true, false, false, .any, fun _ _ _ => 0⟩,
   ⟨0xA4A3, 16, 5, 32, .read, true, false, false, .any, fun _ _ _ => 0⟩,
   ⟨0xA4A4, 16, 5, 16, .read, false, false, false, .any, fun _ _ _ => 0⟩,
   ⟨0xA4F0, 4, 4, 8, .read, false, false, false, .any, fun _ _ _ => 0⟩,
   ⟨0xA4F1, 4, 4, 16, .read, false, false, false, .any, fun _ _ _ => 0⟩,
   ⟨0xA4F2, 4, 4, 8, .read, true, false, false, .any, fun _ _ _ => 0⟩,
   ⟨0xA4F3, 4, 4, 16, .read, false, false, false, .any, fun _ _ _ => 0⟩,
   ⟨0xA5C0, 2, 8, 3, .read, false, false, false, .any, fun _ _ _ => 0⟩,
   ⟨0xA5C1, 2, 8, 16, .read, false, false, false, .any, fun _ _ _ => 0⟩,
   ⟨0xA5C2, 2, 8, 32, .read, false, false, false, .any, fun _ _ _ => 0⟩,
   ⟨0xA5C3, 2, 8, 32, .read, false, false, false, .any, fun _ _ _ => 0⟩]

/-- Rows of the parameter tables, ARM_LOCK to TAB_ASIDE_REASON in order of ID. -/
def rows9 : List PDesc :=
  [
   ⟨0xA5C4, 2, 8, 8, .read, false, false, false, .any, fun _ _ _ => 0⟩,
   ⟨0xA5C5, 2, 8, 8, .read, false, false, false, .any, fun _ _ _ => 0⟩,
   ⟨0xA5C6, 2, 8, 16, .read, false, false, false, .any, fun _ _ _ => 0⟩,
   ⟨0xA5C7, 2, 8, 32, .read, true, false, false, .any, fun _ _ _ => 0⟩,
   ⟨0xA5D0, 1, 1, 8, .read, false, false, false, .any, fun _ _ _ => 0⟩,
   ⟨0xA5D1, 1, 1, 2, .read, false, false, false, .any, fun _ _ _ => 0⟩,
   ⟨0xA5D4, 2, 4, 8, .read, false, false, false, .any, fun _ _ _ => 0⟩,
   ⟨0xA5D5, 2, 4, 4, .read, false, false, false, .any, fun _ _ _ => 0⟩,
   ⟨0xA5D6, 2, 4, 32, .read, false, false, false, .any, fun _ _ _ => 0⟩,
   ⟨0xA5D7, 2, 4, 32, .read, true, false, false, .any, fun _ _ _ => 0⟩,
   ⟨0xA5E0, 8, 4, 32, .read, false, false, false, .any, fun _ _ _ => 0⟩,
   ⟨0xA5E1, 8, 4, 16, .read, false, false, false, .any, fun _ _ _ => 0⟩,
   ⟨0xA5E2, 8, 4, 8, .read, false, false, false, .any, fun _ _ _ => 0⟩,
   ⟨0xA5E3, 8, 4, 8, .read, false, false, false, .any, fun _ _ _ => 0⟩,
   ⟨0xA600, 1, 1, 8, .read, false, false, false, .any, fun _ _ _ => 0⟩,
   ⟨0xA601, 1, 1, 8, .read, false, false, false, .any, fun _ _ _ => 0⟩,
   ⟨0xA602, 1, 1, 4, .read, false, false, false, .any, fun _ _ _ => 0⟩,
   ⟨0xA603, 1, 1, 2, .read, false, false, false, .any, fun _ _ _ => 0⟩,
   ⟨0xA604, 1, 1, 32, .read, false, false, false, .any, fun _ _ _ => 0⟩,
   ⟨0xA605, 1, 1, 16, .read, false, false, false, .any, fun _ _ _ => 0⟩,
   ⟨0xA606, 1, 1, 32, .read, true, false, false, .any, fun _ _ _ => 0⟩,
   ⟨0xA607, 1, 1, 32, .read, true, false, false, .any, fun _ _ _ => 0⟩,
   ⟨0xA608, 1, 1, 32, .read, true, false, false, .any, fun _ _ _ => 0⟩,
   ⟨0xA609, 1, 1, 32, .read, true, false, false, .any, fun _ _ _ => 0⟩,
   ⟨0xA610, 8, 1, 32, .read, true, false, false, .any, fun _ _ _ => 0⟩,
   ⟨0xA618, 1, 1, 8, .read, false, false, false, .any, fun _ _ _ => 0⟩,
   ⟨0xA700, 1, 1, 8, .read, false, false, false, .any, fun _ _ _ => 0⟩,
   ⟨0xA701, 1, 1, 8, .read, false, false, false, .any, fun _ _ _ => 0⟩,
   ⟨0xA702, 1, 1, 3, .read, false, false, false, .any, fun _ _ _ => 0⟩,
   ⟨0xA703, 1, 1, 8, .read, false, false, false, .any, fun _ _ _ => 0⟩]

/-- Rows of the parameter tables, TAB_FW_MIX to GPIO_MODE in order of ID. -/
def rows10 : List PDesc :=
  [
   ⟨0xA704, 1, 1, 1, .read, false, false, false, .any, fun _ _ _ => 0⟩,
   ⟨0xA705, 1, 1, 8, .read, false, false, false, .any, fun _ _ _ => 0⟩,
   ⟨0xA706, 1, 1, 16, .read, false, false, false, .any, fun _ _ _ => 0⟩,
   ⟨0xA707, 1, 1, 16, .read, false, false, false, .any, fun _ _ _ => 0⟩,
   ⟨0xA708, 1, 1, 32, .read, false, false, false, .any, fun _ _ _ => 0⟩,
   ⟨0xA800, 1, 1, 16, .read, false, false, false, .any, fun _ _ _ => 0⟩,
   ⟨0xA801, 1, 1, 16, .read, false, false, false, .any, fun _ _ _ => 0⟩,
   ⟨0xA802, 1, 1, 8, .read, false, false, false, .any, fun _ _ _ => 0⟩,
   ⟨0xA803, 1, 1, 32, .read, false, false, false, .any, fun _ _ _ => 0⟩,
   ⟨0xA804, 1, 1, 32, .read, true, false, false, .any, fun _ _ _ => 0⟩,
   ⟨0xA805, 1, 1, 4, .read, false, false, false, .any, fun _ _ _ => 0⟩,
   ⟨0xA806, 1, 1, 512, .read, false, false, false, .any, fun _ _ _ => 0⟩,
   ⟨0xA807, 1, 1, 512, .read, false, false, false, .any, fun _ _ _ => 0⟩,
   ⟨0xA808, 1, 1, 32, .read, true, false, false, .any, fun _ _ _ => 0⟩,
   ⟨0xA900, 16, 1, 16, .read, false, false, false, .any, fun _ _ _ => 0⟩,
   ⟨0xA910, 1, 1, 16, .read, false, false, false, .any, fun _ _ _ => 0⟩,
   ⟨0xA911, 1, 1, 16, .read, false, false, false, .any, fun _ _ _ => 0⟩,
   ⟨0xA912, 1, 1, 32, .read, false, false, false, .any, fun _ _ _ => 0⟩,
   ⟨0xA913, 1, 1, 32, .read, true, false, false, .any, fun _ _ _ => 0⟩,
   ⟨0xA914, 1, 1, 16, .read, true, false, false, .any, fun _ _ _ => 0⟩,
   ⟨0xA915, 1, 1, 32, .read, true, false, false, .any, fun _ _ _ => 0⟩,
   ⟨0xA916, 1, 1, 8, .read, false, false, false, .any, fun _ _ _ => 0⟩,
   ⟨0xA920, 4, 1, 32, .read, true, false, false, .any, fun _ _ _ => 0⟩,
   ⟨0xA924, 8, 1, 32, .read, true, false, false, .any, fun _ _ _ => 0⟩,
   ⟨0xA92C, 1, 1, 32, .read, true, false, false, .any, fun _ _ _ => 0⟩,
   ⟨0xA92D, 1, 1, 32, .read, true, false, false, .any, fun _ _ _ => 0⟩,
   ⟨0xA92E, 1, 1, 32, .read, true, false, false, .any, fun _ _ _ => 0⟩,
   ⟨0xAB00, 1, 1, 8, .read, false, false, false, .any, fun _ _ _ => 0⟩,
   ⟨0xAB01, 1, 1, 16, .read, false, false, false, .any, fun _ _ _ => 0⟩,
   ⟨0xB000, 8, 16, 3, .operator, true, false, false, .span 0 4, fun r _ i => if r = .home ∧ i < 6 then 2 else 0⟩]

/-- Rows of the parameter tables, GPIO_MASK to GPIO_OUT in order of ID. -/
def rows11 : List PDesc :=
  [
   ⟨0xB001, 8, 16, 16, .operator, true, false, false, .any, fun r _ i => if r = .home ∧ i < 6 then 2 ^ i else 0⟩,
   ⟨0xB002, 8, 16, 2, .operator, true, false, false, .any, fun r _ i => if r = .home ∧ i < 6 then 3 else 0⟩,
   ⟨0xB003, 8, 16, 8, .operator, true, false, false, .span 5 200, fun _ _ _ => 20⟩,
   ⟨0xB004, 8, 16, 1, .operator, true, false, false, .any, fun _ _ _ => 0⟩,
   ⟨0xB005, 8, 16, 1, .operator, false, false, false, .any, fun _ _ _ => 0⟩]

/-- Every parameter of Tables 2.10 to 16.11 (R222 to R226). -/
def table : List PDesc :=
  rows0 ++ rows1 ++ rows2 ++ rows3 ++ rows4 ++ rows5 ++ rows6 ++ rows7 ++ rows8 ++ rows9 ++ rows10 ++ rows11

/-- The row of an ID and its index within the row. -/
def PDesc.index (d : PDesc) (id : Nat) : Option Nat :=
  if d.base ≤ id ∧ (id - d.base) % d.stride = 0 ∧ (id - d.base) / d.stride < d.count then
    some ((id - d.base) / d.stride)
  else none

/-- The row of an ID, with the index: none for an ID that no table gives (UNKNOWN_ID). -/
def findDesc (id : Nat) : Option (PDesc × Nat) :=
  table.findSome? fun d => (d.index id).map fun i => (d, i)

/-- The default of an ID in a role with a storage type (R224). -/
def defaultOf (r : Role) (t : StoType) (id : Nat) : Nat :=
  match findDesc id with
  | some (d, i) => d.dflt r t i
  | none => 0

/-- A value of `bits` bits read as a signed number. -/
def asSigned (bits v : Nat) : Int := if v < 2 ^ (bits - 1) then (v : Int) else (v : Int) - 2 ^ bits

/-- Whether a write of `v` to an ID in the row `d` at index `i` lies in its range (R228). -/
def inRange (t : StoType) (d : PDesc) (i v : Nat) : Bool :=
  decide (v < 2 ^ d.bits) &&
  match d.rng with
  | .any => true
  | .span lo hi => decide (lo ≤ v ∧ v ≤ hi)
  | .zeroOr lo hi => decide (v = 0 ∨ lo ≤ v ∧ v ≤ hi)
  | .only vs => vs.contains v
  | .steps lo hi st => decide (lo ≤ v ∧ v ≤ hi ∧ (v - lo) % st = 0)
  | .signed lo hi => decide (lo ≤ asSigned d.bits v ∧ asSigned d.bits v ≤ hi)
  | .stoVmax => decide ((stoVmaxRange t).1 ≤ v ∧ v ≤ (stoVmaxRange t).2)
  | .stoFloor => decide ((stoFloorRange t).1 ≤ v ∧ v ≤ (stoFloorRange t).2)
  | .traceSel => decide (v = 0 ∨ 0xA000 ≤ v ∧ v ≤ 0xAFFF ∧ (findDesc v).isSome)
  | .traceTrig => decide (v / 256 % 128 = 0)
  | .pwmDiv => pwmDivs.contains v
  | .evenOnly => decide (v = 0 ∨ i % 2 = 0)
  | .lineAddr => decide (1 ≤ v ∧ v ≤ 250 ∨ v = 255)

/-! ### Value lists -/

/-- The value that a list holds for an ID. -/
def Vals.get? (l : Vals) (id : Nat) : Option Nat := l.lookup id

/-- Puts a value into a list, in ID order. -/
def Vals.put : Vals → Nat → Nat → Vals
  | [], id, v => [(id, v)]
  | (j, w) :: l, id, v =>
    if id < j then (id, v) :: (j, w) :: l else if id = j then (id, v) :: l else (j, w) :: Vals.put l id v

/-- Takes an ID out of a list. -/
def Vals.del (l : Vals) (id : Nat) : Vals := l.filter fun e => e.1 ≠ id

/-- Puts a value into a list of differences from the defaults of a role and a type, in canonical form. -/
def Vals.set (r : Role) (t : StoType) (l : Vals) (id v : Nat) : Vals :=
  if v = defaultOf r t id then l.del id else l.put id v

/-- Puts the values of one list after another into a list of differences. -/
def Vals.setAll (r : Role) (t : StoType) (l : Vals) (vs : Vals) : Vals :=
  vs.foldl (fun acc e => Vals.set r t acc e.1 e.2) l

/-- Puts a number into a rising list. -/
def insertUp : List Nat → Nat → List Nat
  | [], n => [n]
  | m :: l, n => if n ≤ m then n :: m :: l else m :: insertUp l n

/-- The IDs of persistence SAVED that can be written, in rising order (R236). -/
def savedIds : List Nat :=
  (table.flatMap fun d =>
    if d.saved ∧ d.acc ≠ .read then (List.range d.count).map fun i => d.base + d.stride * i else []).foldl insertUp []

end Sys2Proof.Machine
end

