-- ==== Sys2Proof/Machine/Operands.lean ====
section
/-! DEFINITION. The operand forms: parameters in effect, device time, energies and voltages of the gauge, and the
indexed access to channels, dies, rails and phases that the meanings share. -/

namespace Sys2Proof.Machine

/-! ### Small forms -/

/-- Whether bit `i` of `n` is set. -/
def bitAt (n i : Nat) : Bool := n.testBit i

/-- A Bool as a bit at place `i`. -/
def flag (b : Bool) (i : Nat) : Nat := if b then 2 ^ i else 0

/-- The bits `[hi:lo]` of `n`. -/
def bits (n hi lo : Nat) : Nat := n / 2 ^ lo % 2 ^ (hi + 1 - lo)

/-- The magnitude of `a - b`. -/
def dist (a b : Nat) : Nat := max a b - min a b

/-- Applies `f` at one place of a vector; a place beyond the end changes nothing. -/
def upd {α : Type} {n : Nat} (v : Vector α n) (i : Nat) (f : α → α) : Vector α n :=
  Vector.ofFn fun j => if j.val = i then f v[j] else v[j]

/-- The mask of the places below `n` at which `p` holds. -/
def maskOf (n : Nat) (p : Nat → Bool) : Nat := (List.range n).foldl (fun a i => a + flag (p i) i) 0

/-- Adds an element to a buffer of at most `n`, from which the oldest goes when it is full. -/
def pushMax {α : Type} (n : Nat) (l : List α) (x : α) : List α := (if l.length < n then l else l.tail) ++ [x]

/-- The sum of `f` over the places below `n`. -/
def sumOf (n : Nat) (f : Nat → Nat) : Nat := (List.range n).foldl (fun a i => a + f i) 0

/-- The sum of an integer-valued `f` over the places below `n`. -/
def sumInt (n : Nat) (f : Nat → Int) : Int := (List.range n).foldl (fun a i => a + f i) 0

/-- The places below `n` at which `p` holds, ascending. -/
def placesOf (n : Nat) (p : Nat → Bool) : List Nat := (List.range n).filter p

/-- The integer square root, rounded down. -/
def isqrt (n : Nat) : Nat :=
  (List.range (n.log2 / 2 + 1)).foldr
    (fun i r => if (r + 2 ^ i) * (r + 2 ^ i) ≤ n then r + 2 ^ i else r) 0

/-! ### Parameters in effect -/

/-- The committed value of a parameter that can be written: its override, or the default of the role in effect and the
strapped type (R7, R224). -/
def State.param (s : State) (id : Nat) : Nat :=
  match s.config.inForce.get? id with
  | some v => v
  | none => defaultOf s.ident.role s.ident.sto id

/-- A parameter of one bit. -/
def State.isOn (s : State) (id : Nat) : Bool := s.param id != 0

/-- A parameter that is signed (Table 4.7: NRG_FC_TZ_Q). -/
def State.paramInt (s : State) (bits id : Nat) : Int := asSigned bits (s.param id)

/-- The feeder address of R253, R311 and R383: 0 before one is assigned, and at a HEAD, which ignores LINE_ADDR (Table
12.13). -/
def State.addrTerm (s : State) : Nat :=
  if s.ident.role = .head ∨ s.param P.lineAddr = 255 then 0 else s.param P.lineAddr

/-- The member index of R253 and R311: 0 in no Tableau. -/
def State.memberIdx (s : State) : Nat := if s.tab.inTab then s.param P.tabIndex else 0

/-- SYS_TIME as entries and records carry it: 0xFFFFFFFF while not valid. -/
def State.stamp (s : State) : Nat := if s.plinth.timeValid then s.plinth.rtcSec else 0xFFFFFFFF

/-- Whether BUS carries VSEL. -/
def State.busCarries (s : State) : Bool := s.power.path == .onBus

/-- Whether the Plinth is supplied: in every path state but NONE and SHELF (R130). -/
def State.plinthOn (s : State) : Bool := s.power.path != .none && s.power.path != .shelf

/-- Whether the device is held in device reset: RST_N is low, or TEST was high at the power-on reset (R26, Table 1.5). -/
def State.inReset (s : State) : Bool := s.plinth.rstLow || s.plinth.testHeld

/-- VBUS in the Full or High region of Table 2.3: above BUS_FULL and below BUS_OV. -/
def State.busFullHigh (s : State) : Bool := s.power.busFull && !s.power.busOv && !s.power.busRev

/-- Over-voltage or Load dump region of Table 2.3. -/
def State.busOverRegion (s : State) : Bool := s.power.busOv || s.power.busDump

/-- Whether the sequencer runs firmware: Roeno's work waits while it is off, in reset or in recovery. -/
def State.seqRuns (s : State) : Bool := s.plinth.seq == .running

/-! ### Time -/

/-- Local time in seconds (R123, R385). -/
def State.localTime (s : State) : Int := (s.plinth.rtcSec : Int) + 900 * s.paramInt 8 P.nrgFcTzQ

/-- The calendar bin of a device time: day × 24 + hour, day 0 a Monday (R123). -/
def State.binOf (s : State) (t : Int) : Nat :=
  let lt := t + 900 * s.paramInt 8 P.nrgFcTzQ
  let day := (lt / 86400 + 2) % 7
  let hour := lt / 3600 % 24
  (day * 24 + hour).toNat

/-! ### Energies (units of mF × mV², log 7) -/

/-- Units in one millijoule. -/
def mj : Nat := 2000000

/-- A supercapacitor store (R103). -/
def State.isCap (s : State) : Bool := s.ident.sto == .sc1 || s.ident.sto == .sc2

/-- The capacitance in use in mF, or the capacity in use in mAh (R106, R107): the measured one, or the nominal one
while none has been measured. -/
def State.capUse (s : State) : Nat :=
  if s.ctr.capMeas ≠ 0 then s.ctr.capMeas
  else if s.isCap then s.param P.nrgCapNomMf else s.param P.nrgCellMah

/-- The open-circuit voltages of Table 4.2 from 0 % to 100 %. -/
def ocvTable : StoType → List Nat
  | .lfp => [2800, 3200, 3250, 3275, 3290, 3300, 3310, 3320, 3330, 3345, 3400]
  | _ => [3300, 3580, 3650, 3700, 3740, 3780, 3840, 3900, 3960, 4020, 4080]

/-- Energy of a charge `q` by a table of open-circuit voltages `seg` charge apart, as trapezoids (R104). -/
def cellEnergy (seg : Nat) : List Nat → Nat → Nat
  | v0 :: v1 :: vs, q =>
    if seg ≤ q then seg * (v0 + v1) + cellEnergy seg (v1 :: vs) (q - seg)
    else 2 * q * v0 + (v1 - v0) * q * q / max seg 1
  | _, _ => 0

/-- Charge at which a table of open-circuit voltages reads `mv` (Table 4.2, piecewise linear). -/
def cellCharge (seg : Nat) : List Nat → Nat → Nat
  | v0 :: v1 :: vs, mv =>
    if mv ≤ v0 then 0
    else if v1 ≤ mv then seg + cellCharge seg (v1 :: vs) mv
    else (mv - v0) * seg / max (v1 - v0) 1
  | _, _ => 0

/-- The open-circuit voltage at a charge. -/
def cellMv (seg : Nat) : List Nat → Nat → Nat
  | v0 :: v1 :: vs, q => if seg ≤ q then cellMv seg (v1 :: vs) (q - seg) else v0 + (v1 - v0) * q / max seg 1
  | [v], _ => v
  | [], _ => 0

/-- A tenth of the cell's capacity in microcoulombs. -/
def State.cellSeg (s : State) : Nat := s.capUse * 360000

/-- The energy at a rest voltage (R103, R104). -/
def State.eOfMv (s : State) (mv : Nat) : Nat :=
  if s.isCap then s.capUse * mv * mv
  else cellEnergy s.cellSeg (ocvTable s.ident.sto) (cellCharge s.cellSeg (ocvTable s.ident.sto) mv)

/-- The energy at a count of charge in microcoulombs (R103, R104). A count below zero charge has no energy; a cell's above
100 % has E_full (DESIGN CHOICE, log 66: the spec gives only the lower bound). -/
def State.eOfUc (s : State) (q : Int) : Nat :=
  if s.isCap then q.toNat * q.toNat / max s.capUse 1
  else cellEnergy s.cellSeg (ocvTable s.ident.sto) (min q.toNat (10 * s.cellSeg))

/-- The charge at a rest voltage. -/
def State.ucOfMv (s : State) (mv : Nat) : Int :=
  if s.isCap then s.capUse * mv else cellCharge s.cellSeg (ocvTable s.ident.sto) mv

/-- The charge at an energy of a cell, by bisection of its tenth parts. -/
def State.cellUcOfE (s : State) (e : Nat) : Nat :=
  (List.range (Nat.log2 (10 * s.cellSeg + 1) + 1)).foldr
    (fun i r => if cellEnergy s.cellSeg (ocvTable s.ident.sto) (r + 2 ^ i) ≤ e ∧ r + 2 ^ i ≤ 10 * s.cellSeg
      then r + 2 ^ i else r) 0

/-- The voltage that corresponds to an energy (R105). -/
def State.mvOfE (s : State) (e : Nat) : Nat :=
  if s.isCap then isqrt (e / max s.capUse 1)
  else cellMv s.cellSeg (ocvTable s.ident.sto) (s.cellUcOfE e)

/-- The end-of-charge voltage in effect (R37, R47, R49, R52). -/
def State.vFull (s : State) : Nat :=
  if !s.ident.sdoDecoded then 2700
  else
    let v := s.param P.pwrStoVmaxMv
    let v := if s.isCap && s.power.derated then v - (if s.ident.sto = .sc1 then 100 else 200) else v
    if s.power.fMid then min v 2700 else v

/-- The STO voltage as read, with what it ends (Table 2.9, Table 2.4): the accumulated time of SHORT at 0.20 V, OVERVOLTAGE
below PWR_STO_VMAX_MV, and at 100 mV below the end-of-charge voltage the rest after a termination. -/
def Power.readSto (p : Power) (mv vmax full : Nat) : Power :=
  { p with
    stoMv := mv, shortMs := if 200 ≤ mv then 0 else p.shortMs, fOv := p.fOv && !decide (mv < vmax)
    ended := p.ended && !decide (mv + 100 ≤ full) }

/-- E_full (R103, R104). -/
def State.eFull (s : State) : Nat :=
  if s.isCap then s.eOfMv s.vFull else cellEnergy s.cellSeg (ocvTable s.ident.sto) (10 * s.cellSeg)

/-- E_cnt. -/
def State.eCnt (s : State) : Nat := s.eOfUc s.ledger.qUc

/-- The primary estimate of Table 4.4: for a supercapacitor E_v of the last valid reading, moved by the change of E_cnt
since; for a cell E_cnt. -/
def State.ePrimary (s : State) : Nat :=
  if s.isCap then ((s.ledger.evLast : Int) + (s.eCnt : Int) - (s.ledger.ecLast : Int)).toNat else s.eCnt

/-- E_est (R112, R127): 0 before the first reading and under STO_FAULT SHORT or OPEN; the lower of E_cnt and E_v while
disagreeing. -/
def State.eEst (s : State) : Nat :=
  if s.power.fShort || s.power.fOpen || !s.ledger.first then 0
  else if s.ledger.disagree then min s.eCnt s.ledger.ev else s.ePrimary

/-- E_res: every held reservation but the standing one, with what remains of the HOST reservation. -/
def State.eRes (s : State) : Nat :=
  (s.ledger.res.filter fun r => r.1 ≠ .shutdownCommit).foldl (fun a r => a + r.2) 0 + s.ledger.host.getD 0

/-- E_avail. -/
def State.eAvail (s : State) : Int := (s.eEst : Int) - (s.eRes : Int)

/-- KEEP_eff (R108). -/
def State.keepEff (s : State) : Nat :=
  max (s.param P.nrgKeepMj * mj)
    (max (s.eOfMv (s.param P.pwrStoFloorMv + 100)) (s.eOfMv (s.param P.pwrStoFloorMv) + 80 * mj))

/-! ### Channels, dies, rails and phases -/

/-- The die of a channel. -/
def dieOf (c : Nat) : Nat := c / 4

/-- How many channels the variant has (R15): 16, or 8 on a GP4890-QB. -/
def State.chans (s : State) : Nat := if s.ident.qb then 8 else 16

/-- A channel's record. -/
def State.chan (s : State) (c : Nat) : Chan := s.sw.ch.toList.getD c Chan.initial

/-- Changes a channel's record. -/
def State.onChan (s : State) (c : Nat) (f : Chan → Chan) : State := { s with sw := { s.sw with ch := upd s.sw.ch c f } }

/-- Whether a die is fenced, and why (Table 9.4): dies C and D of a GP4890-QB are ABSENT (R15). -/
def State.fence (s : State) (d : Nat) : Option FenceReason :=
  if s.ident.qb && decide (2 ≤ d) then some .absent else s.ctr.fences.toList.getD d none

/-- The code of a fence reason (Table 9.4); a failed offset check is part of the self-test (R293). -/
def fenceCode : FenceReason → Nat
  | .absent => 1
  | .selftest => 2
  | .offset => 2
  | .tsense => 3
  | .diebus => 4
  | .repeated => 5

/-- Whether the FENCE inhibit stands on a channel. -/
def State.fenced (s : State) (c : Nat) : Bool := (s.fence (dieOf c)).isSome

/-- The derating step of a die (R295). -/
def State.dieStep (s : State) (d : Nat) : Nat := (s.ctr.wearDie.toList.getD d Wear.zero).step

/-- Current-limit ceiling of Table 9.5 in 0.5 A units. -/
def ilimCeiling (step : Nat) : Nat := 48 - 8 * min step 3

/-- Thermal restart temperature of Table 9.5. -/
def thermRestartC (step : Nat) : Int := if step ≤ 1 then 150 else if step = 2 then 145 else 140

/-- Whether LSW_PAIR joins a channel with its neighbour (R261). -/
def State.paired (s : State) (c : Nat) : Bool := s.isOn (P.lswPair (c / 2 * 2))

/-- The odd channel of a pair. -/
def State.pairOdd (s : State) (c : Nat) : Bool := decide (c % 2 = 1) && s.paired c

/-- The channel whose parameters govern a channel: the even one of a pair (R261, R288). -/
def State.lead (s : State) (c : Nat) : Nat := if s.paired c then c / 2 * 2 else c

/-- Both channels of a pair, or the channel alone. -/
def State.group (s : State) (c : Nat) : List Nat :=
  if s.paired c then [c / 2 * 2, c / 2 * 2 + 1] else [c]

/-- PROTECT (Table 8.2, Table 9.3): any protection state that holds the output off. -/
def Chan.protect (c : Chan) : Bool :=
  c.backoff || c.curLatch || c.thermOff || c.thermLatch || c.escalated || c.orphan

/-- Inhibits other than PROTECT and FENCE. -/
def Chan.inhibited (c : Chan) : Bool := c.shed || c.allow || c.shut || c.bus

/-- A rail's record. -/
def State.rail (s : State) (r : Nat) : Rail := s.arm.rail.toList.getD r Rail.initial

/-- Changes a rail's record. -/
def State.onRail (s : State) (r : Nat) (f : Rail → Rail) : State :=
  { s with arm := { s.arm with rail := upd s.arm.rail r f } }

/-- A phase's record. -/
def State.phase (s : State) (p : Nat) : Phase := s.arm.ph.toList.getD p Phase.initial

/-- Changes a phase's record. -/
def State.onPhase (s : State) (p : Nat) (f : Phase → Phase) : State :=
  { s with arm := { s.arm with ph := upd s.arm.ph p f } }

/-- ARM_MERGE (R304). -/
def State.merged (s : State) : Bool := s.isOn P.armMerge

/-- The rail of a phase slot (R304). -/
def State.railOf (s : State) (p : Nat) : Nat := if s.merged then 0 else p / 4

/-- A rail that exists: rail B does not in merge mode (R304). -/
def State.railExists (s : State) (r : Nat) : Bool := decide (r = 0) || decide (r = 1) && !s.merged

/-- The enabled slots of a rail, ascending (R304). -/
def State.slots (s : State) (r : Nat) : List Nat :=
  if s.railExists r then placesOf 8 fun p => decide (s.railOf p = r) && s.isOn (P.armPhEn p) else []

/-- The running phases of a rail. -/
def State.running (s : State) (r : Nat) : List Nat := (s.slots r).filter fun p => (s.phase p).running

/-- A rail's target at the reference, in mV (R316). -/
def State.vrefTarget (s : State) (r : Nat) : Nat := s.param (P.armVrefMv r)

/-- A rail's target output in mV (R316). -/
def State.targetMv (s : State) (r : Nat) : Nat := s.param (P.armVrefMv r) * s.param (P.armDivX1000 r) / 1000

/-- Sum of the phase means of a rail in mA (ARM_IOUT_MA). -/
def State.railMa (s : State) (r : Nat) : Int := (s.running r).foldl (fun a p => a + (s.phase p).meanMa) 0

/-- The derating step of a phase (R344). -/
def State.phStep (s : State) (p : Nat) : Nat := (s.ctr.wearPh.toList.getD p Wear.zero).step

/-- Factor of Table 11.3 in percent. -/
def phFactor (step : Nat) : Nat := 100 - 10 * min step 3

/-- The overload limit in effect of a phase in mA (R332, R344). -/
def State.olPhMa (s : State) (p : Nat) : Nat := s.param (P.armOlPhMa (s.railOf p)) * phFactor (s.phStep p) / 100

/-- ARM_OL_NOW_MA (R332). -/
def State.olNowMa (s : State) (r : Nat) : Nat := (s.running r).foldl (fun a p => a + s.olPhMa p) 0

/-- The code of a rail state (Table 10.4). -/
def RailState.code : RailState → Nat
  | .stopped => 0
  | .starting => 1
  | .regulating => 2
  | .stopping => 3
  | .ovLatched => 4
  | .faulted => 5

/-- A rail that switches. -/
def RailState.live : RailState → Bool
  | .starting => true
  | .regulating => true
  | .stopping => true
  | _ => false

/-- PWR_PATH_STATE (Table 2.7). -/
def Path.code : Path → Nat
  | .none => 0
  | .onBus => 1
  | .onSto => 2
  | .onField => 3
  | .onBak => 4
  | .handover => 5
  | .shelf => 6

/-- SYS_MODE (Table 5.4). -/
def Mode.code : Mode → Nat
  | .shelf => 0
  | .plinth => 1
  | .doze => 2
  | .run => 3
  | .field => 4

/-- The codes of Table 7.3. -/
def Role.code : Role → Nat
  | .home => 0
  | .head => 1
  | .plant => 2

/-- PWR_STO_TYPE_STRAP (Table 2.10). -/
def StoType.code : StoType → Nat
  | .sc1 => 0
  | .sc2 => 1
  | .lfp => 2
  | .lio => 3

/-- A transport's place in the ports. -/
def placeOf : Transport → Nat
  | .spi => 0
  | .i2c => 1
  | .uart => 2
  | .gateway => 3
  | .line => 4
  | .nfc => 5
  | .link => 6

/-- A transport's port. -/
def State.port (s : State) (t : Transport) : Port := s.camyx.ports.toList.getD (placeOf t) Port.empty

/-- Changes a transport's port. -/
def State.onPort (s : State) (t : Transport) (f : Port → Port) : State :=
  { s with camyx := { s.camyx with ports := upd s.camyx.ports (placeOf t) f } }

/-- Draws a fresh index for a free value (log 8). -/
def State.draw (s : State) : State := { s with free := s.free + 1 }

end Sys2Proof.Machine
end

