-- ==== Sys2Proof/Machine/Flags.lean ====
section
/-! DEFINITION. Events (Chapter 15): the sources of Table 15.2, and what a raise and a clear do to the status words,
the captures for the FIFO and the Patina, the pins, the wake, the ALERT and the trace trigger. -/

namespace Sys2Proof.Machine

/-! ### The sources of Table 15.2: group, bit and name code -/

namespace Ev

def roleMismatch : Src := ⟨0, 0, 0⟩
def strapFault : Src := ⟨0, 1, 0⟩
def gndOpen : Src := ⟨0, 2, 0⟩
def xtalFail : Src := ⟨0, 3, 0⟩
def wdtReset : Src := ⟨0, 4, 0⟩
def blockOverrun : Src := ⟨0, 5, 0⟩
def clkFail : Src := ⟨0, 6, 0⟩
def cfgBankBad : Src := ⟨0, 7, 0⟩
def cfgDefaults : Src := ⟨0, 8, 0⟩
def fwTrial : Src := ⟨0, 9, 0⟩
def fwConfirmed : Src := ⟨0, 10, 0⟩
def fwFallback : Src := ⟨0, 11, 0⟩
def sprigUp : Src := ⟨1, 0, 0⟩
def bunchUp : Src := ⟨1, 1, 0⟩
def belowKeep : Src := ⟨1, 2, 0⟩
def keepBreach : Src := ⟨1, 3, 0⟩
def unreachable : Src := ⟨1, 4, 0⟩
def disagree : Src := ⟨1, 5, 0⟩
def rebase : Src := ⟨1, 6, 0⟩
def capSuspect : Src := ⟨1, 7, 0⟩
def holdOverrun : Src := ⟨1, 8, 0⟩
def holdUngranted : Src := ⟨1, 9, 0⟩
def resRefused : Src := ⟨1, 10, 0⟩
def fcSuspend : Src := ⟨1, 11, 0⟩
def tegUp : Src := ⟨2, 0, 0⟩
def tegLost : Src := ⟨2, 1, 0⟩
def vibUp : Src := ⟨2, 2, 0⟩
def vibLost : Src := ⟨2, 3, 0⟩
def pvUp : Src := ⟨2, 4, 0⟩
def pvLost : Src := ⟨2, 5, 0⟩
def nfcHrv : Src := ⟨2, 6, 0⟩
def coldStart : Src := ⟨2, 7, 0⟩
def mpptLimit : Src := ⟨2, 8, 0⟩
def mpptStarved : Src := ⟨2, 9, 0⟩
def hbClamp : Src := ⟨2, 10, 0⟩
def hrvFault : Src := ⟨2, 11, 0⟩
def busUp : Src := ⟨3, 0, 0⟩
def busSag : Src := ⟨3, 1, 0⟩
def busLost : Src := ⟨3, 2, 0⟩
def busLowperf : Src := ⟨3, 3, 0⟩
def busHigh : Src := ⟨3, 3, 1⟩
def busOv : Src := ⟨3, 4, 0⟩
def busDump : Src := ⟨3, 4, 1⟩
def busReverse : Src := ⟨3, 5, 0⟩
def stoFault : Src := ⟨3, 6, 0⟩
def stoImbalance : Src := ⟨3, 6, 1⟩
def bakLow : Src := ⟨3, 7, 0⟩
def bakAbsent : Src := ⟨3, 7, 1⟩
def vhostFault : Src := ⟨3, 7, 2⟩
def pilotLock : Src := ⟨10, 0, 0⟩
def timeStep : Src := ⟨10, 1, 0⟩
def shedChange : Src := ⟨10, 2, 0⟩
def droopShed : Src := ⟨10, 3, 0⟩
def allowance : Src := ⟨10, 4, 0⟩
def nodeChange : Src := ⟨10, 5, 0⟩
def addrConflict : Src := ⟨10, 6, 0⟩
def laneDrop : Src := ⟨10, 7, 0⟩
def linkMode : Src := ⟨10, 8, 0⟩
def txFault : Src := ⟨10, 9, 0⟩
def fieldUp : Src := ⟨11, 0, 0⟩
def fieldLow : Src := ⟨11, 1, 0⟩
def ndefRead : Src := ⟨11, 2, 0⟩
def claimed : Src := ⟨11, 3, 0⟩
def keyChange : Src := ⟨11, 4, 0⟩
def nfcProtoErr : Src := ⟨11, 5, 0⟩
def leadChange : Src := ⟨12, 0, 0⟩
def memberUp : Src := ⟨12, 1, 0⟩
def memberLost : Src := ⟨12, 2, 0⟩
def setAside : Src := ⟨12, 3, 0⟩
def cfgAdopt : Src := ⟨12, 4, 0⟩
def timeAlign : Src := ⟨12, 5, 0⟩
def linkFault : Src := ⟨12, 6, 0⟩
def headClash : Src := ⟨12, 7, 0⟩
def replyReady : Src := ⟨13, 0, 0⟩
def frameError : Src := ⟨13, 1, 0⟩
def authFail : Src := ⟨13, 2, 0⟩
def queueFull : Src := ⟨13, 3, 0⟩
def sessionOpen : Src := ⟨13, 4, 0⟩
def sessionEnd : Src := ⟨13, 5, 0⟩
def rekeyDue : Src := ⟨13, 6, 0⟩
def bridgeDrop : Src := ⟨13, 7, 0⟩
def evtOverflow : Src := ⟨15, 0, 0⟩
def patinaSuppress : Src := ⟨15, 1, 0⟩
def pinFull : Src := ⟨15, 2, 0⟩
def wearStep : Src := ⟨15, 3, 0⟩
def traceDone : Src := ⟨15, 4, 0⟩
def nvmFault : Src := ⟨15, 5, 0⟩
def lswOc (ch : Nat) : Src := ⟨4, ch, 0⟩
def lswTh (ch : Nat) : Src := ⟨5, ch, 0⟩
def lswOl (ch : Nat) : Src := ⟨6, ch, 0⟩
def lswRt (ch : Nat) : Src := ⟨7, ch, 0⟩
def railUp (r : Nat) : Src := ⟨8 + r, 0, 0⟩
def lockChange (r : Nat) : Src := ⟨8 + r, 1, 0⟩
def balanceLimit (r : Nat) : Src := ⟨8 + r, 2, 0⟩
def trackFault (r : Nat) : Src := ⟨8 + r, 3, 0⟩
def quietPlan (r : Nat) : Src := ⟨8 + r, 4, 0⟩
def scTrip (r : Nat) : Src := ⟨8 + r, 5, 0⟩
def overload (r : Nat) : Src := ⟨8 + r, 6, 0⟩
def vinOv (r : Nat) : Src := ⟨8 + r, 7, 0⟩
def outOv (r : Nat) : Src := ⟨8 + r, 8, 0⟩
def undervolt (r : Nat) : Src := ⟨8 + r, 9, 0⟩
def phaseDegraded (r : Nat) : Src := ⟨8 + r, 10, 0⟩
def railStop (r : Nat) : Src := ⟨8 + r, 11, 0⟩
def dieWarn (d : Nat) : Src := ⟨14, d, 0⟩
def dieFence (d : Nat) : Src := ⟨14, 4 + d, 0⟩

end Ev

/-! ### Status words and pins -/

/-- Whether a source's status bit is set: any of its names holds (R446). -/
def Events.bitSet (e : Events) (g b : Nat) : Bool := e.held.any fun h => h.src.grp == g && h.src.bit == b

/-- EVT_STAT_Gg (R445). -/
def Events.status (e : Events) (g : Nat) : Nat := maskOf 16 fun b => e.bitSet g b

/-- Whether a name holds. -/
def State.holds (s : State) (src : Src) : Bool := s.events.held.any fun h => h.src == src

/-- Whether bit `src` of the mask parameters from `base` on is set. -/
def State.maskBit (s : State) (base : Nat → Nat) (src : Src) : Bool := bitAt (s.param (base src.grp)) src.bit

/-- The routing mask of an event pin (R448). -/
def State.route (s : State) (p g : Nat) : Nat := if p = 0 then s.param (P.evtR0G g) else s.param (P.evtR1G g)

/-- Whether an event pin is asserted (R448): a routed source is set, or its 1 ms hold runs; released in SHELF and
FIELD and under device reset (Table 1.5). -/
def State.evtPin (s : State) (p : Nat) : Bool :=
  s.plinth.mode != .shelf && s.plinth.mode != .field && !s.inReset &&
  (s.events.hold.getLsbD p ||
    (List.range 16).any fun g => (List.range 16).any fun b => bitAt (s.route p g) b && s.events.bitSet g b)

/-! ### Raise and clear -/

/-- Whether the state names the phase in DETAIL (Table 15.2, groups G8 and G9). -/
def namesPhase (src : Src) : Bool := src.bit == 2 || src.bit == 5 || src.bit == 10

/-- VALUE of an EVENT record (Table 15.7). -/
def State.evtValue (s : State) (src : Src) (detail : Nat) : Nat :=
  if 4 ≤ src.grp ∧ src.grp ≤ 7 then (s.chan src.bit).iMa
  else if src.grp = 8 ∨ src.grp = 9 then
    ofInt 4 (if namesPhase src then (s.phase detail).meanMa else s.railMa (src.grp - 8))
  else if src.grp = 1 then s.eEst / mj
  else 0

/-- The EVENT record body of a raise (Table 15.7): GRP and SRC as a FIFO entry carries them. -/
def State.evtBody (s : State) (src : Src) (reason detail : Nat) : PatBody :=
  .event src.grp (src.bit + 16 * src.code) reason detail (s.power.vbusMv / 10) s.power.stoMv s.power.tempC
    (if 4 ≤ src.grp ∧ src.grp ≤ 7 then (s.sw.die.toList.getD (dieOf src.bit) Die.initial).tempC else -128)
    (s.evtValue src detail)

/-- Whether EVT_TRC_TRIG, as the arm took it, names a source (R460, R466). -/
def Trace.triggers (t : Trace) (src : Src) : Bool :=
  bitAt t.trigCfg 15 && t.trigCfg % 16 == src.grp && t.trigCfg / 16 % 16 == src.bit

/-- Adds a captured record for the Patina (R453). -/
def State.logRec (s : State) (pinned : Bool) (g : Nat) (b : PatBody) : State :=
  { s with patina :=
      { s.patina with caps := s.patina.caps ++
          [{ pinned := pinned, up := s.plinth.upMs, time := s.stamp, grp := g, body := b }] } }

/-- One raise of a name (R446, R448 to R450, R453, R377, R460): the name holds, a capture waits for the FIFO where its
source is queued and one for the Patina where it is logged or pinned, and pins, wake, ALERT and trigger act. -/
def State.raiseAs (s : State) (src : Src) (pulse : Bool) (reason detail : Nat) (pinned : Bool) : State :=
  let h : Held := { src := src, reason := reason, detail := detail, pulse := pulse }
  let queued := s.maskBit P.evtQG src
  let cap : Capture :=
    { src := src, clear := false, reason := reason, detail := detail, up := s.plinth.upMs, time := s.stamp }
  let held := if h ∈ s.events.held then s.events.held else s.events.held ++ [h]
  let pinHold := s.plinth.mode != .shelf && s.plinth.mode != .field
  let hold := s.events.hold
    ||| (if pinHold && bitAt (s.route 0 src.grp) src.bit then 1#2 else 0#2)
    ||| (if pinHold && bitAt (s.route 1 src.grp) src.bit then 2#2 else 0#2)
  let s1 : State :=
    { s with
      events :=
        { s.events with
          held := held
          caps := if queued then s.events.caps ++ [cap] else s.events.caps
          hold := hold
          wake := s.events.wake || (s.maskBit P.evtWG src && bitAt (s.param P.sysWakeEn) 3)
          alert := if bitAt (s.param P.lineAlertGroups) src.grp
            then s.events.alert ||| BitVec.ofNat 16 (2 ^ src.grp) else s.events.alert }
      trace := { s.trace with seen := s.trace.seen || (s.trace.st == .armed && s.trace.triggers src) } }
  if s.maskBit P.evtLG src || pinned then s1.logRec pinned src.grp (s.evtBody src reason detail) else s1

/-- A raise of a condition (kind C of R446). -/
def State.raiseC (s : State) (src : Src) (reason : Nat := 0) (detail : Nat := 0) : State :=
  s.raiseAs src false reason detail false

/-- A raise of a condition with a pinned record (Table 15.5). -/
def State.raisePinC (s : State) (src : Src) (reason : Nat := 0) (detail : Nat := 0) : State :=
  s.raiseAs src false reason detail true

/-- A raise of a pulse (kind P of R446). -/
def State.raiseP (s : State) (src : Src) (reason : Nat := 0) (detail : Nat := 0) : State :=
  s.raiseAs src true reason detail false

/-- A raise of a pulse with a pinned record (Table 15.5). -/
def State.raisePinP (s : State) (src : Src) (reason : Nat := 0) (detail : Nat := 0) : State :=
  s.raiseAs src true reason detail true

/-- A raise of a condition only where that name does not hold yet: a condition that persists is one raise. -/
def State.raiseOnce (s : State) (src : Src) (reason : Nat := 0) (detail : Nat := 0) : State :=
  if s.events.held.any (fun h => h.src == src && h.reason == reason && h.detail == detail) then s
  else s.raiseC src reason detail

/-- The clear of every held condition of a name that `p` selects (R446, R450). -/
def State.clearIf (s : State) (src : Src) (p : Held → Bool) : State :=
  let sel := fun h : Held => h.src == src && !h.pulse && p h
  let gone := s.events.held.filter sel
  let queued := s.maskBit P.evtQG src && s.isOn P.evtQClr
  let cap := fun h : Held =>
    ({ src := h.src, clear := true, reason := h.reason, detail := h.detail, up := s.plinth.upMs,
       time := s.stamp } : Capture)
  { s with events :=
      { s.events with
        held := s.events.held.filter fun h => !sel h
        caps := if queued then s.events.caps ++ gone.map cap else s.events.caps } }

/-- The clear of a name, whatever its reason and DETAIL. -/
def State.clearE (s : State) (src : Src) : State := s.clearIf src fun _ => true

/-- The clear of a name with one reason. -/
def State.clearR (s : State) (src : Src) (reason : Nat) : State := s.clearIf src fun h => h.reason == reason

/-- The clear of a name with one DETAIL. -/
def State.clearD (s : State) (src : Src) (detail : Nat) : State := s.clearIf src fun h => h.detail == detail

/-- Sets or clears a condition by whether it holds now: a raise where it begins, a clear where it ends. -/
def State.setC (s : State) (src : Src) (on : Bool) (reason : Nat := 0) (detail : Nat := 0) : State :=
  if on then s.raiseOnce src reason detail
  else s.clearIf src fun h => h.reason == reason && h.detail == detail

/-- The acknowledgement of a pulse (R446): one held name of that source and reason goes. -/
def Events.ackPulse (e : Events) (src : Src) (reason detail : Nat) : Events :=
  { e with held := e.held.filter fun h => !(h.src == src && h.pulse && h.reason == reason && h.detail == detail) }

/-- Acknowledges the pulse of an entry that leaves the FIFO, where no other entry or capture of it is left. -/
def Events.leave (e : Events) (c : Capture) : Events :=
  let same := fun d : Capture => !d.clear && d.src == c.src && d.reason == c.reason && d.detail == c.detail
  if c.clear then e
  else if e.fifo.any (fun x => same x.cap) || e.caps.any same then e
  else e.ackPulse c.src c.reason c.detail

end Sys2Proof.Machine
end

