-- ==== Sys2Proof/Machine/Ops.lean ====
section
/-! DEFINITION. The shared operations on channels, dies and shed levels: driving an output from its demand and inhibits
(R242), changes of demand (R243), fresh turn-ons (R276), latches (R281, R282), fences (R292), staggered turn-ons (R247),
inhibits with their pickup delay (R383) and the shed level in effect (R378). -/

namespace Sys2Proof.Machine

/-! ### The PWM pattern -/

/-- The minimum pulse in 250 ns steps (R250). -/
def State.minPulse (s : State) (c : Nat) : Nat := if s.isOn (P.lswEdge c) then 16 else 40

/-- The PWM period in 250 ns steps: a divider of 125 µs ticks (R248). -/
def periodSteps (div : Nat) : Nat := 500 * div

/-- The on-time of R250 in 250 ns steps, with short pulses left out and short gaps closed. -/
def onSteps (minP div duty : Nat) : Nat :=
  let per := periodSteps div
  let on := (duty * per + 512) / 1024
  if duty = 0 ∨ on < minP then 0 else if per - on < minP then per else on

/-- The channels that share an automatic offset with `c` (R253): mode 2, automatic phase, the same divider, no fence,
a pair once as its even channel. -/
def State.stagger (s : State) (c : Nat) : List Nat :=
  placesOf s.chans fun j =>
    s.param (P.lswMode j) == 2 && s.isOn (P.lswPhaseAuto j) && s.param (P.lswPwmDiv j) == s.param (P.lswPwmDiv c) &&
    !s.fenced j && !s.pairOdd j

/-- The phase offset of R253. -/
def State.offsetOf (s : State) (c : Nat) : Nat :=
  if !s.isOn (P.lswPhaseAuto c) then s.param (P.lswPhase c)
  else
    let l := s.stagger c
    let k := (l.filter (· < c)).length
    let a := if s.isOn P.lswStaggerAddr && s.line.joined then s.addrTerm else 0
    (64 * k / max l.length 1 + 8 * s.memberIdx + 5 * a) % 64

/-! ### The output -/

/-- Whether the demand of a channel asks for an output that is on at all; one whose turn-off the Load dump region defers stays on
(R298). A pattern that runs counts with the duty that it has
(R251), and always with the divider in effect (R252). -/
def State.demandOn (s : State) (c : Nat) : Bool :=
  let h := s.chan (s.lead c)
  match h.demand with
  | .off => h.defOff
  | .on => true
  | .pwm d => onSteps (s.minPulse (s.lead c)) h.div (if h.running then h.duty else d) != 0 || h.fromOn

/-- Whether a channel's output is on, `pos` steps of 250 ns after the start of its PWM cycle (R250, R251). -/
def Chan.onNow (h : Chan) (pos : Nat) : Bool :=
  h.out && match h.demand with
    | .off => false
    | .on => true
    | .pwm _ => if h.running then
        decide (pos < h.tail) || (decide (pos < h.offAt) && (h.fromOn || decide (h.onAt ≤ pos))) else h.fromOn

/-- How many steps ago the last on edge was at that point. -/
def Chan.onAge (h : Chan) (pos : Nat) : Nat :=
  match h.demand with
  | .pwm _ => if h.running && decide (pos < h.tail) then h.tailAge + pos else if h.fromOn then pos else pos - h.onAt
  | _ => pos

/-- Whether the output follows its demand now (R242): demand on, mode not 0, no inhibit of Table 8.2, no pickup delay
running, not waiting in the stagger queue. -/
def State.wantOn (s : State) (c : Nat) : Bool :=
  let l := s.lead c
  let h := s.chan l
  s.demandOn c && s.param (P.lswMode l) != 0 && !h.inhibited && !h.protect && !s.fenced c && h.pickAt.isNone &&
    !s.sw.staggerQ.contains l

/-- Writes the latches of a channel or of both channels of its pair (R246, R261). An output that goes off ends its
limiting and its pattern, with the alignment of that (R255). -/
def State.latch (s : State) (c : Nat) (b : Bool) : State :=
  (s.group c).foldl
    (fun s j => s.onChan j fun h =>
      { h with out := b, limiting := h.limiting && b, running := h.running && b, fromOn := h.fromOn && b
               tail := if b then h.tail else 0, shift := if b then h.shift else 0, defOff := false }) s

/-- Opens the inrush window of a fresh turn-on (R276): at once for ON, at the first on edge of the pattern for PWM. The inrush
settings that stand now apply from here on (R303). -/
def State.openWindow (s : State) (c : Nat) : State :=
  let l := s.lead c
  s.onChan l fun h =>
    let h1 := { h with
      retries := 0, inrIlim := s.param (P.lswInrIlim l), inrRetries := s.param (P.lswInrRetries l)
      inrRearm := s.isOn (P.lswInrRearm l) }
    match h.demand with
    | .pwm _ => { h1 with fresh := true }
    | _ => { h1 with window := true }

/-- Brings the output to what `wantOn` says by a latch write; under device reset every latch keeps its state (R29), and while
GND_OPEN stands the write is recorded instead (R302). `fresh` marks a turn-on that opens an inrush window. -/
def State.refresh (s : State) (c : Nat) (fresh : Bool) : State :=
  let l := s.lead c
  let want := s.wantOn l
  if want == (s.chan l).out || s.inReset then s
  else if s.power.gndOpen then
    { s with sw := { s.sw with defWrites := s.sw.defWrites.filter (·.1 ≠ l) ++ [(l, fresh)] } }
  else
    let s1 := s.latch l want
    if want && fresh then s1.openWindow l else s1

/-- Turns an output off in hardware, whatever latch writes are deferred (R290, R292, R298). -/
def State.hardOff (s : State) (c : Nat) : State := s.latch (s.lead c) false

/-- Ends the DIM ramps of GPIOs that act on a channel (Table 8.6). -/
def State.endRamps (s : State) (c : Nat) : State :=
  { s with sw := { s.sw with
      gpio := Vector.ofFn fun g =>
        let p := s.sw.gpio[g]
        if bitAt (s.param (P.gpioMask g.val)) c then { p with ramp := false } else p } }

/-! ### Protection states -/

/-- Raises an event that the die's own hardware sees: at once while the sequencer runs, else held in the die, the first
of each kind per channel (R290). -/
def State.dieRaise (s : State) (src : Src) (pulse : Bool) (reason : Nat) (pin : Bool) : State :=
  if s.seqRuns then s.raiseAs src pulse reason 0 pin
  else if s.sw.dieEv.any (fun e => e.1 == src && e.2.1 == reason) then s
  else { s with sw := { s.sw with dieEv := s.sw.dieEv ++ [(src, reason, pulse, pin)] } }

/-- Counts a trip (R279, R290). -/
def State.countTrip (s : State) (c : Nat) : State :=
  if s.seqRuns then { s with ctr := { s.ctr with trips := upd s.ctr.trips c fun n => wrapAdd 32 n 1 } }
  else { s with sw := { s.sw with tripPend := upd s.sw.tripPend c (· + 1) } }

/-- Counts a current latch of a channel; the LSW_ESC_COUNT-th in 600 s is escalated (R282). -/
def State.countLatch (s : State) (c : Nat) : State :=
  let up := s.plinth.upMs
  let ups := up :: (s.chan c).latchUps.filter fun t => since up t < 600000
  let esc := decide (s.param P.lswEscCount ≤ ups.length)
  let s1 := s.onChan c fun h => { h with latchUps := ups.take 32, escalated := h.escalated || esc }
  if esc && !(s.chan c).escalated then s1.raiseAs (Ev.lswRt c) false 2 0 true else s1

/-- Puts a channel into the current latch with its event (R281), and counts it: the firmware does, after its restart where it does
not run (R282, R290). -/
def State.enterLatch (s : State) (c : Nat) (src : Src) (reason : Nat) : State :=
  let s1 := (s.hardOff c).onChan c fun h => { h with curLatch := true, backoff := false, window := false }
  let s2 := s1.dieRaise src false reason false
  if s.seqRuns then s2.countLatch c else s2

/-- Clears a current latch that is not escalated, with its events (R281, Table 9.3); a NO_FREEWHEEL that has set no latch ends with
what would end one (DEDUCED, log 88). -/
def State.clearLatch (s : State) (c : Nat) : State :=
  if (s.chan c).curLatch && !(s.chan c).escalated then
    ((s.onChan c fun h => { h with curLatch := false }).clearE (Ev.lswOc c)).clearIf (Ev.lswRt c)
      fun h => h.reason == 1 || h.reason == 4
  else if (s.chan c).curLatch then s
  else s.clearR (Ev.lswRt c) 4

/-- Whether the junction of a channel, or both of a pair (R288), are below the restart temperature of Table 9.5. -/
def State.cool (s : State) (c : Nat) : Bool :=
  (s.group c).all fun j => decide ((s.chan j).tjC < thermRestartC (s.dieStep (dieOf j)))

/-- Clears every latch that CH_CLEAR releases (R216, R281 to R283): current, escalated, and the thermal latch while the
junction is below the restart temperature. -/
def State.clearAllLatches (s : State) (c : Nat) : State :=
  let cool := s.cool c
  let h := s.chan c
  let s1 := if h.curLatch || h.escalated then
      ((s.onChan c fun h => { h with curLatch := false, escalated := false, latchUps := [] }).clearE
        (Ev.lswOc c)).clearIf (Ev.lswRt c) fun h => h.reason == 1 || h.reason == 2 || h.reason == 4
    else s.clearR (Ev.lswRt c) 4
  if h.thermLatch && cool then
    (s1.onChan c fun h => { h with thermLatch := false, thermUps := [] }).clearE (Ev.lswTh c)
  else s1

/-- Closes the inrush window and cancels retries: an inhibit other than PROTECT is set, or the demand goes OFF during
back-off (Table 9.6). -/
def State.cancelInrush (s : State) (c : Nat) : State :=
  s.onChan c fun h => { h with backoff := false, window := false, limiting := false, fresh := false }

/-! ### Demand -/

/-- A change of demand (R243): the last one applied stands. OFF clears a current latch (R281), a back-off (R297) and the
open-load event (R264); in the Load dump region the turn-off of a mode 1 channel waits (R298). A demand other than OFF
is kept as the last non-off demand (R267). Leaving OFF is a fresh turn-on (R276). ON ends a pattern and its alignment; from
ON into PWM the output stays on until the first off edge (R251). -/
def State.setDemand (s : State) (c : Nat) (d : Demand) : State :=
  let h := s.chan c
  if d = .off then
    let s1 := (((s.onChan c fun h => { h with demand := .off }).cancelInrush c).clearLatch c).clearE (Ev.lswOl c)
    let s2 := if h.demand = .off then s1 else s1.endRamps c
    if s.power.busDump && s.param (P.lswMode c) == 1 && h.out then s2.onChan c fun h => { h with defOff := true }
    else s2.refresh c false
  else
    let s1 := s.onChan c fun h =>
      { h with demand := d, lastOn := some d, defOff := false,
               running := h.running && decide (d ≠ .on), tail := if d = .on then 0 else h.tail
               shift := if d = .on then 0 else h.shift
               fromOn := decide (d ≠ .on) && (h.fromOn || (h.out && decide (h.demand = .on)))
               dimUp := if h.demand = .off then true else h.dimUp }
    s1.refresh c (h.demand == .off)

/-- A demand as the mode of its channel takes it (R245): mode 1 knows ON and OFF only, so PWM is ON there (DEDUCED, log 177). -/
def State.inMode (s : State) (c : Nat) (d : Demand) : Demand :=
  match d with
  | .pwm _ => if s.param (P.lswMode c) = 1 then .on else d
  | _ => d

/-- Every demand as the mode in effect takes it (R245). -/
def State.fitDemands (s : State) : State :=
  (List.range 16).foldl
    (fun (s : State) c =>
      let d := s.inMode c (s.chan c).demand
      if d = (s.chan c).demand then s else s.setDemand c d) s

/-- The demand that a turn-on gives (R267): the last non-off demand; without one, ON in mode 1 and PWM at LSW_DUTY in
mode 2. -/
def State.onDemand (s : State) (c : Nat) : Demand :=
  if s.param (P.lswMode c) ≠ 2 then .on
  else match (s.chan c).lastOn with
    | some d => d
    | none => .pwm (s.param (P.lswDuty c))

/-- Turns channels on one after another, LSW_ON_STAGGER_MS apart (R247): the first at once, the others from the
stagger queue; with a stagger of 0 all at once. -/
def State.startStagger (s : State) (cs : List Nat) : State :=
  if s.param P.lswOnStaggerMs = 0 then cs.foldl (fun s c => s.refresh c true) s
  else
    match s.sw.staggerQ, cs with
    | [], c :: rest => { s with sw := { s.sw with staggerQ := rest, calm := [] } }.refresh c true
    | q, cs => { s with sw := { s.sw with
        staggerQ := q ++ cs.filter fun c => !q.contains c
        calm := s.sw.calm.filter fun c => !cs.contains c } }

/-- The same for outputs that return without an inrush window (R289). -/
def State.startCalm (s : State) (cs : List Nat) : State :=
  if s.param P.lswOnStaggerMs = 0 then cs.foldl (fun s c => s.refresh c false) s
  else
    match s.sw.staggerQ, cs with
    | [], c :: rest => { s with sw := { s.sw with staggerQ := rest, calm := rest } }.refresh c false
    | q, cs => { s with sw := { s.sw with
        staggerQ := q ++ cs.filter fun c => !q.contains c
        calm := s.sw.calm ++ cs.filter fun c => !q.contains c } }

/-- The next channel of the stagger queue turns on (R247). -/
def State.staggerNext (s : State) : State :=
  match s.sw.staggerQ with
  | c :: rest =>
    { s with sw := { s.sw with staggerQ := rest, calm := s.sw.calm.filter fun x => x ≠ c } }.refresh c
      (!s.sw.calm.contains c)
  | [] => s

/-! ### Inhibits -/

/-- The pickup delay D of R383 in milliseconds. -/
def State.pickupMs (s : State) (c : Nat) : Nat :=
  s.addrTerm * 40 % 2000 + s.param (P.lswShedClass c) * 2000

/-- Sets an inhibit: the output goes off at once, retries and the window end, a return in progress is cancelled (R242,
Table 8.6, Table 9.6, R383). -/
def State.inhibit (s : State) (c : Nat) (f : Chan → Chan) : State :=
  ((s.onChan c fun h => { f h with pickAt := none }).cancelInrush c).refresh c false

/-- Clears a SHED or ALLOWANCE inhibit: where no other inhibit is left, the return waits for D (R383). -/
def State.uninhibit (s : State) (c : Nat) (f : Chan → Chan) : State :=
  s.onChan c fun h =>
    let h1 := f h
    if h1.inhibited then h1 else { h1 with pickAt := some ((s.plinth.upMs + s.pickupMs c) % 2 ^ 32) }

/-- Gives every channel the SHED inhibit that the level in effect asks for (R378). -/
def State.applyShed (s : State) : State :=
  (List.range s.chans).foldl
    (fun s c =>
      let want := decide (1 ≤ s.line.eff) && decide (s.param (P.lineShedFrom (s.line.eff - 1)) ≤ s.param (P.lswShedClass c))
      if want == (s.chan c).shed then s
      else if want then s.inhibit c fun h => { h with shed := true }
      else s.uninhibit c fun h => { h with shed := false }) s

/-- The highest droop level that a lead's members report while its TB8 is not from the pilot (Table 13.8). -/
def State.memberDroop (s : State) : Nat :=
  if s.plinth.tb8 = .pilot then 0
  else (List.range 8).foldl
    (fun a m => match s.tab.member.toList.getD m none with
      | some x => if x.lost then a else max a (x.mstate.toNat / 64)
      | none => a) 0

/-- The level that the Tableau gives this device (R378, R405, R406): a member its lead's LEVEL, a lead what its members report,
since the most severe level wins (Table 13.9). -/
def State.tabLevel (s : State) : Nat :=
  if !s.tab.inTab then 0 else if s.tab.lead then s.memberDroop else s.tab.level

/-- The droop level as it counts (R378, R380): while pilot lock is lost, or at a HEAD always; at a Tableau's member while it has
lost the lead, once LINE_PILOT_HOLD_S has passed (R405, R406). -/
def State.droopCounts (s : State) : Bool :=
  if s.tab.inTab && !s.tab.lead then
    s.tab.leadLost && decide (s.param P.linePilotHoldS * 1000 ≤ since s.plinth.upMs s.tab.leadAt)
  else !s.line.lock || s.ident.role == .head

/-- The highest of the sources of R378. -/
def State.levelOf (s : State) : Nat :=
  max (max s.line.level s.line.cmd) (max (if s.droopCounts then s.line.droop else 0) s.tabLevel)

/-- Recomputes the level in effect; a change raises SHED_CHANGE and applies the shed map (R378, R379). -/
def State.relevel (s : State) : State :=
  let l := s.levelOf
  if l = s.line.eff then s
  else ({ s with line := { s.line with eff := l } }.applyShed).raiseP Ev.shedChange 0 l

/-- The energy of a shed class this allowance day in J, a pair once through its even channel (R384). -/
def State.classJ (s : State) (k : Nat) : Nat :=
  sumOf s.chans fun c =>
    if s.param (P.lswShedClass c) = k ∧ !s.pairOdd c then s.ctr.eDayJ.toList.getD c 0 else 0

/-- Whether a class has reached its allowance here (R384), or in the Tableau as its lead says (R405). -/
def State.classHit (s : State) (k : Nat) : Bool :=
  let a := s.ctr.allowWh.toList.getD k 0xFFFFFFFF
  let others := if s.tab.lead then
      sumOf 8 fun m => match s.tab.member.toList.getD m none with
        | some r => r.classE.toList.getD k 0
        | none => 0
    else 0
  (a != 0xFFFFFFFF && decide (a * 3600 ≤ s.classJ k + others)) ||
    (s.tab.inTab && !s.tab.lead && s.tab.allow.getLsbD k)

/-- Evaluates one class against its allowance: sets or lifts ALLOWANCE on its channels (R384, R385, R405). -/
def State.applyAllowance (s : State) (k : Nat) : State :=
  let hit := s.classHit k
  let was := s.line.hit.getLsbD k
  let cs := (List.range s.chans).filter fun c => s.param (P.lswShedClass c) == k
  if hit == was then s
  else if hit then
    (cs.foldl (fun (s : State) c => s.inhibit c fun h => { h with allow := true })
      { s with line := { s.line with hit := s.line.hit ||| BitVec.ofNat 8 (2 ^ k) } }).raiseC Ev.allowance 0 k
  else
    let s1 := cs.foldl (fun (s : State) c => if (s.chan c).allow then s.uninhibit c fun h => { h with allow := false } else s)
      { s with line := { s.line with hit := s.line.hit &&& ~~~(BitVec.ofNat 8 (2 ^ k)) } }
    if s1.line.hit = 0 then s1.clearE Ev.allowance else s1

/-- Evaluates every class. -/
def State.applyAllowances (s : State) : State := (List.range 8).foldl State.applyAllowance s

/-! ### Fences and supply -/

/-- Fences a die (R292): its outputs go off in hardware, FENCE is raised and pinned unless ABSENT, the fence is kept in
the counter record and counted; the third fence since manufacture is REPEAT (Table 9.4). -/
def State.fenceDie (s : State) (d : Nat) (why : FenceReason) : State :=
  if (s.fence d).isSome || why = .absent || why = .repeated then s
  else
    let n := satAdd 8 (s.ctr.dieFences.toList.getD d 0) 1
    let why := if 3 ≤ n then .repeated else why
    let s1 := { s with ctr :=
      { s.ctr with fences := upd s.ctr.fences d fun _ => some why, dieFences := upd s.ctr.dieFences d fun _ => n } }
    ((List.range 4).foldl (fun s j => s.hardOff (4 * d + j)) s1).raisePinC (Ev.dieFence d) (fenceCode why)

/-- Lifts a fence of reason SELFTEST, TSENSE or DIEBUS (R293): the channels return as fresh turn-ons, staggered. -/
def State.liftFence (s : State) (d : Nat) : State :=
  match s.fence d with
  | some .absent => s
  | some .repeated => s
  | none => s
  | some _ =>
    let s1 : State := { s with ctr := { s.ctr with fences := upd s.ctr.fences d fun _ => none } }
    (s1.startStagger (((List.range 4).map fun j => 4 * d + j).filter fun c => s1.wantOn c && !(s1.chan c).out)).clearE
      (Ev.dieFence d)

/-- The Load dump region ends: the turn-offs that waited take effect (R298). -/
def State.dumpEnd (s : State) : State :=
  (List.range s.chans).foldl
    (fun (s : State) c =>
      if (s.chan c).defOff then (s.onChan c fun h => { h with defOff := false }).refresh c false else s)
    { s with power := { s.power with busDump := false } }

/-- Whether each die holds its switches fully on, which it does with VBUS between −6 V and −60 V (R299). -/
def State.reverseHold (s : State) (vbusMv : Int) : State :=
  { s with sw := { s.sw with die := Vector.ofFn fun d =>
      { s.sw.die[d] with revHold := decide (-60000 ≤ vbusMv ∧ vbusMv ≤ -6000) } } }

/-- A channel whose die has lost its supply loses what the die's latches held: the output, the current latch and the thermal states
with their events (R290, R301, Table 9.3); an escalated latch, which P1 firmware keeps, stays (R282; DEDUCED, log 178). -/
def State.loseLatches (s : State) (c : Nat) : State :=
  (((s.latch c false).clearLatch c).onChan c fun h =>
    { h with bus := true, pickAt := none, thermOff := false, thermLatch := false, thermUps := [] }).clearE (Ev.lswTh c)

/-- A die loses its supply from VBUS (R29, R301): its latches clear, the BUS inhibit stands on its channels. -/
def State.dieDown (s : State) (d : Nat) : State :=
  (List.range 4).foldl (fun (s : State) j => (s.loseLatches (4 * d + j)).cancelInrush (4 * d + j))
    { s with sw := { s.sw with die := upd s.sw.die d fun x => { x with supplied := false } } }

/-- The demand that LSW_RESTORE gives a channel at a start (R270), as its mode takes it (R245); a PWM demand of a SHUTDOWN
record is restored at LSW_DUTY (R470). -/
def State.restoreDemand (s : State) (c : Nat) : Demand :=
  match s.param (P.lswRestore c) with
  | 0 => .off
  | 1 =>
    s.inMode c (if s.sw.retained then (s.chan c).demand
      else match s.sw.saved with
        | some v => match v.toList.getD c .off with
          | .pwm _ => .pwm (s.param (P.lswDuty c))
          | d => d
        | none => .off)
  | _ => if s.param (P.lswMode c) = 2 then .pwm (s.param (P.lswDuty c)) else .on

/-- Restore at start for one channel (R270): its demand is re-established, its latches are clear, and its output waits
for cold-load pickup under SHUTDOWN. A demand that becomes OFF ends the open-load event (R264). -/
def State.restoreChan (s : State) (c : Nat) : State :=
  let d := s.restoreDemand c
  let s1 := (s.onChan c fun h =>
    { h with demand := d, lastOn := if d = .off then none else some d, bus := false, shut := true, pickAt := none,
             running := false, fresh := false }).refresh c false
  if d = .off then s1.clearE (Ev.lswOl c) else s1

/-- Restore at start for the four channels of a die that is supplied (R270). -/
def State.restoreDie (s : State) (d : Nat) : State :=
  if (s.sw.die.toList.getD d Die.initial).supplied then
    (List.range 4).foldl (fun (s : State) j => s.restoreChan (4 * d + j)) s
  else s

/-- A die is supplied again (R301): LSW_RT SUPPLY is raised for each of its channels whose demand is not OFF. -/
def State.dieUp (s : State) (d : Nat) : State :=
  if (s.sw.die.toList.getD d Die.initial).supplied then s
  else
    (List.range 4).foldl
      (fun (s : State) j =>
        let c := 4 * d + j
        if (s.chan c).demand = .off || !decide (c < s.chans) then s else s.raiseP (Ev.lswRt c) 7 0)
      { s with sw := { s.sw with die := upd s.sw.die d fun x => { x with supplied := true } } }

/-- After the sequencer restarts, the events and trips that the dies hold are raised and added in the order recorded, escalation
is evaluated from them, and a condition whose state has ended since is cleared (R290). -/
def State.flushDies (s : State) : State :=
  let s1 := s.sw.dieEv.foldl (fun s e => s.raiseAs e.1 e.2.2.1 e.2.1 0 e.2.2.2)
    { s with
      sw := { s.sw with dieEv := [], tripPend := Vector.replicate 16 0 }
      ctr := { s.ctr with trips := Vector.ofFn fun c => wrapAdd 32 s.ctr.trips[c] s.sw.tripPend[c] } }
  let latched := fun c => s.sw.dieEv.any fun e =>
    e.1 == Ev.lswOc c || (e.1 == Ev.lswRt c && (e.2.1 == 1 || (e.2.1 == 4 && (s.chan c).curLatch)))
  let s1 := (List.range 16).foldl (fun (s : State) c => if latched c then s.countLatch c else s) s1
  (List.range 16).foldl
    (fun s c =>
      let h := s.chan c
      let s := if h.curLatch then s else s.clearE (Ev.lswOc c)
      if h.thermOff || h.thermLatch then s else s.clearE (Ev.lswTh c)) s1

end Sys2Proof.Machine
end

