-- ==== Sys2Proof/Machine/LedgerOps.lean ====
section
/-! DEFINITION. The shared operations of the energy ledger (Chapter 4): reservations (R113 to R115), the grant pins
(R108, R110, R117, R121, R124) and the drawing down of the HOST reservation (R116). -/

namespace Sys2Proof.Machine

/-! ### Reservations -/

/-- The classes of Table 4.5: CRITICAL, against NORMAL. -/
def jobCritical : Job → Bool
  | .faultRecord => true
  | .keyCommit => true
  | .shutdownCommit => true
  | _ => false

/-- The row of Table 4.5, from 0: the DETAIL of RES_REFUSED. -/
def jobRow : Job → Nat
  | .shutdownCommit => 0
  | .faultRecord => 1
  | .keyCommit => 2
  | .patinaFlush => 3
  | .calendarSave => 4
  | .configSave => 5
  | .fwBlock => 6
  | .nfcSession => 7
  | .lineTxDark => 8

/-- The energy at the floor of storage (R114, R475). -/
def State.eFloor (s : State) : Nat := s.eOfMv (s.param P.pwrStoFloorMv)

/-- Whether a grant pin rose within NRG_GRANT_HOLDOFF_MS (R114). -/
def State.rose (s : State) (t : Option Nat) : Bool :=
  match t with
  | some u => decide (since s.plinth.upMs u < s.param P.nrgGrantHoldoffMs)
  | none => false

/-- NRG_BASE_DRAIN_UW: the mean outflow of STO without VHOST over the last 24 h, hour by hour; before as many have ended,
over those that have (R123, log 71). -/
def State.baseDrainUw (s : State) : Nat :=
  s.ledger.outHours.foldl (· + ·) 0 / (3600 * max s.ledger.outHours.length 1)

/-- The advance of Procedure 4.1 in mJ: nothing unless the forecast is enabled, ready, not suspended and time is valid. A
suspension so ends a forecast grant that is asserted too (DESIGN CHOICE, log 70). -/
def State.advanceMj (s : State) : Nat :=
  let ready := (List.range 168).all fun b => decide (s.param P.nrgFcMinWeeks ≤ s.ledger.cal.count.toList.getD b 0)
  if !s.isOn P.nrgFcEn || !ready || s.ledger.suspended || !s.plinth.timeValid then 0
  else
    let mins := s.param P.nrgFcHorizonH * 60
    let sum10 := sumOf mins fun m =>
      s.ledger.cal.bins.toList.getD (s.binOf ((s.plinth.rtcSec : Int) + 60 * m)) 0 * 10
    let proj : Int := (sum10 * s.param P.nrgFcConfPct / 6000 : Nat) -
      ((s.baseDrainUw * s.param P.nrgFcHorizonH * 36 / 10 : Nat) : Int)
    min proj.toNat (s.param P.nrgFcMaxadvMj)

/-- The level at which BUNCH is granted as it stands: NRG_BUNCH_MJ, less the advance for a forecast grant (R108, R124). -/
def State.bunchLevelMj (s : State) : Nat :=
  if s.ledger.fc then s.param P.nrgBunchMj - s.advanceMj else s.param P.nrgBunchMj

/-- Whether a reservation of `r` units is granted (R114, Table 5.7, R425): always while BUS carries VSEL, never while BAK
or FIELD does; CRITICAL down to the floor + 40 mJ; NORMAL down to KEEP_eff, not in the state below KEEP (R204), and not below the release level of a pin
that has just risen. None while the ledger firmware is stopped (R128), but for the transfers that the ROM serves in
recovery (R441). -/
def State.canReserve (s : State) (j : Job) (r : Nat) : Bool :=
  if s.ledger.fwStop && s.plinth.seq != .recovery then false
  else if s.busCarries then true
  else if s.power.path == .onBak || s.power.path == .onField then false
  else if jobCritical j then decide (s.eFloor + 40 * mj + s.eRes + r ≤ s.eEst)
  else
    !s.ledger.belowKeep && decide ((s.keepEff + r : Int) ≤ s.eAvail) &&
    (!s.rose s.ledger.sprigAt || decide (95 * (s.param P.nrgSprigMj * mj : Int) ≤ 100 * (s.eAvail - r))) &&
    (!s.rose s.ledger.bunchAt || decide (95 * (s.bunchLevelMj * mj : Int) ≤ 100 * (s.eAvail - r)))

/-- Holds a reservation. -/
def State.hold (s : State) (j : Job) (r : Nat) : State :=
  { s with ledger := { s.ledger with res := s.ledger.res ++ [(j, r)] } }

/-- Counts the first refusal of a request (R114). -/
def State.refuse (s : State) (j : Job) : State :=
  ({ s with ctr := { s.ctr with resRefused := satAdd 16 s.ctr.resRefused 1 } }).raiseP Ev.resRefused 0 (jobRow j)

/-- Takes the first entry of a job out of a list. -/
def dropJob (j : Job) : List (Job × Nat) → List (Job × Nat)
  | [] => []
  | e :: l => if e.1 = j then l else e :: dropJob j l

/-- Releases a job's reservation (R113). -/
def State.release (s : State) (j : Job) : State :=
  { s with ledger := { s.ledger with res := dropJob j s.ledger.res } }

/-- Releases a reservation of the size given. -/
def State.releaseOf (s : State) (j : Job) (r : Nat) : State :=
  { s with ledger := { s.ledger with res := s.ledger.res.erase (j, r) } }

/-- Takes a request of the size given out of those that wait. -/
def State.unwait (s : State) (j : Job) (r : Nat) : State :=
  if s.ledger.waiting.contains (j, r) then
    { s with ledger := { s.ledger with waiting := s.ledger.waiting.erase (j, r) } }
  else { s with ledger := { s.ledger with fresh := s.ledger.fresh.erase (j, r) } }

/-- A request (R114, R115, R128): while BUS carries it is held at once; else it waits for the next ledger update, which
evaluates everything that has arrived by then. -/
def State.request (s : State) (j : Job) (r : Nat) : State :=
  if s.busCarries && s.canReserve j r then s.hold j r
  else { s with ledger := { s.ledger with fresh := s.ledger.fresh ++ [(j, r)] } }

/-- Evaluates one request that waits: held where it is granted; else it goes on waiting, counted as refused if no update has
evaluated it before (R114). -/
def State.evalRequest (s : State) (e : Job × Nat) (new : Bool) : State :=
  if s.canReserve e.1 e.2 then
    { (s.hold e.1 e.2) with ledger := { (s.hold e.1 e.2).ledger with
        waiting := if new then s.ledger.waiting else s.ledger.waiting.erase e
        fresh := if new then s.ledger.fresh.erase e else s.ledger.fresh } }
  else if new then
    let s1 := s.refuse e.1
    { s1 with ledger := { s1.ledger with
        waiting := s1.ledger.waiting ++ [e], fresh := s1.ledger.fresh.erase e } }
  else s

/-- Evaluates the requests that wait and those that have arrived since the last update: CRITICAL first, then NORMAL, each in
order of arrival (R115). Nothing is evaluated while the ledger firmware stands still (R128). -/
def State.regrant (s : State) : State :=
  let all := s.ledger.waiting.map (fun e => (e, false)) ++ s.ledger.fresh.map fun e => (e, true)
  let order := all.filter (fun x => jobCritical x.1.1) ++ all.filter fun x => !jobCritical x.1.1
  if s.ledger.fwStop && s.plinth.seq != .recovery then s
  else order.foldl (fun (s : State) x => s.evalRequest x.1 x.2) s

/-! ### The grant pins -/

/-- Whether the bus grant of R121 holds. -/
def State.busGrants (s : State) : Bool := s.busCarries && s.busFullHigh && s.isOn P.nrgBusGrant

/-- Whether a threshold of `mJ` can be reached (R110). -/
def State.reachable (s : State) (thr : Nat) : Bool := decide (thr * mj ≤ s.eFull)

/-- A pin by its hysteresis (R108): granted at the threshold, kept down to 95 % of it. -/
def pinLevel (was : Bool) (avail : Int) (thr : Nat) : Bool :=
  if was then decide (95 * (thr : Int) ≤ 100 * avail) else decide ((thr : Int) ≤ avail)

/-- Whether nothing but the bus may drive the pins: BAK carries (R55), or the path has no store to grant from. -/
def State.pinsBlocked (s : State) : Bool :=
  s.power.path == .onBak || s.power.path == .onField || s.power.fShort || s.power.fOpen || s.ledger.coreLow ||
    s.ledger.rearm || s.ledger.breach || s.ledger.overrun || s.power.vhostBreach

/-- SPRIG as storage supports it. -/
def State.wantSprig (s : State) (was : Bool) : Bool :=
  !s.pinsBlocked && s.reachable (s.param P.nrgSprigMj) && pinLevel was s.eAvail (s.param P.nrgSprigMj * mj)

/-- BUNCH as the energy itself supports it. -/
def State.wantBunch (s : State) (was : Bool) : Bool :=
  !s.pinsBlocked && s.reachable (s.param P.nrgBunchMj) && pinLevel was s.eAvail (s.param P.nrgBunchMj * mj)

/-- BUNCH by forecast (R124). -/
def State.wantForecast (s : State) (was : Bool) : Bool :=
  let adv := s.advanceMj
  !s.pinsBlocked && decide (0 < adv) && s.reachable (s.param P.nrgBunchMj) &&
    (was || decide ((s.param P.nrgSprigMj * mj : Int) ≤ s.eAvail)) &&
    pinLevel was s.eAvail ((s.param P.nrgBunchMj - adv) * mj)

/-- Drives the pins, with SPRIG_UP and BUNCH_UP at each grant; a grant by forecast carries reason FORECAST and is
recorded for its check, once for as long as BUNCH stays high (R108, R124, R125). -/
def State.drivePins (s : State) (sprig bunch fc : Bool) : State :=
  let up := s.plinth.upMs
  let l := s.ledger
  let anew := fc && !(l.fcRec && l.bunch)
  let s1 : State :=
    { s with ledger :=
      { l with
        sprig := sprig, bunch := bunch, fc := fc
        sprigAt := if sprig && !l.sprig then some up else l.sprigAt
        bunchAt := if bunch && !l.bunch then some up else l.bunchAt
        fcRec := bunch && (anew || l.fcRec && l.bunch)
        checks := if anew then l.checks ++
            [{ deficit := ((s.param P.nrgBunchMj * mj : Int) - s.eAvail).toNat, harvested := 0 }]
          else l.checks } }
  let s2 := if sprig && !l.sprig then s1.raiseP Ev.sprigUp 0 0 else s1
  if bunch && !l.bunch then s2.raiseP Ev.bunchUp (if fc then 1 else 0) 0 else s2

/-- Drives both pins low. -/
def State.pinsLow (s : State) : State := s.drivePins false false false

/-- The bus grant ends (R121): each pin stays high that storage supports at its release level, and under a HOLD the HOST
reservation opens for the highest of them. -/
def State.afterBus (s : State) : State :=
  let sp := s.wantSprig true
  let bu := s.wantBunch true
  let room := fun thr : Nat => some ((s.param thr - s.param P.nrgKeepMj) * mj)
  let s1 := s.drivePins sp bu false
  { s1 with ledger :=
    { s1.ledger with host :=
        if !s.ledger.hold || s.ledger.ignored then none
        else if bu then room P.nrgBunchMj else if sp then room P.nrgSprigMj else none } }

/-- Evaluates the pins (R108, R110, R117, R121, R124): low under device reset and in FIELD; high under the bus grant; held
while HOLD is high, but for one that is ignored (R120); else by storage. A forecast grant stays one until E_avail reaches
NRG_BUNCH_MJ. The core's 2 s without firmware and an overrun come before the bus grant, and that comes before a KEEP breach
(DESIGN CHOICE, logs 64 and 72). -/
def State.evalPins (s : State) : State :=
  let s0 : State := { s with ledger := { s.ledger with busGrant := s.busGrants } }
  if s.inReset || s.plinth.mode == .field || s.ledger.rearm || s.ledger.coreLow || s.ledger.overrun then s0.pinsLow
  else if s.busGrants then s0.drivePins true true false
  else if s.ledger.busGrant then s0.afterBus
  else if s.ledger.hold && !s.ledger.ignored && !s.pinsBlocked then s0
  else
    let b := s0.wantBunch (s.ledger.bunch && !s.ledger.fc)
    let f := !b && s0.wantForecast s.ledger.fc
    s0.drivePins (s0.wantSprig s.ledger.sprig) (b || f) f

/-- The pins at a change of the bus (R121): a bus grant that begins asserts them; the end of one is evaluated at the next
ledger update. -/
def State.busPins (s : State) : State := if s.busGrants then s.evalPins else s

/-- The HOST reservation that a HOLD opens (R117, R121): for the highest pin asserted, or zero under the bus grant. -/
def State.hostAmount (s : State) : Option Nat :=
  if s.busGrants then some 0
  else if s.ledger.bunch then some ((s.param P.nrgBunchMj - s.param P.nrgKeepMj) * mj)
  else if s.ledger.sprig then some ((s.param P.nrgSprigMj - s.param P.nrgKeepMj) * mj)
  else none

/-- Re-evaluates which thresholds exceed E_full (R110): UNREACHABLE names each one that has become so, and clears once all
are reachable. Bits 0 KEEP_eff, 1 SPRIG, 2 BUNCH. -/
def State.unreachEval (s : State) : State :=
  let out : Nat → Bool := fun i =>
    if i = 0 then decide (s.eFull < s.keepEff)
    else !s.reachable (s.param (if i = 1 then P.nrgSprigMj else P.nrgBunchMj))
  let s1 := (List.range 3).foldl
    (fun (s : State) i => if out i && !s.ledger.unreach.getLsbD i then s.raiseC Ev.unreachable 0 i else s) s
  let s2 : State := { s1 with ledger := { s1.ledger with unreach := BitVec.ofNat 3 (maskOf 3 out) } }
  if (List.range 3).any out then s2 else s2.clearE Ev.unreachable

/-- The pins and thresholds after a change of parameters, of the capacitance or of the full point (R105, R110). -/
def State.evalLedger (s : State) : State := s.unreachEval.evalPins

end Sys2Proof.Machine
end

