-- ==== Sys2Proof/Machine/ModeOps.lean ====
section
/-! DEFINITION. The power modes (Chapter 5): the source of TB8 (R133), entering a mode with its clocks (R131, R137), and
the sequencer's wake into RUN (R137, R140). -/

namespace Sys2Proof.Machine

/-! ### TB8 -/

/-- Whether this device takes part in a Tableau and is not its lead: its pilot tracker takes TSYNC in place of LN_RX (R394). -/
def State.follower (s : State) : Bool := s.isOn P.tabEn && !s.tab.lead

/-- Whether this device speaks on the feeder for itself or its Tableau: with TAB_EN at 1 only as a qualified lead (R404). -/
def State.speaks (s : State) : Bool := !s.isOn P.tabEn || (s.tab.lead && s.tab.qualified)

/-- Whether this device speaks as the HEAD: HEAD role, and in a Tableau only as its qualified lead (R392, R404). -/
def State.isHead (s : State) : Bool := s.ident.role == .head && s.speaks

/-- The source of TB8 (R133, R394): RC32 in FIELD; the pilot or TSYNC while locked, but not at a HEAD that makes the
pilot; else XO32, or RC32 while XO32 does not run. -/
def State.tb8Source (s : State) : Tb8 :=
  if s.plinth.mode = .field then .rc32
  else if s.follower && s.tab.tsync then .tsync
  else if s.line.lock && !s.isHead && !s.follower then .pilot
  else if s.plinth.xo && !s.plinth.xtalFail then .xo32 else .rc32

/-- Re-evaluates the source of TB8; a change glides (R133, R323). The pilot trims RC32 while XO32 has failed (R132). -/
def State.tb8Eval (s : State) : State :=
  let t := s.tb8Source
  if t = s.plinth.tb8 then s
  else
    { s with
      plinth := { s.plinth with tb8 := t, rc32Trim := s.plinth.rc32Trim || (s.plinth.xtalFail && t == .pilot) }
      arm := { s.arm with glideMs := max s.arm.glideMs 6 } }

/-- Loses pilot lock (R359): words, nibbles and a fall in progress go; alignments end (R255); the pilot level is held. -/
def State.loseLock (s : State) : State :=
  if !s.line.lock then s
  else
    (({ s with
        line := { s.line with lock := false, good := 0, bad := 0, lastSfn := none, nibbles := [], applyT := none,
                              timeFrom := false, fall := none }
        sw := { s.sw with ch := Vector.ofFn fun c => { s.sw.ch[c] with shift := 0 } } }.tb8Eval).raiseP
      Ev.pilotLock 2 0).relevel

/-! ### Modes -/

/-- A tracker that a device reset stops: its pads keep the passive paths only (Table 1.5). -/
def Tracker.stop (t : Tracker) : Tracker := { t with running := false, pin := 0, held := false }

/-- Whether PLL384 is to run (R131): in RUN while a rail starts, switches, waits in a hiccup (R334) or for the lock that it lost
(R337). -/
def State.pllWanted (s : State) : Bool :=
  s.plinth.mode == .run && (List.range 2).any fun r =>
    (s.rail r).st.live || ((s.rail r).st == .faulted && ((s.rail r).reason == 5 || (s.rail r).reason == 8))

/-- Stops PLL384 where nothing needs it. -/
def State.pllEval (s : State) : State :=
  { s with plinth := { s.plinth with pll := s.plinth.pll && s.pllWanted } }

/-- Enters a power mode (R137, Table 5.4): the clocks that it powers, TB8 (R133), the harvest channels, which have their
passive paths only in FIELD (Table 1.5), the grant pins, which are high-impedance in FIELD and SHELF (R121), and the trace,
which pauses outside RUN and is lost with VCORE in PLINTH (R460). A line receiver that loses its supply loses pilot lock
(Table 1.5, R359: DEDUCED, log 82). -/
def State.toMode (s : State) (m : Mode) : State :=
  let tr := s.trace
  let runs := tr.st == .armed || tr.st == .triggered
  let off := decide (m = Mode.plinth ∨ m = Mode.shelf)
  let h := s.harvest
  let s1 : State := { s with
    harvest := if m = Mode.field ∨ m = Mode.shelf then
        { h with teg := h.teg.stop, vib := h.vib.stop, pv := h.pv.stop, nfc := false, nfcUw := 0, outUa := 0 } else h
    ledger := if m = Mode.field ∨ m = Mode.shelf then
        { s.ledger with sprig := false, bunch := false, fc := false, busGrant := false } else s.ledger
    plinth := { s.plinth with
      mode := m, rc48 := !off
      xo := s.plinth.xo && decide (m ≠ Mode.field ∧ m ≠ Mode.shelf) }
    trace := if off then
        { tr with st := .idle, buf := [], trig := 0xFFFF, left := 0, gaps := 0, seen := false, paused := false }
      else { tr with paused := tr.paused || (decide (s.plinth.mode = Mode.run ∧ m ≠ Mode.run) && runs) } }
  (if off || m == .field then s1.loseLock else s1).tb8Eval.pllEval

/-- The frequency of RC48 in kHz while it runs (Table 5.2). -/
def State.rc48Khz (s : State) : Nat := if !s.plinth.rc48 then 0 else if s.plinth.mode = .field then 12000 else 48000

/-- Whether Table 5.7 permits firmware work at all: on the backup cell within the hourly run only (R142). -/
def State.permitsWork (s : State) : Bool := s.power.path != .onBak || s.plinth.hk

/-- The opcodes that the P4 dispatch executes: those of class IMMEDIATE (R184, Table 7.1). -/
def atP4 (opc : Nat) : Bool := [0x01, 0x02, 0x03, 0x04, 0x06, 0x15, 0x33, 0x40, 0x60].contains opc

/-- Whether a request is IMMEDIATE; TAB_FORWARD has the class of its inner opcode (R213). -/
def immediate (opc : Nat) (b : List Byte) : Bool := atP4 opc || (opc == 0x07 && atP4 (fieldAt b 1 1))

/-- Whether nothing at P5 has arrived before the number given: no request of another class, no wall-switch action (R184, R230,
R243). -/
def State.firstAtP5 (s : State) (n : Nat) : Bool :=
  s.camyx.ports.toList.all (fun p => p.waiting.all fun v => immediate v.opc v.body || decide (n ≤ v.n)) &&
    s.sw.wallQ.all fun a => decide (n ≤ a.1)

/-- A service of the watchdog (R151): it counts SYS_WDT_MS afresh, as that value stands now. -/
def State.wdtService (s : State) : State :=
  { s with
    plinth := { s.plinth with wdtMs := s.param P.sysWdtMs, wdtSeen := 0, wdtDone := 0 }
    config := { s.config with wdtLoadMs := s.param P.sysWdtMs } }

/-- A task of Roeno at a level P1 to P6 ends (R151): the watchdog is serviced where every level that has had work ready since
the last service has completed a task since. -/
def State.taskEnd (s : State) (level : Nat) : State :=
  if !s.seqRuns then s
  else
    let done := s.plinth.wdtDone ||| BitVec.ofNat 6 (2 ^ (level - 1))
    if s.plinth.wdtSeen &&& ~~~done = 0 then s.wdtService
    else { s with plinth := { s.plinth with wdtDone := done } }
/-- The sequencer starts from its warm context (Table 5.5); a device held in reset stays there, and before the first cold
boot there is none. -/
def State.wakeSeq (s : State) : State :=
  if s.plinth.seq = .off ∧ s.plinth.rstLow = false ∧ s.plinth.testHeld = false ∧ s.life.st ≠ .plinthStart ∧
      s.life.st ≠ .boot then
    ({ s with plinth := { s.plinth with seq := .running } }.flushDies).wdtService
  else s

/-- Goes to RUN and wakes the sequencer, which then reads what the wake latches hold (R140). -/
def State.toRun (s : State) : State :=
  let s1 := if s.plinth.mode = .run then s.wakeSeq else (s.toMode .run).wakeSeq
  if s1.seqRuns then { s1 with plinth := { s1.plinth with wakes := [] } } else s1

/-- A RUN condition arises (R137, R138): DOZE is left at once. -/
def State.needRun (s : State) : State := if s.plinth.mode = .doze ∧ s.seqRuns then s.toRun else s

end Sys2Proof.Machine
end

