-- ==== Sys2Proof/Machine/ArmOps.lean ====
section
/-! DEFINITION. The shared operations of the Armature (Chapters 10 and 11): the edge map (R313), starts and soft-stops
(R317 to R320, R326), stops on a fault with their records (R345, R346), and restarts. -/

namespace Sys2Proof.Machine

/-! ### Gangs (R407, R408) -/

/-- The parameter that names the carriers of a gang rail (R407). -/
def gangId (r : Nat) : Nat := if r = 0 then P.tabGangA else P.tabGangB

/-- Whether an index carries a gang rail (R407). -/
def State.carriedBy (s : State) (r m : Nat) : Bool := bitAt (s.param (gangId r)) m

/-- Whether this device carries a gang rail (R407). -/
def State.carries (s : State) (r : Nat) : Bool := s.tab.inTab && s.carriedBy r (s.param P.tabIndex)

/-- Whether a rail is, at this device, one that is ganged across Tableau members (R407): it carries it, or leads a Tableau that
does. -/
def State.ganged (s : State) (r : Nat) : Bool :=
  s.tab.inTab && s.param (gangId r) != 0 && (s.tab.lead || s.carries r)

/-- Orders a gang rail's state as its lead (R409): a carrier's own share waits for the cycle start. -/
def State.gangOrder (s : State) (r code : Nat) : State :=
  let own := s.carries r
  { s with tab := { s.tab with
      rstate := upd s.tab.rstate r fun _ => code
      startPend := if own && code == 1 then upd s.tab.startPend r fun _ => true else s.tab.startPend
      stopPend := if own && code == 3 then upd s.tab.stopPend r fun _ => true else s.tab.stopPend } }

/-- Running phases of a rail as PHRUN gives them (Table 13.4). -/
def phrunOf (r v : Nat) : Nat := if r = 0 then v % 16 else v / 16 % 8

/-- Whether a member is one for MEMBERS (Table 13.3): neither lost nor set aside, by the lead or by itself. -/
def Member.present (x : Member) : Bool := !x.lost && x.aside == 0 && !x.mstate.getLsbD 1

/-- The phases of a gang rail at an index (R408): its own that run; a member's by its PHRUN, which the lead holds while it is
silent. No frame carries the lead's own PHRUN: another member takes it to run the slots of the rail while the gang
runs (DEDUCED, log 87). -/
def State.gangPhases (s : State) (r m : Nat) : Nat :=
  if !s.carriedBy r m then 0
  else if m = s.param P.tabIndex then (s.running r).length
  else if s.tab.lead then match s.tab.member.toList.getD m none with
    | some x => if x.present then phrunOf r x.phrun.toNat else 0
    | none => 0
  else if m = s.tab.leadIdx then
    let g := s.tab.rstate.toList.getD r 7
    if 1 ≤ g ∧ g ≤ 3 then (s.slots r).length else 0
  else if s.tab.members.getLsbD m then phrunOf r (s.tab.peers.toList.getD m 0)
  else 0

/-- P_tot of a gang rail (R408). -/
def State.pTot (s : State) (r : Nat) : Nat := sumOf 8 (s.gangPhases r)

/-! ### The edge map -/

/-- A turn-on of the grid of R311 in PLL counts after a TB8 tick: position `k` of `p` phases, period `j` of `n`, with the
offset in 1/64 periods. -/
def gridCounts (off p n k j : Nat) : Nat := (off * p + 64 * k + 64 * p * j) * 48000 / (64 * max p 1 * max n 1)

/-- The grid offset of a rail in 1/64 periods (R311); the member index is not applied to a ganged rail (R408). -/
def State.gridOff (s : State) (r : Nat) : Nat :=
  let gang := s.carries r
  let a := if s.isOn P.armStaggerAddr && s.line.joined then s.addrTerm else 0
  (s.param (P.armPhase r) + 5 * a + 8 * (if gang then 0 else s.memberIdx)) % 64

/-- The nominal on-time of a rail in PLL counts, at its target and a VBUS in mV (R307, R313). -/
def State.nominalOn (s : State) (r mv : Nat) : Nat :=
  let den := max (mv * s.param (P.armN r)) 1
  (s.targetMv r * 48000 + den / 2) / den

/-- The grid of a rail: its phase count, and the position of its own first phase (R311); of a gang rail P_tot, and the
position after the carriers of lower index (R408). -/
def State.gridOf (s : State) (r : Nat) : Nat × Nat :=
  if s.carries r then (s.pTot r, sumOf (s.param P.tabIndex) (s.gangPhases r)) else ((s.running r).length, 0)

/-- The edges of a rail in one TB8 period, in 1/25 PLL counts (R313): one turn-on and one turn-off for each running phase
and period. -/
def State.railEdges (s : State) (r mv : Nat) : List Nat :=
  let g := s.gridOf r
  let n := s.param (P.armN r)
  let on := s.nominalOn r mv
  (List.range (s.running r).length).flatMap fun k => (List.range n).flatMap fun j =>
    let t := gridCounts (s.gridOff r) g.1 n (g.2 + k) j
    [t * 25 % 1200000, (t + on) * 25 % 1200000]

/-- Puts a number into a rising list. -/
def upInsert : List Nat → Nat → List Nat
  | [], x => [x]
  | y :: l, x => if x ≤ y then x :: y :: l else y :: upInsert l x

/-- How far the exclusions of rising edges cover from a point on: each forbids 300 ns before it to 160 ns after it, its
60 ns cluster included (R149, R313). Edges and points are shifted by 2,880 units. -/
def coverTo (pos : Nat) : List Nat → Nat
  | [] => pos
  | e :: l => if e ≤ pos then coverTo (max pos (e + 4416)) l else pos

/-- Whether slot `j` holds no quiet point: exclusions cover all of it. -/
def slotCovered (edges : List Nat) (j : Nat) : Bool :=
  let a := 9375 * j + 1200000
  let near := edges.flatMap fun e =>
    [e, e + 1200000, e + 2400000].filter fun x => decide (x < a + 9375 + 2880 ∧ a < x + 1536)
  decide (a + 9375 ≤ coverTo a ((near.foldl upInsert []).map fun x => x - 2880))

/-- ARM_QUIET_SLOTS (R313). -/
def State.quietSlots (s : State) (mv : Nat) : Nat :=
  let edges := s.railEdges 0 mv ++ s.railEdges 1 mv
  if edges.isEmpty then 0 else ((List.range 128).filter (slotCovered edges)).length

/-- Whether the sample of a slot is noisy (R149): no point of the slot is clear of the edges of the rails that run, as the edge
map has them. -/
def State.slotNoisy (s : State) (slot : Nat) : Bool :=
  slotCovered (s.railEdges 0 s.arm.mapMv ++ s.railEdges 1 s.arm.mapMv) slot

/-- Recomputes the edge map (R313); QUIET_PLAN holds in each group whose rail is enabled while a slot has no quiet
point. -/
def State.remap (s : State) : State :=
  let mv := s.power.vbusMv.toNat
  let q := s.quietSlots mv
  let s1 : State := { s with arm := { s.arm with quiet := min q 255, mapMv := mv } }
  (List.range 2).foldl
    (fun (s : State) r => s.setC (Ev.quietPlan r) (decide (0 < q) && s.isOn (P.armEn r) && s.railExists r) 0 0) s1

/-! ### Conditions -/

/-- Whether the shutdown sequence has begun (R345), also while a boot interrupts it. -/
def State.shutBegun (s : State) : Bool :=
  match if s.life.st = .boot then s.life.prev else s.life.st with
  | .shut1 => true
  | .shut2 => true
  | .shut3 => true
  | .shut4 => true
  | .shut5 => true
  | .down => true
  | _ => false

/-- Whether VBUS and VDRV let a rail run (R326, R335, R336). -/
def State.railSupply (s : State) : Bool := s.busFullHigh && s.arm.vdrvOk

/-- Whether a start of a rail is accepted (R304, R326). -/
def State.mayStart (s : State) (r : Nat) : Bool :=
  s.railExists r && s.isOn (P.armEn r) && (s.rail r).st != .ovLatched && (s.rail r).st != .faulted && s.railSupply &&
    s.plinth.mode != .field

/-- The other rail. -/
def otherRail (r : Nat) : Nat := 1 - r

/-- Whether a rail follows the other one (R319). -/
def State.follows (s : State) (r : Nat) : Bool := s.railExists r && s.param (P.armTrackSrc r) == 1 && !s.merged

/-! ### Records -/

/-- ARM_LOCK. -/
def State.armLock (s : State) (r : Nat) : Nat :=
  let x := s.rail r
  flag x.locked 0 + flag (decide (0 < s.arm.glideMs)) 1 + flag x.corrLim 2 + flag x.tracking 3 + flag x.braking 4

/-- The mask of a rail's running phases. -/
def State.runMask (s : State) (r : Nat) : Nat := maskOf 8 fun p => (s.running r).contains p

/-- The first 60 bytes of a fault record (Table 11.5), as the capture freezes them. -/
def State.faultBytes (s : State) (r cause phases detail : Nat) : List Byte :=
  let x := s.rail r
  let n := s.ctr.faults.toList.getD r 0 + 1
  let flags := flag s.plinth.timeValid 0 + flag (s.plinth.tb8 == .pilot) 3 + flag s.arm.sync 4
  let phI := (List.range 8).flatMap fun p =>
    toLe 2 (ofInt 2 (if (s.phase p).running && decide (s.railOf p = r) then (s.phase p).meanMa / 10 else 0))
  toLe 1 0xAF ++ toLe 1 (r + flag (s.carries r) 7) ++ toLe 2 (n % 65536) ++ toLe 4 s.stamp ++ toLe 4 s.plinth.upMs ++
    toLe 1 cause ++ toLe 1 x.st.code ++ toLe 1 phases ++ toLe 1 flags ++
    toLe 2 (ofInt 2 (s.power.vbusMv / 10)) ++ toLe 2 x.vos ++ toLe 2 x.vref ++ toLe 2 (s.targetMv r) ++ phI ++
    toLe 1 s.arm.vdrvDv ++ toLe 1 (ofInt 1 s.power.tempC) ++ toLe 1 x.hiccups ++
    toLe 2 (sumOf 8 fun p => s.phStep p * 4 ^ p) ++ toLe 1 (s.armLock r) ++ toLe 2 x.onTime ++ toLe 4 n ++
    toLe 4 detail ++ toLe 4 0

/-- A fault record closed by its CRC. -/
def sealRec (b : List Byte) : List Byte := b ++ toLe 4 (crc32c b).toNat

/-- Captures a fault record and counts it (R346). -/
def State.capture (s : State) (r cause phases detail : Nat) : State :=
  let b := s.faultBytes r cause phases detail
  { (s.onRail r fun x => { x with caps := x.caps ++ [b] }) with
    ctr := { s.ctr with faults := upd s.ctr.faults r fun n => wrapAdd 32 n 1 } }

/-! ### Phases -/

/-- Stops every phase of a rail: GH and GL low; the emulated currents end with them (R309). -/
def State.phasesOff (s : State) (r : Nat) : State :=
  let s1 : State := { s with arm := { s.arm with
      ph := Vector.ofFn fun p =>
        if s.railOf p.val = r then
          { s.arm.ph[p] with running := false, emuNa := 0, onLeft := 0, offFor := 0, scRun := 0, scNow := false }
        else s.arm.ph[p] } }
  s1.onRail r fun x => { x with fsw := 0, onTime := 0, emuArea := 0, emuLen := 0, emuMeanNa := 0, olMs := 0, olOk := 0 }

/-- Sheds a phase (R340, R341): GH and GL low, its reason kept, PHASE_DEGRADED SHED raised, a record captured. -/
def State.shedPhase (s : State) (r p code : Nat) : State :=
  let s1 := s.capture r 0x0C (2 ^ p) code
  ((s1.onPhase p fun x => { x with running := false, shed := code, flagged := none }).raiseC (Ev.phaseDegraded r) 1 p)

/-- Clears the sheds of a rail's phases at a start from state 0 (R343). -/
def State.unshed (s : State) (r : Nat) : State :=
  ({ s with arm := { s.arm with
      ph := Vector.ofFn fun p =>
        if s.railOf p.val = r then { s.arm.ph[p] with shed := 0, flagged := none } else s.arm.ph[p] } }).clearIf
    (Ev.phaseDegraded r) fun h => h.reason == 1

/-! ### Starts and stops -/

/-- The clears of a rail that leaves state 5 (Table 15.2). -/
def State.leaveFault (s : State) (r : Nat) : State :=
  ((((s.clearE (Ev.overload r)).clearE (Ev.vinOv r)).clearIf (Ev.undervolt r)
    fun h => h.reason == 1 || h.reason == 2).clearE (Ev.railStop r))

/-- Puts one rail in state 1 (R317, R319): PLL384 is enabled, the reference starts from 0 or, where the rail was
stopping, from its present value; a follower waits for a leader that does not run (R320). -/
def State.startOne (s : State) (r : Nat) : State :=
  let x := s.rail r
  let leader := (s.rail (otherRail r)).st
  let s1 := if x.st = .stopped then s.unshed r else s
  (s1.onRail r fun x =>
    { x with
      st := .starting, reason := 0, stopReason := 0, autoPend := false, braking := false
      vref := if x.st = .stopping then x.vref else 0
      tracking := s.param (P.armTrackSrc r) != 0
      waitLeader := s.follows r && !leader.live }).needRun

/-- Starts a rail, and with it a follower that the conditions let start (R319). -/
def State.startRail (s : State) (r : Nat) : State :=
  let s1 := s.startOne r
  let f := otherRail r
  if s1.follows f && (s1.rail f).st == .starting && (s1.rail f).waitLeader then
    s1.onRail f fun x => { x with waitLeader := false }
  else if s1.follows f && s1.mayStart f && (s1.rail f).st == .stopped then s1.startOne f
  else s1

/-- Whether a rail stopped on a fault may start by itself: not once the shutdown sequence has begun (R345), nor without its
supplies. -/
def State.mayRestart (s : State) (r : Nat) : Bool := !s.shutBegun && s.railSupply && (s.rail r).st == .faulted

/-- A start of a rail stopped on a fault, from the pre-biased output, that keeps every shed phase shed (R343). -/
def State.restartShare (s : State) (r : Nat) : State :=
  ((s.leaveFault r).onRail r fun x => { x with st := .stopping, vref := 0 }).startRail r

/-- An automatic restart (R345); that of a gang rail is ordered by its lead (R411). -/
def State.restartRail (s : State) (r : Nat) : State :=
  if !s.mayRestart r then s
  else if s.carries r then (if s.tab.lead then s.gangOrder r 1 else s)
  else s.restartShare r

/-- Restarts each rail that stopped with a reason (R335 to R337). -/
def State.restartAll (s : State) (reason : Nat) : State :=
  (List.range 2).foldl (fun (s : State) r => if (s.rail r).reason = reason then s.restartRail r else s) s

/-- Begins a soft-stop of one rail (R318) that ends in the reason given, 0 for none; `track` where it follows its leader down
(R319). -/
def State.stopOne (s : State) (r why : Nat) (track : Bool) : State :=
  if (s.rail r).st.live then
    s.onRail r fun x =>
      { x with st := .stopping, stopReason := why, waitLeader := false
               tracking := if x.st = .stopping then x.tracking else track }
  else s

/-- A follower soft-stops with its leader (R319), or at its own rate where that has stopped on a fault (R320); one that a
protection is already stopping keeps its reason. -/
def State.stopFollower (s : State) (f : Nat) (track : Bool) : State :=
  s.stopOne f (if (s.rail f).st = .stopping then (s.rail f).stopReason else 0) track

/-- A soft-stop of a rail, at its own rate; a follower of it stops with it (R319). -/
def State.softStop (s : State) (r why : Nat) : State :=
  let s1 := s.stopOne r why false
  let f := otherRail r
  if s.follows f && (s.rail r).st.live then s1.stopFollower f true else s1

/-- A follower whose leader has stopped on a fault soft-stops and raises TRACK_FAULT (R320). -/
def State.leaderFault (s : State) (r : Nat) : State :=
  let f := otherRail r
  if s.follows f && (s.rail f).st.live then (s.stopFollower f false).raiseP (Ev.trackFault f) 0 0 else s

/-- Stops a rail on a fault at once: every gate low, state 5 with its reason (R345). -/
def State.faultNow (s : State) (r reason : Nat) : State :=
  ((s.phasesOff r).onRail r fun x =>
    { x with st := .faulted, reason := reason, stopReason := 0, vref := 0, locked := false, corrLim := false,
             tracking := false, braking := false, waitLeader := false }).pllEval.remap.leaderFault r

/-- A stop on a fault with its record and RAIL_STOP (R336, R340, R341). -/
def State.railStop (s : State) (r reason detail : Nat) : State :=
  ((s.capture r reason (s.runMask r) detail).faultNow r reason).raiseC (Ev.railStop r) reason 0

/-- A protective soft-stop with its record (R332, R337, R342). -/
def State.softFault (s : State) (r reason detail : Nat) : State :=
  ((s.capture r reason (s.runMask r) detail).stopOne r reason false).leaderFault r

/-- A hiccup (R334): gates low, counted; with the count reached, the rail stays stopped with HICCUP, RAIL_STOP and a
record, else it waits to restart. -/
def State.hiccup (s : State) (r why : Nat) : State :=
  let n := min ((s.rail r).hiccups + 1) 15
  let s1 := s.onRail r fun x => { x with hiccups := n, uvReason := why }
  if s.param (P.armHiccupMax r) ≤ n then s1.railStop r 6 why else s1.faultNow r 5

/-- Whether a rail has phases enough to run (R340, R341). -/
def State.enoughPhases (s : State) (r : Nat) : Bool :=
  decide (s.param (P.armMinPh r) ≤ ((s.slots r).filter fun p => (s.phase p).shed == 0).length)

/-- A soft-stop ends (R318): every gate low; state 0, or state 5 with the reason that the stop was for. -/
def State.stopDone (s : State) (r : Nat) : State :=
  let why := (s.rail r).stopReason
  if (s.rail r).st ≠ .stopping then s
  else
    ((s.phasesOff r).onRail r fun x =>
      { x with st := if why = 0 then .stopped else .faulted, reason := why, stopReason := 0, vref := 0, locked := false,
               corrLim := false, tracking := false, braking := false }).pllEval.remap

/-- Takes back the records that a rail has captured in this system tick, since the over-voltage latch wins over every other trip
(R348). -/
def State.uncapture (s : State) (r : Nat) : State :=
  let now := fun b : List Byte => fieldAt b 8 4 == s.plinth.upMs
  let n := ((s.rail r).caps.filter now).length
  { (s.onRail r fun x => { x with caps := x.caps.filter fun b => !now b }) with
    ctr := { s.ctr with faults := upd s.ctr.faults r fun k => k - n } }

/-- The over-voltage latch (R338): GH low, GL high, state 4, one record, OUT_OV raised and pinned. -/
def State.ovLatch (s : State) (r peak : Nat) : State :=
  let s0 := s.uncapture r
  let s1 := (if (s.rail r).st = .faulted then s0.leaveFault r else s0).capture r 0x01 (s.runMask r) peak
  ((((s1.phasesOff r).onRail r fun x =>
      { x with st := .ovLatched, reason := 1, stopReason := 0, braking := false, locked := false, corrLim := false,
               tracking := false, waitLeader := false, autoPend := false }).pllEval.remap.leaderFault r).raisePinC (Ev.outOv r) 0 0)

/-! ### The timebase -/

/-- A change of the timebase's source (R321, R323): TBA glides, and LOCK_CHANGE is raised in each group whose rail is
enabled. A difference of up to 10 % at 2 % per ms glides for at most 5 ms, and the phase slews within 1 ms more. -/
def State.syncChange (s : State) (on : Bool) : State :=
  (List.range 2).foldl
    (fun (s : State) r =>
      if s.isOn (P.armEn r) && s.railExists r then s.raiseP (Ev.lockChange r) (if on then 3 else 4) 0 else s)
    { s with arm := { s.arm with sync := on, glideMs := 6 } }

/-- SYNC is dropped where it is no input any more (R321). -/
def State.syncEval (s : State) : State := if s.arm.sync && s.param P.armSyncMode != 1 then s.syncChange false else s

/-! ### The reference in time -/

/-- A value that goes towards another by at most `d`. -/
def toward (x goal d : Nat) : Nat := if x ≤ goal then min goal (x + d) else max goal (x - d)

/-- How far the reference of a rail goes in 1 ms of its soft-start, in mV (R317). -/
def State.rampMv (s : State) (r : Nat) : Nat := max 1 (s.vrefTarget r * 10 / max (s.param (P.armSsMs r)) 1)

/-- The reference of a follower (R319); what TRK shows is a free value (log 8). -/
def State.trackMv (s : State) (r : Nat) : Nat :=
  let t := s.vrefTarget r
  let l := s.rail (otherRail r)
  let trk := Sys2Proof.Config.reading s.free
  let coincident := s.isOn (P.armTrackMode r)
  if s.param (P.armTrackSrc r) = 1 then
    if coincident then min t (l.vos * 1000 / max (s.param (P.armDivX1000 r)) 1)
    else t * l.vref / max (s.vrefTarget (otherRail r)) 1
  else if coincident then min t trk else min t (t * trk / max (s.param (P.armTrkFullMv r)) 1)

/-- Whether the reference of a share comes from the lead's frames (R409): in every state but a soft-stop that the lead has not
ordered. -/
def State.gangRef (s : State) (r : Nat) : Bool :=
  s.carries r && !s.tab.lead && ((s.rail r).st != .stopping || (s.tab.rstate.toList.getD r 7 == 3 && !s.tab.leadLost))

/-- The reference of a rail after 1 ms more by its own settings: it slews to a new target (R316), rises in a start once the phases
switch (R317), falls in a soft-stop to 10 % of the target (R318), or follows its leader (R319). -/
def State.vrefOwn (s : State) (r : Nat) : Nat :=
  let x := s.rail r
  let t := s.vrefTarget r
  match x.st with
  | .starting => if x.waitLeader then x.vref else if x.tracking then s.trackMv r else toward x.vref t (s.rampMv r)
  | .regulating => toward x.vref t (10 * s.param (P.armSlew r))
  | .stopping => max (t / 10) (if x.tracking then min x.vref (s.trackMv r) else x.vref - s.rampMv r)
  | _ => x.vref

/-- The reference of a rail after 1 ms more; that of a gang's share moves by 1 mV at most, and at a member with the lead's frames
alone (R409). -/
def State.vrefNext (s : State) (r : Nat) : Nat :=
  let x := s.rail r
  if s.gangRef r || (s.running r).isEmpty then x.vref
  else if s.carries r then toward x.vref (s.vrefOwn r) 1
  else s.vrefOwn r

/-- The references of both rails in 1 ms, which pass no firmware (Table 5.11). -/
def State.rampRails (s : State) : State :=
  let s1 : State := { s with arm := { s.arm with
    rail := Vector.ofFn fun r => { s.arm.rail[r] with vref := s.vrefNext r.val } } }
  if (List.range 2).any fun r => (s.rail r).tracking && s.param (P.armTrackSrc r) == 2 then s1.draw else s1

/-! ### Trims -/

/-- The largest trim of a rail's phases in PLL counts: 12 % of the nominal on-time (R315). -/
def State.trimLimit (s : State) (r : Nat) : Nat := s.nominalOn r s.power.vbusMv.toNat * 12 / 100

/-- A trim within its limits. -/
def trimClip (lim : Nat) (trim : Int) : Int := max (-(lim : Int)) (min (lim : Int) trim)

/-! ### Leaving state 5 and state 4 -/

/-- A rail stopped on a fault goes to state 0 without switching, its hiccup count cleared (R345). -/
def State.toIdle (s : State) (r : Nat) : State :=
  if (s.rail r).st = .faulted then
    ((s.leaveFault r).onRail r fun x => { x with st := .stopped, reason := 0, hiccups := 0 }).pllEval
  else s

/-- Whether a record has cause OUT_OV and is not marked cleared (R339, Table 11.5). -/
def ovRecord (b : List Byte) : Bool := fieldAt b 12 1 == 1 && !bitAt (fieldAt b 15 1) 1

/-- A record marked cleared (R347): FLAGS bit 1. -/
def markCleared (b : List Byte) : List Byte := b.take 15 ++ toLe 1 (fieldAt b 15 1 + 2) ++ (b.drop 16).take 44

/-- Marks the record of the latch cleared, where it stands: in the ring, rewritten in place with its CRC, or still
captured. -/
def Rail.clearRecord (x : Rail) : Rail :=
  let sealed := fun b : List Byte => if ovRecord b then sealRec (markCleared b) else b
  let mark := fun b : List Byte => if ovRecord b then markCleared b else b
  { x with ring := x.ring.map sealed, caps := x.caps.map mark, late := x.late.map mark }

/-- Clears the output over-voltage latch (R339): GL low, the record marked cleared, state 0. -/
def State.clearOv (s : State) (r : Nat) : State :=
  (s.onRail r fun x => { x.clearRecord with st := .stopped, reason := 0 }).clearE (Ev.outOv r)

end Sys2Proof.Machine
end

