-- ==== Sys2Proof/Machine/ConfigOps.lean ====
section
/-! DEFINITION. The shared operations of the configuration (Chapter 7): banks and digests (R232, R236), the checks of a
write (R228) and of a COMMIT (R229), Vanger images (R238 to R240). -/

namespace Sys2Proof.Machine

/-! ### Widths and values -/

/-- The bytes W of a parameter of `bits` bits (R223). -/
def widthOf (bits : Nat) : Nat := if bits ≤ 8 then 1 else if bits ≤ 16 then 2 else if bits ≤ 32 then 4 else bits / 8

/-- W of an ID. -/
def widthOfId (id : Nat) : Nat :=
  match findDesc id with
  | some (d, _) => widthOf d.bits
  | none => 0

/-- Whether an ID is "(local)" (R226). -/
def isLocalId (id : Nat) : Bool :=
  match findDesc id with
  | some (d, _) => d.isLocal
  | none => false

/-- SYS_COMPAT of Roeno 4.2.0 (R237). -/
def ownCompat : Nat := 0x0302

/-- SYS_STEPPING of stepping B1 (Table 7.9). -/
def ownStepping : Nat := 0x3142

/-- One entry of an image, a digest list or a reply: ID (2), W (1), VALUE (W). -/
def entryBytes (id v : Nat) : List Byte := toLe 2 id ++ toLe 1 (widthOfId id) ++ toLe (widthOfId id) v

/-- A value of a list of differences from the defaults of a role and a type. -/
def valueIn (r : Role) (t : StoType) (vals : Vals) (id : Nat) : Nat :=
  match vals.get? id with
  | some v => v
  | none => defaultOf r t id

/-- The SAVED writable IDs that the digest covers (R236). -/
def sharedIds : List Nat := savedIds.filter fun id => !isLocalId id

/-- The configuration digest of a list of differences (R236). -/
def digestOf (r : Role) (t : StoType) (vals : Vals) : List Byte :=
  sha256 (sharedIds.flatMap fun id => entryBytes id (valueIn r t vals id))

/-! ### Banks -/

/-- A bank that passed its check. -/
def validBank (b : Option Bank) : Option Bank := b.filter fun x => !x.bad

/-- The active bank, the valid one with the higher GEN (R232), with its number: 1 A, 2 B. -/
def State.activeBank (s : State) : Option (Nat × Bank) :=
  match validBank s.config.bankA, validBank s.config.bankB with
  | some a, some b => if a.gen < b.gen then some (2, b) else some (1, a)
  | some a, none => some (1, a)
  | none, some b => some (2, b)
  | none, none => none

/-- The value that a bank holds. -/
def Bank.value (b : Bank) (id : Nat) : Nat := valueIn b.role b.sto b.vals id

/-- SYS_CFG_DIGEST (R236). -/
def State.cfgDigest (s : State) : List Byte :=
  match s.activeBank with
  | some (_, b) => digestOf b.role b.sto b.vals
  | none => digestOf s.ident.role s.ident.sto []

/-- The values in effect once an armed transfer has taken place. -/
def State.future (s : State) : Vals :=
  match s.config.armed with
  | some vs => Vals.setAll s.ident.role s.ident.sto s.config.inForce vs
  | none => s.config.inForce

/-- SYS_RUN_DIGEST (R236). -/
def State.runDigest (s : State) : List Byte := digestOf s.ident.role s.ident.sto s.future

/-- The saved value of a SAVED writable parameter: the active bank's, or the factory default without one. -/
def State.savedValue (s : State) (id : Nat) : Nat :=
  match s.activeBank with
  | some (_, b) => b.value id
  | none => defaultOf s.ident.role s.ident.sto id

/-- Whether some SAVED writable parameter, local ones too, is not as saved (SYS_CFG_STATE bit 1). -/
def State.unsaved (s : State) : Bool := savedIds.any fun id => s.param id != s.savedValue id

/-- SYS_CFG_STATE (Table 7.9). -/
def State.cfgState (s : State) : Nat :=
  flag (!s.config.staged.isEmpty) 0 + flag s.unsaved 1 + flag (validBank s.config.bankA).isSome 2 +
    flag (validBank s.config.bankB).isSome 3 + flag s.activeBank.isNone 4 + flag s.config.replaced 5 +
    flag s.config.mismatch 6

/-- GEN of the next SAVE and the bank it goes to (R233): the one that is not active, A when none is valid. -/
def State.nextBank (s : State) : Nat × Nat :=
  match s.activeBank with
  | some (1, b) => (2, b.gen + 1)
  | some (_, b) => (1, b.gen + 1)
  | none => (1, 1)

/-! ### The maquette -/

/-- SYS_MAQ_GEN after one more accepted request: 0xFFFF passes to 0x0001 (R227). -/
def nextGen (g : Nat) : Nat := if 0xFFFF ≤ g then 1 else g + 1

/-- Stages entries over what is staged (R227, R228), counting one accepted request. -/
def State.stage (s : State) (vs : Vals) : State :=
  { s with config := { s.config with
      staged := vs.foldl (fun (a : Vals) e => a.put e.1 e.2) s.config.staged
      maqGen := nextGen s.config.maqGen } }

/-- Replaces what is staged (R231). -/
def State.restage (s : State) (vs : Vals) : State :=
  { s with config := { s.config with staged := vs, maqGen := nextGen s.config.maqGen } }

/-- Whether a privilege may write a parameter of an access level (Table 7.6). -/
def mayWrite (p : Priv) (a : Acc) : Bool :=
  match a, p with
  | .operator, .operator => true
  | .operator, .owner => true
  | .operator, .service => true
  | .owner, .owner => true
  | _, _ => false

/-- The channel that a parameter ID belongs to (R222). -/
def channelOfId (id : Nat) : Option Nat := if 0x4000 ≤ id ∧ id < 0x4400 then some ((id - 0x4000) / 0x40) else none

/-- The checks of one entry (R228), the first failure; none where the entry may be staged. -/
def State.entryFault (s : State) (p : Priv) (id w v : Nat) : Option Status :=
  match findDesc id with
  | none => some .unknownId
  | some (d, i) =>
    if d.acc = .read ∨ mayWrite p d.acc = false then some .denied
    else if w ≠ widthOf d.bits then some .badParam
    else if !inRange s.ident.sto d i v then some .range
    else if s.ident.role = .head ∧ id = P.sysPortEn ∧ bitAt v 1 = false then some .role
    else
      match channelOfId id with
      | some c => if s.fenced c then some .fenced else none
      | none => none

/-- The first failing entry of a list of (ID, W, VALUE), with its position. -/
def State.entriesFault (s : State) (p : Priv) : Nat → List (Nat × Nat × Nat) → Option (Status × Nat)
  | _, [] => none
  | i, (id, w, v) :: l =>
    match s.entryFault p id w v with
    | some st => some (st, i)
    | none => s.entriesFault p (i + 1) l

/-- The position of the first entry that 2,048 staged ones leave no room for (R227, R228); entries that an import skips take
none. -/
def overflowAt (held : List Nat) : Nat → List (Nat × Nat × Nat) → Option Nat
  | _, [] => none
  | i, (id, _, _) :: l =>
    let held' := if held.contains id || (findDesc id).isNone then held else id :: held
    if 2048 < held'.length then some i else overflowAt held' (i + 1) l

/-- Entries of ID (2), W (1), VALUE (W), at most `fuel` of them; none where the bytes end within one. -/
def parseEntries : Nat → List Byte → Option (List (Nat × Nat × Nat))
  | _, [] => some []
  | 0, _ => none
  | fuel + 1, bs =>
    let w := fieldAt bs 2 1
    if bs.length < 3 + w then none
    else (parseEntries fuel (bs.drop (3 + w))).map fun l => (fieldAt bs 0 2, w, fieldAt bs 3 w) :: l

/-- How many whole entries the bytes hold. -/
def wholeEntries : Nat → List Byte → Nat
  | 0, _ => 0
  | fuel + 1, bs =>
    let w := fieldAt bs 2 1
    if bs.length < 3 + w then 0 else 1 + wholeEntries fuel (bs.drop (3 + w))

/-! ### The cross-parameter rules of a COMMIT

Each answers for a state whose values in effect are those that would result. A broken rule fails at the lowest ID that
it names (R229). -/

/-- R50 and R109. -/
def State.energyFaults (t : State) : List Nat :=
  let inR := fun (r : Nat × Nat) v => decide (r.1 ≤ v ∧ v ≤ r.2)
  let sp := t.param P.nrgSprigMj
  let bu := t.param P.nrgBunchMj
  (if inR (stoVmaxRange t.ident.sto) (t.param P.pwrStoVmaxMv) && inR (stoFloorRange t.ident.sto) (t.param P.pwrStoFloorMv)
    then [] else [P.pwrStoVmaxMv]) ++
  (if sp ≤ bu ∧ 105 * t.param P.nrgKeepMj ≤ 95 * sp ∧ t.param P.nrgFcMaxadvMj ≤ bu - sp then [] else [P.nrgKeepMj])

/-- R265, R288 for one channel. -/
def State.channelFaults (t : State) (c : Nat) : List Nat :=
  (if t.param (P.lswRange c) = 2 ∧ 1 ≤ t.param (P.lswOlMa c) ∧ t.param (P.lswOlMa c) ≤ 49 then [P.lswRange c] else []) ++
  (if c % 2 = 0 ∧ t.isOn (P.lswPair c) = true ∧ (t.param (P.lswIlim c) < 8 ∨ t.param (P.lswInrIlim c) < 8)
    then [P.lswPair c] else [])

/-- R262, R269 for one GPIO: its mask names only channels of the variant, in mode 1 or 2, not the odd one of a pair. -/
def State.gpioFaults (t : State) (g : Nat) : List Nat :=
  let bad := (List.range 16).any fun c =>
    bitAt (t.param (P.gpioMask g)) c && (decide (t.chans ≤ c) || t.param (P.lswMode c) == 0 || t.pairOdd c)
  if bad then [P.gpioMask g] else []

/-- R305, R324, R328, R331 for one rail; a rail that does not exist is ignored (R304). -/
def State.railFaults (t : State) (r : Nat) : List Nat :=
  if !t.railExists r then [] else
  let n := t.param (P.armN r)
  let v := t.targetMv r
  let inUse := t.isOn (P.armEn r)
  let sc := t.param (P.armScMa r)
  let sense := (t.slots r).all fun p =>
    let x := sc * t.param (P.armPhRsUohm p)
    decide (5000000 ≤ x ∧ x ≤ 75000000)
  (if inUse && (t.slots r).isEmpty then [P.armEn r] else []) ++
  (if t.param (P.armBrakePct r) + 102 ≤ t.param (P.armOvPct r) then [] else [P.armBrakePct r]) ++
  (if inUse && !decide (300 ≤ v ∧ v ≤ 54000 ∧ 448 * n ≤ 25 * v ∧ 100 * v ≤ 56 * (100000 - 96 * n))
    then [P.armVrefMv r] else []) ++
  (if sense && decide (10 * t.param (P.armOlPhMa r) ≤ 8 * sc) then [] else [P.armScMa r])

/-- R320: a rail that would track itself. -/
def State.trackFaults (t : State) : List Nat :=
  let a := t.param (P.armTrackSrc 0) == 1
  let mutual_ := a && t.param (P.armTrackSrc 1) == 1 && t.isOn (P.armEn 0) && t.isOn (P.armEn 1)
  if (a && t.merged) || mutual_ then [P.armTrackSrc 0] else []

/-- R382. -/
def State.lineFaults (t : State) : List Nat :=
  let d := fun i => t.param (P.lineDroopMv i)
  let f := fun i => t.param (P.lineShedFrom i)
  if d 1 < d 0 ∧ d 2 < d 1 ∧ f 1 ≤ f 0 ∧ f 2 ≤ f 1 ∧ 1 ≤ f 2 then [] else [P.lineShedFrom 0]

/-- R407. -/
def State.gangFaults (t : State) : List Nat :=
  let many := fun m => decide (4 < (placesOf 8 fun i => bitAt m i).length)
  if many (t.param P.tabGangA) || many (t.param P.tabGangB) || (t.merged && t.param P.tabGangB != 0)
  then [P.armMerge] else []

/-- Every failing ID. -/
def State.ruleFaults (t : State) : List Nat :=
  t.energyFaults ++ (List.range 16).flatMap t.channelFaults ++ (List.range 2).flatMap t.railFaults ++ t.trackFaults ++
    t.lineFaults ++ t.gangFaults ++ (List.range 8).flatMap t.gpioFaults

/-- Whether the block that a "(stopped)" parameter names is stopped (R226, R261, Table 10.5): both channels of a pair
OFF, a rail that does not switch. -/
def State.blockStopped (s : State) (id : Nat) : Bool :=
  let idle := fun r => !(s.rail r).st.live
  match channelOfId id with
  | some c => (s.chan (c / 2 * 2)).demand == .off && (s.chan (c / 2 * 2 + 1)).demand == .off
  | none =>
    if 0x5000 ≤ id ∧ id < 0x5200 then idle ((id - 0x5000) / 0x100)
    else if 0x5200 ≤ id ∧ id < 0x5300 then idle (s.railOf ((id - 0x5200) / 0x10))
    else if id = P.tabGangA then idle 0
    else if id = P.tabGangB then idle 1
    else idle 0 && idle 1

/-- The lowest staged "(stopped)" ID whose value changes while its block runs (R229). -/
def State.stoppedFault (s : State) (vs : Vals) : Option Nat :=
  (vs.find? fun e =>
    match findDesc e.1 with
    | some (d, _) => d.stop && s.param e.1 != e.2 && !s.blockStopped e.1
    | none => false).map fun e => e.1

/-- Steps 1 to 4 of R229 on staged values: the status and the detail that answer a failure. -/
def State.commitFault (s : State) (p : Priv) (expect : Nat) : Option (Status × List Byte) :=
  let vs := s.config.staged
  let beyond := vs.find? fun e =>
    match findDesc e.1 with
    | some (d, _) => !mayWrite p d.acc
    | none => true
  let t : State := { s with config := { s.config with inForce := Vals.setAll s.ident.role s.ident.sto s.future vs } }
  if expect ≠ 0 ∧ expect ≠ s.config.maqGen then some (.state, toLe 2 s.config.maqGen)
  else if vs.isEmpty then none
  else
    match beyond with
    | some e => some (.denied, toLe 2 e.1)
    | none =>
      match t.ruleFaults with
      | i :: l => some (.range, toLe 2 (l.foldl min i))
      | [] =>
        match s.stoppedFault vs with
        | some i => some (.state, toLe 2 i)
        | none => none

/-- Steps 5 and 6 of R229 for the COMMIT named: arms the transfer of what is staged, empties the maquette and counts. An empty
maquette arms none. -/
def State.armCommit (s : State) (by_ : Option (Transport × Nat)) : State :=
  let vs := s.config.staged
  let s1 : State := { s with config := { s.config with staged := [], maqGen := nextGen s.config.maqGen } }
  if vs.isEmpty then s1
  else
    let old := s.config.armed.getD []
    { s1 with
      config := { s1.config with
        armed := some (vs.foldl (fun (a : Vals) e => a.put e.1 e.2) old)
        armedBy := if (vs.get? P.sysU0Baud).isSome then by_ else s1.config.armedBy }
      ctr := { s1.ctr with commitCount := wrapAdd 32 s1.ctr.commitCount 1 } }

/-! ### Vanger images -/

/-- A FULL image of a list of differences (R238, R240): local parameters only where `loc` says so. -/
def State.image (s : State) (r : Role) (t : StoType) (vals : Vals) (loc : Bool) : List Byte :=
  let ids := if loc then savedIds else sharedIds
  let body := [0x56#8, 0x4E#8, 0x47#8, 0x52#8] ++ toLe 1 1 ++ toLe 1 (2 + flag loc 0) ++ toLe 1 s.ident.role.code ++
    toLe 1 s.ident.sto.code ++ toLe 2 ownCompat ++ toLe 2 ids.length ++ toLe 4 s.stamp ++ s.ident.uid ++
    (digestOf r t vals).take 8 ++ ids.flatMap fun id => entryBytes id (valueIn r t vals id)
  body ++ sha256 body

/-- Whether the IDs of entries rise strictly. -/
def rising : List (Nat × Nat × Nat) → Bool
  | [] => true
  | [_] => true
  | a :: b :: l => decide (a.1 < b.1) && rising (b :: l)

/-- The entries of a well-formed image (R238, R239): none is BAD_PARAM. -/
def parseImage (b : List Byte) : Option (List (Nat × Nat × Nat)) :=
  let n := b.length
  let body := b.take (n - 32)
  if n < 64 ∨ 16384 < n ∨ b.take 4 ≠ [0x56#8, 0x4E#8, 0x47#8, 0x52#8] ∨ fieldAt b 4 1 ≠ 1 ∨ 4 ≤ fieldAt b 5 1 ∨
      2048 < fieldAt b 10 2 ∨ sha256 body ≠ b.drop (n - 32) then none
  else
    match parseEntries 2048 (body.drop 32) with
    | some l => if l.length = fieldAt b 10 2 ∧ rising l = true then some l else none
    | none => none

/-- What an image stages (R239): its known entries, and where it is FULL the default of every SAVED writable parameter
that it does not list, local ones only with FLAGS bit 0. -/
def State.imageVals (s : State) (flags : Nat) (l : List (Nat × Nat × Nat)) : Vals :=
  let own := (l.filter fun e => (findDesc e.1).isSome).foldl (fun (a : Vals) e => a.put e.1 e.2.2) []
  if !bitAt flags 1 then own
  else
    (if bitAt flags 0 then savedIds else sharedIds).foldl
      (fun (a : Vals) id =>
        match a.get? id with
        | some _ => a
        | none => a.put id (defaultOf s.ident.role s.ident.sto id)) own

/-- The first failure of an image at a privilege (R239), with the INDEX of the entry at fault or 0xFFFF; unknown IDs of
an image of a higher compat minor are skipped. Entries of channels that a variant lacks are not refused with FENCED, which
the statuses of IMAGE_IMPORT do not name (DEDUCED from Table 7.1 and R240, log 83). -/
def State.imageFault (s : State) (p : Priv) (b : List Byte) : Option (Status × Nat) :=
  match parseImage b with
  | none => some (.badParam, 0xFFFF)
  | some l =>
    let compat := fieldAt b 8 2
    let newer := decide (ownCompat % 256 < compat % 256)
    if compat / 256 ≠ ownCompat / 256 then some (.state, 0xFFFF)
    else if fieldAt b 6 1 ≠ 0xFF ∧ fieldAt b 6 1 ≠ s.ident.role.code then some (.role, 0xFFFF)
    else if fieldAt b 7 1 ≠ 0xFF ∧ fieldAt b 7 1 ≠ s.ident.sto.code then some (.range, 0xFFFF)
    else
      (List.range l.length).findSome? fun i =>
        match l.drop i with
        | (id, w, v) :: _ =>
          match s.entryFault p id w v with
          | some .unknownId => if newer then none else some (.unknownId, i)
          | some .fenced => none
          | some st => some (st, i)
          | none => none
        | [] => none

/-! ### Bank bytes (R232, R235) -/

/-- The storage type of a strap code (Table 1.7). -/
def stoOf (code : Nat) : StoType :=
  if code = 1 then .sc2 else if code = 2 then .lfp else if code = 3 then .lio else .sc1

/-- The role of a code of Table 7.3. -/
def roleOf (code : Nat) : Role := if code = 1 then .head else if code = 2 then .plant else .home

/-- The bytes of a bank: GEN, the image, CRC-32C over both. -/
def bankBytes (gen : Nat) (img : List Byte) : List Byte :=
  let b := toLe 4 gen ++ img
  b ++ toLe 4 (crc32c b).toNat

/-- Reads the bytes of a bank: what its image holds, or the reason of CFG_BANK_BAD, 1 CRC, 2 IMAGE, 3 COMPAT. A bank's image is
FULL and has the local parameters, a role and a storage type. -/
def readBank (b : List Byte) : Except Nat Bank :=
  let body := b.take (b.length - 4)
  let img := body.drop 4
  if b.length < 8 ∨ (crc32c body).toNat ≠ fieldAt b (b.length - 4) 4 then .error 1
  else match parseImage img with
    | none => .error 2
    | some l =>
      let role := roleOf (fieldAt img 6 1)
      let sto := stoOf (fieldAt img 7 1)
      if fieldAt img 5 1 ≠ 3 ∨ 2 < fieldAt img 6 1 ∨ 3 < fieldAt img 7 1 then .error 2
      else if fieldAt img 8 2 / 256 ≠ ownCompat / 256 then .error 3
      else .ok
        { bytes := b, gen := fieldAt b 0 4, role := role, sto := sto, bad := false
          vals := l.foldl (fun (a : Vals) e => Vals.set role sto a e.1 e.2.2) [] }

/-- Writes a bank with the values given, counts it and clears the events that a SAVE ends (R233, Table 15.2). -/
def State.writeBank (s : State) (vals : Vals) : State :=
  let n := s.nextBank
  let b : Bank :=
    { bytes := bankBytes n.2 (s.image s.ident.role s.ident.sto vals true), gen := n.2, role := s.ident.role
      sto := s.ident.sto, vals := vals, bad := false }
  let s1 : State :=
    { s with
      config := { s.config with
        bankA := if n.1 = 1 then some b else s.config.bankA
        bankB := if n.1 = 2 then some b else s.config.bankB }
      ctr := { s.ctr with saveCount := wrapAdd 32 s.ctr.saveCount 1 } }
  let s2 := ((s1.clearD Ev.cfgBankBad n.1).clearE Ev.cfgDefaults).clearR Ev.stoFault 6
  let s2 : State := { s2 with power := { s2.power with fType := false } }
  if b.value P.sysRole = s.ident.role.code then
    { s2 with config := { s2.config with mismatch := false } }.clearE Ev.roleMismatch
  else s2

/-- The bank that the next SAVE goes to holds nothing valid: its write has been cut short or has failed. -/
def State.spoilBank (s : State) : State :=
  let spoil := fun b : Option Bank => b.map fun x => { x with bytes := [], bad := true }
  { s with config := { s.config with
    bankA := if s.nextBank.1 = 1 then spoil s.config.bankA else s.config.bankA
    bankB := if s.nextBank.1 = 2 then spoil s.config.bankB else s.config.bankB } }

end Sys2Proof.Machine
end

