-- ==== Sys2Proof/Machine/Curve.lean ====
section
/-! DEFINITION. ECDSA on the curve P-256 (R219, R434, R436), after the standard that Chapter 0 names: FIPS 186 (log 11). -/

namespace Sys2Proof.Machine

/-- The prime of the field. -/
def p256P : Nat := 2 ^ 256 - 2 ^ 224 + 2 ^ 192 + 2 ^ 96 - 1

/-- The order of the group. -/
def p256N : Nat := 0xffffffff00000000ffffffffffffffffbce6faada7179e84f3b9cac2fc632551

/-- The coefficient b of y² = x³ − 3x + b. -/
def p256B : Nat := 0x5ac635d8aa3a93e7b3ebbd55769886bc651d06b0cc53b0f63bce3c3e27d2604b

/-- A point with x = `x` / `z`² and y = `y` / `z`³; `z` is 0 at infinity. -/
structure Point where
  x : Nat
  y : Nat
  z : Nat
deriving DecidableEq, Repr

/-- The base point. -/
def p256G : Point :=
  { x := 0x6b17d1f2e12c4247f8bce6e563a440f277037d812deb33a0f4a13945d898c296
    y := 0x4fe342e2fe1a7f9b8ee7eb4a7c0f9e162bce33576b315ececbb6406837bf51f5, z := 1 }

/-- The point at infinity. -/
def Point.zero : Point := { x := 1, y := 1, z := 0 }

/-- A difference modulo the prime. -/
def fsub (a b : Nat) : Nat := (a + (p256P - b % p256P)) % p256P

/-- A product modulo the prime. -/
def fmul (a b : Nat) : Nat := a * b % p256P

/-- The bits of a number below 2^256, the highest first. -/
def bits256 (n : Nat) : List Bool := ((List.range 256).map n.testBit).reverse

/-- A power modulo `m`; with exponent `m` − 2 the inverse modulo a prime. -/
def powMod (m a e : Nat) : Nat := (bits256 e).foldl (fun r b => if b then r * r % m * a % m else r * r % m) 1

/-- Twice a point. -/
def Point.double (p : Point) : Point :=
  let yy := fmul p.y p.y
  let s := fmul 4 (fmul p.x yy)
  let zz := fmul p.z p.z
  let m := fmul 3 (fmul (fsub p.x zz) ((p.x + zz) % p256P))
  let x := fsub (fmul m m) (2 * s)
  { x := x, y := fsub (fmul m (fsub s x)) (fmul 8 (fmul yy yy)), z := fmul 2 (fmul p.y p.z) }

/-- The sum of two points. -/
def Point.add (p q : Point) : Point :=
  if p.z = 0 then q
  else if q.z = 0 then p
  else
    let pz := fmul p.z p.z
    let qz := fmul q.z q.z
    let u := fmul p.x qz
    let s := fmul p.y (fmul q.z qz)
    let h := fsub (fmul q.x pz) u
    let r := fsub (fmul q.y (fmul p.z pz)) s
    if h = 0 then (if r = 0 then p.double else Point.zero)
    else
      let hh := fmul h h
      let hhh := fmul h hh
      let v := fmul u hh
      let x := fsub (fsub (fmul r r) hhh) (2 * v)
      { x := x, y := fsub (fmul r (fsub v x)) (fmul s hhh), z := fmul h (fmul p.z q.z) }

/-- A multiple of a point. -/
def Point.mul (n : Nat) (p : Point) : Point :=
  (bits256 n).foldl (fun r b => if b then r.double.add p else r.double) Point.zero

/-- The coordinates of a point that is not at infinity. -/
def Point.affine (p : Point) : Nat × Nat :=
  let i := powMod p256P p.z (p256P - 2)
  let ii := fmul i i
  (fmul p.x ii, fmul p.y (fmul i ii))

/-- The public key of a private one, x then y (SEC_ATT_PUB). -/
def p256Public (d : Nat) : List Byte :=
  let q := (p256G.mul (d % p256N)).affine
  toBe 32 q.1 ++ toBe 32 q.2

/-- The signature over a digest under a private key `d` with the nonce `k`, r then s. -/
def p256Sign (d k : Nat) (digest : List Byte) : List Byte :=
  let r := (p256G.mul k).affine.1 % p256N
  let s := powMod p256N k (p256N - 2) * (ofBe digest + r * d) % p256N
  toBe 32 r ++ toBe 32 s

/-- Whether a signature over a digest verifies under a public key. -/
def p256Verify (pub digest sig : List Byte) : Bool :=
  let qx := ofBe (pub.take 32)
  let qy := ofBe (pub.drop 32)
  let r := ofBe (sig.take 32)
  let s := ofBe (sig.drop 32)
  let onCurve := decide (qx < p256P ∧ qy < p256P) && qy * qy % p256P == (qx * qx * qx + 3 * (p256P - qx) + p256B) % p256P
  if pub.length ≠ 64 ∨ sig.length ≠ 64 ∨ onCurve = false ∨ r = 0 ∨ s = 0 ∨ p256N ≤ r ∨ p256N ≤ s then false
  else
    let w := powMod p256N s (p256N - 2)
    let sum := (p256G.mul (ofBe digest * w % p256N)).add (({ x := qx, y := qy, z := 1 } : Point).mul (r * w % p256N))
    sum.z != 0 && sum.affine.1 % p256N == r

end Sys2Proof.Machine
end

