-- ==== Sys2Proof/Machine/SecOps.lean ====
section
/-! DEFINITION. The shared operations of keys and firmware banks (Chapter 14): key slots and their two copies (R428,
R430, R431), the claim (R432, R433), and acceptable firmware images (R436). -/

namespace Sys2Proof.Machine

/-! ### Key slots -/

/-- How many slots a role has (Table 14.5): 1 OWNER, 2 OPERATOR, 3 SERVICE, 4 LINE. -/
def slotCount (role : Nat) : Nat := if role = 2 then 4 else if 1 ≤ role ∧ role ≤ 4 then 2 else 0

/-- The place of a role's slot among the ten of a copy. -/
def slotPlace (role slot : Nat) : Nat :=
  (if role = 1 then 0 else if role = 2 then 2 else if role = 3 then 6 else 8) + slot

/-- The copy in use: the one with the higher write count (R428). -/
def Sec.current (x : Sec) : KeyCopy := if x.copyA.count < x.copyB.count then x.copyB else x.copyA

/-- The key of a slot. -/
def State.key? (s : State) (role slot : Nat) : Option (List Byte) :=
  if slot < slotCount role then s.sec.current.slots.toList.getD (slotPlace role slot) none else none

/-- Whether the node is unclaimed: both OWNER slots are empty. -/
def State.unclaimed (s : State) : Bool := (s.key? 1 0).isNone && (s.key? 1 1).isNone

/-- SEC_SLOT_STATE (Table 14.9). -/
def State.slotState (s : State) : Nat :=
  (maskOf 10 fun i => (s.sec.current.slots.toList.getD i none).isSome) + flag (!s.unclaimed) 15

/-- Writes one slot of the older copy of the store, from the content in use (R430). -/
def Sec.writeOlder (x : Sec) (role slot : Nat) (k : Option (List Byte)) : Sec :=
  let c := x.current
  let n : KeyCopy := { count := c.count + 1, slots := upd c.slots (slotPlace role slot) fun _ => k }
  if x.copyA.count < x.copyB.count then { x with copyA := n } else { x with copyB := n }

/-- Copies the content in use onto the other copy (R430). -/
def Sec.level (x : Sec) : Sec := if x.copyA.count < x.copyB.count then { x with copyA := x.copyB } else { x with copyB := x.copyA }

/-- K_GRP under each filled LINE slot (R195, R429). -/
def State.groupKeys (s : State) : List (List Byte) :=
  ([0, 1].filterMap fun i => s.key? 4 i).map fun k => groupKey k (s.param P.lineFeederId)

/-! ### Firmware -/

/-- SYS_FW_VERSION of the Roeno that leaves the factory (Table 7.9). -/
def factoryVersion : Nat := 0x00040200

/-- The largest image of a firmware bank (R437). -/
def fwBankSize : Nat := 327680

/-- The firmware bank that boots, and the other one (R437). -/
def Sec.active (x : Sec) : FwBank := if x.fwActiveB then x.fwB else x.fwA

/-- The inactive bank. -/
def Sec.inactive (x : Sec) : FwBank := if x.fwActiveB then x.fwA else x.fwB

/-- Changes the inactive bank. -/
def Sec.onInactive (x : Sec) (f : FwBank → FwBank) : Sec :=
  if x.fwActiveB then { x with fwA := f x.fwA } else { x with fwB := f x.fwB }

/-- An empty bank. -/
def FwBank.empty : FwBank := { size := 0, version := 0, data := [], factory := false }

/-- The version in a bank. -/
def FwBank.ver (b : FwBank) : Nat := if b.factory then factoryVersion else if b.data.isEmpty then 0 else b.version

/-- SYS_FW_VERSION: of the bank that runs, 0 in recovery (R441). -/
def State.fwVersion (s : State) : Nat :=
  if s.plinth.seq = .recovery then 0 else (if s.sec.fwRunningB then s.sec.fwB else s.sec.fwA).ver

/-- The first 64 bytes pass what R437 checks of them: MAGIC, FMT, MIN_STEP and ROLLBACK of R436. -/
def State.headerOk (s : State) (b : List Byte) : Bool :=
  decide (b.take 4 = [0x52#8, 0x4F#8, 0x45#8, 0x4E#8]) && fieldAt b 4 1 == 1 && decide (fieldAt b 14 2 ≤ ownStepping) &&
    decide (s.ctr.fwRollback ≤ fieldAt b 16 4)

/-- Whether a bank holds an acceptable image (R436). The firmware that left the factory has a ROLLBACK and a KEY_ID that
the spec does not give (log 8). -/
def State.acceptable (s : State) (b : FwBank) : Bool :=
  if b.factory then
    decide (s.ctr.fwRollback ≤ Sys2Proof.Config.factoryRollback) &&
      !s.sec.revoked.getLsbD (Sys2Proof.Config.factoryKeyId % 4)
  else
    let n := fieldAt b.data 20 4
    let body := (b.data.drop 64).take n
    s.headerOk b.data && decide (128 + n ≤ b.data.length) && decide (fieldAt b.data 5 1 < 4) &&
      !s.sec.revoked.getLsbD (fieldAt b.data 5 1) && decide (sha256 body = (b.data.drop 24).take 32) &&
      p256Verify (Sys2Proof.Config.terdalKey (fieldAt b.data 5 1)) (sha256 (b.data.take 64)) ((b.data.drop (64 + n)).take 64)

/-- The image digest of a bank (R435). -/
def FwBank.digest (b : FwBank) : List Byte :=
  if b.factory then (List.range 32).map Sys2Proof.Config.factoryFw else sha256 (b.data.take (64 + fieldAt b.data 20 4))

/-- SEC_FW_STATE (Table 14.9). -/
def State.fwState (s : State) : Nat :=
  flag s.sec.fwActiveB 0 + flag s.sec.trial 1 + flag s.sec.fallbackRan 2 + flag (s.acceptable s.sec.fwA) 3 +
    flag (s.acceptable s.sec.fwB) 4 + flag (s.plinth.seq == .recovery) 5 + flag s.sec.fwOpen 6

/-! ### Field-only operation -/

/-- Whether field-only limits apply (R425): in FIELD, and in an NFC session without its reservation. -/
def State.fieldLimits (s : State) (t : Transport) : Bool :=
  s.plinth.mode == .field || (s.nfc.fieldOnly && t == .nfc)

/-- The NFC_SESSION reservation of a session that opens while STO carries VSEL (Table 4.5); where it is not granted, the
session goes on under field-only limits (R425). -/
def State.nfcReserve (s : State) : State :=
  if s.power.path ≠ .onSto ∨ s.nfc.sessionRes = true then s
  else if s.canReserve .nfcSession (20 * mj) then
    { s.hold .nfcSession (20 * mj) with nfc := { s.nfc with sessionRes := true, fieldOnly := false } }
  else
    let s1 := s.refuse .nfcSession
    { s1 with nfc := { s1.nfc with fieldOnly := true } }

/-- An NFC session under field-only limits whose reservation an update of the ledger can grant is freed of them (R115, R442). -/
def State.nfcRegrant (s : State) : State :=
  if s.nfc.fieldOnly && s.power.path == .onSto && s.canReserve .nfcSession (20 * mj) then
    { s.hold .nfcSession (20 * mj) with nfc := { s.nfc with sessionRes := true, fieldOnly := false } }
  else s

end Sys2Proof.Machine
end

