-- ==== Sys2Proof/Machine/LogOps.lean ====
section
/-! DEFINITION. The shared operations of the event FIFO, the Patina log and the wear indices (Chapter 15): the bytes of an
entry and of a record, admission to the Patina RAM (R454), the ring and the pinned region (R456), steps (R463). -/

namespace Sys2Proof.Machine

/-! ### The FIFO -/

/-- One entry (Table 15.4). -/
def FifoEntry.bytes (e : FifoEntry) : List Byte :=
  let c := e.cap
  toLe 1 (c.src.grp + flag c.clear 4 + flag e.dropped 5) ++ toLe 1 (c.src.bit + 16 * c.src.code) ++ toLe 1 c.reason ++
    toLe 1 c.detail ++ toLe 4 c.up ++ toLe 4 c.time ++ toLe 2 e.eseq ++ toLe 2 0

/-- EVT_OVERFLOW ends once the FIFO is empty (Table 15.2). -/
def State.fifoEmptied (s : State) : State := if s.events.fifo.isEmpty then s.clearE Ev.evtOverflow else s

/-- Removes the oldest `n` entries (R452); a pulse whose last entry leaves is acknowledged (R446). -/
def State.fifoDrop (s : State) : Nat → State
  | 0 => s
  | n + 1 =>
    match s.events.fifo with
    | e :: rest => State.fifoDrop { s with events := { s.events with fifo := rest }.leave e.cap } n
    | [] => s

/-! ### Patina records -/

/-- TYPE (Table 15.6). -/
def PatBody.type : PatBody → Nat
  | .event .. => 1
  | .summary .. => 2
  | .boot .. => 3
  | .wear .. => 4
  | .shutdown .. => 5

/-- The body of a record (Table 15.7). -/
def PatBody.bytes : PatBody → List Byte
  | .event grp src reason detail vbus10 stoMv temp dtemp value =>
    toLe 1 grp ++ toLe 1 src ++ toLe 1 reason ++ toLe 1 detail ++ toLe 2 (ofInt 2 vbus10) ++ toLe 2 stoMv ++
      toLe 1 (ofInt 1 temp) ++ toLe 1 (ofInt 1 dtemp) ++ toLe 4 value
  | .summary count groups first last => toLe 4 count ++ toLe 2 groups ++ toLe 4 first ++ toLe 4 last
  | .boot cause mode fw bank path wdt prevUp =>
    toLe 1 cause ++ toLe 1 mode ++ toLe 4 fw ++ toLe 1 bank ++ toLe 1 path ++ toLe 2 wdt ++ toLe 4 prevUp
  | .wear kind unit step prev index driver temp =>
    toLe 1 kind ++ toLe 1 unit ++ toLe 1 step ++ toLe 1 prev ++ toLe 4 index ++ toLe 4 driver ++
      toLe 1 (ofInt 1 temp) ++ toLe 1 0
  | .shutdown demand pwm rails step eMj stoMv vbus10 =>
    toLe 2 demand ++ toLe 2 pwm ++ toLe 1 rails ++ toLe 1 step ++ toLe 4 eMj ++ toLe 2 stoMv ++ toLe 2 (ofInt 2 vbus10)

/-- A record as PATINA_READ returns it (Table 15.6, R456). -/
def PatRec.bytes (r : PatRec) : List Byte :=
  let flags := flag (r.pinned && !r.pinRefused) 0 + flag (decide (r.time ≠ 0xFFFFFFFF)) 1 + flag r.byShutdown 2 +
    flag r.pinRefused 3 + flag r.released 4
  let b := toLe 4 r.pseq ++ toLe 4 r.time ++ toLe 4 r.up ++ toLe 1 r.body.type ++ toLe 1 flags ++ r.body.bytes
  b ++ toLe 4 (crc32c b).toNat

/-- The records that PATINA_READ can reach, in ascending PSEQ (R458). -/
def State.patinaHeld (s : State) : List PatRec :=
  (s.patina.ring ++ s.patina.pins).mergeSort fun a b => decide (a.pseq ≤ b.pseq)

/-- Whether a flush is due (R455): EVT_FLUSH_S times the NVM factor of Table 15.9 has passed since the last one, or a pinned
record asks for one. -/
def State.flushDue (s : State) : Bool :=
  s.patina.flushReq ||
    decide (s.param P.evtFlushS * 1000 * 2 ^ s.ctr.wearNvm.step ≤ since s.plinth.upMs s.patina.lastFlush)

/-! ### Admission (R454) -/

/-- A record that takes no token: pinned, BOOT or SHUTDOWN. -/
def PatCap.exempt (c : PatCap) : Bool :=
  c.pinned || match c.body with
    | .boot .. => true
    | .shutdown .. => true
    | _ => false

/-- Places a captured record in the Patina RAM under the next PSEQ (R457). -/
def State.keepRec (s : State) (c : PatCap) : State :=
  let r : PatRec :=
    { pseq := s.ctr.pseq, up := c.up, time := c.time, pinned := c.pinned, byShutdown := false, pinRefused := false,
      released := false, body := c.body }
  { s with
    ctr := { s.ctr with pseq := wrapAdd 32 s.ctr.pseq 1 }
    patina := { s.patina with ram := s.patina.ram ++ [r], flushReq := s.patina.flushReq || c.pinned } }

/-- Counts a record that is not kept, for the SUMMARY record, and raises PATINA_SUPPRESS unless it is held. -/
def State.refuseRec (s : State) (c : PatCap) : State :=
  let bit := 2 ^ (c.grp % 16)
  let sum := match s.patina.refused with
    | some (n, g, first, _) => (satAdd 32 n 1, g ||| bit, first, c.up)
    | none => (1, bit, c.up, c.up)
  let s1 : State :=
    { s with
      ctr := { s.ctr with suppressed := satAdd 32 s.ctr.suppressed 1 }
      patina := { s.patina with refused := some sum } }
  if s1.holds Ev.patinaSuppress then s1 else s1.raiseC Ev.patinaSuppress 0 0

/-- Takes the oldest unpinned record out of the RAM. -/
def dropUnpinned : List PatRec → List PatRec
  | [] => []
  | r :: l => if r.pinned then r :: dropUnpinned l else l

/-- Admits one captured record (R454). -/
def State.admitRec (s : State) (c : PatCap) : State :=
  let full := decide (64 ≤ s.patina.ram.length)
  if c.exempt then
    if !full then s.keepRec c
    else if s.patina.ram.any fun r => !r.pinned then
      { s with patina := { s.patina with ram := dropUnpinned s.patina.ram } }.keepRec c
    else
      let s1 := s.refuseRec c
      { s1 with patina := { s1.patina with flushReq := true } }
  else if full || s.patina.tokens == 0 then s.refuseRec c
  else { s with patina := { s.patina with tokens := s.patina.tokens - 1 } }.keepRec c

/-- Admits every captured record, as the shutdown commit does before it writes (R476). -/
def State.admitAll (s : State) : State :=
  s.patina.caps.foldl State.admitRec { s with patina := { s.patina with caps := [] } }

/-! ### The ring and the pinned region (R456) -/

/-- Writes a record to the ring: it overwrites the oldest once 4,096 stand. -/
def Patina.toRing (p : Patina) (r : PatRec) : Patina :=
  { p with ring := pushMax 4096 p.ring r }

/-- The slot that a full pinned region gives up: the released record of lowest PSEQ, else the one of lowest PSEQ more
than 365 days older than the new record, both times valid. -/
def freePin (pins : List PatRec) (time : Nat) : Option PatRec :=
  let old := fun r : PatRec => decide (r.time ≠ 0xFFFFFFFF ∧ time ≠ 0xFFFFFFFF ∧ r.time + 31536000 < time)
  match pins.find? fun r => r.released with
  | some r => some r
  | none => pins.find? old

/-- Writes one record of the Patina RAM to NVM. -/
def State.writeRec (s : State) (r : PatRec) : State :=
  let up := s.plinth.upMs
  let times := s.patina.pinTimes.filter fun t => since up t < 86400000
  let put := fun (pins : List PatRec) =>
    { s with patina := { s.patina with pins := pins ++ [r], pinTimes := up :: times } }
  if !r.pinned then { s with patina := s.patina.toRing r }
  else if 16 ≤ times.length then { s with patina := s.patina.toRing { r with pinRefused := true } }
  else if s.patina.pins.length < 256 then put s.patina.pins
  else match freePin s.patina.pins r.time with
    | some x => put (s.patina.pins.erase x)
    | none =>
      let s1 : State := { s with patina := s.patina.toRing { r with pinRefused := true } }
      if s1.holds Ev.pinFull then s1 else s1.raiseC Ev.pinFull 0 0

/-- Writes the counter record (R459). -/
def State.writeCounters (s : State) : State := { s with nvm := s.ctr }

/-- Releases every pinned record at or below a PSEQ (R456). -/
def State.releasePins (s : State) (pseq : Nat) : State :=
  let s1 : State := { s with patina := { s.patina with
    pins := s.patina.pins.map fun r => { r with released := r.released || decide (r.pseq ≤ pseq) } } }
  if (s1.patina.pins.filter fun r => !r.released).length < 256 then s1.clearE Ev.pinFull else s1

/-! ### Wear (R462, R463) -/

/-- The largest `x` below 2 ^ 21 with `x ^ d ≤ 2 ^ r × 10 ^ (6 d)`: 10^6 × 2 ^ (r / d), rounded down. -/
def rootPow (r d : Nat) : Nat :=
  (List.range 21).foldr (fun i x => if (x + 2 ^ i) ^ d ≤ 2 ^ r * 10 ^ (6 * d) then x + 2 ^ i else x) 0

/-- `a` × 2 ^ (n / d), rounded down, for an exponent of either sign. -/
def scalePow (a : Nat) (n : Int) (d : Nat) : Nat :=
  let q := n / (d : Int)
  let r := (n % (d : Int)).toNat
  let x := a * rootPow r d / 1000000
  if 0 ≤ q then x * 2 ^ q.toNat else x / 2 ^ (-q).toNat

/-- The step of an index in ppm (R463). -/
def wearStepOf (ppm : Nat) : Nat := if 900000 ≤ ppm then 3 else if 750000 ≤ ppm then 2 else if 500000 ≤ ppm then 1 else 0

/-- An index that has risen to `micro` millionths of a ppm; neither index nor step falls. -/
def Wear.rise (w : Wear) (micro driver : Nat) : Wear :=
  let m := max w.micro micro
  { micro := m, driver := driver, step := max w.step (wearStepOf (m / 1000000)) }

/-- What a risen step does (R463): the DERATED event that R295 or R344 names, WEAR_STEP, and a pinned WEAR record.
`driver` is DRIVER as the record gives it. -/
def State.stepRise (s : State) (kind unit : Nat) (old new : Wear) (driver : Nat) (temp : Int) : State :=
  if new.step ≤ old.step then s
  else
    let s1 := if kind = 1 then s.raiseP (Ev.dieWarn unit) 3 0
      else if kind = 2 then s.raiseP (Ev.phaseDegraded (s.railOf unit)) 2 unit else s
    (s1.raiseP Ev.wearStep 0 (kind * 16 + unit)).logRec true 15
      (.wear kind unit new.step old.step (new.micro / 1000000) driver temp)

end Sys2Proof.Machine
end

