-- ==== Sys2Proof/Machine/PacketOps.lean ====
section
/-! DEFINITION. The shared operations on Camyx packets (Chapter 6): codes, the packet and its frames (R159, R177), replies
and their parts (R161, R164), what each role may do (R198, R210) and which parameters are well formed (R212). -/

namespace Sys2Proof.Machine

/-! ### Codes -/

/-- The values of Table 6.10. -/
def Status.code : Status → Nat
  | .ok => 0x00
  | .aborted => 0x01
  | .alreadyDone => 0x02
  | .badFrame => 0x10
  | .badOpc => 0x11
  | .badParam => 0x12
  | .unknownId => 0x13
  | .range => 0x14
  | .size => 0x15
  | .auth => 0x20
  | .noSession => 0x21
  | .rekey => 0x22
  | .replay => 0x23
  | .denied => 0x24
  | .noKey => 0x25
  | .busy => 0x30
  | .energy => 0x31
  | .fenced => 0x32
  | .role => 0x33
  | .state => 0x34
  | .timeout => 0x35
  | .noRoute => 0x36
  | .internal => 0x3F

/-- The status of a code, INTERNAL for a code that Table 6.10 does not have. -/
def statusOf (n : Nat) : Status :=
  ([.ok, .aborted, .alreadyDone, .badFrame, .badOpc, .badParam, .unknownId, .range, .size, .auth, .noSession, .rekey,
    .replay, .denied, .noKey, .busy, .energy, .fenced, .role, .state, .timeout, .noRoute] : List Status).find?
    (fun x => x.code == n) |>.getD .internal

/-- The transport codes of Table 6.2; the Miovin link has none. -/
def transportCode : Transport → Nat
  | .spi => 1
  | .i2c => 2
  | .uart => 3
  | .gateway => 4
  | .line => 5
  | .nfc => 6
  | .link => 0

/-- The local host ports (Table 6.9, R199). -/
def localPort : Transport → Bool
  | .spi => true
  | .i2c => true
  | .uart => true
  | _ => false

/-- The largest PARAMS per packet (Table 6.2). -/
def paramLimit : Transport → Nat
  | .line => 256
  | _ => 1024

/-- How many requests a transport holds (Table 6.6); the link holds one forwarded request for each lead command. -/
def queueSize : Transport → Nat
  | .uart => 4
  | .gateway => 4
  | .nfc => 1
  | .link => 4
  | _ => 2

/-- The role code of Table 6.7, and of FWD_REQ (Table 13.7), as a privilege. -/
def privOf (role : Nat) : Priv :=
  match role with
  | 1 => .owner
  | 2 => .operator
  | 3 => .service
  | 4 => .line
  | _ => .pub

/-- The role code of a privilege. -/
def Priv.code : Priv → Nat
  | .owner => 1
  | .claim => 1
  | .operator => 2
  | .service => 3
  | .line => 4
  | .pub => 0

/-! ### Packets -/

/-- A packet from LEN through its last parameter byte (Table 6.1); LEN counts `tail` bytes of MAC. -/
def packetBody (ctrl seq opc : Nat) (params : List Byte) (tail : Nat) : List Byte :=
  toLe 2 (4 + params.length + tail) ++ toLe 1 ctrl ++ toLe 2 seq ++ toLe 1 opc ++ params

/-- A local-port frame: SYNC and CRC around LEN through MAC. -/
def frameLocal (pkt : List Byte) : List Byte := [0xA7#8] ++ pkt ++ toLe 2 (crc16 pkt).toNat

/-- A bridge frame (Table 6.4). -/
def frameBridge (addr : Nat) (pkt : List Byte) : List Byte :=
  [0xAB#8] ++ toLe 1 addr ++ pkt ++ toLe 2 (crc16 (toLe 1 addr ++ pkt)).toNat

/-- Whether bytes from LEN through MAC are a packet (R160): LEN as the bytes say, 4 to 1,036, 12 or more with AUTH. -/
def packetOk (pkt : List Byte) : Bool :=
  let n := fieldAt pkt 0 2
  decide (pkt.length = n + 2 ∧ 4 ≤ n ∧ n ≤ 1036) && (!bitAt (fieldAt pkt 2 1) 1 || decide (12 ≤ n))

/-- The request of a packet from LEN through MAC. -/
def requestOf (t : Transport) (origin dst : Nat) (pkt : List Byte) : Request :=
  let auth := bitAt (fieldAt pkt 2 1) 1
  let p := (pkt.drop 6).take (pkt.length - 6 - (if auth then 8 else 0))
  { via := t, origin := origin, dst := dst, ctrl := BitVec.ofNat 8 (fieldAt pkt 2 1),
    seq := BitVec.ofNat 16 (fieldAt pkt 3 2), params := p, mac := if auth then pkt.drop (pkt.length - 8) else [] }

/-- OPC of a packet from LEN through MAC. -/
def opcOf (pkt : List Byte) : Nat := fieldAt pkt 5 1

end Sys2Proof.Machine

namespace Sys2Proof

open Machine

/-- AUTH of a request. -/
def Request.auth (rq : Request) : Bool := rq.ctrl.getLsbD 1

/-- MORE of a request. -/
def Request.more (rq : Request) : Bool := rq.ctrl.getLsbD 2

/-- What the MAC of a request covers (R192). -/
def Request.covered (rq : Request) (opc : Nat) : List Byte :=
  packetBody rq.ctrl.toNat rq.seq.toNat opc rq.params (if rq.auth then 8 else 0)

/-- A request on the line to a group or to broadcast, which nobody answers (R179). -/
def Request.cast (rq : Request) : Bool := rq.via == .line && decide (251 ≤ rq.dst)

end Sys2Proof

namespace Sys2Proof.Machine

/-! ### The line size limit -/

/-- The active lanes: at a HEAD those that it has not dropped of the ones that LINE_LANE_EN enables, of which one at least stays
active (R368); at a node those of the last descriptor from the HEAD (R356, R368). -/
def State.activeLanes (s : State) : BitVec 4 :=
  if s.ident.role = .head then
    let en := BitVec.ofNat 4 (s.param P.lineLaneEn)
    if s.line.lanes &&& en = 0 then en else s.line.lanes &&& en
  else s.line.lanes

/-- How many lanes are active. -/
def State.laneCount (s : State) : Nat := (placesOf 4 fun i => s.activeLanes.getLsbD i).length

/-- The line size limit of a node, LEN through MAC (Table 12.7). -/
def lineLimit (m : LinkMode) (k : Nat) : Nat :=
  match m with
  | .normal => if 3 ≤ k then 270 else if k = 2 then 160 else 80
  | .diversity => 80
  | .robust => 0

/-! ### Replies -/

/-- One packet of a reply, LEN through MAC (R161, R192, R195). -/
def Reply.packet (r : Reply) (more : Bool) (params : List Byte) : List Byte :=
  let ctrl := 1 + flag r.key.isSome 1 + flag more 2
  match r.key with
  | none => packetBody ctrl r.seq r.opc params 0
  | some k =>
    let b := packetBody ctrl r.seq r.opc params 8
    b ++ mac8 k (match r.lineAddr with
      | some a => toLe 1 a ++ b
      | none => b)

/-- The next packet of a reply within a limit on its PARAMS, and what is left of the reply (R164, R165): whole where it
fits, else in parts of STATUS, part index and data. -/
def Reply.take (r : Reply) (limit : Nat) : List Byte × Option Reply :=
  let st := toLe 1 r.status.code
  if r.part = 0 ∧ r.cut = false ∧ r.data.length < limit then (r.packet r.more (st ++ r.data), none)
  else
    let c := max (limit - 3) 1
    let more := decide (c < r.data.length)
    let left := (r.data.length - c + 15) / 16
    (r.packet more (st ++ toLe 2 r.part ++ r.data.take c),
      if more then
        some { r with data := r.data.drop c, part := r.part + 1, drops := r.drops.drop (r.drops.length - left) }
      else none)

/-- The FIFO entries that leave when a part of a reply is handed over and `rest` is left of it: those of which no byte
remains to be sent (Table 7.4). -/
def Reply.gone (r : Reply) (rest : Option Reply) : List Nat :=
  match rest with
  | some r' => r.drops.take (r.drops.length - r'.drops.length)
  | none => r.drops

/-- Every packet of a reply, at most `fuel` of them. -/
def Reply.all (limit : Nat) : Nat → Reply → List Byte
  | 0, _ => []
  | fuel + 1, r =>
    match r.take limit with
    | (p, some r') => p ++ Reply.all limit fuel r'
    | (p, none) => p

/-- The limit on the PARAMS of a reply on a transport (Table 6.2, R369). -/
def State.replyLimit (s : State) (t : Transport) (auth : Bool) : Nat :=
  match t with
  | .line => min 256 (lineLimit s.line.mode s.laneCount - (if auth then 14 else 6))
  | _ => paramLimit t

/-! ### Privileges -/

/-- The roles of each opcode (Table 7.1, R210), none for an OPC that is not defined. -/
def rolesOf (opc : Nat) : Option (List Priv) :=
  let op : List Priv := [.operator, .owner, .service]
  match opc with
  | 0x01 => some (.pub :: .line :: op)
  | 0x02 => some (.pub :: op)
  | 0x03 => some op
  | 0x04 => some (.pub :: op)
  | 0x05 => some []
  | 0x06 => some (.pub :: op)
  | 0x07 => some op
  | 0x10 => some (.pub :: op)
  | 0x11 => some op
  | 0x12 => some op
  | 0x13 => some op
  | 0x14 => some [.owner]
  | 0x15 => some (.pub :: .line :: op)
  | 0x16 => some op
  | 0x17 => some op
  | 0x20 => some (.line :: op)
  | 0x21 => some op
  | 0x28 => some op
  | 0x29 => some op
  | 0x30 => some (.line :: op)
  | 0x31 => some [.owner, .line]
  | 0x32 => some (.line :: op)
  | 0x33 => some op
  | 0x40 => some op
  | 0x41 => some [.service]
  | 0x42 => some [.service]
  | 0x50 => some [.owner]
  | 0x51 => some [.owner]
  | 0x52 => some (.pub :: op)
  | 0x53 => some [.owner, .service]
  | 0x54 => some [.owner, .service]
  | 0x55 => some [.owner, .service]
  | 0x56 => some [.service]
  | 0x60 => some [.owner, .service]
  | 0x61 => some [.owner]
  | 0x62 => some [.owner]
  | _ => none

/-- The other opcodes that change no state (R220). -/
def readsOnly (opc : Nat) (b : List Byte) : Bool :=
  [0x10, 0x16, 0x29, 0x41, 0x52].contains opc || (opc == 0x42 && fieldAt b 0 1 == 2)

/-- The runs of ID (2), N (1) of a read (Table 7.2). -/
def runsOf (fuel : Nat) (bs : List Byte) : List (Nat × Nat) :=
  match fuel with
  | 0 => []
  | fuel + 1 => if bs.length < 3 then [] else (fieldAt bs 0 2, fieldAt bs 2 1) :: runsOf fuel (bs.drop 3)

/-- The IDs that one run names: its ID, defined or not, where N is 1; else the defined ones (Table 7.2). -/
def runIds (r : Nat × Nat) : List Nat :=
  if r.2 ≤ 1 then [r.1]
  else ((List.range r.2).map fun i => r.1 + i).filter fun id => (findDesc id).isSome

/-- The IDs of a list of runs, in the order requested (R214). -/
def readIds (runs : List Byte) : List Nat := (runsOf (runs.length / 3) runs).flatMap runIds

/-- Whether a role that may read only Read-access parameters may read an ID (R214, R224). -/
def readOpen (id : Nat) : Bool :=
  match findDesc id with
  | some (d, _) => d.acc == .read
  | none => true

/-- Whether a privilege admits an opcode with its parameters on a transport (R198, R210, R214, R432, Table 6.9): the roles
of Table 7.1; reads of other than Read access; APPLY 2 and RAIL_CTRL ACTION 2; DEBUG_UNLOCK on gateway and line; a claim
session. `t` is the transport code. -/
def admits (p : Priv) (t opc : Nat) (body : List Byte) : Bool :=
  if p = .claim then
    opc == 0x01 || opc == 0x03 || opc == 0x06 || opc == 0x10 || opc == 0x52 || (opc == 0x50 && fieldAt body 0 1 == 1)
  else
    match rolesOf opc with
    | none => true
    | some l =>
      l.contains p && (opc != 0x10 || p != .pub || (readIds (body.drop 1)).all readOpen) &&
        (opc != 0x17 || fieldAt body 0 1 != 2 || p == .owner) &&
        (opc != 0x28 || fieldAt body 1 1 != 2 || p == .owner || p == .service) &&
        (opc != 0x56 || (t != 4 && t != 5))

/-! ### Well-formed parameters -/

/-- Whether runs of a read are well formed: whole, at least one, no N of 0. -/
def runsOk (bs : List Byte) : Bool :=
  !bs.isEmpty && bs.length % 3 == 0 && (runsOf (bs.length / 3) bs).all fun r => r.2 != 0

/-- Whether parameters have the length and the encodings of Table 7.1 and Table 7.2 (R212). -/
def wellFormed (opc : Nat) (b : List Byte) : Bool :=
  let n := b.length
  let f := fieldAt b
  match opc with
  | 0x02 => n == 10 && decide (1 ≤ f 0 1 ∧ f 0 1 ≤ 3 ∧ f 1 1 < slotCount (f 0 1))
  | 0x04 => n == 2
  | 0x07 => decide (2 ≤ n ∧ f 0 1 ≤ 7) && f 1 1 != 7 && f 1 1 != 2 && f 1 1 != 3 && f 1 1 != 4
  | 0x10 => decide (f 0 1 ≤ 2) && runsOk (b.drop 1)
  | 0x11 => !b.isEmpty && (parseEntries n b).isSome
  | 0x12 => n == 2
  | 0x13 => n == 1 && decide (f 0 1 ≤ 2)
  | 0x14 => n == 3 && decide (f 0 1 ≤ 1)
  | 0x15 => runsOk b
  | 0x16 => n == 2 && decide (f 0 1 ≤ 1 ∧ f 1 1 ≤ 1)
  | 0x17 => decide (1 ≤ n ∧ f 0 1 ≤ 2)
  | 0x20 => n == 6 && decide (f 0 1 ≤ 7 ∧ f 3 1 ≤ 2 ∧ (f 4 2 ≤ 1023 ∨ f 4 2 = 0xFFFF))
  | 0x21 => n == 3 && decide (f 0 1 ≤ 7)
  | 0x28 => n == 2 && decide (f 0 1 ≤ 1 ∧ f 1 1 ≤ 2)
  | 0x29 => n == 2 && decide (f 0 1 ≤ 1 ∧ f 1 1 ≤ 7)
  | 0x30 => n == 3 && decide (f 0 1 ≤ 3)
  | 0x31 => n == 6
  | 0x32 => n == 5 && decide (f 0 1 ≤ 7)
  | 0x40 => n == 2 && decide (f 0 1 ≤ 1 ∧ 1 ≤ f 1 1)
  | 0x41 => n == 5 && decide (1 ≤ f 4 1 ∧ f 4 1 ≤ 31)
  | 0x42 => n == 3 && decide (f 0 1 ≤ 2)
  | 0x50 => n == 21 && decide (1 ≤ f 0 1 ∧ f 0 1 ≤ 4)
  | 0x51 => n == 2 && decide (1 ≤ f 0 1 ∧ f 0 1 ≤ 4 ∧ f 1 1 < slotCount (f 0 1))
  | 0x52 => n == 16
  | 0x53 => n == 8
  | 0x54 => decide (5 ≤ n ∧ n ≤ 1024)
  | 0x56 => n == 1 && decide (1 ≤ f 0 1 ∧ f 0 1 ≤ 240)
  | 0x60 => n == 1 && decide (f 0 1 = 0)
  | 0x61 => decide (b = [0x53#8, 0x48#8, 0x4C#8, 0x46#8])
  | 0x62 => decide (b = [0x44#8, 0x43#8, 0x4F#8, 0x4D#8])
  | _ => n == 0

/-- The detail of a BAD_PARAM (Table 7.1): INDEX where the opcode names one. -/
def badDetail (opc : Nat) (b : List Byte) : List Byte :=
  if opc = 0x11 then toLe 1 (min (wholeEntries b.length b) 255)
  else if opc = 0x17 then toLe 2 0xFFFF else []

/-- The opcodes that a LINE-keyed packet may carry (R196). -/
def linePermitted (opc : Nat) : Bool :=
  match rolesOf opc with
  | some l => l.contains .line
  | none => false

end Sys2Proof.Machine
end

