-- ==== Sys2Proof/Machine/CamyxOps.lean ====
section
/-! DEFINITION. The shared operations of the Camyx protocol (Chapter 6): replies on their transports, sessions and their
ends (R190, R197), the order of checks of an arriving request (R201), operations in hand (R206), and the packets that
line, gateway and Miovin link carry. -/

namespace Sys2Proof.Machine

/-! ### Replies on their transports -/

/-- Changes the list of operations in hand. -/
def State.onOps (s : State) (f : List Op → List Op) : State := { s with camyx := { s.camyx with ops := f s.camyx.ops } }

/-- The FIFO entries named leave it, with the part of the reply that carries them (Table 7.4, R452). -/
def State.handOver (s : State) (l : List Nat) : State :=
  if l.isEmpty then s
  else
    (l.foldl
      (fun (s : State) q => match s.events.fifo.find? fun e => e.eseq == q with
        | some e => { s with events := { s.events with fifo := s.events.fifo.erase e }.leave e.cap }
        | none => s) s).fifoEmptied

/-- Puts a reply where its transport takes it: the unread replies of a port; the response APDU while the Camyx
application is selected (R181, R422); or the bulk transfer back to the lead (Table 13.7). REPLY_READY holds while a reply
of SPI or I²C is unread (Table 15.2). -/
def State.deliver (s : State) (t : Transport) (r : Reply) : State :=
  let queued := s.onPort t fun p => { p with replies := p.replies ++ [r] }
  match t with
  | .nfc =>
    if s.nfc.st = .isoDep ∧ s.nfc.app = .camyx then
      { s with
        nfc := { s.nfc with out := r.all 1024 (r.data.length + 1) ++ [0x90#8, 0x00#8] }
        camyx := { s.camyx with apdu := false } }.handOver r.drops
    else s
  | .link =>
    { s with tab := { s.tab with
        bulkOut := s.tab.bulkOut ++ [(s.tab.leadIdx, toLe 1 2 ++ toLe 1 r.status.code ++ r.data)] } }.handOver r.drops
  | .spi => queued.raiseOnce Ev.replyReady 0 (transportCode t)
  | .i2c => queued.raiseOnce Ev.replyReady 0 (transportCode t)
  | _ => queued

/-- Answers: the reply to the last accepted request of a session is stored for retries (R186), and delivered. -/
def State.answer (s : State) (t : Transport) (r : Reply) : State :=
  let keep := fun x : Session =>
    if r.sid = some x.sid ∧ r.seq = x.seq then { x with stored := some { r with drops := [] } } else x
  (s.onPort t fun p => { p with est := p.est.map keep }).deliver t r

/-- The reply to a waiting request, none to a group or to broadcast (R179), with the FIFO entries that leave with it. -/
def State.respondWith (s : State) (w : Waiting) (st : Status) (data : List Byte) (drops : List Nat) : State :=
  if w.rq.cast then s
  else
    s.answer w.rq.via
      { seq := w.rq.seq.toNat, opc := w.opc, status := st, data := data, key := w.key,
        lineAddr := if w.lineKeyed then some (s.param P.lineAddr) else none, more := false, part := 0, sid := w.sid,
        cut := false, drops := drops }

/-- The reply to a waiting request. -/
def State.respond (s : State) (w : Waiting) (st : Status) (data : List Byte) : State := s.respondWith w st data []

/-- An operation in hand for a waiting request. -/
def State.begin_ (s : State) (w : Waiting) (pnr : Bool) (wait : Wait) (k : OpKind) : State :=
  s.onOps fun l => l ++
    [{ via := w.rq.via, first := w.first, seq := w.rq.seq.toNat, opc := w.opc, sid := w.sid, key := w.key,
       lineAddr := if w.lineKeyed then some (s.param P.lineAddr) else none, cast := w.rq.cast, pnr := pnr,
       wait := wait, kind := k }]

/-- The end of an operation with its reply. -/
def State.finish (s : State) (o : Op) (st : Status) (data : List Byte) : State :=
  let s1 := s.onOps fun l => l.erase o
  if o.cast then s1
  else
    s1.answer o.via
      { seq := o.seq, opc := o.opc, status := st, data := data, key := o.key, lineAddr := o.lineAddr, more := false,
        part := 0, sid := o.sid, cut := false, drops := [] }

/-- How many places of a transport's queue are taken (Table 6.6): from arrival until the reply has been read or sent. -/
def State.occupancy (s : State) (t : Transport) : Nat :=
  let p := s.port t
  p.waiting.length + (s.camyx.ops.filter fun o => o.via == t && o.kind != .shelf).length + p.replies.length

/-- RX_FREE (Table 6.3). -/
def State.rxFree (s : State) (t : Transport) : Bool := decide (s.occupancy t < queueSize t)

/-! ### Sessions -/

/-- What the end of a session does beside removing it from its port (R197, R430): SESSION_END with its reason; requests
that have not started go; operations that have go on, with replies that carry no MAC; over NFC its reservation ends,
unless another session replaces it. -/
def State.dropSession (s : State) (t : Transport) (x : Session) (reason : Nat) : State :=
  let s1 := s.onPort t fun p =>
    { p with waiting := p.waiting.filter fun w => w.sid != some x.sid
             parts := p.parts.filter fun q => q.sid != some x.sid }
  let s2 := s1.onOps fun l => l.map fun o => if o.via = t ∧ o.sid = some x.sid then { o with key := none } else o
  let s3 : State := if t = .nfc ∧ reason ≠ 3 then
      let s4 := if s2.nfc.sessionRes then s2.release .nfcSession else s2
      { s4 with nfc := { s4.nfc with sessionRes := false, fieldOnly := false } }
    else s2
  s3.raiseP Ev.sessionEnd reason (transportCode t)

/-- The end of the session established on a transport, with a code of Table 6.8. -/
def State.endSession (s : State) (t : Transport) (reason : Nat) : State :=
  match (s.port t).est with
  | some x => (s.onPort t fun p => { p with est := none }).dropSession t x reason
  | none => s

/-- A pending session whose first request has verified is established and replaces the one before (R190). -/
def State.establish (s : State) (t : Transport) (x : Session) : State :=
  let s0 : State := if t = .nfc then { s with nfc := { s.nfc with opened := s.nfc.opened + 1 } } else s
  let s1 := (s0.onPort t fun p => { p with est := some x, pend := none }).raiseP Ev.sessionOpen 0 0
  match (s.port t).est with
  | some y => s1.dropSession t y 3
  | none => s1

/-- Every transport that carries sessions. -/
def sessionPorts : List Transport := [.spi, .i2c, .uart, .gateway, .line, .nfc]

/-- Ends the sessions derived from a key slot that is written or erased (R197, R431), pending ones without an event. -/
def State.keyChanged (s : State) (role slot : Nat) : State :=
  let of := fun x : Session => x.priv != .claim && x.priv.code == role && x.slot == slot
  sessionPorts.foldl
    (fun (s : State) t =>
      let s1 := s.onPort t fun p => { p with pend := p.pend.filter fun x => !of x }
      if (s.port t).est.any of then s1.endSession t 7 else s1) s

/-- Ends the claim sessions once the node is claimed (R433). -/
def State.claimsEnd (s : State) : State :=
  sessionPorts.foldl
    (fun (s : State) t =>
      let s1 := s.onPort t fun p => { p with pend := p.pend.filter fun x => x.priv != .claim }
      if (s.port t).est.any fun x => x.priv == .claim then s1.endSession t 7 else s1) s

/-! ### Whose request it is -/

/-- Whose MAC a request carries: nobody's, a session's (pending or established), or that of a K_GRP. -/
inductive Signer
  | nobody
  | session (pend : Bool) (x : Session)
  | group (k : List Byte)
deriving DecidableEq, Repr

/-- The signer of a request (R192, R195, R429): the sessions of its transport, then on the line each filled LINE slot. -/
def State.signer (s : State) (opc : Nat) (rq : Request) : Signer :=
  let b := rq.covered opc
  let p := s.port rq.via
  let own := fun x : Session => mac8 x.kMac b == rq.mac
  if !rq.auth then .nobody
  else match p.est.filter own, p.pend.filter own with
    | some x, _ => .session false x
    | none, some x => .session true x
    | none, none =>
      if rq.via = .line then
        match s.groupKeys.find? fun k => mac8 k (toLe 1 rq.dst ++ b) == rq.mac with
        | some k => .group k
        | none => .nobody
      else .nobody

/-- The key that authenticates the replies to a signer. -/
def Signer.key : Signer → Option (List Byte)
  | .nobody => none
  | .session _ x => some x.kMac
  | .group k => some k

/-- The privilege of a request without AUTH (R193, R199). -/
def State.plainPriv (s : State) (t : Transport) : Priv :=
  if localPort t && s.isOn P.secLocalRole then .operator else .pub

/-! ### The checks of an arriving request (R201) -/

/-- The LINE checks (R196): from address 0, an OPC marked LINE, valid time within 30 s, and a pair of TIME and SEQ above
the last one accepted, which it becomes. -/
def State.lineCheck (s : State) (w : Waiting) : State × Option Waiting :=
  let t := fieldAt w.body 0 4
  let seq := w.rq.seq.toNat
  let last := s.ctr.linePair
  if !linePermitted w.opc then (s.respond w .denied [], none)
  else if w.body.length < 4 || !s.plinth.timeValid || decide (30 < dist t s.plinth.rtcSec) ||
      !(decide (last.1 < t) || (decide (t = last.1) && decide (last.2 < seq))) then (s.respond w .replay [], none)
  else
    ({ s with ctr := { s.ctr with linePair := (t, seq) } }, some { w with body := w.body.drop 4, priv := .line })

/-- Freshness in a session (R185, R186): a retry gets the stored reply again, or nothing while its operation runs; a lower
SEQ is REPLAY; from 0xFFF0 on REKEY ends the session; 0xFF00 raises REKEY_DUE once. -/
def State.fresh (s : State) (w : Waiting) (x : Session) : State × Option Waiting :=
  let seq := w.rq.seq.toNat
  let t := w.rq.via
  if seq = x.seq ∧ w.rq.mac = x.mac then
    (match x.stored with
      | some r => s.deliver t r
      | none => s, none)
  else if seq ≤ x.seq then (s.respond w .replay [], none)
  else if 0xFFF0 ≤ seq then ((s.respond w .rekey []).endSession t 4, none)
  else
    let due := decide (0xFF00 ≤ seq)
    let s1 := s.onPort t fun p =>
      { p with est := some { x with seq := seq, mac := w.rq.mac, stored := none, seqs := seq :: x.seqs,
                                    rekeyDue := x.rekeyDue || due } }
    (if due && !x.rekeyDue then s1.raiseP Ev.rekeyDue 0 0 else s1, some { w with sid := some x.sid, priv := x.priv })

/-- A request has verified under a session: its idle time starts again, with the limit as it stands now (R197, R209). -/
def State.verify (s : State) (x : Session) : Session :=
  { x with verifiedAt := s.plinth.upMs, idleS := s.param P.sysSessIdleS }

/-- Check 4 and 5 of R201. Without a verifying MAC the answer is unauthenticated (R193); a request to a group has no session
to be without. -/
def State.authorize (s : State) (w : Waiting) (who : Signer) : State × Option Waiting :=
  if !w.rq.auth then (s, some w)
  else match who with
    | .nobody =>
      if !w.rq.cast && (s.port w.rq.via).est.isNone && (s.port w.rq.via).pend.isNone then (s.respond w .noSession [], none)
      else
        let s1 : State := { s with ctr := { s.ctr with authFail := satAdd 16 s.ctr.authFail 1 } }
        ((s1.raiseP Ev.authFail 0 0).respond w .auth [], none)
    | .group _ => s.lineCheck w
    | .session pend x =>
      let y := s.verify x
      (if pend then s.establish w.rq.via y else s.onPort w.rq.via fun p => { p with est := some y }).fresh w y

/-- Whether a run of parts comes from the sender of a request: its session, the LINE key, or nobody. -/
def Parts.of (q : Parts) (w : Waiting) : Bool := q.sid == w.sid && q.lineKeyed == w.lineKeyed

/-- Checks 6 to 9 of R201 on a request whose parts are assembled; a part that has MORE set is stored and acknowledged
with OK and MORE (R163). -/
def State.admitRest (s : State) (w : Waiting) (run : Option Parts) : State × Option Waiting :=
  let t := w.rq.via
  let body := match run with
    | some r => r.data ++ w.body
    | none => w.body
  let w1 : Waiting := { w with body := body, first := match run with
    | some r => r.first
    | none => w.rq.seq.toNat }
  let others := (s.port t).parts.filter fun q => !q.of w
  if (rolesOf w.opc).isNone then (s.respond w .badOpc [], none)
  else if !admits w.priv (transportCode t) w.opc body then (s.respond w .denied [], none)
  else if w.rq.more then
    let part : Parts :=
      { opc := w.opc, first := w1.first, next := wrapAdd 16 w.rq.seq.toNat 1, data := body, sid := w.sid
        lineKeyed := w.lineKeyed }
    let s1 := s.onPort t fun p => { p with parts := others ++ [part] }
    (if w.rq.cast then s1
      else s1.answer t
        { seq := w.rq.seq.toNat, opc := w.opc, status := .ok, data := [], key := w.key,
          lineAddr := if w.lineKeyed then some (s.param P.lineAddr) else none, more := true, part := 0, sid := w.sid,
          cut := false, drops := [] }, none)
  else
    let s1 := if run.isSome then s.onPort t fun p => { p with parts := others } else s
    if !wellFormed w.opc body then (s1.respond w .badParam (badDetail w.opc body), none)
    else if !s1.rxFree t then ((s1.raiseP Ev.queueFull 0 0).respond w .busy [], none)
    else (s1, some w1)

/-- The run of parts that a request goes on with (R163): its SEQ or OPC may break it, which is BAD_FRAME; an ABORT is no
part. -/
def State.admit_ (s : State) (w : Waiting) : State × Option Waiting :=
  let t := w.rq.via
  match (s.port t).parts.find? fun q => q.of w with
  | none => s.admitRest w none
  | some r =>
    if w.opc = 4 ∧ w.rq.more = false then s.admitRest w none
    else if r.opc = w.opc ∧ r.next = w.rq.seq.toNat then s.admitRest w (some r)
    else
      ((s.onPort t fun p => { p with parts := p.parts.filter fun q => !q.of w }).respond w .badFrame [], none)

/-- The checks of R201 on a request that its transport has received whole: what they leave of the state, with the answer
where one fails, and the request where all pass. On the line it must come from address 0 (R180). -/
def State.arrive (s : State) (opc : Nat) (rq : Request) : State × Option Waiting :=
  let who := s.signer opc rq
  let grp := match who with
    | .group _ => true
    | _ => false
  let w : Waiting :=
    { n := s.camyx.arrived, opc := opc, first := rq.seq.toNat, rq := rq, body := rq.params, priv := s.plainPriv rq.via, sid := none, key := who.key, lineKeyed := grp }
  let s0 : State := { s with camyx := { s.camyx with rx := wrapAdd 32 s.camyx.rx 1 } }
  if rq.via = .line ∧ rq.origin ≠ 0 then (s, none)
  else if rq.ctrl &&& 0xF9#8 ≠ 0 then (s0.respond w .badFrame [], none)
  else if paramLimit rq.via < rq.params.length then (s0.respond w .size [], none)
  else match s0.authorize w who with
    | (s1, some w1) => s1.admit_ w1
    | (s1, none) => (s1, none)

/-- A request joins its transport's queue, with its number in the order of arrival (R184): work for the sequencer (R138). -/
def State.enqueue (s : State) (w : Waiting) : State :=
  let s1 := s.onPort w.rq.via fun p => { p with waiting := p.waiting ++ [{ w with n := s.camyx.arrived }] }
  { s1 with camyx := { s1.camyx with arrived := s1.camyx.arrived + 1 } }.needRun

/-- A request joins its transport's queue where it passes every check. -/
def State.receive (s : State) (opc : Nat) (rq : Request) : State :=
  match s.arrive opc rq with
  | (s1, some w) => s1.enqueue w
  | (s1, none) => s1

/-- Counts a packet that is discarded (R160). -/
def State.frameError (s : State) : State :=
  { s with camyx := { s.camyx with err := wrapAdd 32 s.camyx.err 1 } }.raiseP Ev.frameError 0 0

/-- Whether the interface of a transport receives now (R27, R30, R166, Table 6.12, Table 14.4): the host ports while
VHOST is on, in DOZE and RUN, where SYS_PORT_EN names them; UART0 is a host port outside HEAD and the gateway port in
it, served by the lead alone (R392); the line at a node that speaks for itself; NFC from ISO-DEP on; in recovery NFC and the host ports only (R441). -/
def State.portLive (s : State) (t : Transport) : Bool :=
  let rec_ := s.plinth.seq == .recovery
  let awake := s.plinth.mode == .doze || s.plinth.mode == .run
  let host := (s.seqRuns || rec_) && awake && s.power.vhostOn
  let en := fun i => bitAt (s.param P.sysPortEn) i
  match t with
  | .spi => host && en 0
  | .uart => host && en 1 && s.ident.role != .head
  | .i2c => host && en 2
  | .gateway => s.seqRuns && awake && s.power.vhostOn && s.ident.role == .head && s.speaks
  | .line => s.seqRuns && awake && s.ident.role != .head && !s.follower
  | .nfc => (s.seqRuns || rec_) && s.nfc.st == .isoDep
  | .link => s.seqRuns && s.isOn P.tabEn

/-! ### The line and the gateway -/

/-- A packet that the line delivers, LEN through MAC, with the addresses of its frame (R180). -/
def State.linePacket (s : State) (src dst : Nat) (pkt : List Byte) : State :=
  if !s.portLive .line then s
  else if packetOk pkt then s.receive (opcOf pkt) (requestOf .line src dst pkt) else s.frameError

/-- The next part of a reply that a node sends on the line, and the state with it handed over (R164, R369). -/
def State.nextLineReply (s : State) : Option (List Byte × State) :=
  match (s.port .line).replies with
  | r :: rest =>
    let x := r.take (s.replyLimit .line r.key.isSome)
    some (x.1, (s.onPort .line fun p =>
      { p with replies := match x.2 with
          | some r' => r' :: rest
          | none => rest }).handOver (r.gone x.2))
  | [] => none

/-- Sends a frame to the gateway. -/
def State.toGateway (s : State) (f : List Byte) : State :=
  { s with camyx := { s.camyx with gwOut := s.camyx.gwOut ++ [f] } }

/-- NOTIFY over the gateway port of a HEAD (R162). -/
def State.notify (s : State) (report : List Byte) : State :=
  if s.portLive .gateway then s.toGateway (frameLocal (packetBody 1 0 5 ([0#8] ++ report) 0)) else s

/-- A node's packet that the HEAD passes to the gateway (R178); the last part of a reply answers the bridged request. -/
def State.bridgeReply (s : State) (addr : Nat) (pkt : List Byte) : State :=
  let done := fun b : Bridged => b.addr == addr && b.sent && fieldAt b.pkt 3 2 == fieldAt pkt 3 2
  let s1 := if s.portLive .gateway then s.toGateway (frameBridge addr pkt) else s
  if bitAt (fieldAt pkt 2 1) 2 then s1
  else { s1 with camyx := { s1.camyx with bridge := s1.camyx.bridge.filter fun b => !done b } }

/-- A LINE-keyed packet of this HEAD or lead (R195, R429): TIME in front, SEQ rising within one second of TIME; none,
with FIELD_LOW NO_LINE_KEY, while the slot that SEC_LINE_TX_SLOT names is empty. -/
def State.ownLinePkt (s : State) (dst opc : Nat) (params : List Byte) : Option (List Byte) × State :=
  match s.key? 4 (s.param P.secLineTxSlot) with
  | none => (none, s.raiseP Ev.fieldLow 2 0)
  | some k =>
    let t := s.stamp
    let seq := if s.camyx.lineSent.1 = t then s.camyx.lineSent.2 + 1 else 1
    let b := packetBody 2 seq opc (toLe 4 t ++ params) 8
    (some (b ++ mac8 (groupKey k (s.param P.lineFeederId)) (toLe 1 dst ++ b)),
      { s with camyx := { s.camyx with lineSent := (t, seq) } })

/-- A packet for a group or broadcast of which nothing has been sent. -/
def newCast (addr ptype : Nat) (pkt : List Byte) (times : Nat) (bridged : Bool) : Cast :=
  { addr := addr, ptype := ptype, rest := pkt, frag := 0, cur := none, times := times, left := 0, bridged := bridged }

/-- Queues a LINE-keyed packet for a node, group or broadcast; to a group or to broadcast it is sent twice where the
requester of R366 asks, so `times` says how often. -/
def State.sendLine (s : State) (dst opc : Nat) (params : List Byte) (times : Nat) : State :=
  match s.ownLinePkt dst opc params with
  | (some p, s1) => { s1 with line := { s1.line with castQ := s1.line.castQ ++ [newCast dst 1 p times false] } }
  | (none, s1) => s1

/-! ### Digests and the Miovin link -/

/-- RUN8 of the record (Table 13.5). -/
def State.run8 (s : State) : List Byte := s.runDigest.take 8

/-- CFG8 of the record. -/
def State.cfg8 (s : State) : List Byte := s.cfgDigest.take 8

/-- SYS_COMPAT (R237). -/
def State.compat (_ : State) : Nat := ownCompat

/-- The differences from the defaults that a bank holds: SAVED writable parameters only. -/
def savedOnly (l : Vals) : Vals :=
  l.filter fun e => match findDesc e.1 with
    | some (d, _) => d.saved && d.acc != .read
    | none => false

/-- The FULL image of the lead's committed configuration without local parameters (Table 13.7). -/
def State.leadImage (s : State) : List Byte := s.image s.ident.role s.ident.sto s.future false

/-- Adoption of the lead's configuration (R414): the maquette is emptied, the image applied as by IMAGE_IMPORT with
APPLY 1. Answers whether the apply worked. -/
def State.tabImage (s : State) (b : List Byte) : State × Bool :=
  let s0 := s.restage []
  match s0.imageFault .owner b, parseImage b with
  | none, some l =>
    let s1 := s0.restage (s0.imageVals (fieldAt b 5 1) l)
    match s1.commitFault .owner 0 with
    | none => (s1.armCommit none, true)
    | some _ => (s0, false)
  | _, _ => (s0, false)

/-- A forwarded request at a member (R213, Table 13.7), executed under the lead's transport and role. -/
def State.tabRequest (s : State) (body : List Byte) : State :=
  let opc := fieldAt body 2 1
  let p := body.drop 3
  let t := fieldAt body 1 1
  let w : Waiting :=
    { n := 0
      opc := opc
      first := 0
      rq := { via := .link, origin := t, dst := 0, ctrl := 0, seq := 0, params := p, mac := [] }
      body := p, priv := privOf (fieldAt body 0 1), sid := none, key := none, lineKeyed := false }
  if (rolesOf opc).isNone then s.respond w .badOpc []
  else if !admits w.priv t opc p then s.respond w .denied []
  else if !wellFormed opc p then s.respond w .badParam (badDetail opc p)
  else if !s.rxFree .link then s.respond w .busy []
  else s.enqueue w

/-- A forwarded reply at the lead: it answers the member's oldest operation in hand; ALREADY_DONE comes from an ABORT and
answers that. -/
def State.tabReply (s : State) (src : Nat) (body : List Byte) : State :=
  let st := statusOf (fieldAt body 0 1)
  let mine := s.camyx.ops.filter fun o => o.kind == .forward src
  let pick := match mine.find? fun o => st == .alreadyDone && o.opc == 4 with
    | some o => some o
    | none => mine.head?
  match pick with
  | some o => s.finish o st (body.drop 1)
  | none => s

/-! ### Operations that hardware ends -/

/-- LATCHED_MASK: which channels of a mask a latch still holds off (R216). -/
def State.latchedMask (s : State) (mask : Nat) : Nat :=
  maskOf 16 fun c => bitAt mask c &&
    ((s.chan c).curLatch || (s.chan c).escalated || (s.chan c).thermLatch)

/-- The reply of an operation that a rail or the stagger has finished (R217, R247). -/
def State.opDone (s : State) (o : Op) : Option (List Byte) :=
  match o.kind with
  | .railStart r =>
    let code := if s.ganged r.val && s.tab.lead then s.tab.rstate[r] else (s.rail r.val).st.code
    if code = 1 ∨ code = 3 then none else some (toLe 1 code)
  | .chClear mask => if s.sw.staggerQ.isEmpty then some (toLe 2 (s.latchedMask mask)) else none
  | .chOn => if s.sw.staggerQ.isEmpty then some (toLe 2 (maskOf 16 fun c => (s.chan c).out)) else none
  | _ => none

/-- Replies of every operation that has come to its end. -/
def State.settle (s : State) : State :=
  s.camyx.ops.foldl
    (fun (s : State) o =>
      match s.opDone o with
      | some d => s.finish o .ok d
      | none => s) s

end Sys2Proof.Machine
end

