-- ==== Sys2Proof/Machine/ArmProt.lean ====
section
/-! DEFINITION. The meanings of the Armature protection commands (Chapter 11): limits, under-voltage and hiccups, the
gate-drive supply, PLL loss, the over-voltage latch, shedding and the fault records. -/

namespace Sys2Proof.Machine

/-- R330: a running phase reaches its short-circuit limit, which ends its on-time and is counted once in it; the first limiting
after 1 s without any raises SC_TRIP. -/
def execScLimit (p : Fin 8) (s : State) : Host.Outcome State Fault Refusal :=
  let x := s.phase p.val
  let first := match x.scAt with
    | some t => decide (1000 ≤ since s.plinth.upMs t)
    | none => true
  .next (if x.running then
      let s1 := s.onPhase p.val fun x =>
        { x with scAt := some s.plinth.upMs, onLeft := 0, scNow := true, scRun := if x.scNow then x.scRun else x.scRun + 1 }
      if first then s1.raiseP (Ev.scTrip (s.railOf p.val)) 0 p.val else s1
    else s)

/-- R332: the overload timer has reached ARM_OL_T_MS; OVERLOAD is raised and the rail soft-stops with OVERLOAD, or with
OVERLOAD_PHASE where one phase exceeded its own limit. DETAIL of the record is the limit in effect. -/
def execOverloadTimeout (r : Fin 2) (onePhase : Bool) (s : State) : Host.Outcome State Fault Refusal :=
  let r := r.val
  let phaseLim := (s.running r).foldl (fun a p => if s.olPhMa p < (s.phase p).meanMa.natAbs then s.olPhMa p else a) 0
  .next (if ((s.rail r).st = .starting ∨ (s.rail r).st = .regulating) ∧ s.param (P.armOlTMs r) ≤ (s.rail r).olMs then
      (s.softFault r (if onePhase then 4 else 3) (if onePhase then phaseLim else s.olNowMa r)).raiseC
        (Ev.overload r) 0 0
    else s)

/-- R345: ARM_OL_RETRY_S after an overload stop the rail restarts. -/
def execOverloadRetry (r : Fin 2) (s : State) : Host.Outcome State Fault Refusal :=
  let x := s.rail r.val
  .next (if (x.reason = 3 ∨ x.reason = 4) ∧ s.param (P.armOlRetryS r.val) ≠ 0 then s.restartRail r.val else s)

/-- Whether the under-voltage comparator of a rail acts (R333): while it regulates, but not on an upward slew, and in a start once
the reference exceeds 10 % of its target; not while it brakes. -/
def State.uvActive (s : State) (r : Nat) : Bool :=
  let x := s.rail r
  !x.braking && ((x.st == .regulating && decide (s.vrefTarget r ≤ x.vref)) ||
    (x.st == .starting && decide (s.vrefTarget r < 10 * x.vref)))

/-- R333: FBx has stayed below the threshold: dropout where every firing ran at maximum duty and no phase limited, else
a hiccup with LIMIT or UV. -/
def execUndervolt (r : Fin 2) (atMaxDuty limited : Bool) (s : State) : Host.Outcome State Fault Refusal :=
  let why := if limited then 1 else 2
  .next (if !s.uvActive r.val then s
    else if atMaxDuty && !limited then s.raiseOnce (Ev.undervolt r.val) 3 0
    else ((s.raiseOnce (Ev.undervolt r.val) why 0).hiccup r.val why).settle)

/-- R333: FBx has stayed above the threshold for 10 ms; the dropout clears. -/
def execDropoutClear (r : Fin 2) (s : State) : Host.Outcome State Fault Refusal :=
  .next (s.clearR (Ev.undervolt r.val) 3)

/-- R334: ARM_HICCUP_MS after a hiccup the rail starts again. -/
def execHiccupRestart (r : Fin 2) (s : State) : Host.Outcome State Fault Refusal :=
  .next (if (s.rail r.val).reason = 5 then s.restartRail r.val else s)

/-- R334: after 1 s of regulating the count clears, and UNDERVOLT LIMIT and UV with it (Table 15.2). -/
def execHiccupCountClear (r : Fin 2) (s : State) : Host.Outcome State Fault Refusal :=
  .next (if (s.rail r.val).st = .regulating then
      (s.onRail r.val fun x => { x with hiccups := 0 }).clearIf (Ev.undervolt r.val)
        fun h => h.reason == 1 || h.reason == 2
    else s)

/-- R335: BUS_OV has qualified falling; the rails stopped with VIN_OV start again. -/
def execBusOvFall (vbusMv : Int) (s : State) : Host.Outcome State Fault Refusal :=
  let s1 : State := { s with power := { s.power with vbusMv := vbusMv, busOv := false } }
  .next ((s1.dumpEnd.clearE Ev.busOv).clearE Ev.busDump |>.restartAll 2)

/-- R336: VDRV has been below 8.0 V for 2 µs, what it is being a free value (log 8); every rail that starts, regulates or stops is stopped with VDRV. -/
def execVdrvLockout (s : State) : Host.Outcome State Fault Refusal :=
  .next ((List.range 2).foldl (fun (s : State) r => if (s.rail r).st.live then s.railStop r 7 0 else s)
    { s with arm := { s.arm with vdrvOk := false, vdrvDv := Sys2Proof.Config.reading s.free % 80 } }.draw).remap.settle

/-- R336: VDRV has held 9.0 V for 10 ms; the rails stopped with VDRV start again. -/
def execVdrvRelease (s : State) : Host.Outcome State Fault Refusal :=
  .next ((({ s with arm :=
    { s.arm with vdrvOk := true, vdrvDv := 90 + Sys2Proof.Config.reading s.free % 166 } }.draw).restartAll 7).restartAll 2)

/-- R337: PLL384 loses lock; each rail that runs soft-stops with PLL, at once where RC48 has failed too; a rail in a
hiccup wait takes the reason PLL (Table 11.6). -/
def execPllLoss (s : State) : Host.Outcome State Fault Refusal :=
  .next ((List.range 2).foldl
    (fun (s : State) r =>
      if (s.rail r).st.live then
        let s1 := if (s.rail r).locked then
            (s.onRail r fun x => { x with locked := false, corrLim := false }).raiseP (Ev.lockChange r) 2 0 else s
        if s.plinth.rc48 then (s1.softFault r 8 0).raiseC (Ev.railStop r) 8 0 else s1.railStop r 8 0
      else if (s.rail r).reason = 5 then s.onRail r fun x => { x with reason := 8 }
      else s)
    { s with plinth := { s.plinth with pll := false } }).settle

/-- R337: the PLL has held lock for 10 ms; the rails stopped with PLL start again. -/
def execPllRelock (s : State) : Host.Outcome State Fault Refusal :=
  .next ({ s with plinth := { s.plinth with pll := s.pllWanted } }.restartAll 8)

/-- R338: the output over-voltage comparator trips, in every state but 0 and 4. -/
def execOutOvLatch (r : Fin 2) (peakFbMv : Nat) (s : State) : Host.Outcome State Fault Refusal :=
  let x := s.rail r.val
  .next (if x.st = .stopped ∨ x.st = .ovLatched ∨ 100 * peakFbMv < s.param (P.armOvPct r.val) * max (s.vrefTarget r.val) x.vref then s
    else (s.ovLatch r.val peakFbMv).remap.settle)

/-- R341: the hardware flags a failed path of a running phase. -/
def execPhaseFailedPath (p : Fin 8) (why : ShedReason) (s : State) : Host.Outcome State Fault Refusal :=
  .next (s.onPhase p.val fun x => if x.running then { x with flagged := some why } else x)

/-- The shed reason of a failed path (ARM_PH_PROT). The spec gives none to a phase shed for its share of the current:
that one is a free value (log 8). -/
def State.shedCode (s : State) : ShedReason → Nat
  | .sense => 1
  | .gate => 2
  | .boot => 3
  | .share => Sys2Proof.Config.reading s.free % 3 + 1

/-- R341, R343: P2 firmware sheds the flagged phase, once the sequencer runs; with fewer than ARM_MIN_PH phases left the
rail stops with NO_PHASE. -/
def execPhaseShed (p : Fin 8) (s : State) : Host.Outcome State Fault Refusal :=
  let r := s.railOf p.val
  .next (match (s.phase p.val).flagged with
    | some why =>
      if !s.seqRuns then s
      else
        let s1 := (s.shedPhase r p.val (s.shedCode why)).draw
        (if s1.enoughPhases r || !(s1.rail r).st.live then s1.remap else (s1.railStop r 11 0).settle).taskEnd 2
    | none => s)

/-- R342: VOSx and FBx disagree on a regulating rail whose output is above half its target. -/
def execVosMismatch (r : Fin 2) (s : State) : Host.Outcome State Fault Refusal :=
  let x := s.rail r.val
  .next (if x.st = .regulating ∧ s.targetMv r.val < 2 * x.vos then
      (s.softFault r.val 10 0).raiseC (Ev.railStop r.val) 10 0
    else s)

/-- R346: the oldest captured record of a rail is written at P6 under FAULT_RECORD; where that is not granted it is left
to the shutdown commit. -/
def execFaultRecordWrite (r : Fin 2) (s : State) : Host.Outcome State Fault Refusal :=
  .next (match (s.rail r.val).caps with
    | b :: rest =>
      if !s.seqRuns then s
      else if s.canReserve .faultRecord (4 * mj) then
        ((s.onRail r.val fun x => { x with caps := rest, ring := (sealRec b :: x.ring).take 8 }).taskEnd 1).taskEnd 6
      else (s.refuse .faultRecord).onRail r.val fun x => { x with caps := rest, late := x.late ++ [b] }
    | [] => s)

end Sys2Proof.Machine
end

