-- ==== Sys2Proof/Machine/Armature.lean ====
section
/-! DEFINITION. The meanings of the Armature regulation commands (Chapter 10): firings, lock, edge map, balancing, starts
and stops, tracking, SYNC and braking. -/

namespace Sys2Proof.Machine

/-- The lock correction c in parts per million: a free value of the lock loop within ±25 % (R312, log 8). -/
def State.lockC (s : State) : Int := max (-250000) (min 250000 (Sys2Proof.Config.lockCorr s.free))

/-- The trim of a phase with the device trim of its share, which together stay within the limit (R315, R410). -/
def State.trimOf (s : State) (r p : Nat) : Int :=
  trimClip (s.trimLimit r) ((s.phase p).trim + s.tab.devTrim.toList.getD r 0)

/-- The on-time of a phase in PLL counts (R307, R308, R410): nominal at the measured voltages, corrected by c and by the
trims, no shorter than 40 ns. -/
def State.onTime (s : State) (r p vosMv vbusMv : Nat) : Nat :=
  let den := max (vbusMv * s.param (P.armN r)) 1
  let num : Int := (vosMv * 48000 : Nat) * (1000000 + s.lockC)
  let base := (num / 1000000 + (den / 2 : Nat)) / (den : Int)
  max 16 (base + s.trimOf r p).toNat

/-- By how much the emulated current of a phase rises in `on` PLL counts of its on-time, in nA (R309). -/
def emuRise (vosMv vbusMv lNh on : Nat) : Int := ((vbusMv : Int) - (vosMv : Int)) * 1000000000 * on / (384 * (max lNh 1 : Nat))

/-- By how much it falls in `off` PLL counts. -/
def emuFall (vosMv lNh off : Nat) : Int := (vosMv * 1000000000 * off / (384 * max lNh 1) : Nat)

/-- A phase `dt` PLL counts later (R308, R309): its emulated current, what is left of its on-time, how long it has been off. -/
def Phase.emulate (x : Phase) (dt vosMv vbusMv lNh : Nat) : Phase :=
  let on := min dt x.onLeft
  { x with
    emuNa := x.emuNa + emuRise vosMv vbusMv lNh on - emuFall vosMv lNh (dt - on)
    onLeft := x.onLeft - dt
    offFor := if dt ≤ on then 0 else x.offFor + (dt - on) }

/-- Twice the area under the emulated current of a phase over those counts. -/
def Phase.emuArea (x : Phase) (dt vosMv vbusMv lNh : Nat) : Int :=
  let on := min dt x.onLeft
  let up := emuRise vosMv vbusMv lNh on
  on * (2 * x.emuNa + up) + (dt - on : Nat) * (2 * (x.emuNa + up) - emuFall vosMv lNh (dt - on))

/-- The emulated currents of a rail `dt` counts later, and the mean of their sum over the switching period that ends (R309). -/
def State.emulate (s : State) (r dt vosMv vbusMv : Nat) : State :=
  let l := s.param (P.armLNh r)
  let ps := s.running r
  let area := (s.rail r).emuArea + ps.foldl (fun a p => a + (s.phase p).emuArea dt vosMv vbusMv l) 0
  let len := (s.rail r).emuLen + dt
  let whole := decide (48000 ≤ len * s.param (P.armN r))
  let s1 := ps.foldl (fun (s : State) p => s.onPhase p fun x => x.emulate dt vosMv vbusMv l) s
  s1.onRail r fun x =>
    { x with
      emuArea := if whole then 0 else area
      emuLen := if whole then 0 else len
      emuMeanNa := if whole then area / (2 * len : Nat) else x.emuMeanNa }

/-- The ramp that a rail injects at FBx, in µV, without its mean (R309). -/
def State.rampUv (s : State) (r : Nat) : Int :=
  let i := (s.running r).foldl (fun a p => a + (s.phase p).emuNa) 0
  s.param (P.armRemuUohm r) * (i - (s.rail r).emuMeanNa) / (1000000 * (max (s.param (P.armDivX1000 r)) 1 : Nat))

/-- The place in the rotation of the phase that fires next: the first, from the one after the last that fired, that has been off
for 120 ns (R307, R308) and that its short-circuit limit does not hold back (R330). -/
def State.nextPhase (s : State) (r : Nat) : Option Nat :=
  let ps := s.running r
  ((List.range ps.length).map fun i => ((s.rail r).next + i) % max ps.length 1).find? fun k =>
    let x := s.phase (ps.getD k 0)
    x.onLeft == 0 && decide (47 ≤ x.offFor ∧ x.scRun < 8)

/-- The comparator of a rail (R307): FBx and the ramp against the reference and the correction of the integrator, which ADC and
loop give (log 2); none fires in a start over a pre-biased output before the reference has reached FBx (R317). -/
def State.comparator (s : State) (r fbUv : Nat) (integUv : Int) : Bool :=
  let ref := 1000 * (s.rail r).vref
  decide ((fbUv : Int) + s.rampUv r < (ref : Int) + integUv) &&
    !((s.rail r).st == .starting && (s.rail r).onTime == 0 && decide (ref < fbUv))

/-- Lets the phases fire again whose valley current has fallen below half their short-circuit limit (R330). -/
def State.valleys (s : State) (r : Nat) (low : BitVec 8) : State :=
  (s.running r).foldl (fun (s : State) p =>
    if low.getLsbD p then s.onPhase p fun x => { x with scRun := if 8 ≤ x.scRun then 0 else x.scRun } else s) s

/-- The rail `dt` PLL counts after its last evaluation (R307 to R309): where its comparator fires, the next phase of the rotation
gets an on-time; none while the rail does not switch or brakes (R324). ADC-A measures VBUS and VOSx in every state. -/
def State.fire (s : State) (r dt fbUv : Nat) (integUv : Int) (vosMv vbusMv : Nat) (low : BitVec 8) : State :=
  let s0 := { s with power := { s.power with vbusMv := vbusMv } }.onRail r fun x => { x with vos := vosMv }
  if !(s.rail r).st.live || (s.running r).isEmpty then s0
  else
    let s1 := (s0.emulate r dt vosMv vbusMv).valleys r low
    if (s.rail r).braking || !s1.comparator r fbUv integUv then s1
    else match s1.nextPhase r with
      | none => s1
      | some k =>
        let ps := s.running r
        let p := ps.getD k 0
        let on := s1.onTime r p vosMv vbusMv
        ((s1.onPhase p fun x =>
            { x with onLeft := on, offFor := 0, scRun := if x.scNow then x.scRun else 0, scNow := false }).onRail r fun x =>
          { x with onTime := on, next := (k + 1) % max ps.length 1, fsw := 8000 * s.param (P.armN r) }).draw

/-- R307: the rail comparator is evaluated. -/
def execRailFiring (r : Fin 2) (dt fbUv : Nat) (integUv : Int) (vosMv vbusMv : Nat) (low : BitVec 8) (s : State) :
    Host.Outcome State Fault Refusal :=
  .next (s.fire r.val dt fbUv integUv vosMv vbusMv low)

/-- R312: a live rail gains or loses its grid lock; each change raises LOCK_CHANGE. -/
def execLockChange (r : Fin 2) (locked corrLimit : Bool) (s : State) : Host.Outcome State Fault Refusal :=
  let x := s.rail r.val
  .next (if !x.st.live then s
    else
      let s1 := s.onRail r.val fun x => { x with locked := locked, corrLim := corrLimit }
      if x.locked = locked then s1 else s1.raiseP (Ev.lockChange r.val) (if locked then 1 else 2) 0)

/-- R313: the edge map is recomputed at the measured VBUS. -/
def execQuietMapRecompute (vbusMv : Nat) (s : State) : Host.Outcome State Fault Refusal :=
  .next ({ s with power := { s.power with vbusMv := vbusMv } }.remap)

/-! ### Balancing -/

/-- The sense resistance of a phase in nΩ (R314): ARM_PH_RS_UOHM, for a DCR raised by 3,900 ppm/K above 25 °C. -/
def State.senseNohm (s : State) (p : Nat) : Nat :=
  let rs := s.param (P.armPhRsUohm p)
  if s.isOn (P.armPhSense p) then rs * (1000000 + 3900 * (s.power.tempC - 25).toNat) / 1000 else rs * 1000

/-- The current of a phase in mA at a sense voltage in µV, which is clipped at ±60 mV (R314). -/
def State.senseMa (s : State) (p : Nat) (uv : Int) : Int :=
  max (-60000) (min 60000 uv) * 1000000 / (max (s.senseNohm p) 1 : Nat)

/-- One trim step (R315): one PLL count towards balance where the difference exceeds 1 % or 50 mA. -/
def trimStep (mean diff trim : Int) : Int :=
  let thr := max (mean.natAbs / 100) 50
  if (thr : Int) < diff then trim - 1 else if diff < -(thr : Int) then trim + 1 else trim

/-- One 1 ms balancing step of a rail (R314, R315): the means are formed; with balancing on, the firmware running and a mean of
0.5 A or more, the trims move, within their limits. -/
def State.balance (s : State) (r : Nat) (i : PhaseMeans) : State :=
  let ps := s.running r
  let ma := fun p => s.senseMa p (i.uv.toList.getD p 0)
  let mean : Int := (ps.foldl (fun a p => a + ma p) 0) / (max ps.length 1 : Nat)
  let on := s.isOn (P.armBalEn r) && s.seqRuns && decide (500 ≤ mean)
  let lim := s.trimLimit r
  { s with arm := { s.arm with
      ph := Vector.ofFn fun p =>
        let x := s.arm.ph[p]
        if ps.contains p.val then
          { x with meanMa := ma p.val
                   trim := if on then trimClip lim (trimStep mean (ma p.val - mean) x.trim) else x.trim }
        else x } }

/-- The overload timer of a rail after one more 1 ms mean (R332): it runs while the sum or a phase exceeds its limit, and is reset
by ten means in a row inside both. -/
def State.overloadMs (s : State) (r : Nat) : State :=
  let ps := s.running r
  let exceeds := decide (s.olNowMa r < (s.railMa r).natAbs) || ps.any fun p => decide (s.olPhMa p < (s.phase p).meanMa.natAbs)
  s.onRail r fun x =>
    if exceeds then { x with olMs := x.olMs + 1, olOk := 0 }
    else if 10 ≤ x.olOk + 1 then { x with olMs := 0, olOk := 0 }
    else { x with olOk := x.olOk + 1 }

/-- R315: 1 ms of balancing. -/
def execBalanceTick (r : Fin 2) (i : PhaseMeans) (s : State) : Host.Outcome State Fault Refusal :=
  .next (((s.balance r.val i).overloadMs r.val).taskEnd 2)

/-- R315: a trim has been at its limit for 1 s, or every trim of the rail inside its limits for 10 s. -/
def execBalanceLimit (p : Fin 8) (cleared : Bool) (s : State) : Host.Outcome State Fault Refusal :=
  let r := s.railOf p.val
  let inside := (List.range 8).all fun q =>
    decide (s.railOf q ≠ r ∨ (s.phase q).trim.natAbs < max 1 (s.trimLimit r))
  .next (if cleared then
      if !inside then s else
      ({ s with arm := { s.arm with
          ph := Vector.ofFn fun q =>
            if s.railOf q.val = r then { s.arm.ph[q] with atLimit := false } else s.arm.ph[q] } }).clearE
        (Ev.balanceLimit r)
    else if s.trimLimit r ≤ (s.phase p.val).trim.natAbs then
      (s.onPhase p.val fun x => { x with atLimit := true }).raiseOnce (Ev.balanceLimit r) 0 p.val
    else s)

/-! ### Starts and stops -/

/-- The phases of a rail that fail a pre-start check, in the order of Table 11.2, each with its shed reason. -/
def State.badPhases (s : State) (r : Nat) (chk : PreStart) : List (Nat × Nat) :=
  ((s.slots r).filter fun p => (s.phase p).shed == 0).filterMap fun p =>
    if chk.sense.getLsbD p then some (p, 1)
    else if chk.gate.getLsbD p then some (p, 2)
    else if chk.boot.getLsbD p then some (p, 3)
    else none

/-- The pre-start checks and the first switching of a start (R317, R340): failing phases are shed; a failed rail check or
too few phases stop the rail with PRESTART; otherwise the phases that are not shed run. -/
def State.preStart (s : State) (chk : PreStart) : State :=
  let r := chk.rail.val
  let s0 : State := { s with plinth := { s.plinth with pll := s.pllWanted } }
  if (s.rail r).st ≠ .starting || (s.rail r).waitLeader then s0
  else
    let s0 := if chk.trkHigh && s.param (P.armTrackSrc r) == 2 then
        (s0.onRail r fun x => { x with tracking := false }).raiseP (Ev.trackFault r) 0 0 else s0
    let s1 := (s0.badPhases r chk).foldl (fun (s : State) e => s.shedPhase r e.1 e.2) s0
    let detail := flag chk.fbOpen 0 + flag chk.preBias 1 + flag (!s1.enoughPhases r) 2
    if detail ≠ 0 then s1.railStop r 9 detail
    else
      let run := (s1.slots r).filter fun p => (s1.phase p).shed == 0
      ({ s1 with arm := { s1.arm with
          ph := Vector.ofFn fun p =>
            if run.contains p.val then { s1.arm.ph[p] with running := true, emuNa := 0, onLeft := 0, offFor := 47 }
            else s1.arm.ph[p] } }).remap

/-- R317: PLL384 has locked during a start. -/
def execPll384Locked (chk : PreStart) (s : State) : Host.Outcome State Fault Refusal :=
  .next (s.preStart chk).settle

/-- A start has reached its target (R317): the rail regulates and RAIL_UP is raised. -/
def State.reachTarget (s : State) (r : Nat) : State :=
  let x := s.rail r
  if x.st ≠ .starting || x.waitLeader || (s.running r).isEmpty then s
  else
    (s.onRail r fun x =>
      { x with st := .regulating, vref := s.vrefTarget r, tracking := false }).raiseP (Ev.railUp r) 0 0

/-- R317: the reference reaches its target. -/
def execRailUp (r : Fin 2) (s : State) : Host.Outcome State Fault Refusal :=
  .next (s.reachTarget r.val).settle

/-- R318: the reference reaches 10 % of the target and the gates go low. -/
def execSoftStopComplete (r : Fin 2) (s : State) : Host.Outcome State Fault Refusal :=
  .next (s.stopDone r.val).settle

/-- R320: a TRK follower is still short of its target 2 × ARM_SS_MS after its start; it completes its ramp alone. -/
def execTrackFault (r : Fin 2) (s : State) : Host.Outcome State Fault Refusal :=
  .next (if s.param (P.armTrackSrc r.val) = 2 ∧ (s.rail r.val).st = .starting then
      (s.onRail r.val fun x => { x with tracking := false }).raiseP (Ev.trackFault r.val) 0 0
    else s)

/-! ### SYNC -/

/-- R321: SYNC has been acquired. -/
def execSyncAcquire (s : State) : Host.Outcome State Fault Refusal :=
  .next (if s.param P.armSyncMode = 1 ∧ s.arm.sync = false then s.syncChange true else s)

/-- R321: SYNC is lost; TBA glides back to TB8. -/
def execSyncLoss (s : State) : Host.Outcome State Fault Refusal :=
  .next (if s.arm.sync then s.syncChange false else s)

/-! ### Braking -/

/-- R324: FBx exceeds the reference by the braking margin; every gate of the rail is held low and the event counted. -/
def execBrakeStart (r : Fin 2) (s : State) : Host.Outcome State Fault Refusal :=
  .next (if s.isOn (P.armBrakeEn r.val) && (s.rail r.val).st.live && !(s.rail r.val).braking then
      { ((s.running r.val).foldl (fun (s : State) p => s.onPhase p fun x => { x with onLeft := 0 })
          (s.onRail r.val fun x => { x with braking := true })) with
        ctr := { s.ctr with brakes := upd s.ctr.brakes r.val fun n => wrapAdd 32 n 1 } }
    else s)

/-- R324: braking ends; the phases resume at their next firing. -/
def execBrakeEnd (r : Fin 2) (_why : BrakeEnd) (s : State) : Host.Outcome State Fault Refusal :=
  .next (s.onRail r.val fun x => { x with braking := false })

end Sys2Proof.Machine
end

