-- ==== Sys2Proof/Machine/LineOps.lean ====
section
/-! DEFINITION. The shared operations of the feeder line (Chapter 12): frames and their slots, TB8 and pilot lock, device
time, the allowance day, and the HEAD's node table. -/

namespace Sys2Proof.Machine

/-! ### Frames -/

/-- The code of a link mode (Table 12.3). -/
def LinkMode.code : LinkMode → Nat
  | .normal => 0
  | .diversity => 1
  | .robust => 2

/-- The slots that a body of `n` bytes takes (R354). -/
def slotsOf (m : LinkMode) (k n : Nat) : Nat :=
  let b := match m with
    | .normal => (n + max k 1 - 1) / max k 1 * 8
    | .diversity => 8 * n
    | .robust => 32 * n
  (b + 15 + 23) / 24

/-- The descriptor of a burst (R353): lane mask, mode, and the sum of those six bits modulo 4. -/
def Burst.desc (b : Burst) : Nat :=
  let d := b.lanes.toNat + 16 * b.mode.code
  d + 64 * (sumOf 6 (fun i => flag (bitAt d i) 0) % 4)

/-- The mode that a descriptor names, none where its check fails or it names none (R353). -/
def descMode (d : Nat) : Option LinkMode :=
  if d / 64 ≠ sumOf 6 (fun i => flag (bitAt d i) 0) % 4 then none
  else match d / 16 % 4 with
    | 0 => some .normal
    | 1 => some .diversity
    | 2 => some .robust
    | _ => none

/-- The bits of bytes, least significant first (R352). -/
def bitsOf (bs : List Byte) : List Bool := bs.flatMap fun b => (List.range 8).map b.getLsbD

/-- The bits of a body on a lane (Table 12.3): in NORMAL every k-th byte, padded to the longest lane; in DIVERSITY all of them; in
ROBUST each for four bit times; none on a lane that is not active. -/
def Burst.bodyBits (b : Burst) (lane : Nat) : List Bool :=
  let act := placesOf 4 b.lanes.getLsbD
  let k := max act.length 1
  let i := (act.filter (· < lane)).length
  if !act.contains lane then []
  else match b.mode with
    | .normal => bitsOf ((List.range ((b.body.length + k - 1) / k)).map fun j => b.body.getD (k * j + i) 0)
    | .diversity => bitsOf b.body
    | .robust => (bitsOf b.body).flatMap fun x => [x, x, x, x]

/-- What a lane sends of a burst (R353): four preamble bits and the descriptor on every lane, then its part of the body. -/
def Burst.laneBits (b : Burst) (lane : Nat) : List Bool :=
  [true, false, true, false] ++ (List.range 8).map (fun i => bitAt b.desc i) ++ b.bodyBits lane

/-- The body of a frame outside the access window (Table 12.4), closed by its CRC; GRANT in HEAD frames only. -/
def frameBody (typ feeder dst src fseq : Nat) (more : Bool) (ack : Option Nat) (frag ptype : Nat) (grant : List Byte)
    (payload : List Byte) : List Byte :=
  let b := toLe 1 (typ + flag more 6 + flag ack.isSome 7) ++ toLe 2 feeder ++ toLe 1 dst ++ toLe 1 src ++
    toLe 2 fseq ++ toLe 2 (ack.getD 0) ++ toLe 1 frag ++ toLe 1 ptype ++ toLe 1 payload.length ++ grant ++ payload
  b ++ toLe 2 (crc16 b).toNat

/-- An access frame (Table 12.5). -/
def accessBody (typ feeder src : Nat) (body : List Byte) : List Byte :=
  let b := toLe 1 typ ++ toLe 2 feeder ++ toLe 1 src ++ body
  b ++ toLe 2 (crc16 b).toNat

/-- Whether a frame's CRC passes (R355, R356, R397). -/
def crcOk (bs : List Byte) : Bool :=
  decide (3 ≤ bs.length) && (crc16 (bs.take (bs.length - 2))).toNat == fieldAt bs (bs.length - 2) 2

/-- Sends a frame as a burst (R353, R354): it is counted and kept as the transmitter's output, which is keyed for its slots. -/
def State.sendFrame (s : State) (m : LinkMode) (b : List Byte) : State :=
  { s with
    line := { s.line with
      txOut := pushMax 4 s.line.txOut { lanes := s.activeLanes, mode := m, body := b }
      txMs := 20 * slotsOf m s.laneCount b.length }
    ctr := { s.ctr with lineTx := wrapAdd 32 s.ctr.lineTx 1 } }

/-- A burst ends, or is cut: its LINE_TX_DARK is released (Table 4.5). -/
def State.endBurst (s : State) : State :=
  if s.line.txMs = 0 then s
  else { s.release .lineTxDark with line := { s.line with txMs := 0 } }

/-- Takes the next FSEQ (R364). -/
def State.nextFseq (s : State) : State := { s with line := { s.line with fseq := wrapAdd 16 s.line.fseq 1 } }

/-- Whether the transmitter is free to act at all (Table 2.3, R27, R363, R388, R404). -/
def State.txFree (s : State) : Bool :=
  !s.inReset && !s.busOverRegion && !s.power.busUv && !s.line.txFault && s.speaks

/-- Whether the HEAD is to drive its pilot (R357, R415), which it does in RUN (R138). -/
def State.pilotDue (s : State) : Bool := s.isHead && s.line.generating && s.busCarries && s.txFree

/-- Whether the HEAD drives its pilot now. -/
def State.pilotOn (s : State) : Bool := s.pilotDue && s.plinth.mode == .run

/-- Whether the line receiver works (Table 1.5, Table 5.3): in DOZE and RUN, out of device reset. -/
def State.lineReceives (s : State) : Bool :=
  s.plinthOn && (s.plinth.mode == .doze || s.plinth.mode == .run) && !s.inReset

/-- rx_busy (R89): a carrier is heard, or a slot runs in which the node is to receive, after its own burst. -/
def State.rxBusy (s : State) : Bool :=
  s.lineReceives && (s.line.rxMs != 0 || (s.line.slotMs != 0 && s.line.txMs == 0))

/-- Carrier is detected on a lane: rx_busy lasts until 2 ms after the frame, which takes a slot of 20 ms at least (R89,
log 80). -/
def State.carrierHeard (s : State) : State := { s with line := { s.line with rxMs := max s.line.rxMs 22 } }

/-- Whether a harvest channel runs. -/
def State.harvesting (s : State) : Bool :=
  s.harvest.teg.running || s.harvest.vib.running || s.harvest.pv.running || s.harvest.nfc

/-- Whether a node's burst needs LINE_TX_DARK (Table 4.5). -/
def State.txDark (s : State) : Bool := s.power.path == .onSto && !s.harvesting

/-- A node sends a burst where R363 lets it: in RUN, with pilot lock and a free transmitter, with LINE_TX_DARK held at 4 mJ for each
of its slots where Table 4.5 requires it, and not from the backup cell (Table 5.7). A burst that is not sent counts as lost. -/
def State.nodeBurst (s : State) (m : LinkMode) (b : List Byte) : State :=
  let r := 4 * slotsOf m s.laneCount b.length * mj
  if !s.line.lock || !s.txFree || s.plinth.mode != .run || s.power.path == .onBak then s
  else if !s.txDark then s.sendFrame m b
  else if s.canReserve .lineTxDark r then (s.hold .lineTxDark r).sendFrame m b
  else s.refuse .lineTxDark

/-! ### TB8, lock and time -/

/-- Realigns every running PWM channel after pilot lock is gained (R255); how far each stands off is a free value. -/
def State.realignAll (s : State) : State :=
  (List.range 16).foldl
    (fun (s : State) c =>
      let per := periodSteps (s.chan c).div
      let x := Sys2Proof.Config.reading s.free % max per 1
      if (s.chan c).running then
        (s.onChan c fun h => { h with shift := if 2 * x ≤ per then (x : Int) else (x : Int) - per }).draw
      else s) s

/-- The trim of the RTC while TB8 comes from the pilot (R134): it is kept, and its value is a free value (log 8). -/
def State.trimRtc (s : State) : State :=
  if s.plinth.tb8 = .pilot then { s with ctr := { s.ctr with rtcTrim := Sys2Proof.Config.rtcTrim s.free } }.draw else s

/-- Gains pilot lock (R359). -/
def State.gainLock (s : State) : State :=
  ((({ s with line := { s.line with lock := true, bad := 0 } }.tb8Eval).realignAll).raiseP Ev.pilotLock 1 0).relevel

/-- The latest allowance-day start at or before now, in local seconds (R385). -/
def State.dayStart (s : State) : Int :=
  let h : Int := s.param P.lineDayStartH * 3600
  (s.localTime - h) / 86400 * 86400 + h

/-- The start of an allowance day (R385): every LSW_E_DAY_J is cleared and allowances are evaluated afresh; the
remainders are carried (R259). -/
def State.clearDay (s : State) : State :=
  { s with
    ctr := { s.ctr with eDayJ := Vector.replicate 16 0 }
    line := { s.line with dayTime := if s.plinth.timeValid then some s.plinth.rtcSec else none,
                          dayUp := s.plinth.upMs } }.applyAllowances

/-- Clears at once where valid time shows that the last clear lies before the latest day start (R385). -/
def State.dayCheck (s : State) : State :=
  let last : Int := match s.line.dayTime with
    | some t => (t : Int) + 900 * s.paramInt 8 P.nrgFcTzQ
    | none => s.localTime - (since s.plinth.upMs s.line.dayUp / 1000 : Nat)
  if s.plinth.timeValid && decide (last < s.dayStart) then s.clearDay else s

/-- Sets device time at a second boundary (R134, R360): it becomes valid; the calendar hour is discarded (R123) and the
allowance day recomputed (R385). -/
def State.setTime (s : State) (t : Nat) : State :=
  ({ s with
    plinth := { s.plinth with rtcSec := t % 2 ^ 32, rtcSub := 0, rtcRem := 0, slew := 0, timeValid := true }
    ledger := { s.ledger with hourBad := true } }).dayCheck

/-- The UID that a JOIN carries (R373, Table 13.8): a lead's JOIN_UID where it is not zero, else its own. -/
def State.lineUid (s : State) : List Byte :=
  if s.tab.inTab && s.tab.joinUid.any (· != 0) then s.tab.joinUid else s.ident.uid

/-! ### The HEAD's table -/

/-- The record of a joined address. -/
def State.node? (s : State) (a : Nat) : Option Node := s.line.nodes.find? fun n => n.addr == a

/-- Changes the record of an address. -/
def State.onNode (s : State) (a : Nat) (f : Node → Node) : State :=
  { s with line := { s.line with nodes := s.line.nodes.map fun n => if n.addr = a then f n else n } }

/-- Moves a node's link mode (R367); a change raises LINK_MODE. -/
def State.setMode (s : State) (a : Nat) (m : LinkMode) : State :=
  match s.node? a with
  | some n =>
    if n.mode = m then s.onNode a fun n => { n with bad := 0, good := 0 }
    else (s.onNode a fun n => { n with mode := m, bad := 0, good := 0 }).raiseP Ev.linkMode 0 a
  | none => s

/-- One step down (R367). -/
def LinkMode.down : LinkMode → LinkMode
  | .normal => .diversity
  | _ => .robust

/-- One step up (R367). -/
def LinkMode.up : LinkMode → LinkMode
  | .robust => .diversity
  | _ => .normal

/-- The STATUS report (Table 12.9). -/
def State.statusReport (s : State) : List Byte :=
  toLe 1 (flag s.plinth.timeValid 0 + flag (decide (0 < s.line.droop)) 1 + flag s.line.lock 2 + flag s.busCarries 3 +
      flag (decide (s.events.alert ≠ 0) || !s.line.alertDue.isEmpty) 4) ++
    toLe 1 (s.line.eff + flag (decide (0 < s.line.eff ∧ s.line.level = s.line.eff)) 2 +
      flag (s.droopCounts && decide (0 < s.line.eff ∧ s.line.droop = s.line.eff)) 3 +
      flag (decide (0 < s.line.eff ∧ s.line.cmd = s.line.eff)) 4 +
      flag (decide (0 < s.line.eff ∧ s.tabLevel = s.line.eff)) 5) ++
    toLe 2 (ofInt 2 (s.power.vbusMv / 10)) ++ toLe 2 (maskOf 16 fun c => (s.chan c).out) ++
    toLe 4 (sumOf 16 fun c => s.ctr.eDayJ.toList.getD c 0) ++ toLe 1 (min s.events.fifo.length 255) ++
    toLe 1 (s.line.snr.toList.getD 0 0) ++ toLe 1 s.line.hit.toNat ++
    toLe 1 (maskOf 8 fun k =>
      decide (1 ≤ s.line.eff) && decide (s.param (P.lineShedFrom (s.line.eff - 1)) ≤ k))

/-- Takes the next fragment of a transfer, at most `room` bytes, or the frame that awaits its acknowledgement. -/
def FragTx.next (t : FragTx) (fseq room : Nat) : FragTx :=
  match t.cur with
  | some _ => t
  | none =>
    let p := t.rest.take room
    let rest := t.rest.drop room
    { rest := rest, frag := t.frag, cur := some (fseq, p, rest.isEmpty), tries := 0 }

/-- An acknowledgement of FSEQ `a` (R364): the transfer moves on, or ends. -/
def FragTx.acked (t : FragTx) (a : Nat) : Option FragTx :=
  match t.cur with
  | some (f, _, last) =>
    if f = a then (if last then none else some { t with frag := t.frag + 1, cur := none, tries := 0 }) else some t
  | none => some t

/-- Adds a fragment to a packet (R365): index 0 starts afresh, the next index goes on, anything else is left out. Answers
the packet when the last fragment has arrived. -/
def Reasm.add (r : Option Reasm) (frag : Nat) (payload : List Byte) : Option Reasm × Option (List Byte) :=
  let i := frag % 16
  let last := bitAt frag 7
  let cur : Option (List Byte) :=
    if i = 0 then some payload
    else match r with
      | some r => if r.next = i then some (r.data ++ payload) else none
      | none => none
  match cur with
  | some d => if last then (none, some d) else (some { next := i + 1, data := d }, none)
  | none => (r, none)

end Sys2Proof.Machine
end

