-- ==== Sys2Proof/Machine/Charge.lean ====
section
/-! DEFINITION. Charging of STO and the loads of VHOST (Chapter 2): what lets a path charge (R47, R51), the current of the
charger (R46, R48, R94), and the limits of VHOST (R57, R58, Table 2.5). -/

namespace Sys2Proof.Machine

/-! ### Charging -/

/-- The pre-charge voltage of a cell (Table 2.4). -/
def prechargeMv : StoType → Nat
  | .lfp => 2500
  | .lio => 3000
  | _ => 0

/-- Whether either cell of SC2 stands above half of PWR_STO_VMAX_MV plus 100 mV (R51). -/
def State.cellsOver (s : State) : Bool :=
  decide (s.ident.sto = .sc2) &&
    decide (s.param P.pwrStoVmaxMv / 2 + 100 < max s.power.midMv (s.power.stoMv - s.power.midMv))

/-- What every path that charges STO obeys (R47, R51, Table 2.4, Table 2.9): the end-of-charge voltage, termination, the
temperatures of a cell, the balance of SC2, and the faults that stop charging. In FIELD and SHELF STO is isolated (Table
1.5). -/
def State.stoMayCharge (s : State) : Bool :=
  s.plinth.mode != .field && s.plinth.mode != .shelf && !s.power.fShort && !s.power.fOpen && !s.power.fPre &&
    !s.power.fOv && !s.power.ended && decide (s.power.stoMv < s.vFull) && !s.cellsOver &&
    (s.isCap || decide (0 ≤ s.power.tempC ∧ s.power.tempC ≤ 45))

/-- Whether a cell is below its pre-charge voltage, so that all paths together may give it 5 mA (Table 2.4, R47). -/
def State.precharging (s : State) : Bool := decide (s.power.stoMv < prechargeMv s.ident.sto)

/-- Whether VBUS stands in a region with a charger (Table 2.3): Low, Full or High, whichever source carries VSEL. -/
def State.busCharges (s : State) : Bool :=
  s.plinthOn && s.power.busQ && !s.busOverRegion && !s.power.busRev && !s.power.gndOpen

/-- Whether the charger from VBUS charges STO (R46, R47). -/
def State.charging (s : State) : Bool := s.busCharges && s.stoMayCharge

/-- The most that the store stage may deliver, in µA (R47, Table 3.9). -/
def State.storeLimitUa (s : State) : Nat := if s.precharging then 5000 else 120000

/-- The charging current in effect in mA: PWR_CHG_MA under the ceiling of the store's wear step, three quarters, a half and a
quarter of it (Table 15.9; DEDUCED, log 89). -/
def State.chgMa (s : State) : Nat := s.param P.pwrChgMa * (4 - min s.ctr.wearSto.step 3) / 4

/-- The current of the charger from VBUS in µA (R46, R48): PWR_CHG_MA, at most 20 mA in the Low region; 5 mA in a retry
under SHORT; in pre-charge what harvest leaves of the 5 mA that all paths share (R94). At the end-of-charge voltage it
holds that voltage and adds nothing. -/
def State.chargerUa (s : State) : Nat :=
  if s.power.fShort then (if s.busCharges && decide (540000 ≤ s.power.retryMs) then 5000 else 0)
  else if !s.charging then 0
  else if s.precharging then 5000 - s.harvest.outUa
  else 1000 * (if s.power.busFull then s.chgMa else min s.chgMa 20)

/-- Whether the store stage moves energy from VHB into STO (R75, R93, R101). -/
def State.storeRuns (s : State) : Bool :=
  s.harvesting && !s.harvest.full && !s.harvest.storeOc && !s.harvest.lstoOpen && s.stoMayCharge

/-- Whether any path charges STO (R47, R51): the charger or a harvest stage. -/
def State.chargesSto (s : State) : Bool := s.charging || s.storeRuns

/-- Whether R47 stops or limits what the store stage delivers (R93). -/
def State.stoLimited (s : State) : Bool := !s.stoMayCharge || decide (s.storeLimitUa ≤ s.harvest.outUa)

/-! ### The harvest bus -/

/-- Whether VIB is in PIEZO mode. -/
def State.piezo (s : State) : Bool := s.isOn P.hrvVibMode

/-- VHB_target in mV (R76). -/
def State.vhbTarget (s : State) : Nat :=
  let h := s.harvest
  max (max 2400 (s.power.stoMv + 600))
    (max (if h.pv.running then h.pv.vop / 1000 + 400 else 0) (if h.vib.running && s.piezo then h.vib.vop / 1000 else 0))

/-- The store stage holds VHB at its target (R76); not where charging is limited (R93) or the clamp conducts. -/
def State.regulate (s : State) : State :=
  if s.storeRuns && !s.stoLimited && !s.harvest.clamp then
    { s with harvest := { s.harvest with vhbMv := s.vhbTarget } }
  else s

/-! ### VHOST -/

/-- The highest VHOST load that the carrying source permits, in mA (Table 2.5); a hand-over draws on the hold capacitor. -/
def State.vhostMaxMa (s : State) : Nat :=
  match s.power.path with
  | .onBus => 300
  | .onSto => if 2500 ≤ s.power.stoMv then 300 else if 1600 ≤ s.power.stoMv then 100 else 0
  | .onBak => if s.isOn P.pwrBakVhost then 20 else 0
  | .handover => 300
  | _ => 0

/-- The load at which VHOST enters current limit, in mA (R55, R58): 400, and 1.3 times a lower maximum of Table 2.5. -/
def State.vhostLimitMa (s : State) : Nat := if s.vhostMaxMa < 300 then s.vhostMaxMa * 13 / 10 else 400

/-- The voltage that PWR_VHOST_SET sets, in mV (R57). -/
def State.vhostSetMv (s : State) : Nat := s.param P.pwrVhostSet * 100

end Sys2Proof.Machine
end

