-- ==== Sys2Proof/Machine/Serve.lean ====
section
/-! DEFINITION. How a request is served (Chapter 7): the conditions that hold for every opcode (R221, R425, R441), and the
operations in hand that wait for energy (R113, R206). -/

namespace Sys2Proof.Machine

/-! ### Conditions of every opcode -/

/-- The opcodes that recovery serves (R441). -/
def recoveryServes (opc : Nat) : Bool := [0x01, 0x02, 0x03, 0x06, 0x53, 0x54, 0x55].contains opc

/-- The opcodes served under field-only limits (Table 14.4). -/
def fieldServes (opc : Nat) : Bool :=
  [0x01, 0x02, 0x03, 0x04, 0x06, 0x10, 0x15, 0x16, 0x21, 0x29, 0x30, 0x32, 0x40, 0x41, 0x50, 0x52, 0x60].contains opc

/-- The requests refused once the shutdown sequence has begun (R221). -/
def shutRefuses (opc : Nat) (b : List Byte) : Bool :=
  [0x11, 0x12, 0x14, 0x17, 0x50, 0x51, 0x53, 0x54, 0x55, 0x61, 0x62].contains opc ||
    (opc == 0x13 && fieldAt b 0 1 != 0)

/-- The status that refuses a request whatever its own conditions, none where it is served. -/
def State.gate (s : State) (opc : Nat) (t : Transport) (b : List Byte) : Option Status :=
  if s.plinth.seq = .recovery ∧ recoveryServes opc = false then some .state
  else if s.fieldLimits t = true ∧ fieldServes opc = false then some (if opc = 0x56 then .denied else .state)
  else if s.shutBegun = true ∧ shutRefuses opc b = true then some .state
  else none

/-- The detail of such a refusal (Table 7.1): MAQ_GEN of COMMIT and SAVE, INDEX of WRITE_PARAM and IMAGE_IMPORT, which names
no entry (DESIGN CHOICE, log 84). -/
def State.gateDetail (s : State) (opc : Nat) : List Byte :=
  if opc = 0x12 ∨ opc = 0x14 then toLe 2 s.config.maqGen
  else if opc = 0x11 then toLe 1 0xFF
  else if opc = 0x17 then toLe 2 0xFFFF else []

/-- Runs a request's own effect where nothing refuses it; with it a task of P4 or P5 ends (R151, R184). -/
def State.run (s : State) (w : Waiting) (opc : Nat) (body : State → Waiting → State) : State :=
  (match s.gate opc w.rq.via w.body with
    | some st => s.respond w st (s.gateDetail opc)
    | none => body s w).taskEnd (if immediate opc w.body then 4 else 5)

/-- Whether a request runs now: one of the P4 dispatch at once, any other in the order of arrival over all transports (R184,
R230); on the backup cell within the hourly run only (R204). -/
def State.turn (s : State) (w : Waiting) : Bool :=
  s.permitsWork && (immediate w.opc w.body || s.firstAtP5 w.n)

/-- Serves a request of an opcode (R184, R201): one that waits leaves its queue and runs at its turn; one that its transport
has not yet taken goes through the checks first, and waits where others are ahead of it. `own` selects the requests that
the row is about. -/
def State.serve (s : State) (opc : Nat) (rq : Request) (own : List Byte → Bool) (body : State → Waiting → State) : State :=
  match (s.port rq.via).waiting.find? fun w => w.opc == opc && w.rq == rq with
  | some w =>
    if own w.body && s.turn w then (s.onPort rq.via fun p => { p with waiting := p.waiting.erase w }).run w opc body else s
  | none =>
    if !s.portLive rq.via || rq.via == .link then s
    else
      match s.arrive opc rq with
      | (s1, some w) => if !own w.body then s else if s1.turn w then s1.run w opc body else s1.enqueue w
      | (s1, none) => s1

/-- Every request of the opcode. -/
def anyBody (_ : List Byte) : Bool := true

/-! ### Operations that wait for energy -/

/-- Whether an operation's reservation has been granted: more operations wait for it than requests. -/
def State.granted (s : State) (j : Job) (r : Nat) : Bool :=
  decide (((s.ledger.waiting ++ s.ledger.fresh).filter (· == (j, r))).length <
    (s.camyx.ops.filter fun o => o.wait == .grant j r).length)

/-- Changes an operation in hand. -/
def State.onOp (s : State) (o : Op) (f : Op → Op) : State := s.onOps fun l => l.map fun x => if x = o then f x else x

/-- DECOMMISSION takes its reservations one after the other (R492, X1); with both held the marker is written (X2), its
point of no return. -/
def State.decomNext (s : State) (o : Op) : State :=
  let key : Op := { o with wait := .grant .keyCommit (15 * mj) }
  let mark := fun (s : State) (o : Op) =>
    let s1 := s.onOp o fun x => { x with wait := .tick, pnr := true }
    { s1 with
      ctr := { s1.ctr with decomMark := true }
      nvm := { s1.nvm with decomMark := true }
      life := { s1.life with
        prev := if s1.life.st = .shelfPending then s1.life.prev else s1.life.st, st := .decommissioning, step := 2 } }
  if o.wait = .grant .keyCommit (15 * mj) then mark s o
  else
    let s1 := (s.onOp o fun _ => key).request .keyCommit (15 * mj)
    if s1.granted .keyCommit (15 * mj) then mark s1 key else s1

/-- KEY_ERASE with its reservation held (R113, R431): its conditions are tested again, then the slot is emptied in both copies. -/
def State.keyEraseNow (s : State) (o : Op) (role slot : Nat) : State :=
  let s1 := s.releaseOf .keyCommit (15 * mj)
  if (s.key? role slot).isNone then s1.finish o .noKey []
  else if role = 1 ∧ (s.key? 1 (1 - slot)).isNone = true then s1.finish o .state []
  else
    let s2 : State := { s1 with sec := (s1.sec.writeOlder role slot none).level }
    ((s2.raiseP Ev.keyChange 0 (role * 16 + slot)).finish o .ok []).keyChanged role slot

/-- An operation whose reservation is held begins its write in NVM, which is its point of no return (R233, R430, R437, Table
7.4): the erase of FW_BEGIN empties the bank; FW_BLOCK is accepted at NEXT_OFFSET only (Table 14.8). -/
def State.startOp (s : State) (o : Op) : State :=
  let go := s.onOp o fun x => { x with wait := .nvm, pnr := true }
  match o.kind with
  | .fwBegin .. => { go with sec := { go.sec.onInactive (fun _ => FwBank.empty) with fwOpen := false } }
  | .fwBlock off _ =>
    if s.sec.fwOpen = false then (s.releaseOf .fwBlock mj).finish o .state []
    else if off ≠ s.sec.inactive.data.length then (s.releaseOf .fwBlock mj).finish o .range []
    else go
  | .decommission => s.decomNext o
  | .keyErase role slot => s.keyEraseNow o role slot
  | _ => go

/-- Goes on with every operation in hand whose reservation the ledger has granted (R115). -/
def State.resumeOps (s : State) : State :=
  s.camyx.ops.foldl
    (fun (s : State) o =>
      match o.wait with
      | .grant j r => if s.granted j r then s.startOp o else s
      | _ => s) s

/-- Puts an operation in hand that first needs a reservation (R113): it waits until the ledger holds it. -/
def State.reserveOp (s : State) (w : Waiting) (j : Job) (r : Nat) (k : OpKind) : State :=
  ((s.begin_ w false (.grant j r) k).request j r).resumeOps

/-- Gives back what an operation that has not begun waits for or holds. -/
def State.cancelOp (s : State) (o : Op) : State :=
  match o.wait with
  | .grant j r =>
    let s1 := s.unwait j r
    if o.kind = .decommission ∧ j = .keyCommit then s1.releaseOf .configSave (25 * mj) else s1
  | _ => s

/-- The wait of an operation for its reservation expires (Table 4.5): ENERGY, and nothing has changed; with the detail that
Table 7.1 names, MAQ_GEN of a SAVE and INDEX of an IMAGE_IMPORT. -/
def State.energyOut (s : State) (o : Op) : State :=
  (s.cancelOp o).finish o .energy (match o.kind with
    | .save image _ _ => toLe 2 (if image then 0xFFFF else s.config.maqGen)
    | _ => [])

/-- SAVE by the device itself (R414): where the committed configuration is not the active bank's, it waits for CONFIG_SAVE and
writes the bank, as an operation that nobody asked for. -/
def State.selfSave (s : State) : State :=
  let saving := s.camyx.ops.any fun o => match o.kind with
    | .save .. => o.cast
    | _ => false
  if (s.runDigest = s.cfgDigest && s.activeBank.isSome) || saving then s
  else
    ((s.onOps fun l => l ++
      [{ via := .link, first := 0, seq := 0, opc := 0x14, sid := none, key := none, lineAddr := none, cast := true
         pnr := false, wait := .grant .configSave (25 * mj), kind := .save false 0 (savedOnly s.future) }]).request
      .configSave (25 * mj)).resumeOps

end Sys2Proof.Machine
end

