-- ==== Sys2Proof/Machine/CmdBlocks.lean ====
section
/-! DEFINITION. The meanings of the opcodes on channels, rails, levels, time and allowances (R216, R217, R326, R339, R345,
R347, R360, R380, R384). -/

namespace Sys2Proof.Machine

/-! ### To another member -/

/-- Forwards a request to a Tableau member (R213, R405): NO_ROUTE where it is absent; STATE where it is set aside, or NO_ROUTE for
CH_CLEAR, which never answers STATE (Table 7.1). -/
def State.forward (s : State) (w : Waiting) (m opc : Nat) (body : List Byte) : State :=
  let entry := if s.tab.inTab && s.tab.lead && m != s.param P.tabIndex then s.tab.member.toList.getD m none else none
  match entry with
  | none => s.respond w .noRoute []
  | some x =>
    if x.lost then s.respond w .noRoute []
    else if x.present = false then s.respond w (if w.opc = 0x21 then .noRoute else .state) []
    else
      let req := toLe 1 1 ++ toLe 1 w.priv.code ++ toLe 1 (transportCode w.rq.via) ++ toLe 1 opc ++ body
      ({ s with tab := { s.tab with bulkOut := s.tab.bulkOut ++ [(m, req)] } }).begin_ w true .link (.forward m)

/-- Whether MEMBER names this device (Table 7.2). -/
def State.isSelf (s : State) (m : Nat) : Bool := m == s.memberIdx

/-! ### Channels -/

/-- The channels of a mask, ascending. -/
def maskChans (mask : Nat) : List Nat := placesOf 16 fun c => bitAt mask c

/-- STATE_MASK: the channels that are on (R216). -/
def State.outMask (s : State) : Nat := maskOf 16 fun c => (s.chan c).out

/-- Whether CH_SET on a channel is answered with STATE (R216, R245, R262, R282). -/
def State.chSetBarred (s : State) (action c : Nat) : Bool :=
  let held := (s.group c).any fun j => (s.chan j).thermLatch || (s.chan j).escalated
  s.param (P.lswMode (s.lead c)) == 0 || s.pairOdd c || (action == 2 && s.param (P.lswMode c) == 1) ||
    (action != 0 && held)

/-- Clears the current latches of a channel or its pair, as CH_SET and wall switches do (R281). -/
def State.clearGroup (s : State) (c : Nat) : State := (s.group c).foldl State.clearLatch s

/-- Turns channels on together (R216, R247, R281): every demand is set while the outputs that are off are held; those then
switch one after another as fresh turn-ons. -/
def State.turnOn (s : State) (cs : List Nat) (d : Nat → Demand) : State :=
  let q := s.sw.staggerQ
  let held : State := { s with sw := { s.sw with
    staggerQ := q ++ (cs.filter fun c => !(s.chan c).out) } }
  let s1 := cs.foldl (fun (s : State) c => (s.clearGroup c).setDemand c (d c)) held
  let s2 : State := { s1 with sw := { s1.sw with staggerQ := q } }
  s2.startStagger (cs.filter fun c => s2.wantOn c && !(s2.chan c).out)

/-- Turns channels off together (R247). -/
def State.turnOff (s : State) (cs : List Nat) : State := cs.foldl (fun (s : State) c => s.setDemand c .off) s

/-- The demand of CH_SET ACTION 1 and 2 (Table 7.2): DUTY 0xFFFF keeps the channel's configured duty. -/
def State.chSetDemand (s : State) (action duty c : Nat) : Demand :=
  if action = 1 then .on else .pwm (if duty = 0xFFFF then s.param (P.lswDuty c) else duty)

/-- CH_SET (R216, R243 to R247). -/
def State.cmdChSet (s : State) (w : Waiting) : State :=
  let m := fieldAt w.body 0 1
  let cs := maskChans (fieldAt w.body 1 2)
  let action := fieldAt w.body 3 1
  if !s.isSelf m then s.forward w m 0x20 w.body
  else if cs.any s.fenced then s.respond w .fenced []
  else if cs.any (s.chSetBarred action) then s.respond w .state []
  else if action = 0 then
    let s1 := s.turnOff cs
    s1.respond w .ok (toLe 2 s1.outMask)
  else ((s.turnOn cs (s.chSetDemand action (fieldAt w.body 4 2))).begin_ w true .stagger .chOn).settle

/-- R216: CH_SET changes the demand of the masked channels of one member together. -/
def execChSet (rq : Request) (s : State) : Host.Outcome State Fault Refusal :=
  .next (s.serve 0x20 rq anyBody State.cmdChSet)

/-- Releases the latches of the channels of a mask (R216, R289): outputs return without an inrush window, one after
another (R247). -/
def State.clearMask (s : State) (mask : Nat) : State :=
  let cs := maskChans mask
  let s1 := cs.foldl (fun (s : State) c => (s.group c).foldl State.clearAllLatches s) s
  s1.startCalm (cs.filter fun c => s1.wantOn c && !(s1.chan c).out)

/-- CH_CLEAR (R216, R262); under field-only limits it is recorded (Table 14.4). -/
def State.cmdChClear (s : State) (w : Waiting) : State :=
  let m := fieldAt w.body 0 1
  let mask := fieldAt w.body 1 2
  if !s.isSelf m then s.forward w m 0x21 w.body
  else if (maskChans mask).any s.fenced then s.respond w .fenced []
  else if (maskChans mask).any s.pairOdd then s.respond w .state []
  else if s.fieldLimits w.rq.via then
    ({ s with camyx := { s.camyx with late := s.camyx.late ++ [Late.chClear mask] } }).respond w .ok (toLe 2 0)
  else ((s.clearMask mask).begin_ w true .stagger (.chClear mask)).settle

/-- R216: CH_CLEAR releases the current, escalated and thermal latches of the masked channels. -/
def execChClear (rq : Request) (s : State) : Host.Outcome State Fault Refusal :=
  .next (s.serve 0x21 rq anyBody State.cmdChClear)

/-! ### Rails -/

/-- Whether RAIL_CTRL may act on a rail here: one that exists, and a ganged one at the lead only (R217, R304, R409). -/
def State.railHere (s : State) (r : Nat) : Bool := s.railExists r && (!s.ganged r || s.tab.lead)

/-- The state of a rail as RAIL_CTRL sees it: the gang rail's at its lead. -/
def State.railCode (s : State) (r : Nat) : Nat :=
  if s.ganged r then s.tab.rstate.toList.getD r 7 else (s.rail r).st.code

/-- RAIL_CTRL ACTION 0 (R318, R339, R345): a soft-stop, or state 5 left for state 0; STATE in state 4. -/
def State.cmdRailStop (s : State) (w : Waiting) : State :=
  let r := fieldAt w.body 0 1
  let reply := fun s1 : State => (s1.respond w .ok (toLe 1 (s1.railCode r))).settle
  if !s.railHere r || s.railCode r == 4 || (s.rail r).st == .ovLatched then s.respond w .state []
  else if s.ganged r then
    if s.railCode r = 5 then reply ((s.toIdle r).gangOrder r 0)
    else if s.railCode r = 1 ∨ s.railCode r = 2 then reply (s.gangOrder r 3)
    else reply s
  else if (s.rail r).st = .faulted then reply (s.toIdle r)
  else reply (s.softStop r 0)

/-- R345: RAIL_CTRL ACTION 0 soft-stops a rail, or puts a faulted rail in state 0 and clears its hiccup count. -/
def execRailCtrlStop (rq : Request) (s : State) : Host.Outcome State Fault Refusal :=
  .next (s.serve 0x28 rq (fun b => fieldAt b 1 1 == 0) State.cmdRailStop)

/-- Whether a lead may start a gang rail: its own share as R326 asks where it carries one (R409). -/
def State.mayGang (s : State) (r : Nat) : Bool :=
  s.railCode r != 4 && s.railCode r != 5 && (if s.carries r then s.mayStart r else s.isOn (P.armEn r) && s.plinth.mode != .field)

/-- RAIL_CTRL ACTION 1 (R217, R326): STATE where a start is refused; the reply follows once the rail regulates or has
stopped on a fault. -/
def State.cmdRailStart (s : State) (w : Waiting) : State :=
  let r := fieldAt w.body 0 1
  if !s.railHere r then s.respond w .state []
  else if s.ganged r then
    if !s.mayGang r then s.respond w .state []
    else
      let s1 := if s.railCode r = 1 ∨ s.railCode r = 2 then s else s.gangOrder r 1
      (s1.begin_ w true (.rail (if r = 0 then 0 else 1)) (.railStart (if r = 0 then 0 else 1))).settle
  else if !s.mayStart r then s.respond w .state []
  else
    let st := (s.rail r).st
    let s0 := s.onRail r fun x => { x with hiccups := 0 }
    let s1 := if st = .stopped ∨ st = .stopping then s0.startRail r else s0
    (s1.begin_ w true (.rail (if r = 0 then 0 else 1)) (.railStart (if r = 0 then 0 else 1))).settle

/-- R326: RAIL_CTRL ACTION 1 starts a rail and replies once it regulates or has stopped on fault. -/
def execRailCtrlStart (rq : Request) (s : State) : Host.Outcome State Fault Refusal :=
  .next (s.serve 0x28 rq (fun b => fieldAt b 1 1 == 1) State.cmdRailStart)

/-- RAIL_CTRL ACTION 2 (R339): STATE without a latch or while VOSx stands at 10 % of the target or more. -/
def State.cmdRailClear (s : State) (w : Waiting) : State :=
  let r := fieldAt w.body 0 1
  let x := s.rail r
  if !s.railHere r || x.st != .ovLatched || decide (s.targetMv r ≤ 10 * x.vos) then s.respond w .state []
  else
    let s1 := s.clearOv r
    let s2 := if s.ganged r then s1.gangOrder r 0 else s1
    s2.respond w .ok (toLe 1 (s2.rail r).st.code)

/-- R339: RAIL_CTRL ACTION 2 clears the output over-voltage latch once VOSx is below 10 % of target. -/
def execRailCtrlClearLatch (rq : Request) (s : State) : Host.Outcome State Fault Refusal :=
  .next (s.serve 0x28 rq (fun b => fieldAt b 1 1 == 2) State.cmdRailClear)

/-- Whether a fault record's MAGIC and CRC pass (R347). -/
def recordOk (b : List Byte) : Bool :=
  b.length == 64 && fieldAt b 0 1 == 0xAF && fieldAt b 60 4 == (crc32c (b.take 60)).toNat

/-- FAULT_READ (R347): the record of the rail's ring, INDEX 0 the newest. -/
def State.cmdFaultRead (s : State) (w : Waiting) : State :=
  match (s.rail (fieldAt w.body 0 1)).ring[fieldAt w.body 1 1]? with
  | some b => if recordOk b then s.respond w .ok b else s.respond w .state []
  | none => s.respond w .state []

/-- R347: FAULT_READ returns a rail fault record whose MAGIC and CRC pass. -/
def execFaultRead (rq : Request) (s : State) : Host.Outcome State Fault Refusal :=
  .next (s.serve 0x29 rq anyBody State.cmdFaultRead)

/-! ### Levels, allowances and time -/

/-- Whether a requester may set levels and allowances here (Table 7.1): an operator at a HEAD, the LINE key at a node. -/
def State.authority (s : State) (p : Priv) : Bool := (s.ident.role == .head) == (p != .line)

/-- Sets the commanded shed level (R380). -/
def State.setLevel (s : State) (level hold : Nat) : State :=
  ({ s with line := { s.line with
      cmd := level, cmdUntil := if hold = 0 then none else some ((s.plinth.upMs + 1000 * hold) % 2 ^ 32) } }).relevel

/-- SHED_SET (R380); under field-only limits it is recorded (Table 14.4). -/
def State.cmdShedSet (s : State) (w : Waiting) : State :=
  let level := fieldAt w.body 0 1
  let hold := fieldAt w.body 1 2
  if !s.authority w.priv then s.respond w .role []
  else if s.fieldLimits w.rq.via then
    ({ s with camyx := { s.camyx with late := s.camyx.late ++ [Late.shed level hold] } }).respond w .ok (toLe 1 s.line.eff)
  else
    let s1 := s.setLevel level hold
    s1.respond w .ok (toLe 1 s1.line.eff)

/-- R380: SHED_SET sets the commanded shed level at a HEAD or at a node, held for HOLD_S. -/
def execShedSet (rq : Request) (s : State) : Host.Outcome State Fault Refusal :=
  .next (s.serve 0x30 rq anyBody State.cmdShedSet)

/-- Sets the allowance of a class (R384); a HEAD sends it by broadcast. -/
def State.setAllowance (s : State) (cls wh : Nat) : State :=
  let s1 := { s with ctr := { s.ctr with allowWh := upd s.ctr.allowWh cls fun _ => wh } }.applyAllowance cls
  if s.ident.role = .head then s1.sendLine 255 0x32 (toLe 1 cls ++ toLe 4 wh) (s.param P.lineBcastRepeat) else s1

/-- ALLOWANCE_SET (R384); under field-only limits it is recorded (Table 14.4). -/
def State.cmdAllowanceSet (s : State) (w : Waiting) : State :=
  let cls := fieldAt w.body 0 1
  let wh := fieldAt w.body 1 4
  if !s.authority w.priv then s.respond w .role []
  else if s.fieldLimits w.rq.via then
    ({ s with camyx := { s.camyx with late := s.camyx.late ++ [Late.allow cls wh] } }).respond w .ok []
  else (s.setAllowance cls wh).respond w .ok []

/-- R384: ALLOWANCE_SET sets the daily allowance of a shed class, and broadcasts it at a HEAD. -/
def execAllowanceSet (rq : Request) (s : State) : Host.Outcome State Fault Refusal :=
  .next (s.serve 0x32 rq anyBody State.cmdAllowanceSet)

/-- What was recorded under field-only limits is applied once the blocks are powered (Table 14.4). -/
def State.applyLate (s : State) : State :=
  s.camyx.late.foldl
    (fun (s : State) e => match e with
      | .chClear mask => s.clearMask mask
      | .shed level hold => s.setLevel level hold
      | .allow cls wh => s.setAllowance cls wh)
    { s with camyx := { s.camyx with late := [] } }

/-- How far the pilot second of a HEAD stands off its RTC second, in µs, after the fraction of that has been set (R360). -/
def secondOff (p : Int) (old new : Nat) : Int :=
  let x := (p + (new * 1000000 / 32768 : Nat) - (old * 1000000 / 32768 : Nat)) % 1000000
  if 500000 < x then x - 1000000 else x

/-- TIME_SET (R134, R360): device time is set, with its fraction, and valid; a HEAD's pilot second follows by slewing. -/
def State.cmdTimeSet (s : State) (w : Waiting) : State :=
  let s1 := s.setTime (fieldAt w.body 0 4)
  let sub := fieldAt w.body 4 2 / 2
  { s1 with
    plinth := { s1.plinth with rtcSub := sub }
    line := { s1.line with pilotOffUs :=
      if s.isHead then secondOff s.line.pilotOffUs s.plinth.rtcSub sub else s1.line.pilotOffUs } }.respond w .ok
    (toLe 4 s.stamp)

/-- R360: TIME_SET sets device time and makes it valid. -/
def execTimeSet (rq : Request) (s : State) : Host.Outcome State Fault Refusal :=
  .next (s.serve 0x31 rq anyBody State.cmdTimeSet)

end Sys2Proof.Machine
end

