-- ==== Sys2Proof/Machine/ResetOps.lean ====
section
/-! DEFINITION. The shared operations of resets (Chapter 5): what a sequencer reset and a device reset do to the ports, the
operations in hand and the blocks (R152, R153, R208, Table 5.10, Table 7.4), the straps that a reset samples (R5, R33,
R34), and the BOOT record (R453). -/

namespace Sys2Proof.Machine

/-! ### Operations in hand -/

/-- A SHELF that is undone before its point of no return (R489): SYS_LIFE_STATE goes back to its value before. A shutdown
that SHELF alone began is abandoned; what it has inhibited stays so until the next bus (log 62). -/
def State.shelfUndone (s : State) : State :=
  let early := match s.life.st with
    | .shut1 => true
    | .shut2 => true
    | .shut3 => true
    | _ => false
  let abandon := s.life.own && early
  { s with life :=
    { s.life with
      st := if s.life.st = .shelfPending ∨ abandon = true then s.life.prev else s.life.st
      shelfPend := false, own := s.life.own && !abandon, due := s.life.due || abandon } }

/-- Takes back the first of the two copies of a key write (Table 7.4): the copy in use becomes the older one again. -/
def Sec.unwrite (x : Sec) : Sec :=
  if x.copyA.count < x.copyB.count then { x with copyB := x.copyA } else { x with copyA := x.copyB }

/-- What a reset leaves of an operation in hand (R208, Table 7.4): SAVE past its point of no return is completed by a warm
restart and rolled back by a device reset; DECOMMISSION and a SHELF past theirs are completed; their replies are never
sent. -/
def Op.kept (device : Bool) (o : Op) : Option Op :=
  let rest := { o with cast := true, key := none, sid := none, wait := .tick }
  match o.kind with
  | .save .. => if o.pnr && !device then some rest else none
  | .decommission => if o.pnr then some rest else none
  | .shelf => if o.pnr then some rest else none
  | _ => none

/-- What rolls back with an operation that a reset ends (Table 7.4): a key write keeps the previous key, a firmware erase
or program leaves the bank empty, a SHELF still pending is undone; a device reset or a loss of the supply leaves the bank
that a SAVE is writing without a valid image. -/
def State.rollBack (device : Bool) (s : State) (o : Op) : State :=
  match o.kind with
  | .save .. => if device && o.wait == .nvm then s.spoilBank else s
  | .keyWrite _ _ _ _ second => if second then { s with sec := s.sec.unwrite } else s
  | .fwBegin .. => if o.pnr then { s with sec := { s.sec.onInactive (fun _ => FwBank.empty) with fwOpen := false } } else s
  | .fwBlock .. => if o.pnr then { s with sec := { s.sec.onInactive (fun _ => FwBank.empty) with fwOpen := false } } else s
  | .shelf => if o.pnr then s else s.shelfUndone
  | _ => s

/-- Ends what the ports and the operations have in hand (R208, Table 6.8): every session with reason RESET, every queued
request and every unread reply. -/
def State.dropPorts (s : State) (device : Bool) : State :=
  let s1 := s.camyx.ops.foldl (State.rollBack device) s
  let s2 := sessionPorts.foldl (fun (s : State) t => s.endSession t 5) s1
  { s2 with camyx :=
      { s2.camyx with
        ports := Vector.replicate 7 Port.empty, ops := s2.camyx.ops.filterMap (Op.kept device), bridge := []
        gwOut := [], u0TxMs := 0, rx := 0, err := 0, apdu := false, resetOwed := none, resetHeld := false, debugMin := 0 } }.clearE
    Ev.replyReady

/-! ### Sequencer reset -/

/-- A cold boot is next (R438, R440, Table 16.1): SYS_LIFE_STATE 2, with the state before it kept. -/
def State.coldNext (s : State) : State :=
  { s with
    plinth := { s.plinth with seq := .coldBoot }
    life := { s.life with st := .boot, prev := if s.life.st = .boot then s.life.prev else s.life.st } }

/-- A sequencer reset with its cause (R152, R153): the core, SRAM, timers and host ports; staged changes are discarded, the
ledger firmware stands still with its reservations held until it runs again (R128) and everything of Table 5.11 goes on. Where another firmware bank is to run, or none
has run yet, a cold boot follows in place of the warm restart (R438). -/
def State.seqReset (s : State) (cause : Nat) : State :=
  if s.plinth.seq = .off then s
  else
    let warm := (s.plinth.seq == .running || s.plinth.seq == .warmRestart) && s.sec.fwActiveB == s.sec.fwRunningB
    let s1 := s.dropPorts false
    let s2 : State :=
      { s1 with
        plinth := { s1.plinth with
          seq := .warmRestart, cause := cause, prevUp := s1.plinth.upMs, hk := false, quietMiss := 0 }
        config := { s1.config with staged := [], maqGen := 1 }
        ledger := { s1.ledger with fwStop := true, waiting := [], fresh := [], res := s.ledger.res }
        line := { s1.line with tx := none, rx := none }
        tab := { s1.tab with bulkIn := [], bulkOut := [] } }
    if warm then s2 else s2.coldNext

/-- A sequencer reset of cause WDT or LOCKUP (R155): resets less than 600 s apart count; the SYS_WDT_FALLBACK-th is
followed by a cold boot that requests the fallback bank. During a trial every such reset is (R440). -/
def State.stallReset (s : State) (cause : Nat) : State :=
  if s.plinth.seq = .off then s
  else
    let up := s.plinth.upMs
    let near := match s.plinth.wdtAt with
      | some t => decide (since up t < 600000)
      | none => false
    let n := if near then s.plinth.wdtRun + 1 else 1
    let many := decide (s.param P.sysWdtFallback ≤ n)
    let s1 := s.seqReset cause
    let s2 : State :=
      { s1 with
        plinth := { s1.plinth with wdtRun := if many then 0 else n, wdtAt := some up }
        sec := { s1.sec with fallbackReq := s1.sec.fallbackReq || many } }
    if many || s2.sec.trial then s2.coldNext else s2

/-! ### Device reset -/

/-- A rail through a device reset: stopped, but a latched one keeps its low-side latch (R339); NVM and retained RAM keep
its records. -/
def Rail.reset (x : Rail) : Rail :=
  { Rail.initial with
    st := if x.st = .ovLatched then .ovLatched else .stopped
    reason := if x.st = .ovLatched then x.reason else 0
    caps := x.caps, late := x.late, ring := x.ring }

/-- The clear conditions of Table 15.2 that a device reset meets: its rails leave state 5 and stop switching (BALANCE_LIMIT,
QUIET_PLAN, OVERLOAD, VIN_OV, UNDERVOLT, RAIL_STOP), and the droop level is 0. Every other latch is kept (R130). -/
def State.resetClears (s : State) : State :=
  let rails := [8, 9].flatMap fun g => [⟨g, 2, 0⟩, ⟨g, 4, 0⟩, ⟨g, 6, 0⟩, ⟨g, 7, 0⟩, ⟨g, 9, 0⟩, ⟨g, 11, 0⟩]
  ((rails : List Src) ++ [Ev.droopShed]).foldl State.clearE s

/-- A device reset with its cause (Table 5.10): the sequencer and every controller-die block but the Plinth; the Armature
stops, the grant pins go low (Table 1.5), switch dies, retained RAM, the power path and VHOST keep what they hold. -/
def State.devReset (s : State) (cause : Nat) : State :=
  let s1 := (s.dropPorts true).resetClears
  { s1 with
    plinth := { s1.plinth with
      seq := .off, cause := cause, prevUp := s1.plinth.upMs, rc48 := false, pll := false, hk := false
      quietMiss := 0, blockMax := Vector.replicate 6 0 }
    config := { s1.config with staged := [], armed := none, armedBy := none, maqGen := 1 }
    ledger := { s1.ledger with fwStop := true, waiting := [], fresh := [], res := s.ledger.res, sprig := false, bunch := false, fc := false }
    harvest := { s1.harvest with
      teg := s1.harvest.teg.stop, vib := s1.harvest.vib.stop, pv := s1.harvest.pv.stop, nfc := false }
    nfc := { s1.nfc with st := .idle, app := .none, file := 0, fsd := 0, out := [], held := none }
    arm := { Arm.initial with
      rail := Vector.ofFn fun r => s1.arm.rail[r].reset, vdrvOk := s1.arm.vdrvOk, vdrvDv := s1.arm.vdrvDv }
    sw := { s1.sw with gpio := Vector.replicate 8 Gpio.initial, wallQ := [], dropped := 0, defWrites := [] }
    line := { Line.initial with dayTime := s1.line.dayTime, dayUp := s1.line.dayUp, hit := s1.line.hit }
    tab := { Tab.initial with prevSet := s1.tab.prevSet } }.tb8Eval

/-! ### Straps -/

/-- The role strap of Table 0.1 from the pad voltages (R33), and whether a pad reads between its levels. -/
def roleStrap (p : Straps) : Nat × Bool :=
  let bit := fun mv : Nat => flag (decide (1200 ≤ mv)) 0
  let odd := fun mv : Nat => decide (500 < mv ∧ mv < 1200)
  (2 * bit p.gpio7Mv + bit p.gpio6Mv, odd p.gpio7Mv || odd p.gpio6Mv)

/-- The code of a resistor strap from its pad voltage (Table 1.7), and whether it is a fault: a short, or a reading outside
every window, reads as open. -/
def resistorStrap (mv : Nat) : Nat × Bool :=
  if 1000 < mv then (0, false)
  else if 400 ≤ mv ∧ mv ≤ 620 then (1, false)
  else if 130 ≤ mv ∧ mv ≤ 200 then (2, false)
  else if 35 ≤ mv ∧ mv ≤ 70 then (3, false)
  else (0, true)

/-- The role that a strap code gives (Table 0.1): at SAVED that of the saved configuration, HOME without one. -/
def State.roleFor (s : State) (code : Nat) : Role :=
  if code < 3 then roleOf code
  else match s.activeBank with
    | some (_, b) => roleOf (b.value P.sysRole)
    | none => .home

/-- Samples the role and address straps (R5, R33, R38), and at a power-on reset the SDO strap too (R36); STRAP_FAULT holds
for each strap that does not decode cleanly. -/
def State.sampleStraps (s : State) (p : Straps) (sdo : Bool) : State :=
  let r := roleStrap p
  let t := resistorStrap p.sdoMv
  let a := resistorStrap p.u0deMv
  let s1 : State := { s with ident :=
    { s.ident with
      roleStrap := r.1, i2cAddr := 0x4C + a.1, sto := if sdo then stoOf t.1 else s.ident.sto
      sdoDecoded := s.ident.sdoDecoded || sdo } }
  let s2 := { s1 with ident := { s1.ident with role := s1.roleFor r.1 } }
  let s3 := s2.setC Ev.strapFault r.2 0 0
  (if sdo then s3.setC Ev.strapFault t.2 0 1 else s3).setC Ev.strapFault a.2 0 2

/-! ### The BOOT record -/

/-- The BOOT record of a cold boot or a sequencer reset (R453, Table 15.7); pinned for the watchdog reset that requests the
fallback bank (Table 15.5). -/
def State.bootRecord (s : State) (pinned : Bool) : State :=
  s.logRec pinned 0
    (.boot s.plinth.cause s.plinth.mode.code s.fwVersion
      ((if s.sec.fwRunningB then 2 else 1) + flag s.sec.fallbackReq 7) s.power.path.code s.ctr.wdtCount s.plinth.prevUp)

end Sys2Proof.Machine
end

