-- ==== Sys2Proof/Machine/PowerOps.lean ====
section
/-! DEFINITION. The shared operations of the power path, the power modes and the lifecycle (Chapters 2, 5 and 16): VHOST
(R57), RUN conditions (R138), hand-overs (R59 to R65), the beginning of a shutdown (R473, R474) and of a restart (R480). -/

namespace Sys2Proof.Machine

/-! ### VHOST -/

/-- Whether the carrying source permits VHOST (Table 2.5); a hand-over changes nothing. -/
def State.vhostAllowed (s : State) : Bool :=
  match s.power.path with
  | .onBus => true
  | .onSto => decide (1600 ≤ s.power.stoMv)
  | .onBak => s.isOn P.pwrBakVhost
  | .handover => s.power.vhostOn
  | _ => false

/-- Turns VHOST on or off as R57, R58 and R120 say; before the first cold boot it stays off (Table 1.5). It comes up at the
voltage set; a change of the setting slews (R74). -/
def State.vhostEval (s : State) : State :=
  let started := (s.life.st != .plinthStart && s.life.st != .boot) || s.plinth.seq == .recovery
  let on := s.isOn P.pwrVhostEn && s.vhostAllowed && !s.power.vhostFault && !s.power.vhostWait && !s.power.vhostBreach
  let now := on && (started || s.power.vhostOn)
  { s with power := { s.power with
      vhostOn := now
      vhostMv := if !now then 0 else if s.power.vhostOn then s.power.vhostMv else s.vhostSetMv } }

/-! ### RUN conditions (R138) -/

/-- Whether an operation in hand is work that is ready; one that waits for energy or for the field is not. -/
def Op.ready (o : Op) : Bool :=
  match o.wait with
  | .grant .. => false
  | .surplus => false
  | _ => o.kind != .shelf

/-- Whether Table 5.7 permits a flush of the Patina: where its reservation can be granted. -/
def State.permitsFlush (s : State) : Bool := s.power.path != .onBak && s.canReserve .patinaFlush (6 * mj)

/-- The levels P1 to P6 that have work ready (Table 5.8): captures and records; flagged phases; requests to the ledger; a
packet on the line, a transfer on the Miovin link; requests, operations, an armed transfer, wall actions and staggered
turn-ons; a flush. Work that is not permitted on storage or on the backup cell is not counted (R142). -/
def State.levelsReady (s : State) : BitVec 6 :=
  let rails := (List.range 2).any fun r => !(s.rail r).caps.isEmpty
  let p := s.permitsWork
  BitVec.ofNat 6
    (flag (p && (!s.patina.caps.isEmpty || rails)) 0 +
      flag (p && (List.range 8).any fun i => (s.phase i).flagged.isSome) 1 +
      flag (p && !s.ledger.fresh.isEmpty && !s.ledger.fwStop) 2 +
      flag (p && ((s.line.tx.isSome && s.power.path != .onBak) || (s.busCarries && !s.tab.bulkOut.isEmpty))) 3 +
      flag (p && (s.camyx.ports.toList.any (fun q => !q.waiting.isEmpty) || s.camyx.ops.any Op.ready ||
        s.config.armed.isSome || !s.sw.wallQ.isEmpty || !s.sw.staggerQ.isEmpty)) 4 +
      flag ((s.flushDue && s.permitsFlush) || s.ledger.res.any fun e => e.1 == .patinaFlush) 5)

/-- Work ready for the sequencer at any level (R138). -/
def State.workReady (s : State) : Bool := s.levelsReady != 0

/-- Whether a sequence of Chapter 16 is under way in the sequencer. -/
def State.inSequence (s : State) : Bool :=
  match s.life.st with
  | .shut1 => true
  | .shut2 => true
  | .shut3 => true
  | .shut4 => true
  | .shut5 => true
  | .decommissioning => true
  | .boot => true
  | _ => false

/-- Whether a host port has a transaction open (R138, R166): a reply that has not been read or sent. -/
def State.hostOpen (s : State) : Bool :=
  s.power.vhostOn &&
    (!(s.port .spi).replies.isEmpty || !(s.port .i2c).replies.isEmpty || !(s.port .uart).replies.isEmpty)

/-- The RUN conditions that outlast a housekeeping run: a rail, a PWM channel, a host transaction or an NFC session, a
sequence of Chapter 16, and on the bus the pilot, the Miovin cycle and DOZE not permitted. -/
def State.holdsRun (s : State) : Bool :=
  (List.range 2).any (fun r => (s.rail r).st.live) || (List.range 16).any (fun c => (s.chan c).running) ||
    s.pilotDue || s.hostOpen || (s.port .nfc).est.isSome || s.inSequence ||
    (s.busCarries && (s.tab.inTab || !s.isOn P.sysDozeEn))

/-- The RUN conditions of R138 beside ready work: those, and a line transmitter that is active where Table 5.7 permits it. -/
def State.active (s : State) : Bool := s.holdsRun || (s.line.tx.isSome && s.power.path != .onBak)

/-! ### Modes -/

/-- A cold boot begins (Table 16.2, N4), in RUN or FIELD. -/
def State.bootBegin (s : State) : State :=
  if s.plinth.testHeld || s.plinth.rstLow then s
  else
    let s1 := if s.plinth.mode = .field then s else s.toMode .run
    { s1 with plinth := { s1.plinth with rc48 := true } }.coldNext

/-- The mode after a source has begun to carry VSEL (R137, Table 16.2); a wake held through the hand-over acts on STO. -/
def State.modeOnMake (s : State) (t : Source) : State :=
  if s.life.st = .plinthStart then
    match t with
    | .bus => s.bootBegin
    | .field => (s.toMode .field).bootBegin
    | _ => s
  else
    match t with
    | .bus => s.toRun
    | .field => (s.toMode .field).wakeSeq
    | _ =>
      if s.plinth.mode = .field ∨ s.plinth.mode = .doze ∨ (t = .sto ∧ s.plinth.wakes ≠ []) then s.toRun else s

/-! ### Sources -/

/-- The sources in rank order (Table 2.6). -/
def ranked : List Source := [.bus, .sto, .field, .bak]

/-- Whether a source is qualified. -/
def State.qualified (s : State) (x : Source) : Bool :=
  match x with
  | .bus => s.power.busQ
  | .sto => s.power.stoQ
  | .field => s.power.fieldQ
  | .bak => s.power.bakQ

/-- Sets whether a source is qualified. -/
def State.setQualified (s : State) (x : Source) (b : Bool) : State :=
  match x with
  | .bus => { s with power := { s.power with busQ := b } }
  | .sto => { s with power := { s.power with stoQ := b } }
  | .field => { s with power := { s.power with fieldQ := b } }
  | .bak => { s with power := { s.power with bakQ := b } }

/-- The path state in which a source carries VSEL (Table 2.7). -/
def pathOf : Source → Path
  | .bus => .onBus
  | .sto => .onSto
  | .field => .onField
  | .bak => .onBak

/-- The source that carries VSEL. -/
def State.carrier (s : State) : Option Source := ranked.find? fun x => s.power.path == pathOf x

/-- What BAK has given while it carried is counted when it is left (R56); how much that is, is a free value (log 8). -/
def State.bakDrawn (s : State) : State :=
  if s.power.path = .onBak then
    { s with ctr := { s.ctr with
        bakUsedUah := wrapAdd 32 s.ctr.bakUsedUah (Sys2Proof.Config.reading s.free) } }.draw
  else s

/-- Starts a hand-over (R60, R62); without a qualified target VSEL rests on the hold capacitors. -/
def State.handover (s : State) (t : Option Source) : State :=
  let s1 := s.bakDrawn
  { s1 with power := { s1.power with path := .handover, target := t } }

/-- The hand-over that a disqualified carrying source forces, to the best qualified other source of any rank (R62). -/
def State.downgrade (s : State) (x : Source) : State := s.handover (ranked.find? fun y => y != x && s.qualified y)

/-- Disqualifies a source (R59); the one that carries is left at once. -/
def State.disqualify (s : State) (x : Source) : State :=
  let s1 := s.setQualified x false
  if s.power.path = pathOf x then s1.downgrade x else s1

/-- Starts an upgrade to the best qualified higher source, once the dwell has ended (R62). -/
def State.upgrade (s : State) : State :=
  match s.carrier with
  | some c =>
    match (ranked.takeWhile fun x => x != c).find? s.qualified with
    | some t => if s.power.dwell then s else s.handover (some t)
    | none => s
  | none => s

/-- Qualifies a source (R59): the target of a hand-over that has none (R61), else an upgrade subject to the dwell. -/
def State.qualify (s : State) (x : Source) : State :=
  let s1 := s.setQualified x true
  if s.power.path = .handover ∧ s.power.target = none then s1.handover (some x) else s1.upgrade

/-- The best of what a hand-over's end finds (R61): a target that is no longer qualified is left again. -/
def State.recheck (s : State) (t : Source) : State := if s.qualified t then s else s.downgrade t

/-- The field-only limits of an NFC session after a hand-over (R425, R442): they end on the bus, or where NFC_SESSION is
granted. -/
def State.nfcAfterMake (s : State) (t : Source) : State :=
  if (s.port .nfc).est.isNone && (s.port .nfc).pend.isNone then s
  else match t with
    | .bus => { s with nfc := { s.nfc with fieldOnly := false } }
    | .sto => s.nfcReserve
    | _ => s

/-- The make of a hand-over (R65): the target carries, the dwell of PWR_DWELL_MS as it now reads starts (R74) and the
hand-over is counted; mode and VHOST
follow, and the bus grant starts at once (R121). -/
def State.make (s : State) (t : Source) : State :=
  let s1 : State :=
    { s with
      power := { s.power with path := pathOf t, target := none, dwell := true, dwellMs := s.param P.pwrDwellMs }
      ctr := { s.ctr with hoCount := wrapAdd 32 s.ctr.hoCount 1 }
      life := { s.life with carried := s.life.carried || t == .bus } }
  let s2 := ((s1.modeOnMake t).vhostEval).nfcAfterMake t
  let s3 := if t = .bus then s2.applyLate.regrant.resumeOps.evalPins else s2
  s3.tb8Eval.recheck t

/-! ### Store readings and charging -/

/-- A reading of STO; VHB follows its target (R76). -/
def State.setSto (s : State) (mv : Nat) : State :=
  let s1 : State := { s with power := s.power.readSto mv (s.param P.pwrStoVmaxMv) s.vFull }
  (if s.power.fOv && !s1.power.fOv then s1.clearR Ev.stoFault 5 else s1).regulate

/-! ### Shutdown and restart -/

/-- Whether a restart has pickups to come (R480), also while SHELF or DECOMMISSION is reported over it. -/
def State.inPickup (s : State) : Bool :=
  match s.life.st with
  | .pickup => true
  | .shelfPending => s.life.prev == .pickup
  | .decommissioning => s.life.prev == .pickup
  | _ => false

/-- The requests in hand that have not passed their point of no return are answered STATE when the shutdown begins (R221);
a pending SHELF goes with it. -/
def State.shutAnswers (s : State) : State :=
  s.camyx.ops.foldl
    (fun (s : State) o =>
      if o.pnr || o.kind == .shelf then s else (s.cancelOp o).finish o .state (s.gateDetail o.opc)) s

/-- The shutdown sequence begins (R473, R474 step 1): running rails soft-stop, faulted ones go to state 0, a pending
autostart ends. From a restart it re-enters, and r rises where that restart began less than 60 s ago (R485). A reset that
FW_ACTIVATE owes waits for the restart's pickups (R477). -/
def State.shutdownBegin (s : State) : State :=
  let up := s.plinth.upMs
  let inRestart := s.inPickup
  let retry := if inRestart && decide (since up s.life.restartAt < 60000) then min (s.life.retry + 1) 3 else s.life.retry
  let s1 : State :=
    { s with
      life := { s.life with
        st := .shut1, step := 0, carried := false, restart := false, again := inRestart, own := false, due := false
        retry := retry, railsUp := false }
      camyx := { s.camyx with
        resetHeld := s.camyx.resetHeld ||
          (s.camyx.resetOwed.isSome && s.sec.fwActiveB != s.sec.fwRunningB) } }
  (List.range 2).foldl
    (fun (s : State) r => ((s.onRail r fun x => { x with autoPend := false }).softStop r 0).toIdle r) s1.shutAnswers

/-- P1 of a restart (R480): SYS_LIFE_STATE 9, RUN, R221 lifted; a HEAD begins its listen (R415). -/
def State.restartBegin (s : State) : State :=
  let s1 := { s with life :=
    { s.life with
      st := if s.life.st = Life.decommissioning then Life.decommissioning else Life.pickup
      prev := .pickup, restart := false, due := false, own := false, railsUp := false } }.toRun
  if s1.isHead then
    ({ s1 with line := { s1.line with generating := false, listening := true, stoodDown := false } }.clearE Ev.headClash).tb8Eval
  else s1

/-- The bus returns (R478, R480): t_ref is fixed at the bus qualification; before step 4 the shutdown is abandoned at once,
later the restart follows step 5. A node that has come up without the bus restarts at its first bus (R471). -/
def State.busReturns (s : State) : State :=
  let up := s.plinth.upMs
  let ref := wrapAdd 32 up (s.param P.sysClpBaseMs * (1 + s.life.retry))
  let fixed : State := { s with life := { s.life with restartAt := up, tRef := ref } }
  match s.life.st with
  | .shut1 => fixed.restartBegin
  | .shut2 => fixed.restartBegin
  | .shut3 => fixed.restartBegin
  | .down => fixed.restartBegin
  | .shut4 => { fixed with life := { fixed.life with restart := true } }
  | .shut5 => { fixed with life := { fixed.life with restart := true } }
  | .plinthStart => fixed
  | .boot => fixed
  | _ => if s.life.due then fixed.restartBegin else s

/-- P2 of a restart (R480): VREG10 rises with VBUS; the dies are supplied with their latches clear and restored (R270), and
SHUTDOWN is set on every channel that lacks it. -/
def State.restartSupplies (s : State) : State :=
  let s1 := (List.range 4).foldl
    (fun (s : State) d =>
      if (s.sw.die.toList.getD d Die.initial).supplied then s else (s.dieUp d).restoreDie d) s
  (List.range 16).foldl
    (fun (s : State) c => if (s.chan c).shut then s else s.inhibit c fun h => { h with shut := true }) s1

end Sys2Proof.Machine
end

