-- ==== Sys2Proof/Machine/Tableau.lean ====
section
/-! DEFINITION. The meanings of the Tableau commands (Chapter 13): the cycle and its frames, election, TSYNC, members
lost and returned, disagreement, and gang rails. -/

namespace Sys2Proof.Machine

/-! ### Frames and records -/

/-- This device's record (Table 13.5). -/
def State.tabRecord (s : State) : List Byte :=
  s.ident.uid ++ s.run8 ++ s.cfg8 ++ toLe 2 s.compat ++ toLe 4 s.fwVersion ++
    toLe 1 (s.ident.role.code + flag s.ident.qb 2 + 16 * s.param P.tabLeadPrio) ++ toLe 1 (s.param P.tabIndex) ++
    (if s.line.joined then s.lineUid else s.tab.joinUid)

/-- Word `w` of a record. -/
def recWord (r : List Byte) (w : Nat) : Nat := fieldAt r (2 * w) 2

/-- Words `a` to `a + n − 1` of a record as received, none while one is missing. -/
def recWords (v : Vector (Option Nat) 20) (a n : Nat) : Option (List Nat) :=
  ((List.range n).map fun i => v.toList.getD (a + i) none).foldr
    (fun x acc => match x, acc with
      | some w, some l => some (w :: l)
      | _, _ => none) (some [])

/-- The record as received from bytes. -/
def recOf (r : List Byte) : Vector (Option Nat) 20 := Vector.ofFn fun w => some (recWord r w.val)

/-- Words `a` to `a + n − 1` of this device's record. -/
def State.ownWords (s : State) (a n : Nat) : List Nat := (List.range n).map fun i => recWord s.tabRecord (a + i)

/-- A frame closed by its CRC (R397). -/
def tabFrame (b : List Byte) : List Byte := b ++ toLe 2 (crc16 b).toNat

/-- The member table's entry. -/
def State.member? (s : State) (m : Nat) : Option Member := s.tab.member.toList.getD m none

/-- Changes a member's entry. -/
def State.onMember (s : State) (m : Nat) (f : Member → Member) : State :=
  { s with tab := { s.tab with member := upd s.tab.member m fun o => o.map f } }

/-- MEMBERS (Table 13.3): present, neither set aside nor lost. -/
def State.memberMask (s : State) : BitVec 8 :=
  BitVec.ofNat 8 (maskOf 8 fun m => match s.member? m with
    | some x => x.present
    | none => false)

/-- The phases of this device's share that run (Table 13.4). -/
def State.runCount (s : State) (r : Nat) : Nat := if s.carries r then (s.running r).length else 0

/-- The current of this device's share in 10 mA (Table 13.4). -/
def State.shareCa (s : State) (r : Nat) : Int := if s.carries r then s.railMa r / 10 else 0

/-- Sum of the share currents in 10 mA (R410). -/
def State.shareSum (s : State) (r : Nat) : Int :=
  s.shareCa r + sumInt 8 fun m => match s.member? m with
    | some x => if !x.present || !s.carriedBy r m then 0 else if r = 0 then x.ia else x.ib
    | none => 0

/-- Whether the link works for this device: it receives in DOZE and RUN (Table 5.3), with Roeno running. -/
def State.linkHears (s : State) : Bool :=
  s.isOn P.tabEn && s.plinthOn && s.seqRuns && !s.inReset && (s.plinth.mode == .doze || s.plinth.mode == .run)

/-- Whether this device has lost its lead: 10 ms without a lead frame (Table 13.1), or no TSYNC lock; not while its own BUS does
not carry VSEL (R416). -/
def State.leadGone (s : State) : Bool :=
  s.tab.inTab && !s.tab.lead && s.busCarries && (!s.tab.tsync || decide (10 ≤ since s.plinth.upMs s.tab.leadAt))

/-- Notes whether the lead is lost, with the level that follows from that (R406). -/
def State.leadWatch (s : State) : State :=
  if s.tab.inTab && !s.tab.lead then { s with tab := { s.tab with leadLost := s.leadGone } }.relevel else s

/-- Whether a lead is qualified (R404). -/
def qualifies (own : Nat) (members prev : BitVec 8) : Bool :=
  let set := members ||| BitVec.ofNat 8 (2 ^ own)
  let count := fun v : BitVec 8 => (placesOf 8 fun i => v.getLsbD i).length
  let common := count (set &&& prev)
  let total := count prev
  let lowest := (placesOf 8 fun i => prev.getLsbD i).headD 0
  decide (total < 2 * common) || (decide (2 * common = total) && set.getLsbD lowest) ||
    prev == 0 || prev == BitVec.ofNat 8 (2 ^ own)

/-- Whether a record names another firmware version than this device's (Table 13.9). -/
def State.otherFw (s : State) (v : Vector (Option Nat) 20) : Bool :=
  match recWords v 13 2 with
  | some l => l != s.ownWords 13 2
  | none => false

/-- P_tot is published anew (R408); where it has changed for a share, its grid re-spaces by a glide (R323). -/
def State.respace (s : State) (was : Vector Nat 2) : State :=
  let s1 : State := { s with tab := { s.tab with ptot := min (s.pTot 0) 63 } }
  if (List.range 2).any fun r => s.carries r && s.pTot r != was.toList.getD r 0 then
    { s1 with arm := { s1.arm with glideMs := max s1.arm.glideMs 1 } }.remap
  else s1

/-- P_tot of both rails. -/
def State.pTots (s : State) : Vector Nat 2 := Vector.ofFn fun r => s.pTot r.val

/-- Recomputes MEMBERS, qualification, previous set and the mix of firmware at the lead. -/
def State.regang (s : State) : State :=
  let m := s.memberMask
  let q := qualifies (s.param P.tabIndex) m s.tab.prevSet
  { s with tab := { s.tab with
      members := m, qualified := q
      prevSet := if q then m ||| BitVec.ofNat 8 (2 ^ s.param P.tabIndex) else s.tab.prevSet
      fwMix := (List.range 8).any fun i => match s.member? i with
        | some x => x.present && s.otherFw x.record
        | none => false } }

/-- Soft-stops this device's gang shares (R412, R414). -/
def State.stopShares (s : State) : State :=
  (List.range 2).foldl
    (fun (s : State) r => if s.carries r && (s.rail r).st != .stopping then s.softStop r 0 else s) s

/-- The LEVEL that the lead sends (Table 13.8): the highest of its own level in effect and its members' droop levels. -/
def State.leadLevel (s : State) : Nat := max s.line.eff s.memberDroop

/-- The transfers of the lead in the order of R402: one that has begun, then forwarded requests, then the others. -/
def State.bulkOrder (s : State) : State :=
  let isReq := fun e : Nat × List Byte => fieldAt e.2 0 1 == 1
  let l := s.tab.bulkOut
  if s.tab.bulkIdx ≠ 0 then s
  else { s with tab := { s.tab with bulkOut := l.filter isReq ++ l.filter fun e => !isReq e } }

/-- A member with data pending. -/
def State.bulkPending (s : State) : Option Nat :=
  (List.range 8).find? fun m => match s.member? m with
    | some x => x.phrun.getLsbD 7 && !x.lost
    | none => false

/-- The BULK field (R402): a forwarded request of the lead or what it has begun, a member's reply, another transfer of the lead, or
CLASS_E of each member in turn once a second; none in a join window (R401). -/
def State.bulkGrant (s : State) : Nat :=
  if s.tab.cyc % 50 = 49 then 0
  else match s.tab.bulkOut, s.bulkPending with
    | (d, b) :: _, some m => if s.tab.bulkIdx ≠ 0 ∨ fieldAt b 0 1 = 1 then d % 8 + 16 else m + 24
    | (d, _) :: _, none => d % 8 + 16
    | [], some m => m + 24
    | [], none => if s.tab.cyc % 125 = 0 ∧ (s.member? (s.tab.cyc / 125)).isSome then s.tab.cyc / 125 + 24 else 0

/-- The lead frame (Table 13.3). -/
def State.leadFrame (s : State) : List Byte :=
  let t := s.tab
  let rs := fun r : Nat => t.rstate.toList.getD r 7
  let set := fun r : Nat => ofInt 2 (t.setCa.toList.getD r 0)
  let vr := fun r : Nat => t.vref.toList.getD r 0
  tabFrame (toLe 1 (s.param P.tabIndex + 8) ++ toLe 2 t.cyc ++ toLe 4 s.stamp ++
    toLe 1 (flag s.plinth.timeValid 0 + flag (s.plinth.tb8 == .pilot) 1 + flag s.busCarries 2 + flag s.shutBegun 3 +
      flag s.line.joined 4 + flag t.qualified 5) ++
    toLe 1 s.leadLevel ++ toLe 1 (maskOf 8 fun k => s.classHit k) ++ toLe 1 t.members.toNat ++ toLe 1 s.bulkGrant ++
    toLe 1 (rs 0 + 8 * rs 1) ++
    toLe 1 (t.rreason.toList.getD 0 0 + 16 * t.rreason.toList.getD 1 0) ++
    toLe 2 (set 0) ++ toLe 2 (set 1) ++ toLe 2 (vr 0) ++ toLe 2 (vr 1) ++
    toLe 2 (recWord s.tabRecord (t.cyc % 20)))

/-- The member frame (Table 13.4). -/
def State.memberFrame (s : State) : List Byte :=
  let t := s.tab
  let fault := fun r : Nat =>
    if s.carries r && ((s.rail r).st == .faulted || (s.rail r).st == .ovLatched) then (s.rail r).reason else 0
  tabFrame (toLe 1 (s.param P.tabIndex + 16) ++
    toLe 1 (flag (t.acked && !t.aside) 0 + flag t.aside 1 + flag s.busCarries 2 +
      flag (s.carries 0 && (s.rail 0).st.live) 3 + flag (s.carries 1 && (s.rail 1).st.live) 4 + flag s.shutBegun 5 +
      64 * (if t.leadState.getLsbD 1 then 0 else s.line.droop)) ++
    toLe 1 (s.runCount 0 + 16 * s.runCount 1 + flag (!t.bulkOut.isEmpty) 7) ++
    toLe 1 (fault 0 + 16 * fault 1) ++ toLe 2 (ofInt 2 (s.shareCa 0)) ++ toLe 2 (ofInt 2 (s.shareCa 1)) ++
    toLe 2 (recWord s.tabRecord (t.cyc % 20)))

/-- Sends one bulk frame of the transfer at the front (R401, Table 13.6). -/
def State.sendBulk (s : State) : State :=
  match s.tab.bulkOut with
  | (d, b) :: rest =>
    let p := b.take 261
    let more := b.drop 261
    let f := tabFrame (toLe 1 (s.param P.tabIndex + 24) ++ toLe 1 d ++
      toLe 1 (s.tab.bulkIdx % 32 + flag (decide (s.tab.bulkIdx = 0)) 5 + flag more.isEmpty 6) ++ toLe 2 p.length ++ p)
    { s with tab := { s.tab with
        framesOut := s.tab.framesOut ++ [f]
        bulkOut := if more.isEmpty then rest else (d, more) :: rest
        bulkIdx := if more.isEmpty then 0 else s.tab.bulkIdx + 1 } }
  | [] => s

/-- The RSTATE of a rail that the lead publishes (R409, R411): 7 where it is not ganged; as ordered while a start or stop
waits for its cycle; a fault state until the lead starts or clears it; else its own share's state. A lead that carries no
share goes by its members' MSTATE. -/
def State.gangState (s : State) (r : Nat) : Nat :=
  let g := s.tab.rstate.toList.getD r 7
  let x := s.rail r
  let runs := (List.range 8).map fun m =>
    match s.member? m with
    | some y =>
      if s.carriedBy r m && y.present then some (y.mstate.getLsbD (3 + r)) else none
    | none => none
  if !s.ganged r then 7
  else if s.carries r then
    if s.tab.startPend.toList.getD r false then 1
    else if s.tab.stopPend.toList.getD r false then 3
    else if (g = 4 ∨ g = 5) ∧ x.st ≠ .starting then g
    else x.st.code
  else if g = 1 ∧ runs.all (· != some false) ∧ runs.any (· == some true) then 2
  else if g = 3 ∧ runs.all (· != some true) then 0
  else if g = 7 then 0
  else g

/-- Publishes the gang rails' states, with the reason of this device's own share where it has stopped. -/
def State.gangPublish (s : State) : State :=
  { s with tab := { s.tab with
      rstate := Vector.ofFn fun r : Fin 2 => s.gangState r.val
      rreason := Vector.ofFn fun r : Fin 2 =>
        let st := (s.rail r.val).st
        if s.carries r.val && (st == .faulted || st == .ovLatched) then (s.rail r.val).reason
        else if s.gangState r.val = 4 ∨ s.gangState r.val = 5 then s.tab.rreason[r] else 0 } }

/-- The reference of a gang rail that the lead publishes (Table 13.3): that of its own share; where it carries none, one of its own
that goes by 1 mV a cycle towards the target, or down in a soft-stop (R409). -/
def State.gangVref (s : State) (r : Nat) : Nat :=
  let v := s.tab.vref.toList.getD r 0
  let g := s.tab.rstate.toList.getD r 7
  if !s.ganged r then 0
  else if s.carries r then (s.rail r).vref
  else if g = 1 ∨ g = 2 then toward v (s.vrefTarget r) 1
  else if g = 3 then v - 1
  else 0

/-- One step of the device trim of a share (R410): towards the per-phase target of the gang, in 10 mA, where its own mean is more
than 2 % or 100 mA away. -/
def State.gangTrim (s : State) (r : Nat) (set : Int) : State :=
  let n := (s.running r).length
  let want := set * 10
  let thr : Int := max (want.natAbs / 50) 100
  let d := s.railMa r / (max n 1 : Nat) - want
  if !s.carries r || (s.rail r).st != .regulating || n == 0 then s
  else
    let move (t : Int) := trimClip (s.trimLimit r) (if thr < d then t - 1 else if d < -thr then t + 1 else t)
    { s with tab := { s.tab with devTrim := upd s.tab.devTrim r move } }

/-- The per-phase target of a gang rail in 10 mA (R410). -/
def State.gangSet (s : State) (r : Nat) : Int :=
  if s.ganged r then s.shareSum r / (max (s.pTot r) 1 : Nat) else 0

/-- The lead's cycle (R396, R404, R408, R410): counts, P_tot, set points, the lead frame and its bulk frame. -/
def State.leadCycle (s : State) : State :=
  let s1 := ((s.regang.gangPublish).bulkOrder).relevel
  let t := s1.tab
  let s2 : State :=
    { s1 with tab :=
      { t with
        cyc := (t.cyc + 1) % 1000, drive := true
        setCa := Vector.ofFn fun r => s1.gangSet r.val, vref := Vector.ofFn fun r => s1.gangVref r.val
        readFails := if t.readFailed then t.readFails else 0, readFailed := false
        member := Vector.ofFn fun m => t.member[m].map fun x => { x with missed := x.missed + 1 } } }
  let s3 : State := { s2 with tab := { s2.tab with framesOut := [s2.leadFrame] } }
  let g := s2.bulkGrant
  let s4 := if g ≠ 0 ∧ g / 8 % 2 = 0 then s3.sendBulk else s3
  (((List.range 2).foldl (fun (s : State) r => s.gangTrim r (s.tab.setCa.toList.getD r 0)) s4).respace s.pTots).settle

/-- Sends nothing on the link and lets TSYNC go (R395). -/
def State.linkQuiet (s : State) : State := { s with tab := { s.tab with drive := false, framesOut := [] } }

/-- The cycle of a device that is not lead: a member sends its frame; a device that no lead has answered yet sends a join frame in a
join window (R401, R413), and lets the windows of Table 13.10 pass before the next one. -/
def State.memberCycle (s : State) : State :=
  let s1 : State := { s with tab := { s.tab with cyc := (s.tab.cyc + 1) % 1000, framesOut := [] } }
  let t := s1.tab
  if t.acked then { s1 with tab := { t with framesOut := [s1.memberFrame] } }
  else if t.cyc % 50 ≠ 49 then s1
  else if t.joinWait ≠ 0 then { s1 with tab := { t with joinWait := t.joinWait - 1 } }
  else
    { s1 with tab := { t with
        framesOut := [tabFrame (toLe 1 (s.param P.tabIndex + 32) ++ s1.tabRecord)]
        joinWait := fieldAt s.ident.uid 0 1 % 8 + 1 } }

/-- R396: a cycle starts. The lead drives it while BUS carries VSEL; another device takes part once it has TSYNC lock. -/
def execTabCycleStart (s : State) : Host.Outcome State Fault Refusal :=
  .next (if !s.linkHears || s.plinth.mode != .run then s.linkQuiet
    else if s.tab.lead then (if s.busCarries then s.leadCycle.taskEnd 4 else s.linkQuiet)
    else if s.tab.inTab && s.tab.tsync then s.memberCycle.taskEnd 4
    else s.linkQuiet)

/-! ### The lead frame at another device -/

/-- Time from the lead (Table 13.8): set where not valid; stepped at the next second above 2 s, else slewed. -/
def State.leadTime (s : State) (t cyc : Nat) : State :=
  if t = 0xFFFFFFFF then s
  else
    let diff : Int := ((t * 1000 + cyc : Nat) : Int) - ((s.plinth.rtcSec * 1000 + s.plinth.rtcSub * 1000 / 32768 : Nat) : Int)
    let s1 : State := { s with tab := { s.tab with skewMs := max (-32768) (min 32767 diff) } }
    let set := fun (s : State) =>
      let s2 := s.setTime t
      { s2 with plinth := { s2.plinth with rtcSub := cyc * 32768 / 1000 % 32768 } }
    if !s.plinth.timeValid then set s1
    else if 2000 < diff.natAbs then (if cyc = 0 then (set s1).raiseP Ev.timeAlign 1 0 else s1)
    else { s1 with plinth := { s1.plinth with slew := diff * 100 } }

/-- One gang rail at a carrier as the lead orders it (R409 to R411); a gang rail that the lead takes out of state 4 or 5
leaves it here too (R217, R339, R345); a share that is stopped while the gang regulates joins softly (R413). -/
def State.gangRail (s : State) (r old new reason : Nat) : State :=
  let x := s.rail r
  let pend : State := { s with tab := { s.tab with startPend := upd s.tab.startPend r fun _ => true } }
  if !s.carries r || s.tab.aside || !s.tab.acked then s
  else if new = 0 && old == 5 then s.toIdle r
  else if new = 0 && old == 4 then
    if x.st = .ovLatched ∧ 10 * x.vos < s.targetMv r then s.clearOv r else s
  else if new = 1 && old != 1 then pend
  else if new = 3 && old != 3 then { s with tab := { s.tab with stopPend := upd s.tab.stopPend r fun _ => true } }
  else if new = 4 && old != 4 then (if x.st = .ovLatched then s else s.ovLatch r 0)
  else if new = 5 && old != 5 then
    if !x.st.live then s
    else if reason = 5 ∨ reason = 2 ∨ reason = 7 ∨ reason = 8 then s.railStop r reason 0
    else s.softFault r reason 0
  else if new = 2 && x.st == .stopped && s.mayStart r then pend
  else s

/-- A share's reference and device trim in a cycle (R409, R410): by 1 mV at most towards the lead's, and one PLL count. -/
def State.gangFollow (s : State) (r set vref : Nat) : State :=
  let s1 := if s.gangRef r && ((s.rail r).st == .starting || !(s.running r).isEmpty) then
      s.onRail r fun x => { x with vref := toward x.vref vref 1 }
    else s
  s1.gangTrim r (toInt 16 set)

/-- This device gives the feeder and the lead's work up as it follows another lead (R394, R405): pilot lock on LN_RX, the pilot, its
join and nodes go; requests forwarded to its members are answered NO_ROUTE. -/
def State.giveUpLead (s : State) : State :=
  let s1 := s.camyx.ops.foldl
    (fun (s : State) o => match o.kind with
      | .forward _ => s.finish o .noRoute []
      | _ => s) s
  let s2 := s1.loseLock
  { s2 with
    line := { s2.line with
      joined := false, joinSent := false, joinTry := 0, backoff := none, tx := none, rx := none, rxSeq := none
      generating := false, listening := false, nodes := [], joinAcks := [], castQ := [] }
    tab := { s2.tab with
      lead := false, drive := false, member := Vector.replicate 8 none, bulkOut := [], bulkIn := [], bulkIdx := 0
      leadRec := Vector.replicate 20 none, acked := false, joinWait := 0, peers := Vector.replicate 8 0 } }

/-- What the frame of the lead says of the Tableau (R404, R405). -/
def State.noteLead (s : State) (b : List Byte) : State :=
  let idx := fieldAt b 0 1 % 8
  let lst := fieldAt b 7 1
  let members := BitVec.ofNat 8 (fieldAt b 10 1)
  let cyc := fieldAt b 1 2 % 1024
  { s with tab := { s.tab with
      inTab := true, electing := false, leadIdx := idx, leadAt := s.plinth.upMs, qualified := bitAt lst 5, cyc := cyc
      members := members
      acked := s.tab.acked || members.getLsbD (s.param P.tabIndex)
      prevSet := if bitAt lst 5 then members ||| BitVec.ofNat 8 (2 ^ idx) else s.tab.prevSet
      level := fieldAt b 8 1 % 4, allow := BitVec.ofNat 8 (fieldAt b 9 1), leadState := BitVec.ofNat 8 lst
      rstate := Vector.ofFn fun r : Fin 2 => fieldAt b 12 1 / 8 ^ r.val % 8
      rreason := Vector.ofFn fun r : Fin 2 => fieldAt b 13 1 / 16 ^ r.val % 16
      setCa := Vector.ofFn fun r : Fin 2 => toInt 16 (fieldAt b (14 + 2 * r.val) 2)
      vref := Vector.ofFn fun r : Fin 2 => fieldAt b (18 + 2 * r.val) 2
      leadRec := upd s.tab.leadRec (cyc % 20) fun _ => some (fieldAt b 22 2)
      joinUid := match recWords s.tab.leadRec 16 4 with
        | some l => l.flatMap fun w => toLe 2 w
        | none => s.tab.joinUid } }

/-- The bulk window as the lead's frame grants it (R401, R402): a device that it names sends, CLASS_E where it has nothing else. -/
def State.bulkWindow (s : State) (b : List Byte) : State :=
  let mine := fieldAt b 11 1 == s.param P.tabIndex + 24
  let s1 : State := if s.tab.bulkOut.isEmpty && mine && decide (s.tab.cyc % 125 = 0) then
      { s with tab := { s.tab with bulkOut := [(s.tab.leadIdx, toLe 1 4 ++ (List.range 8).flatMap fun k =>
        toLe 4 (s.classJ k))] } }
    else s
  if mine then s1.sendBulk else s1

/-- A lead frame taken by a device that is not lead (R404, R405, R409). A lead whose shutdown sequence has begun stops every share
(R487). -/
def State.takeLead (s : State) (b : List Byte) : State :=
  let changed := !s.tab.inTab || s.tab.lead || s.tab.leadIdx != fieldAt b 0 1 % 8
  let old := s.tab.rstate
  let s0 := if changed then s.giveUpLead else s
  let s1 := (s0.noteLead b).leadWatch
  let s2 := if changed then s1.raiseP Ev.leadChange 0 0 else s1
  let s3 := ((s2.leadTime (fieldAt b 3 4) s2.tab.cyc).relevel).applyAllowances
  let s4 := (List.range 2).foldl
    (fun (s : State) r =>
      (s.gangRail r (old.toList.getD r 7) (s.tab.rstate.toList.getD r 7) (s.tab.rreason.toList.getD r 0)).gangFollow r
        (fieldAt b (14 + 2 * r) 2) (fieldAt b (18 + 2 * r) 2)) s3
  let s5 := if bitAt (fieldAt b 7 1) 3 then s4.stopShares else s4
  ((s5.bulkWindow b).respace s.pTots).tb8Eval

/-- Whether another lead wins against this one (R403): qualified, then priority as far as its record is known, then the
lower index, then the lower UID. -/
def State.otherWins (s : State) (b : List Byte) : Bool :=
  let q := bitAt (fieldAt b 7 1) 5
  let idx := fieldAt b 0 1 % 8
  let own := s.param P.tabIndex
  let prio := match s.tab.leadRec.toList.getD 15 none with
    | some w => some (w / 16 % 16)
    | none => none
  if q != s.tab.qualified then q
  else match prio with
    | some p =>
      if p ≠ s.param P.tabLeadPrio then decide (s.param P.tabLeadPrio < p)
      else if idx ≠ own then decide (idx < own)
      else match recWords s.tab.leadRec 0 4 with
        | some u => decide (ofLe (u.flatMap fun w => toLe 2 w) < ofLe s.ident.uid)
        | none => false
    | none => decide (idx < own)

/-- R405: a lead frame is received; a failed CRC is counted (R397). A lead that hears another one yields where it loses
(R403). -/
def execLeadFrameReceived (bytes : List Byte) (s : State) : Host.Outcome State Fault Refusal :=
  .next (if !s.linkHears then s
    else if bytes.length ≠ 26 || !crcOk bytes || fieldAt bytes 0 1 / 8 ≠ 1 then
      { s with tab := { s.tab with crcErr := wrapAdd 32 s.tab.crcErr 1 } }
    else if s.tab.lead then
      if s.otherWins bytes then s.takeLead bytes
      else
        { s with tab := { s.tab with
            leadRec := upd s.tab.leadRec (fieldAt bytes 1 2 % 20) fun _ => some (fieldAt bytes 22 2) } }
    else s.takeLead bytes)

/-- R409: the cycle start after the lead's change; a carrier starts or soft-stops its share, unless the lead is lost
(Table 13.10). One that is stopped on a fault restarts (R411). -/
def execGangShareStart (r : Fin 2) (s : State) : Host.Outcome State Fault Refusal :=
  let start := s.tab.startPend[r]
  let stop := s.tab.stopPend[r]
  let s1 : State := { s with tab := { s.tab with
    startPend := upd s.tab.startPend r.val fun _ => false, stopPend := upd s.tab.stopPend r.val fun _ => false } }
  .next (if s.tab.leadLost || !s.carries r.val then s1
    else if stop then s1.softStop r.val 0
    else if start && s1.mayRestart r.val then s1.restartShare r.val
    else if start && s1.mayStart r.val then s1.startRail r.val
    else s1)

/-! ### Frames at the lead -/

/-- What a member frame says (Table 13.4); a word of its record goes to the table, or while the member is silent or lost to the
words held against it (R413). -/
def Member.take (x : Member) (b : List Byte) (w : Nat) : Member :=
  let word := some (fieldAt b 8 2)
  let silent := x.silentAt.isSome || x.lost
  { x with
    mstate := BitVec.ofNat 8 (fieldAt b 1 1), phrun := BitVec.ofNat 8 (fieldAt b 2 1)
    mfault := BitVec.ofNat 8 (fieldAt b 3 1), ia := toInt 16 (fieldAt b 4 2), ib := toInt 16 (fieldAt b 6 2), missed := 0
    record := if silent then x.record else upd x.record w fun _ => word
    fresh := if silent then upd x.fresh w fun _ => word else x.fresh }

/-- A share's entry to state 4 or 5 that a member reports sets the gang rail's state and reason (R411); it stands over a start that
is pending (Table 13.10). -/
def State.shareFault (s : State) (r why : Nat) : State :=
  let old := s.tab.rstate.toList.getD r 7
  let new := if why = 1 then 4 else 5
  if !s.ganged r || old == new then s
  else
    ({ s with tab := { s.tab with
        rstate := upd s.tab.rstate r fun _ => new, rreason := upd s.tab.rreason r fun _ => why
        startPend := upd s.tab.startPend r fun _ => false } }).gangRail r old new why

/-- A member frame at the lead (R399, R411, R412): its state is recorded; a share's own stop sets the gang rail's
state, once for each entry that it reports. -/
def State.takeMember (s : State) (b : List Byte) : State :=
  let m := fieldAt b 0 1 % 8
  match s.member? m with
  | none => s
  | some x =>
    let s1 := (((s.onMember m fun y => y.take b (s.tab.cyc % 20)).regang).relevel).respace s.pTots
    (List.range 2).foldl
      (fun (s : State) r =>
        let why := fieldAt b 3 1 / 16 ^ r % 16
        if why = 0 ∨ why = x.mfault.toNat / 16 ^ r % 16 then s else s.shareFault r why) s1

/-- R399: the lead receives a member frame; a failed CRC is counted. Another device takes PHRUN from it (R408). -/
def execMemberFrameReceived (bytes : List Byte) (s : State) : Host.Outcome State Fault Refusal :=
  let m := fieldAt bytes 0 1 % 8
  .next (if !s.linkHears then s
    else if bytes.length ≠ 12 || !crcOk bytes || fieldAt bytes 0 1 / 8 ≠ 2 then
      { s with tab := { s.tab with crcErr := wrapAdd 32 s.tab.crcErr 1 } }
    else if s.tab.lead then s.takeMember bytes
    else
      ({ s with tab := { s.tab with peers := upd s.tab.peers m fun _ => fieldAt bytes 2 1 } }).respace s.pTots)

/-- This device is set aside (R414): SET_ASIDE with its reason, its gang shares soft-stop; it keeps its channels. -/
def State.setAside (s : State) (reason : Nat) : State :=
  if s.tab.aside && s.tab.asideReason == reason then s
  else
    (({ s with tab := { s.tab with aside := true, adopting := false, asideReason := reason } }.stopShares).clearE
      Ev.setAside).raiseC Ev.setAside reason 0

/-- This device is admitted (R414). -/
def State.admitMember (s : State) : State :=
  ({ s with tab := { s.tab with aside := false, adopting := false, asideReason := 0 } }).clearE Ev.setAside

/-- This device is to adopt the lead's configuration (Table 13.9): its maquette is emptied until IMAGE comes; without TAB_ADOPT it is
set aside. -/
def State.beginAdopt (s : State) : State :=
  if s.isOn P.tabAdopt then
    { s with
      tab := { s.tab with adopting := true }
      config := { s.config with staged := [], maqGen := nextGen s.config.maqGen } }
  else s.setAside 2

/-- IMAGE at a member (Table 13.9): applied as IMAGE_IMPORT with APPLY 1, with CFG_ADOPT; where that fails, it is set aside. -/
def State.takeImage (s : State) (body : List Byte) : State :=
  if s.isOn P.tabAdopt then
    let r := ({ s with tab := { s.tab with adopting := true } }).tabImage body
    if r.2 then ((r.1).raiseP Ev.cfgAdopt 0 0).admitMember else r.1.setAside 2
  else s.setAside 2

/-- JOIN_ACK at the device whose UID it carries (Table 13.7): admitted, set aside, or to adopt the lead's configuration first. -/
def State.takeJoinAck (s : State) (body : List Byte) : State :=
  let res := fieldAt body 8 1
  let s1 : State := { s with tab := { s.tab with acked := true } }
  if body.take 8 ≠ s.ident.uid then s
  else if res % 16 = 0 then s1.admitMember
  else if res / 16 = 2 then s1.beginAdopt
  else s1.setAside (res / 16)

/-- A whole transfer (Table 13.7): to the lead from a member a reply or CLASS_E, to a member from the lead the others. -/
def State.transfer (s : State) (src : Nat) (b : List Byte) : State :=
  let body := b.drop 1
  if s.tab.lead then
    match fieldAt b 0 1 with
    | 2 => s.tabReply src body
    | 4 => (s.onMember src fun x => { x with classE := Vector.ofFn fun k => fieldAt body (4 * k.val) 4 }).applyAllowances
    | _ => s
  else if !s.tab.inTab || src != s.tab.leadIdx then s
  else
    match fieldAt b 0 1 with
    | 1 => if s.tab.aside then s else s.tabRequest body
    | 3 => s.takeImage body
    | 5 => s.takeJoinAck body
    | _ => s

/-- R402: a bulk frame carries one fragment of a transfer to this device; the last one completes it. -/
def execBulkFrameReceived (bytes : List Byte) (s : State) : Host.Outcome State Fault Refusal :=
  let src := fieldAt bytes 0 1 % 8
  let x := fieldAt bytes 2 1
  let data := (bytes.drop 5).take (fieldAt bytes 3 2)
  .next (if !s.linkHears then s
    else if !crcOk bytes || fieldAt bytes 0 1 / 8 ≠ 3 then
      { s with tab := { s.tab with crcErr := wrapAdd 32 s.tab.crcErr 1 } }
    else if fieldAt bytes 1 1 % 8 ≠ s.param P.tabIndex then s
    else
      let buf := if bitAt x 5 then data else s.tab.bulkIn ++ data
      if bitAt x 6 then ({ s with tab := { s.tab with bulkIn := [] } }).transfer src buf
      else { s with tab := { s.tab with bulkIn := buf } })

/-! ### Disagreement -/

/-- The set-aside reason that a member's record gives at the lead (Table 13.9): role, then compat major; 0 for none. -/
def State.recordFault (s : State) (v : Vector (Option Nat) 20) : Nat :=
  match v.toList.getD 15 none, v.toList.getD 12 none with
  | some w15, some w12 =>
    if w15 % 4 ≠ s.ident.role.code then 3 else if w12 / 256 ≠ s.compat / 256 then 1 else 0
  | _, _ => 0

/-- Whether a record names another configuration than this device's (Table 13.9): another RUN8. -/
def State.otherConfig (s : State) (v : Vector (Option Nat) 20) : Bool :=
  match recWords v 4 4 with
  | some l => l != s.ownWords 4 4
  | none => false

/-- Queues IMAGE for a member, in place of one that has not begun: an adoption restarts from the present RUN8 (Table 13.10). -/
def State.sendImage (s : State) (m : Nat) : State :=
  let n := if s.tab.bulkIdx = 0 then 0 else 1
  let rest := (s.tab.bulkOut.drop n).filter fun e => !(e.1 == m && fieldAt e.2 0 1 == 3)
  { s with tab := { s.tab with bulkOut := s.tab.bulkOut.take n ++ rest ++ [(m, toLe 1 3 ++ s.leadImage)] } }

/-- A member is admitted (R413): MEMBER_UP JOIN, and MEMBER_LOST ends. -/
def State.memberJoins (s : State) (m : Nat) : State := (s.raiseP Ev.memberUp 2 m).clearE Ev.memberLost

/-- Why a device that is to enter is set aside at first (R413, R414): role or compat; 2 where it has to adopt the configuration; 0
where it is admitted. -/
def State.entryCode (s : State) (v : Vector (Option Nat) 20) : Nat :=
  let why := s.recordFault v
  if why = 0 ∧ s.otherConfig v = true then 2 else why

/-- A device enters the member table of the lead at an index, with the entry given (R413). -/
def State.enter (s : State) (m : Nat) (x : Member) : State :=
  let s1 : State := { s with tab := { s.tab with member := upd s.tab.member m fun _ => some x } }
  let s2 := ((if x.aside = 2 then s1.sendImage m else s1).regang).respace s.pTots
  if x.aside = 0 then s2.memberJoins m else s2

/-- Checks a member's record at the lead (R414): set aside by role or compat; one whose RUN8 differs gets the lead's IMAGE, and
stays what it was until it has adopted it or reports that it could not; one that agrees again is admitted. -/
def State.checkMember (s : State) (m : Nat) : State :=
  match s.member? m with
  | none => s
  | some x =>
    let why := s.recordFault x.record
    let code := if why ≠ 0 then why else if s.otherConfig x.record && x.aside != 0 then 2 else 0
    let s1 := s.onMember m fun y => { y with aside := code }
    let s2 := if why = 0 ∧ s.otherConfig x.record = true then s1.sendImage m else s1
    let s3 := (s2.regang).respace s.pTots
    if x.lost then s
    else if code = 0 ∧ x.aside ≠ 0 then s3.memberJoins m
    else s3

/-- Checks this device's own record against the lead's (R414, Table 13.9): set aside by role or compat, or by another
configuration that it does not adopt; with the same RUN8 but another CFG8 than a lead whose own agree, it saves. One set aside
for its index asks to join again. -/
def State.checkSelf (s : State) : State :=
  match recWords s.tab.leadRec 4 4, recWords s.tab.leadRec 8 4 with
  | some run, some cfg =>
    let why := s.recordFault s.tab.leadRec
    let s0 : State := { s with tab := { s.tab with fwMix := s.otherFw s.tab.leadRec } }
    if s.tab.aside && s.tab.asideReason == 4 then { s0 with tab := { s0.tab with acked := false } }
    else if why ≠ 0 then s0.setAside why
    else if run ≠ s.ownWords 4 4 then s0.beginAdopt
    else
      let s1 := s0.admitMember
      if cfg ≠ s.ownWords 8 4 ∧ run = cfg then s1.selfSave else s1
  | _, _ => s

/-- R414: the check of an index: a member at the lead, or this device itself against the lead. -/
def execDisagreementCheck (m : Fin 8) (s : State) : Host.Outcome State Fault Refusal :=
  .next (if s.tab.lead then s.checkMember m.val
    else if s.tab.inTab && m.val == s.param P.tabIndex then s.checkSelf else s)

/-- A member entry from a record. -/
def newMember (v : Vector (Option Nat) 20) (aside : Nat) : Member :=
  { record := v, mstate := 0, phrun := 0, mfault := 0, ia := 0, ib := 0, missed := 0, silentAt := none, lost := false,
    aside := aside, classE := Vector.replicate 8 0, fresh := Vector.replicate 20 none }

/-- A join frame at the lead (R401, R413, R414): admitted, or set aside for an index held by another UID, its role, its compat
major or its configuration; answered with JOIN_ACK. -/
def State.joinFrame (s : State) (b : List Byte) : State :=
  let r := (b.drop 1).take 40
  let idx := fieldAt r 31 1 % 8
  let v := recOf r
  let taken := idx == s.param P.tabIndex || (match s.member? idx with
    | some x => !x.lost && recWords x.record 0 4 != recWords v 0 4
    | none => false)
  let code := if taken then 4 else s.entryCode v
  let ack : Nat × List Byte := (idx, toLe 1 5 ++ r.take 8 ++ toLe 1 (if code = 0 then 0 else 1 + 16 * code))
  let s1 : State := { s with tab := { s.tab with bulkOut := s.tab.bulkOut ++ [ack] } }
  if taken then s1 else s1.enter idx (newMember v code)

/-- R413: the lead receives a join frame; during a shutdown the join waits (Table 13.10). -/
def execJoinFrameReceived (bytes : List Byte) (s : State) : Host.Outcome State Fault Refusal :=
  .next (if !s.linkHears then s
    else if bytes.length ≠ 43 || !crcOk bytes || fieldAt bytes 0 1 / 8 ≠ 4 then
      { s with tab := { s.tab with crcErr := wrapAdd 32 s.tab.crcErr 1 } }
    else if s.tab.lead && !s.shutBegun then s.joinFrame bytes else s)

/-! ### Election -/

/-- R403: no valid lead frame for 100 ms, or the link starts; the device listens. One whose own BUS does not carry VSEL
does not count the lead as lost (R416). -/
def execElectionStart (s : State) : Host.Outcome State Fault Refusal :=
  .next (if s.linkHears && !s.tab.lead && s.busCarries &&
        (!s.tab.inTab || decide (100 ≤ since s.plinth.upMs s.tab.leadAt)) then
      { s with tab := { s.tab with electing := true, leadLost := s.tab.inTab } }.relevel
    else s)

/-- A device becomes lead (R403, R404): its member table is empty, the members join it anew; the previous set, the shared states and
JOIN_UID go on. As a HEAD it goes on with the pilot of a qualified lead before it, else it listens first (R415). -/
def State.becomeLead (s : State) : State :=
  let took := s.tab.inTab && s.tab.leadState.getLsbD 5
  let s1 : State := { s with
    tab := { s.tab with
      electing := false, inTab := true, lead := true, leadLost := false, leadIdx := s.param P.tabIndex, drive := true
      tsync := false, readFails := 0, readFailed := false, member := Vector.replicate 8 none, aside := false
      adopting := false, asideReason := 0, acked := true, bulkOut := [], bulkIn := [], bulkIdx := 0 }
    line := { s.line with
      generating := s.ident.role == .head && took, listening := s.ident.role == .head && !took } }
  (((((s1.clearE Ev.setAside).regang).respace s.pTots).raiseP Ev.leadChange 0 0).tb8Eval).relevel

/-- R403: the listen has ended with no lead heard; a device with a priority becomes lead. -/
def execElectionListenEnd (s : State) : Host.Outcome State Fault Refusal :=
  .next (if s.linkHears && s.tab.electing && s.param P.tabLeadPrio != 0 then s.becomeLead else s)

/-- R403, R416: a lead's readback fails in this cycle. An unqualified lead stops after 2 cycles in a row and listens
again; at 8 cycles LINK_FAULT is raised. -/
def execReadbackFailure (s : State) : Host.Outcome State Fault Refusal :=
  .next (if !s.tab.lead then s
    else
      let n := s.tab.readFails + 1
      let s1 : State := { s with tab := { s.tab with readFails := n, readFailed := true } }
      if 2 ≤ n && !s.tab.qualified then
        { s1 with tab := { s1.tab with lead := false, electing := true, drive := false, readFails := 0
                                       framesOut := [] } }.loseLock.tb8Eval
      else if 8 ≤ n then s1.raiseOnce Ev.linkFault 0 0 else s1)

/-! ### TSYNC -/

/-- R394: sixteen good edges; a device that is not lead locks to TSYNC and TB8 follows it. -/
def execTsyncLock (s : State) : Host.Outcome State Fault Refusal :=
  .next (if s.isOn P.tabEn && !s.tab.lead && !s.tab.tsync then
      ({ s with tab := { s.tab with tsync := true } }.leadWatch).tb8Eval.realignAll
    else s)

/-- R394: four expected edges are missing; lock is lost, and the lead counts as lost. -/
def execTsyncLoss (s : State) : Host.Outcome State Fault Refusal :=
  .next (if s.tab.tsync then
      ({ s with tab := { s.tab with tsync := false } }.leadWatch).tb8Eval
    else s)

/-- R395: a lead finds TSYNC different from its drive in 16 periods; LINK_FAULT is raised and it keeps driving. -/
def execTsyncContention (s : State) : Host.Outcome State Fault Refusal :=
  .next (if s.tab.lead && s.tab.drive then
      s.raiseOnce Ev.linkFault 0 0
    else s)

/-! ### Members lost and returned -/

/-- R412: three cycles in a row without a member's frame; it is silent, its last shares are held. -/
def execMemberSilent (m : Fin 8) (s : State) : Host.Outcome State Fault Refusal :=
  .next (if s.tab.lead then
      s.onMember m.val fun x =>
        if 3 ≤ x.missed ∧ x.silentAt = none then
          { x with silentAt := some s.plinth.upMs, fresh := Vector.replicate 20 none }
        else x
    else s)

/-- R412: a member has been silent for TAB_LOST_T; it is lost and its phases leave P_tot. -/
def execMemberLost (m : Fin 8) (s : State) : Host.Outcome State Fault Refusal :=
  .next (match s.member? m.val with
    | some x =>
      match x.silentAt with
      | some t =>
        if s.tab.lead && !x.lost && decide (s.param P.tabLostT ≤ since s.plinth.upMs t) then
          ((((s.onMember m.val fun x => { x with lost := true }).regang).respace s.pTots).relevel).raiseC Ev.memberLost 0 0
        else s
      | none => s
    | none => s)

/-- R412: no valid lead frame for TAB_LOST_T; the gang shares soft-stop, unless this device is a qualified lead, or its own BUS does
not carry VSEL (R416). -/
def execLeadLostTimeout (s : State) : Host.Outcome State Fault Refusal :=
  .next (if s.tab.inTab && s.busCarries && !(s.tab.lead && s.tab.qualified) &&
        decide (s.param P.tabLostT ≤ since s.plinth.upMs s.tab.leadAt) then s.stopShares
    else s)

/-- R413: a member's frames have come again for a rotation. With the same UID and RUN8, and silent for less than
TAB_LOST_T, it returns seamlessly; else it joins anew. -/
def execMemberReturn (m : Fin 8) (s : State) : Host.Outcome State Fault Refusal :=
  .next (match s.member? m.val with
    | some x =>
      match x.silentAt, recWords x.fresh 0 20 with
      | some t, some w =>
        if !s.tab.lead then s
        else if !x.lost && decide (since s.plinth.upMs t < s.param P.tabLostT) &&
            recWords x.record 0 8 == some (w.take 8) then
          (((s.onMember m.val fun x => { x with silentAt := none, missed := 0, record := x.fresh }).regang).respace
            s.pTots).raiseP Ev.memberUp 1 m.val
        else
          s.enter m.val
            { x with silentAt := none, missed := 0, lost := false, record := x.fresh, aside := s.entryCode x.fresh }
      | _, _ => s
    | none => s)

/-- R416: too many frames fail in a second, or a readback in 8 cycles; LINK_FAULT, which clears after 10 s clean. -/
def execLinkFault (cleared : Bool) (s : State) : Host.Outcome State Fault Refusal :=
  .next (if !s.linkHears then s
    else if cleared then s.clearE Ev.linkFault
    else s.raiseOnce Ev.linkFault 0 0)

end Sys2Proof.Machine
end

