-- ==== Sys2Proof/Machine/Transfer.lean ====
section
/-! DEFINITION. The shadow transfer of COMMIT (R229) with everything that a committed write does beside changing a value. -/

namespace Sys2Proof.Machine

/-! ### What single writes do -/

/-- Whether a list of writes holds an ID at a value other than 0. -/
def Vals.sets (l : Vals) (id : Nat) : Bool := (l.get? id).getD 0 != 0

/-- NRG_FC_CLEAR (R125): the calendar is empty, learning restarts, a suspension ends. -/
def State.fcClear (s : State) : State :=
  { s with ledger := { s.ledger with
      cal := { bins := Vector.replicate 168 0, count := Vector.replicate 168 0 }, hourUj := 0, hourBad := true
      checks := [], misses := 0, suspended := false } }.clearE Ev.fcSuspend

/-- EVT_PH_RESET (R463): the index and the step of each named phase. -/
def State.phReset (s : State) (mask : Nat) : State :=
  { s with ctr := { s.ctr with
      wearPh := Vector.ofFn fun p => if bitAt mask p.val then Wear.zero else s.ctr.wearPh[p] } }

/-- EVT_STO_RESET (R463): the store's index counts from the present throughput on. -/
def State.stoReset (s : State) : State :=
  { s with ctr := { s.ctr with wearSto := Wear.zero, stoBaseJ := s.ctr.thruJ } }

/-- The node joins its feeder again (R389). -/
def State.lineRejoin (s : State) : State :=
  { s with line := { s.line with
      joined := false, joinSent := false, joinTry := 0, backoff := none, tx := none, rx := none, rxSeq := none } }.clearE
    Ev.addrConflict

/-- The device leaves the Tableau (R418): its gang shares soft-stop, requests forwarded to its members are answered
NO_ROUTE, and it joins again as if it had just started. -/
def State.leaveTab (s : State) : State :=
  let s1 := s.camyx.ops.foldl
    (fun (s : State) o => match o.kind with
      | .forward _ => s.finish o .noRoute []
      | _ => s) s.stopShares
  (((({ s1 with tab := { Tab.initial with crcErr := s1.tab.crcErr, prevSet := s1.tab.prevSet } }).clearE
    Ev.memberLost).clearE Ev.setAside).tb8Eval).relevel

/-- A harvest channel that has been disabled stops (R102). -/
def State.hrvStops (s : State) : State :=
  let off := fun (id : Nat) (t : Tracker) => if s.isOn id then t else t.stop
  { s with harvest := { s.harvest with
      teg := off P.hrvTegEn s.harvest.teg, vib := off P.hrvVibEn s.harvest.vib, pv := off P.hrvPvEn s.harvest.pv
      nfc := s.harvest.nfc && s.isOn P.hrvNfcEn, nfcUw := if s.isOn P.hrvNfcEn then s.harvest.nfcUw else 0 } }

/-- A write of a channel's enable ends its STAGE_OC; that of the store stage, which has none, ends with any of them
(Table 3.10, log 63). -/
def State.stageRearm (s : State) (teg vib pv : Bool) : State :=
  let f := fun (w : Bool) (t : Tracker) => if w then { t with oc := false, ocFails := 0, dead := false } else t
  let h := s.harvest
  let s1 : State :=
    { s with harvest :=
      { h with teg := f teg h.teg, vib := f vib h.vib, pv := f pv h.pv, storeOc := false, storeFails := 0
               storeDead := false } }
  if s1.harvest.teg.oc || s1.harvest.vib.oc || s1.harvest.pv.oc then s1 else s1.clearR Ev.hrvFault 3

/-- A channel enabled at COMMIT begins by sampling its open-circuit value (R102), which is what the pads show; it is a free
value (log 8). -/
def State.hrvBegins (s : State) (teg vib pv : Bool) : State :=
  let at' := fun (k : Nat) (w : Bool) (t : Tracker) =>
    if w then { t with voc := Sys2Proof.Config.reading (s.free + k) } else t
  if teg || vib || pv then
    { s with
      harvest := { s.harvest with
        teg := at' 0 teg s.harvest.teg, vib := at' 1 vib s.harvest.vib, pv := at' 2 pv s.harvest.pv }
      free := s.free + 3 }
  else s

/-- A write of PWR_VHOST_EN clears VHOST_FAULT (R58, Table 15.2). -/
def State.vhostRearm (s : State) : State :=
  { s with power := { s.power with vhostFault := false, vhostWait := false, vhostFails := 0 } }.clearE Ev.vhostFault

/-- A write of PWR_CHG_MA clears PRECHARGE_TIMEOUT (Table 2.9). -/
def State.prechargeRearm (s : State) : State :=
  { s with power := { s.power with fPre := false } }.clearR Ev.stoFault 3

/-! ### The transfer -/

/-- What the writes themselves do, beside the values they leave; `old` is the state before the transfer. -/
def State.writeEffects (s old : State) (vs : Vals) : State :=
  let wrote := fun id => (vs.get? id).isSome
  let changed := fun id => s.param id != old.param id
  let s := if vs.sets P.nrgFcClear then s.fcClear else s
  let s := if wrote P.evtPinRelease then s.releasePins ((vs.get? P.evtPinRelease).getD 0) else s
  let s := if wrote P.evtPhReset then s.phReset ((vs.get? P.evtPhReset).getD 0) else s
  let s := if vs.sets P.evtStoReset then s.stoReset else s
  let s := if wrote P.pwrVhostEn then s.vhostRearm else s
  let s := if wrote P.pwrChgMa then s.prechargeRearm else s
  let s := if wrote P.hrvTegEn || wrote P.hrvVibEn || wrote P.hrvPvEn then
      s.stageRearm (wrote P.hrvTegEn) (wrote P.hrvVibEn) (wrote P.hrvPvEn) else s
  let begins := fun id => changed id && s.isOn id
  let s := s.hrvBegins (begins P.hrvTegEn) (begins P.hrvVibEn) (begins P.hrvPvEn)
  let s := if changed (if s.isCap then P.nrgCapNomMf else P.nrgCellMah) then
      { s with ctr := { s.ctr with capMeas := 0 } } else s
  let s := if changed P.lineAddr || changed P.lineFeederId then s.lineRejoin else s
  let s := if changed P.tabEn || changed P.tabIndex || changed P.tabLeadPrio then s.leaveTab else s
  if changed P.sysU0Baud then { s with config :=
      { s.config with baudNext := some (s.param P.sysU0Baud), baudBy := old.config.armedBy } } else s

/-- What PWR_BAK_EN and PWR_SC_DERATE_EN decide at once (R49, R54). Enabled while the die is warm already, the derating waits
for the next SC_DERATE_CHANGE (DESIGN CHOICE, log 67). -/
def State.powerEnables (s : State) : State :=
  let s1 : State := { s with power := { s.power with derated := s.power.derated && s.isOn P.pwrScDerateEn } }
  let bak := s.isOn P.pwrBakEn && decide (2200 ≤ s.power.bakMv)
  if bak == s.power.bakQ then s1 else if bak then s1.qualify .bak else s1.disqualify .bak

/-- Every output follows its demand under the new parameters (R242). -/
def State.refreshAll (s : State) : State := (List.range 16).foldl (fun (s : State) c => s.refresh c true) s

/-- Brings what rests on parameters up to date: harvest, VHOST, TB8, shedding and allowances, outputs, the edge map and the
ledger's thresholds (R57, R102, R105, R110, R133, R149, R378, R384). -/
def State.reevaluate (s : State) : State :=
  let s1 := ((((s.hrvStops.powerEnables).vhostEval).tb8Eval).relevel).applyShed
  ((s1.applyAllowances.fitDemands.refreshAll.syncEval).remap).evalLedger

/-- The shadow transfer (R229): every armed value takes effect together. -/
def State.transferNow (s : State) (vs : Vals) : State :=
  let s1 : State := { s with config :=
    { s.config with
      inForce := Vals.setAll s.ident.role s.ident.sto s.config.inForce vs, armed := none, armedBy := none } }
  (s1.writeEffects s vs).reevaluate

/-- R229: at the tick after a COMMIT all staged values take effect together. -/
def execShadowTransfer (s : State) : Host.Outcome State Fault Refusal :=
  .next (match s.config.armed with
    | some vs => s.transferNow vs
    | none => s)

end Sys2Proof.Machine
end

