-- ==== Sys2Proof/Machine/BootOps.lean ====
section
/-! DEFINITION. The Plinth power-on reset (R152, Table 16.2 N2) and what a boot does: the choice of the firmware bank (R440),
the counter record (R459), the configuration (R235, R7), the demands (R154, R270, R470) and the settling that follows
(Table 16.2 N5, R494). -/

namespace Sys2Proof.Machine

/-! ### Plinth power-on reset -/

/-- What a power-on reset leaves of a channel (Table 5.10): on a die that keeps VBUS its latch, pattern, measurement and
protection; demand and inhibits, which retained RAM held, are gone until the boot. -/
def Chan.powerOn (h : Chan) (supplied : Bool) : Chan :=
  if supplied then
    { h with demand := .off, lastOn := none, shed := false, allow := false, shut := false, bus := false, pickAt := none
             latchUps := [], thermUps := [], defOff := false, remFj := 0, remJ := 0 }
  else Chan.initial

/-- A rail at a power-on reset: its ring stands in NVM, and its newest record restores the latch of R339. -/
def Rail.powerOn (x : Rail) : Rail :=
  let latched := (x.ring.head?.any ovRecord)
  { Rail.initial with
    st := if latched then .ovLatched else .stopped, reason := if latched then 1 else 0, ring := x.ring }

/-- Whether a name of a channel that held before still holds by what its die keeps (Table 9.3). -/
def State.stillHeld (s : State) (h : Held) : Bool :=
  let x := s.chan h.src.bit
  !h.pulse &&
    ((h.src.grp == 4 && x.curLatch) || (h.src.grp == 5 && (x.thermOff || x.thermLatch)) ||
      (h.src.grp == 7 && ((x.escalated && h.reason == 2) || (x.curLatch && (h.reason == 1 || h.reason == 4)))))

/-- The conditions that hold at a power-on reset are raised afresh (R452); `was` are the names that held before it. -/
def State.raiseAfresh (s : State) (was : List Held) : State :=
  let s := (was.filter s.stillHeld).foldl (fun (s : State) h => s.raiseC h.src h.reason h.detail) s
  let s1 := if s.power.gndOpen then s.raiseC Ev.gndOpen 0 0 else s
  let s1 := if s1.sec.trial then s1.raiseC Ev.fwTrial 0 0 else s1
  let s1 := if s1.power.busQ then s1.raiseC Ev.busUp 0 0 else s1
  let s1 := if s1.power.busHigh then s1.raiseC Ev.busHigh 0 0 else s1
  let s1 := if s1.power.busOv then s1.raiseC Ev.busOv 0 0 else s1
  let s1 := if s1.power.busDump then s1.raiseC Ev.busDump 0 0 else s1
  let s1 := if s1.power.busRev then s1.raiseC Ev.busReverse 0 0 else s1
  let s1 := if s1.harvest.clamp then s1.raiseC Ev.hbClamp 0 0 else s1
  let s1 := (List.range 2).foldl
    (fun (s : State) r => if (s.rail r).st = .ovLatched then s.raiseC (Ev.outOv r) 0 0 else s) s1
  (List.range 4).foldl
    (fun (s : State) d => match s.fence d with
      | some .absent => s
      | some w => s.raiseC (Ev.dieFence d) (fenceCode w) 0
      | none => s) s1

/-- The wake source by which a source ends SHELF (R491). -/
def wakeOf : Source → WakeSrc
  | .bus => .vbus
  | .field => .nfcField
  | _ => .shelfTimer

/-- A Plinth power-on reset with the source that starts the Plinth (Table 5.10, N2): everything is reset but what stands
in NVM or fuses, the latches of dies that keep VBUS, and what the outside drives; the straps are sampled; TEST high holds
the device (R26). Operations in hand are rolled back as Table 7.4 says. -/
def State.powerOnReset (s : State) (src : Source) (p : Straps) : State :=
  let s := s.camyx.ops.foldl (State.rollBack true) s
  let z := State.reset
  let w := s.power
  let s1 : State :=
    { z with
      ident := { s.ident with sdoDecoded := false }
      plinth := { z.plinth with cause := if p.test then 2 else 0, testHeld := p.test, rstLow := s.plinth.rstLow }
      power := { z.power with
        path := pathOf src, floorSusp := src == .sto
        vbusMv := w.vbusMv, busQ := w.busQ || src == .bus, fieldQ := w.fieldQ || src == .field
        bakQ := src == .bak || decide (2200 ≤ w.bakMv), busUv := w.busUv && src != .bus, busFull := w.busFull
        busHigh := w.busHigh, busOv := w.busOv, busDump := w.busDump, busRev := w.busRev, gndOpen := w.gndOpen
        stoMv := w.stoMv, midMv := w.midMv, bakMv := w.bakMv, tempC := w.tempC, fieldMv := w.fieldMv
        fieldUw := w.fieldUw }
      harvest := { z.harvest with
        vhbMv := s.harvest.vhbMv, clamp := s.harvest.clamp, cscRan := s.harvest.csc
        csc := s.harvest.csc && (p.test || s.plinth.rstLow), cscTegUv := s.harvest.cscTegUv
        cscPvMv := s.harvest.cscPvMv, cscVibMv := s.harvest.cscVibMv }
      ledger := { z.ledger with cal := s.ledger.nvmCal, nvmCal := s.ledger.nvmCal }
      config := { z.config with bankA := s.config.bankA, bankB := s.config.bankB }
      nfc := if src = .field then { s.nfc with opened := 0, fieldOnly := false, sessionRes := false } else z.nfc
      sec := { s.sec with fallbackReq := false, fwOpen := false }
      sw := { Switch.initial with
        ch := Vector.ofFn fun c => (s.sw.ch[c]).powerOn (s.sw.die.toList.getD (dieOf c.val) Die.initial).supplied
        die := s.sw.die, saved := s.sw.saved, dieEv := s.sw.dieEv, tripPend := s.sw.tripPend }
      arm := { Arm.initial with
        rail := Vector.ofFn fun r => s.arm.rail[r].powerOn, vdrvOk := s.arm.vdrvOk, vdrvDv := s.arm.vdrvDv }
      patina := { z.patina with ring := s.patina.ring, pins := s.patina.pins }
      ctr := s.nvm
      nvm := s.nvm
      life := { z.life with
        carried := src == .bus
        shelfExit := if w.path = .shelf then some (wakeOf src) else none }
      free := s.free
      pending := s.pending }
  (s1.sampleStraps p true).raiseAfresh s.events.held

/-- What follows a power-on reset (Table 16.2): BUS, FIELD and, out of SHELF, BAK go on to the cold boot; STO waits for the
floor. -/
def State.plinthStarts (s : State) (src : Source) : State :=
  match src with
  | .sto => s
  | .field => (s.toMode .field).bootBegin
  | _ => s.bootBegin

end Sys2Proof.Machine
end

