-- ==== Sys2Proof/Machine/CmdConfig.lean ====
section
/-! DEFINITION. The meanings of the opcodes on the configuration (R227 to R234, R238 to R240). -/

namespace Sys2Proof.Machine

/-! ### The maquette -/

/-- WRITE_PARAM (R228): every entry is staged, or none, with the position of the first that fails. -/
def State.cmdWriteParam (s : State) (w : Waiting) : State :=
  let l := (parseEntries w.body.length w.body).getD []
  match s.entriesFault w.priv 0 l with
  | some (st, i) => s.respond w st (toLe 1 (min i 255))
  | none =>
    match overflowAt (s.config.staged.map fun e => e.1) 0 l with
    | some i => s.respond w .state (toLe 1 (min i 255))
    | none =>
      let s1 := s.stage (l.map fun e => (e.1, e.2.2))
      s1.respond w .ok (toLe 2 s1.config.maqGen)

/-- R228: WRITE_PARAM checks and stages all its entries into the maquette at one instant. -/
def execWriteParam (rq : Request) (s : State) : Host.Outcome State Fault Refusal :=
  .next (s.serve 0x11 rq anyBody State.cmdWriteParam)

/-- COMMIT (R229): its checks, then the transfer is armed for the next tick. -/
def State.cmdCommit (s : State) (w : Waiting) : State :=
  match s.commitFault w.priv (fieldAt w.body 0 2) with
  | some (st, d) => s.respond w st d
  | none =>
    let s1 := s.armCommit (some (w.rq.via, w.rq.seq.toNat))
    s1.respond w .ok
      (toLe 2 s.config.staged.length ++ toLe 4 (wrapAdd 32 s.plinth.upMs 1) ++ s1.run8)

/-- R229: COMMIT checks the maquette and arms the shadow transfer for the next tick. -/
def execCommit (rq : Request) (s : State) : Host.Outcome State Fault Refusal :=
  .next (s.serve 0x12 rq anyBody State.cmdCommit)

/-- The SAVED writable parameters that a privilege may write, at their factory defaults (R231). -/
def State.defaultsFor (s : State) (p : Priv) : Vals :=
  (savedIds.filter fun id => match findDesc id with
    | some (d, _) => mayWrite p d.acc
    | none => false).map fun id => (id, defaultOf s.ident.role s.ident.sto id)

/-- REVERT (R231). -/
def State.cmdRevert (s : State) (w : Waiting) : State :=
  let reply := fun s1 : State => s1.respond w .ok (toLe 2 s1.config.maqGen)
  match fieldAt w.body 0 1, s.activeBank with
  | 0, _ => reply (s.restage [])
  | 1, some (_, b) => reply (s.restage (savedIds.map fun id => (id, b.value id)))
  | 1, none => s.respond w .state []
  | _, _ => reply (s.restage (s.defaultsFor w.priv))

/-- R231: REVERT empties the maquette or stages the saved bank or factory defaults. -/
def execRevert (rq : Request) (s : State) : Host.Outcome State Fault Refusal :=
  .next (s.serve 0x13 rq anyBody State.cmdRevert)

/-! ### SAVE -/

/-- The configuration that a SAVE records: what runs once an armed transfer has taken place (R233). -/
def State.snapshot (s : State) : Vals := savedOnly s.future

/-- Whether the active bank already holds a configuration by its digest (R233). -/
def State.sameDigest (s : State) (vals : Vals) : Bool :=
  match s.activeBank with
  | some (_, b) => decide (digestOf b.role b.sto b.vals = digestOf s.ident.role s.ident.sto vals)
  | none => false

/-- Whether GEN of the next bank would pass its limit (R234). -/
def State.genFull (s : State) : Bool := decide (0xFFFFFFFF < s.nextBank.2)

/-- The reply fields of a SAVE with its bank (R233). -/
def State.saveReply (s : State) (nochange : Bool) : List Byte :=
  match s.activeBank with
  | some (n, b) => toLe 1 n ++ toLe 4 b.gen ++ (digestOf b.role b.sto b.vals).take 8 ++ toLe 1 (flag nochange 0)
  | none => []

/-- Goes on with a SAVE past its COMMIT (R233): NOCHANGE, or the reservation of the bank write. `armed` says that a
shadow transfer has been armed, which is then its point of no return (Table 7.4). -/
def State.saveStart (s : State) (w : Waiting) (armed : Bool) (image : Option Nat) : State :=
  let snap := s.snapshot
  if s.sameDigest snap then
    s.respond w .ok (match image with
      | some n => toLe 2 n ++ toLe 2 s.config.maqGen
      | none => s.saveReply true)
  else
    ((s.begin_ w armed (.grant .configSave (25 * mj)) (.save image.isSome (image.getD 0) snap)).request .configSave
      (25 * mj)).resumeOps

/-- The bank write ends (R233): the bank is active by its GEN; a readback that fails leaves the previous one active, and the
bank that was written holds nothing valid. -/
def State.saveDone (s : State) (o : Op) (image : Bool) (applied : Nat) (snap : Vals) (ok : Bool) : State :=
  let s1 := s.releaseOf .configSave (25 * mj)
  if ok then
    let s2 := s1.writeBank snap
    s2.finish o .ok (if image then toLe 2 applied ++ toLe 2 s2.config.maqGen else s2.saveReply false)
  else
    s1.spoilBank.finish o .internal (toLe 2 (if image then 0xFFFF else s1.config.maqGen))

/-- SAVE (R233, R234). -/
def State.cmdSave (s : State) (w : Waiting) : State :=
  let first := bitAt (fieldAt w.body 0 1) 0
  let fault := if first then s.commitFault w.priv (fieldAt w.body 1 2) else none
  match fault with
  | some (st, d) => s.respond w st d
  | none =>
    let s1 := if first then s.armCommit (some (w.rq.via, w.rq.seq.toNat)) else s
    if s.genFull && !s1.sameDigest s1.snapshot then s.respond w .state (toLe 2 s.config.maqGen)
    else s1.saveStart w (first && !s.config.staged.isEmpty) none

/-- R233: SAVE writes the committed configuration into the inactive bank and makes it active. -/
def execSave (rq : Request) (s : State) : Host.Outcome State Fault Refusal :=
  .next (s.serve 0x14 rq anyBody State.cmdSave)

/-! ### Images -/

/-- IMAGE_EXPORT (R240): a FULL image of the active bank or of the committed configuration. -/
def State.cmdImageExport (s : State) (w : Waiting) : State :=
  let loc := bitAt (fieldAt w.body 1 1) 0
  match fieldAt w.body 0 1, s.activeBank with
  | 0, some (_, b) => s.respond w .ok (s.image b.role b.sto b.vals loc)
  | 0, none => s.respond w .state []
  | _, _ => s.respond w .ok (s.image s.ident.role s.ident.sto s.future loc)

/-- R240: IMAGE_EXPORT returns a FULL Vanger image of the saved or committed configuration. -/
def execImageExport (rq : Request) (s : State) : Host.Outcome State Fault Refusal :=
  .next (s.serve 0x16 rq anyBody State.cmdImageExport)

/-- The place in an image of the entry that a failed COMMIT names, 0xFFFF where it names none (R239). -/
def indexIn (l : List (Nat × Nat × Nat)) (d : List Byte) : Nat := ((l.map fun e => e.1).idxOf? (fieldAt d 0 2)).getD 0xFFFF

/-- IMAGE_IMPORT (R239): the image is checked, staged at one instant and, with APPLY 1 and 2, committed and saved; any
failure stages nothing. -/
def State.cmdImageImport (s : State) (w : Waiting) : State :=
  let apply := fieldAt w.body 0 1
  let img := w.body.drop 1
  let l := (parseImage img).getD []
  let known := l.filter fun e => (findDesc e.1).isSome
  let no := fun (st : Status) (i : Nat) => s.respond w st (toLe 2 i)
  match s.imageFault w.priv img with
  | some (st, i) => no st i
  | none =>
    if apply ≠ 0 ∧ s.config.staged.isEmpty = false then no .state 0xFFFF
    else match overflowAt (s.config.staged.map fun e => e.1) 0 l with
    | some i => no .state i
    | none =>
      let s1 := s.stage (s.imageVals (fieldAt img 5 1) l)
      if apply = 0 then s1.respond w .ok (toLe 2 known.length ++ toLe 2 s1.config.maqGen)
      else match s1.commitFault w.priv 0 with
      | some (st, d) => no st (indexIn l d)
      | none =>
        let s2 := s1.armCommit (some (w.rq.via, w.rq.seq.toNat))
        if apply = 1 then s2.respond w .ok (toLe 2 known.length ++ toLe 2 s2.config.maqGen)
        else if s.genFull && !s2.sameDigest s2.snapshot then no .state 0xFFFF
        else s2.saveStart w (!s1.config.staged.isEmpty) (some known.length)

/-- R239: IMAGE_IMPORT checks a Vanger image and stages, commits or saves it. -/
def execImageImport (rq : Request) (s : State) : Host.Outcome State Fault Refusal :=
  .next (s.serve 0x17 rq anyBody State.cmdImageImport)

end Sys2Proof.Machine
end

