-- ==== Sys2Proof/Machine/CmdKeys.lean ====
section
/-! DEFINITION. The meanings of the opcodes on keys, attestation, firmware banks, resets, the shelf and decommissioning
(R194, R218 to R220, R426, R430, R431, R433, R434, R437, R438, R489, R492). -/

namespace Sys2Proof.Machine

/-! ### Key slots -/

/-- The block B of R194: SEQ, the index of the key field, zeros. -/
def keyMask (seq index : Nat) : List Byte := toLe 2 seq ++ toLe 1 index ++ List.replicate 13 0

/-- The key of a key field (R194), opened under K_ENC of the request's session; none without one. A request that a Tableau's
lead forwards has none at the member: key material is never sent (DEDUCED, log 60). -/
def State.openKey (s : State) (w : Waiting) (index : Nat) (c : List Byte) : Option (List Byte) :=
  match w.sid, (s.port w.rq.via).est with
    | some i, some x =>
      if x.sid = i then some (xorBytes (aes128Inv x.kEnc c) (keyMask w.rq.seq.toNat index)) else none
    | _, _ => none

/-- KCV (R430): the first 3 bytes of AES-128 of sixteen zero bytes under the key. -/
def kcvOf (key : List Byte) : List Byte := (aes128 key (List.replicate 16 0)).take 3

/-- KEY_WRITE with its key opened (R430): KCV and slot are checked, then the write waits for its reservation, or under
field-only limits for the surplus of R426. -/
def State.keyWriteOpen (s : State) (w : Waiting) (role slot : Nat) (key kcv : List Byte) : State :=
  if kcvOf key ≠ kcv then s.respond w .badParam []
  else if slotCount role ≤ slot then s.respond w .range []
  else if s.fieldLimits w.rq.via then s.begin_ w false .surplus (.keyWrite role slot key false false)
  else s.reserveOp w .keyCommit (15 * mj) (.keyWrite role slot key true false)

/-- KEY_WRITE (R430). -/
def State.cmdKeyWrite (s : State) (w : Waiting) : State :=
  match s.openKey w 2 ((w.body.drop 2).take 16) with
  | some key => s.keyWriteOpen w (fieldAt w.body 0 1) (fieldAt w.body 1 1) key (w.body.drop 18)
  | none => s.respond w .badParam []

/-- R430: KEY_WRITE checks the KCV and writes a key slot into both store copies in turn. -/
def execKeyWrite (rq : Request) (s : State) : Host.Outcome State Fault Refusal :=
  .next (s.serve 0x50 rq anyBody State.cmdKeyWrite)

/-- The older copy of the key store: the one not in use. -/
def Sec.older (x : Sec) : KeyCopy := if x.copyA.count < x.copyB.count then x.copyA else x.copyB

/-- Whether a copy holds no OWNER key. -/
def KeyCopy.unowned (k : KeyCopy) : Bool := (k.slots.toList.getD 0 none).isNone && (k.slots.toList.getD 1 none).isNone

/-- The end of the first write of R430: the copy is read back and the other one follows. -/
def State.keyFirst (s : State) (o : Op) (role slot : Nat) (key : List Byte) (funded : Bool) : State :=
  ({ s with sec := s.sec.writeOlder role slot (some key) }).onOp o fun x =>
    { x with kind := .keyWrite role slot key funded true }

/-- Releases the reservation of a key write that holds one. -/
def State.keyRelease (s : State) (funded : Bool) : State := if funded then s.releaseOf .keyCommit (15 * mj) else s

/-- The end of the second write (R430, R431, R433): both copies agree; CLAIMED for the first OWNER key, KEY_CHANGE, the
reply, and then the end of the sessions that rested on the slot or on the claim. -/
def State.keySecond (s : State) (o : Op) (role slot : Nat) (funded : Bool) : State :=
  let claims := role == 1 && s.sec.older.unowned
  let s1 := ({ s with sec := s.sec.level }).keyRelease funded
  let s2 := if claims then s1.raisePinP Ev.claimed 0 0 else s1
  let s3 := ((s2.raiseP Ev.keyChange 0 (role * 16 + slot)).finish o .ok []).keyChanged role slot
  if claims then s3.claimsEnd else s3

/-- One of the two writes of a key ends (R430). A first copy that fails its readback leaves the store as it was; the key
stands in the first copy whatever the second reads (log 61). -/
def State.keyDone (s : State) (o : Op) (role slot : Nat) (key : List Byte) (funded second ok : Bool) : State :=
  if second then s.keySecond o role slot funded
  else if ok then s.keyFirst o role slot key funded
  else (s.keyRelease funded).finish o .internal []

/-- KEY_ERASE (R431): NOKEY for an empty slot, STATE for the last filled OWNER slot; the erase waits for KEY_COMMIT (R113). -/
def State.cmdKeyErase (s : State) (w : Waiting) : State :=
  let role := fieldAt w.body 0 1
  let slot := fieldAt w.body 1 1
  if (s.key? role slot).isNone then s.respond w .noKey []
  else if role = 1 ∧ (s.key? 1 (1 - slot)).isNone = true then s.respond w .state []
  else s.reserveOp w .keyCommit (15 * mj) (.keyErase role slot)

/-- R431: KEY_ERASE empties a key slot that is not the last filled OWNER slot. -/
def execKeyErase (rq : Request) (s : State) : Host.Outcome State Fault Refusal :=
  .next (s.serve 0x51 rq anyBody State.cmdKeyErase)

/-! ### Attestation -/

/-- FW_DIGEST8 (R435): of the active bank. -/
def State.fw8 (s : State) : List Byte := s.sec.active.digest.take 8

/-- ATTEST (R219, R434); the number that ECDSA draws for the signature is a free value (log 8). -/
def State.cmdAttest (s : State) (w : Waiting) : State :=
  let said := s.ident.uid ++ s.fw8 ++ s.cfg8 ++ toLe 4 s.stamp
  let d := sha256 (w.body ++ said)
  let k := Sys2Proof.Config.signNonce s.free % (p256N - 1) + 1
  s.draw.respond w .ok (said ++ p256Sign s.ident.attKey k d)

/-- R434: ATTEST signs the challenge, UID, digests and time under the attestation key. -/
def execAttest (rq : Request) (s : State) : Host.Outcome State Fault Refusal :=
  .next (s.serve 0x52 rq anyBody State.cmdAttest)

/-! ### Firmware transfer -/

/-- The erase share of FW_BLOCK (Table 4.5): 30 mJ per 64 KiB of SIZE, rounded up. -/
def eraseShare (size : Nat) : Nat := 30 * ((size + 65535) / 65536) * mj

/-- FW_BEGIN (R437). -/
def State.cmdFwBegin (s : State) (w : Waiting) : State :=
  let size := fieldAt w.body 0 4
  if fwBankSize < size ∨ size < 192 then s.respond w .range []
  else if s.sec.trial then s.respond w .state []
  else s.reserveOp w .fwBlock (eraseShare size) (.fwBegin size (fieldAt w.body 4 4))

/-- R437: FW_BEGIN erases the inactive firmware bank and opens a transfer. -/
def execFwBegin (rq : Request) (s : State) : Host.Outcome State Fault Refusal :=
  .next (s.serve 0x53 rq anyBody State.cmdFwBegin)

/-- The number of the inactive bank: 1 A, 2 B. -/
def Sec.inactiveNo (x : Sec) : Nat := if x.fwActiveB then 1 else 2

/-- The erase of FW_BEGIN ends (R437): the transfer is open. -/
def State.fwBegun (s : State) (o : Op) (size version : Nat) (ok : Bool) : State :=
  let s1 := s.releaseOf .fwBlock (eraseShare size)
  if ok then
    let s2 : State := { s1 with sec :=
      { s1.sec.onInactive (fun _ => { size := size, version := version, data := [], factory := false }) with
        fwOpen := true } }
    s2.finish o .ok (toLe 1 s2.sec.inactiveNo)
  else s1.finish o .internal []

/-- Whether the block that completes bytes 0 to 63 fails what R437 checks of them. -/
def State.headerFails (s : State) (data : List Byte) : Bool :=
  let b := s.sec.inactive
  let all := b.data ++ data
  decide (b.data.length < 64 ∧ 64 ≤ all.length) && (!s.headerOk (all.take 64) || fieldAt all 8 4 != b.version)

/-- FW_BLOCK (R437). -/
def State.cmdFwBlock (s : State) (w : Waiting) : State :=
  let off := fieldAt w.body 0 4
  let data := w.body.drop 4
  let b := s.sec.inactive
  if s.sec.fwOpen = false then s.respond w .state []
  else if off ≠ b.data.length ∨ b.size < off + data.length then s.respond w .range []
  else if s.headerFails data then
    { s with sec := { s.sec.onInactive (fun _ => FwBank.empty) with fwOpen := false } }.respond w .range []
  else s.reserveOp w .fwBlock mj (.fwBlock off data)

/-- R437: FW_BLOCK programs DATA at NEXT_OFFSET of the inactive bank. -/
def execFwBlock (rq : Request) (s : State) : Host.Outcome State Fault Refusal :=
  .next (s.serve 0x54 rq anyBody State.cmdFwBlock)

/-- The last page of a block is programmed (R437); a program that fails leaves NEXT_OFFSET where it was. -/
def State.fwBlockDone (s : State) (o : Op) (off : Nat) (data : List Byte) (ok : Bool) : State :=
  let s1 := s.releaseOf .fwBlock mj
  if !ok then s1.finish o .internal []
  else if off ≠ s1.sec.inactive.data.length then s1.finish o .range []
  else
    let s2 : State := { s1 with sec := s1.sec.onInactive fun b => { b with data := b.data ++ data } }
    s2.finish o .ok (toLe 4 (off + data.length))

/-- Whether a bank holds SIZE bytes (R438). -/
def FwBank.complete (b : FwBank) : Bool := b.factory || decide (0 < b.size ∧ b.data.length = b.size)

/-- COMPAT of a bank (Table 14.7). -/
def FwBank.compat (b : FwBank) : Nat := if b.factory then ownCompat else fieldAt b.data 12 2

/-- FW_ACTIVATE (R438): the boot selector is written, the new bank is in trial, and a reset is owed. -/
def State.cmdFwActivate (s : State) (w : Waiting) : State :=
  let b := s.sec.inactive
  if b.complete = false ∨ s.unsaved = true ∨ s.sec.trial = true then s.respond w .state []
  else if s.acceptable b = false ∨ (b.compat / 256 ≠ ownCompat / 256 ∧ s.activeBank.isSome = true) then
    s.respond w .badParam []
  else
    let s1 : State := { s with
      sec := { s.sec with fwActiveB := !s.sec.fwActiveB, trial := true, trialMs := 0, fwOpen := false }
      camyx := { s.camyx with resetOwed := some w.rq.via } }
    (s1.raiseC Ev.fwTrial 0 0).respond w .ok (toLe 4 b.ver)

/-- R438: FW_ACTIVATE writes the boot selector and puts the new bank in trial. -/
def execFwActivate (rq : Request) (s : State) : Host.Outcome State Fault Refusal :=
  .next (s.serve 0x55 rq anyBody State.cmdFwActivate)

/-! ### Debug unlock and reset -/

/-- DEBUG_UNLOCK: the debug port is open for MINUTES. -/
def State.cmdDebugUnlock (s : State) (w : Waiting) : State :=
  { s with camyx := { s.camyx with debugMin := fieldAt w.body 0 1 } }.respond w .ok []

/-- R210: DEBUG_UNLOCK opens the debug port for MINUTES. -/
def execDebugUnlock (rq : Request) (s : State) : Host.Outcome State Fault Refusal :=
  .next (s.serve 0x56 rq anyBody State.cmdDebugUnlock)

/-- R220: the debug unlock lapses. -/
def execDebugUnlockLapse (s : State) : Host.Outcome State Fault Refusal :=
  .next { s with camyx := { s.camyx with debugMin := 0 } }

/-- RESET (R218): the reply, and then a reset is owed on its transport. -/
def State.cmdReset (s : State) (w : Waiting) : State :=
  { s.respond w .ok [] with camyx := { (s.respond w .ok []).camyx with resetOwed := some w.rq.via } }

/-- R218: RESET sends its reply and then owes a sequencer reset with cause CMD. -/
def execReset (rq : Request) (s : State) : Host.Outcome State Fault Refusal :=
  .next (s.serve 0x60 rq anyBody State.cmdReset)

/-- Whether an owed reset waits: its reply has not been read yet, unless its transport is the line; a shutdown has yet to
complete step 5; a FW_ACTIVATE caught by a shutdown waits for the restart's pickups (R218, R477). -/
def State.resetWaits (s : State) (t : Transport) : Bool :=
  let replied := t == .line || (s.port t).replies.isEmpty
  let shutting := match s.life.st with
    | .shut1 => true
    | .shut2 => true
    | .shut3 => true
    | .shut4 => true
    | .shut5 => true
    | _ => false
  !replied || shutting || (s.camyx.resetHeld && (s.life.st == .down || s.inPickup))

/-- R218: the commanded sequencer reset takes place once its reply has been sent. -/
def execResetExecute (s : State) : Host.Outcome State Fault Refusal :=
  .next (match s.camyx.resetOwed with
    | some t => if s.resetWaits t then s else s.seqReset 7
    | none => s)

/-! ### Shelf and decommissioning -/

/-- SHELF (R489): accepted while BAK is qualified; it stays pending, an operation in hand that ABORT may still end. -/
def State.cmdShelf (s : State) (w : Waiting) : State :=
  if s.power.bakQ = false then s.respond w .state []
  else if s.life.shelfPend then s.respond w .ok []
  else
    let decom := s.life.st == .decommissioning
    let s1 : State := { s with life :=
      { s.life with
        prev := if decom then s.life.prev else s.life.st
        st := if decom then .decommissioning else .shelfPending, shelfPend := true } }
    (s1.begin_ w false .tick .shelf).respond w .ok []

/-- R489: SHELF with CONFIRM SHLF is accepted and leaves shelf entry pending. -/
def execShelf (rq : Request) (s : State) : Host.Outcome State Fault Refusal :=
  .next (s.serve 0x61 rq anyBody State.cmdShelf)

/-- DECOMMISSION (R492): it waits for its reservations, and its marker follows them. -/
def State.cmdDecommission (s : State) (w : Waiting) : State :=
  if s.life.st = .decommissioning then s.respond w .state []
  else s.reserveOp w .configSave (25 * mj) .decommission

/-- R492: DECOMMISSION takes its reservations and writes the decommission marker. -/
def execDecommission (rq : Request) (s : State) : Host.Outcome State Fault Refusal :=
  .next (s.serve 0x62 rq anyBody State.cmdDecommission)

end Sys2Proof.Machine
end

