-- ==== Sys2Proof/Machine/OpRows.lean ====
section
/-! DEFINITION. The events that carry operations in hand to their end: NVM writes (R147), waits for energy (R113, R115), the
field surplus (R426), the stagger (R247), the firmware trial (R439), with the NFC session's reservation (R425), UART0's
rate (R176) and blocking times (R148). -/

namespace Sys2Proof.Machine

/-! ### NVM -/

/-- The NVM write of an operation ends (R147): it goes on to its readback and its reply. -/
def State.nvmDone (s : State) (o : Op) (ok : Bool) : State :=
  match o.kind with
  | .save image applied snap => s.saveDone o image applied snap ok
  | .keyWrite role slot key funded second => s.keyDone o role slot key funded second ok
  | .fwBegin size version => s.fwBegun o size version ok
  | .fwBlock off data => s.fwBlockDone o off data ok
  | _ => s

/-- R147: the queued program or erase at the front finishes; `ok` says that its readback passes. -/
def execNvmProgramEraseComplete (ok : Bool) (s : State) : Host.Outcome State Fault Refusal :=
  .next (match s.camyx.ops.find? fun o => o.wait == .nvm with
    | some o => (s.nvmDone o ok).taskEnd 6
    | none => s)

/-- R426: the check of the field surplus every 10 ms, with what the limiter measures; `expired` says that the 2 s of the
wait are over. -/
def execKeyCommitSurplusCheck (uw rectMv : Nat) (expired : Bool) (s : State) : Host.Outcome State Fault Refusal :=
  let s1 : State := { s with power := { s.power with fieldUw := min uw 65535, fieldMv := rectMv } }
  .next (match s1.camyx.ops.find? fun o => o.wait == .surplus with
    | some o =>
      if s1.isOn P.secFieldKeys && decide (3000 ≤ uw ∧ 2500 ≤ rectMv) then s1.startOp o
      else if expired then (s1.finish o .energy []).raiseP Ev.fieldLow 1 0
      else s1
    | none => s1)

/-! ### Stagger and rate -/

/-- R247: the next channel of a turn-on switches; the reply follows the last. Under a reset, and until Roeno runs again, the
queue stands (R29, Table 7.4). -/
def execOnStaggerExpiry (s : State) : Host.Outcome State Fault Refusal :=
  .next (if s.seqRuns then s.staggerNext.settle else s)

/-- Whether the reply to the COMMIT that applied a new SYS_U0_BAUD has still to be sent on its transport (R176). -/
def State.baudWaits (s : State) : Bool :=
  let commits := fun opc : Nat => opc == 0x12 || opc == 0x14 || opc == 0x17
  match s.config.baudBy with
  | none => false
  | some (t, q) =>
    (s.port t).replies.any (fun r => commits r.opc && r.seq == q) ||
      s.camyx.ops.any (fun o => o.via == t && commits o.opc && o.seq == q) ||
      match t with
      | .uart => s.camyx.u0TxMs != 0
      | .gateway => s.camyx.u0TxMs != 0
      | .nfc => s.nfc.txMs != 0
      | .line => s.line.tx.isSome
      | .link => !s.tab.bulkOut.isEmpty
      | _ => false

/-- R176: a new SYS_U0_BAUD takes effect once the reply to its COMMIT has been sent. -/
def execU0BaudChange (s : State) : Host.Outcome State Fault Refusal :=
  .next (match s.config.baudNext with
    | some b => if s.baudWaits then s else { s with config := { s.config with baud := b, baudNext := none, baudBy := none } }
    | none => s)

/-! ### The firmware trial -/

/-- The signing keys that a confirmed image revokes (R439): with REVOKE_LOWER, every key with an index below KEY_ID. -/
def FwBank.revokes (b : FwBank) : Nat :=
  let flags := if b.factory then Sys2Proof.Config.factoryFlags else fieldAt b.data 6 2
  let key := if b.factory then Sys2Proof.Config.factoryKeyId else fieldAt b.data 5 1
  if bitAt flags 0 then maskOf 4 fun k => decide (k < key) else 0

/-- ROLLBACK of a bank (Table 14.7). -/
def FwBank.rollback (b : FwBank) : Nat := if b.factory then Sys2Proof.Config.factoryRollback else fieldAt b.data 16 4

/-- The bank in trial is confirmed (R439). -/
def State.confirm (s : State) : State :=
  let b := s.sec.active
  let s1 : State := { s with
    sec := { s.sec with
      trial := false, trialMs := 0, fallbackRan := false, revoked := s.sec.revoked ||| BitVec.ofNat 4 b.revokes }
    ctr := { s.ctr with fwRollback := max s.ctr.fwRollback (b.rollback % 2 ^ 32) } }
  (s1.clearE Ev.fwTrial).raiseP Ev.fwConfirmed 0 0

/-- R439: a bank in trial has run SEC_FW_TRIAL_S of uptime in DOZE or RUN. -/
def execFwTrialConfirm (s : State) : Host.Outcome State Fault Refusal :=
  .next (if s.sec.trial && s.seqRuns && decide (s.param P.secFwTrialS * 1000 ≤ s.sec.trialMs) then s.confirm else s)

/-! ### Sessions, blocking, debug -/

/-- Gives the NFC_SESSION reservation back. -/
def State.nfcRelease (s : State) : State :=
  if s.nfc.sessionRes then
    { s.release .nfcSession with nfc := { s.nfc with sessionRes := false } }
  else s

/-- R425: the NFC_SESSION reservation is renewed every 10 s of a session on STO; where it is not granted, field-only limits
apply from that moment. -/
def execNfcSessionRenewal (s : State) : Host.Outcome State Fault Refusal :=
  .next (if (s.port .nfc).est.isSome && s.power.path == .onSto then s.nfcRelease.nfcReserve else s)

/-- R148: a task of level P1 to P6 has been blocked beyond its bound; the longest blocking is kept and the task goes
on. -/
def execBlockOverrun (level : Fin 6) (us : Nat) (s : State) : Host.Outcome State Fault Refusal :=
  .next (if !s.seqRuns then s
    else
      ({ s with plinth := { s.plinth with
          blockMax := upd s.plinth.blockMax level.val fun m => max m (min us 0xFFFFFFFF) } }).raiseP Ev.blockOverrun 0
        (level.val + 1))

end Sys2Proof.Machine
end

