-- ==== Sys2Proof/Machine/Ports.lean ====
section
/-! DEFINITION. The meanings of the transport commands (Chapter 6): host ports, gateway and bridge, parts, the NFC carriage
of Camyx, and the ends of sessions by time. -/

namespace Sys2Proof.Machine

/-! ### Frames in a byte stream -/

/-- What a stream holds from a sync byte on: a packet from LEN through MAC, a frame that R160 discards, or the start of
one that is not complete. -/
inductive Found
  | packet (p : List Byte)
  | bad
  | cut
deriving DecidableEq, Repr

/-- Hunts for frames behind a sync byte (R160, R173): a LEN outside its limits starts the hunt again, a failed CRC discards
the frame. -/
def hunt : Nat → List Byte → List Found
  | 0, _ => []
  | _, [] => []
  | fuel + 1, b :: rest =>
    let n := fieldAt rest 0 2
    if b ≠ 0xA7#8 then hunt fuel rest
    else if rest.length < 2 then [.cut]
    else if n < 4 || 1036 < n then .bad :: hunt fuel rest
    else if rest.length < n + 4 then [.cut]
    else
      let p := rest.take (n + 2)
      if !packetOk p then .bad :: hunt fuel rest
      else if (crc16 p).toNat ≠ fieldAt rest (n + 2) 2 then .bad :: hunt fuel (rest.drop (n + 4))
      else .packet p :: hunt fuel (rest.drop (n + 4))

/-- Takes what a transaction or a stream holds, in order: packets join their port; bad frames are counted; a frame cut
short raises FRAME_ERROR where the transaction has ended (R168, R170). -/
def State.takeFound (s : State) (t : Transport) (ended : Bool) (l : List Found) : State :=
  l.foldl
    (fun (s : State) f =>
      match f with
      | .packet p => s.receive (opcOf p) (requestOf t 0 0 p)
      | .bad => s.frameError
      | .cut => if ended then s.raiseP Ev.frameError 0 0 else s) s

/-- What a transaction holds up to its one packet (R167, R170). -/
def untilPacket : List Found → List Found
  | [] => []
  | .packet p :: _ => [.packet p]
  | f :: l => f :: untilPacket l

/-- A write transaction on SPI or I²C (R167, R168, R170, R183). -/
def State.portWrite (s : State) (t : Transport) (bytes : List Byte) : State :=
  if !s.rxFree t then s.raiseP Ev.queueFull 0 0
  else
    let l := untilPacket (hunt bytes.length bytes)
    s.takeFound t true (if l.isEmpty then [.cut] else l)

/-- PORT_STAT (Table 6.3). -/
def State.portStat (s : State) (t : Transport) : Nat :=
  let p := s.port t
  0x40 + flag p.est.isSome 3 + flag (!s.events.fifo.isEmpty) 2 + flag (s.rxFree t) 1 + flag (!p.replies.isEmpty) 0

/-- Removes the oldest packet of a port's replies, or takes the reply `r` to its next part; what FIFO entries it carried are
handed over. -/
def State.consume (s : State) (t : Transport) (r : Reply) (rest : Option Reply) : State :=
  let s1 := (s.onPort t fun p =>
    { p with replies := match rest with
        | some r' => r' :: p.replies.drop 1
        | none => p.replies.drop 1 }).handOver (r.gone rest)
  if (s1.port t).replies.isEmpty then s1.clearD Ev.replyReady (transportCode t) else s1

/-- A read of `n` bytes after PORT_STAT (R167, R168, R171): the oldest unread reply in its frame, then 0xFF. The reply is
consumed when its last CRC byte has been clocked out. -/
def State.portRead (s : State) (t : Transport) (n : Nat) : State :=
  let stat := toLe 1 (s.portStat t)
  match (s.port t).replies with
  | r :: _ =>
    let x := r.take (paramLimit t)
    let f := frameLocal x.1
    let s1 := s.onPort t fun p =>
      { p with out := stat ++ (f ++ List.replicate (n - f.length) 0xFF#8).take n }
    if f.length ≤ n then s1.consume t r x.2 else s1
  | [] => s.onPort t fun p => { p with out := stat ++ List.replicate n 0xFF#8 }

/-! ### SPI and I²C -/

/-- R167, R168, R183: a write transaction on SPI, the bytes after its header. A write while RX_FREE is 0 is discarded. -/
def execSpiWriteTransaction (bytes : List Byte) (s : State) : Host.Outcome State Fault Refusal :=
  .next (if s.portLive .spi then
      (s.onPort .spi fun p => { p with out := toLe 1 (s.portStat .spi) ++ List.replicate bytes.length 0 }).portWrite
        .spi bytes
    else s)

/-- R167 to R169: a read transaction on SPI. -/
def execSpiReadTransaction (n : Nat) (s : State) : Host.Outcome State Fault Refusal :=
  .next (if s.portLive .spi then s.portRead .spi n else s)

/-- R167: a transaction with any other header is void and shifts out 0xFF after PORT_STAT. -/
def execSpiVoidTransaction (header : Byte) (n : Nat) (s : State) : Host.Outcome State Fault Refusal :=
  .next (if s.portLive .spi && header != 0x5A#8 && header != 0xA5#8 then
      s.onPort .spi fun p => { p with out := toLe 1 (s.portStat .spi) ++ List.replicate n 0xFF#8 }
    else s)

/-- R38, R170, R183: an I²C write to the target's address; while RX_FREE is 0 the address is not acknowledged. -/
def execI2cWriteTransaction (addr : BitVec 7) (bytes : List Byte) (s : State) : Host.Outcome State Fault Refusal :=
  .next (if s.portLive .i2c && addr.toNat == s.ident.i2cAddr then s.portWrite .i2c bytes else s)

/-- R38, R171: an I²C read from the target's address. -/
def execI2cReadTransaction (addr : BitVec 7) (n : Nat) (s : State) : Host.Outcome State Fault Refusal :=
  .next (if s.portLive .i2c && addr.toNat == s.ident.i2cAddr then s.portRead .i2c n else s)

/-! ### UART0 -/

/-- Which transport UART0 is in the role in effect (R9). -/
def State.uartAs (s : State) : Transport := if s.ident.role = .head then .gateway else .uart

/-- The start bit of a byte wakes the device out of DOZE (R174, Table 5.6): the state that receives, and how many bytes are lost,
those that begin within 50 µs; none where the wake is not enabled. -/
def State.uartWake (s : State) : Option (State × Nat) :=
  if s.plinth.mode ≠ .doze then some (s, 0)
  else if bitAt (s.param P.sysWakeEn) 4 then some (s.toRun, (50 * s.config.baud + 9999999) / 10000000)
  else none

/-- R173, R174, R177: bytes of the UART0 stream that complete a packet for this device. -/
def execUartPacketReceived (bytes : List Byte) (s : State) : Host.Outcome State Fault Refusal :=
  .next (if !s.portLive s.uartAs then s
    else match s.uartWake with
      | some (s1, n) => s1.takeFound s1.uartAs false (hunt bytes.length (bytes.drop n))
      | none => s)

/-- R173: a gap inside a packet discards it. -/
def execUartGapTimeout (s : State) : Host.Outcome State Fault Refusal :=
  .next (if s.portLive s.uartAs then s.raiseP Ev.frameError 0 0 else s)

/-- UART0 transmits a frame (R175): U0DE is high from one bit time before it to one after it, rounded up to ticks. -/
def State.uartSend (s : State) (t : Transport) (f : List Byte) : State :=
  let s1 := s.onPort t fun p => { p with out := f }
  { s1 with camyx := { s1.camyx with
      u0TxMs := ((10 * f.length + 2) * 1000 + s.config.baud - 1) / max s.config.baud 1 } }

/-- R164, R175: UART0 sends the oldest packet that waits: a reply part, else a frame of the bridge or a NOTIFY. -/
def execUartReplyTransmit (s : State) : Host.Outcome State Fault Refusal :=
  let t := s.uartAs
  .next (if !s.portLive t || s.camyx.u0TxMs != 0 then s
    else match (s.port t).replies, s.camyx.gwOut with
      | r :: _, _ =>
        let x := r.take (paramLimit t)
        (s.uartSend t (frameLocal x.1)).consume t r x.2
      | [], f :: l => { s with camyx := { s.camyx with gwOut := l } }.uartSend t f
      | [], [] => s)

/-! ### The bridge -/

/-- The HEAD's own answer to a bridge frame (R178): unauthenticated, SEQ and OPC echoed, in a bridge frame of the address
asked for; BRIDGE_DROP. -/
def State.bridgeRefuse (s : State) (addr : Nat) (pkt : List Byte) (st : Status) : State :=
  let f := frameBridge addr (packetBody 1 (fieldAt pkt 3 2) (fieldAt pkt 5 1) (toLe 1 st.code) 0)
  (if 251 ≤ addr then s else s.toGateway f).raiseP Ev.bridgeDrop 0 0

/-- The slots that a bridged packet and a reply of the node's line size limit take (R354, R371). -/
def State.bridgeSlots (s : State) (n : Node) (len : Nat) : Nat :=
  let k := s.laneCount
  slotsOf n.mode k (17 + len) + slotsOf n.mode k (14 + lineLimit n.mode k)

/-- The line time of the packets in the bridge, in slots. -/
def State.bridgeLoad (s : State) : Nat :=
  s.camyx.bridge.foldl
    (fun a b => a + match s.node? b.addr with
      | some n => s.bridgeSlots n b.pkt.length
      | none => 0) 0

/-- Whether the bridge queue of Table 6.6 is full for an address: 16 packets in all, 2 per destination. -/
def State.bridgeFull (s : State) (addr : Nat) : Bool :=
  let held := (s.camyx.bridge.map fun b => b.addr) ++
    (s.line.castQ.filter fun c => c.bridged).map fun c => c.addr
  decide (16 ≤ held.length) || decide (2 ≤ (held.filter fun a => a == addr).length)

/-- A bridged packet at the HEAD (R178, R179, R183, R366, R369, R371). -/
def State.bridgeIn (s : State) (addr : Nat) (pkt : List Byte) : State :=
  let full := (s.raiseP Ev.queueFull 0 0).bridgeRefuse addr pkt .busy
  if s.line.stoodDown then s.bridgeRefuse addr pkt .noRoute
  else if 251 ≤ addr then
    if 270 < pkt.length then s.bridgeRefuse addr pkt .size
    else if s.bridgeFull addr then full
    else
      { s with line := { s.line with castQ := s.line.castQ ++
          [newCast addr 1 pkt (s.param P.lineBcastRepeat) true] } }
  else match s.node? addr with
    | none => s.bridgeRefuse addr pkt .noRoute
    | some n =>
      if 270 < pkt.length then s.bridgeRefuse addr pkt .size
      else if s.bridgeFull addr then full
      else if lineLimit n.mode s.laneCount < pkt.length ∨ 150 < s.bridgeLoad + s.bridgeSlots n pkt.length then
        s.bridgeRefuse addr pkt .busy
      else
        { s with camyx := { s.camyx with
            bridge := s.camyx.bridge ++ [{ addr := addr, pkt := pkt, sent := false }] } }

/-- R177, R178: a bridge frame at a HEAD; ADDR 0 is the HEAD itself. In DOZE its first byte is lost, which only wakes
(R174). -/
def execBridgeFrame (bytes : List Byte) (s : State) : Host.Outcome State Fault Refusal :=
  let addr := fieldAt bytes 1 1
  let n := fieldAt bytes 2 2
  let pkt := (bytes.drop 2).take (n + 2)
  let ok := fieldAt bytes 0 1 == 0xAB && bytes.length == n + 6 && packetOk pkt &&
    (crc16 ((bytes.drop 1).take (n + 3))).toNat == fieldAt bytes (n + 4) 2
  .next (if !s.portLive .gateway then s
    else if s.plinth.mode = .doze then (if bitAt (s.param P.sysWakeEn) 4 then s.toRun else s)
    else if !ok then s.frameError
    else if addr = 0 then s.receive (opcOf pkt) (requestOf .gateway 0 0 pkt)
    else s.bridgeIn addr pkt)

/-- R178: no reply has come within the bound; the HEAD answers TIMEOUT. A later reply is still passed on. -/
def execBridgeReplyTimeout (addr seq : Nat) (s : State) : Host.Outcome State Fault Refusal :=
  .next (match s.camyx.bridge.find? fun b => b.addr == addr && fieldAt b.pkt 3 2 == seq with
    | some b =>
      { s with camyx := { s.camyx with bridge := s.camyx.bridge.erase b } }.bridgeRefuse addr b.pkt .timeout
    | none => s)

/-! ### Parts and NFC -/

/-- R163: a part of a request with MORE set; the part is stored and acknowledged with OK and MORE. -/
def execPacketPart (opc : Byte) (rq : Request) (s : State) : Host.Outcome State Fault Refusal :=
  .next (if rq.more && s.portLive rq.via then s.receive opc.toNat rq else s)

/-- The status words of an APDU without data. -/
def State.apduSw (s : State) (hi lo : Byte) : State := { s with nfc := { s.nfc with out := [hi, lo] } }

/-- A Camyx command APDU (Table 6.5), one at a time (Table 6.6): CLA, INS, selection and length in this order; an APDU that
holds no packet is answered 0x6700. -/
def State.apdu (s : State) (b : List Byte) : State :=
  let lc := ofBe ((b.drop 5).take 2)
  let pkt := (b.drop 7).take lc
  let lenOk := fieldAt b 4 1 == 0 && b.length == lc + 9 && pkt.length == lc && packetOk pkt
  if fieldAt b 0 1 ≠ 0x80 then s.apduSw 0x6E 0x00
  else if fieldAt b 1 1 ≠ 0xCA then s.apduSw 0x6D 0x00
  else if s.nfc.app ≠ .camyx then s.apduSw 0x69 0x85
  else if !lenOk then s.apduSw 0x67 0x00
  else
    { s with nfc := { s.nfc with out := [] }, camyx := { s.camyx with apdu := true } }.receive (opcOf pkt)
      (requestOf .nfc 0 0 pkt)

/-- S(WTX) with WTXM 25 (R182, R421). -/
def State.sendWtx (s : State) : State := { s with nfc := { s.nfc with out := [0xF2#8, 25#8] } }

/-- R181, R421: a command APDU arrives. Until Roeno is ready it is held, and answered with S(WTX). -/
def execCamyxApdu (bytes : List Byte) (s : State) : Host.Outcome State Fault Refusal :=
  .next (if s.nfc.st ≠ .isoDep || s.camyx.apdu then s
    else if s.portLive .nfc then s.apdu bytes
    else { s with nfc := { s.nfc with held := some bytes } }.sendWtx)

/-- R182, R421: the reply is not ready within the frame waiting time. -/
def execSWtx (s : State) : Host.Outcome State Fault Refusal :=
  .next (if s.nfc.st == .isoDep && (s.camyx.apdu || s.nfc.held.isSome) then s.sendWtx else s)

/-! ### Sessions -/

/-- R190: a pending session lapses 10 s after it was opened. -/
def execSessionPendingLapse (t : Transport) (s : State) : Host.Outcome State Fault Refusal :=
  let due := (s.port t).pend.any fun x => decide (10000 ≤ since s.plinth.upMs x.verifiedAt)
  let s1 := s.onPort t fun p => { p with pend := none }
  .next (if !due then s else if t = .nfc ∧ (s.port .nfc).est.isNone = true ∧ s.nfc.sessionRes = true then
      { s1.release .nfcSession with nfc := { s1.nfc with sessionRes := false, fieldOnly := false } }
    else s1)

/-- R197, R209: a session has had no verified request for SYS_SESS_IDLE_S, as that stood at its last one. -/
def execSessionIdleExpiry (t : Transport) (s : State) : Host.Outcome State Fault Refusal :=
  .next (if (s.port t).est.any fun x => decide (1000 * x.idleS ≤ since s.plinth.upMs x.verifiedAt) then s.endSession t 2
    else s)

end Sys2Proof.Machine
end

