-- ==== Sys2Proof/Machine/Nfc.lean ====
section
/-! DEFINITION. The meanings of the NFC commands (Chapter 14): activation (R419, R420), the two applications (R422), the
capability container and the pairing record (R423, R424), and the loss of the field (R427). -/

namespace Sys2Proof.Machine

/-! ### Activation -/

/-- Puts bytes on the carrier. -/
def State.nfcOut (s : State) (b : List Byte) : State := { s with nfc := { s.nfc with out := b } }

/-- NFC_PROTO_ERR; without a Plinth supply there is nothing to raise it in. -/
def State.protoErr (s : State) : State := if s.plinthOn then s.raiseP Ev.nfcProtoErr 0 0 else s

/-- NFCID1 of a power-up of the NFC domain (R419): 0x08 and three bytes of the TRNG (log 8). -/
def State.nfcId (s : State) : State :=
  if s.nfc.nfcid.isEmpty then
    { s with
      nfc := { s.nfc with nfcid := 0x08#8 :: (List.range 3).map fun i => Sys2Proof.Config.trngByte (s.free + i) }
      free := s.free + 3 }
  else s

/-- Anticollision and activation are answered while the rectifier stands at 2.2 V or more, not in SHELF, where the field
is only detected (Table 5.3). -/
def State.fieldAnswers (s : State) : Bool := s.power.path != .shelf && 2200 ≤ s.power.fieldMv

/-- R419: REQA or WUPA is answered with ATQA 0x0004, in hardware, whether or not Roeno runs, whenever the rectifier
stands at 2.2 V or more. -/
def execNfcReqa (rectMv : Nat) (s : State) : Host.Outcome State Fault Refusal :=
  let s0 : State := { s with power := { s.power with fieldMv := rectMv } }
  .next (if !s0.fieldAnswers then s0
    else
      let s1 := s0.nfcId
      { s1 with nfc := { s1.nfc with st := .ready, out := [0x04#8, 0x00#8] } })

/-- R419: SELECT of this device's NFCID1 is answered with SAK 0x20. -/
def execNfcAnticollision (uid : BitVec 32) (s : State) : Host.Outcome State Fault Refusal :=
  .next (if s.nfc.st = .ready ∧ s.fieldAnswers then
      if toBe 4 uid.toNat = s.nfc.nfcid then { s with nfc := { s.nfc with st := .active, out := [0x20#8] } }
      else s.nfcOut []
    else s)

/-- FSD of an FSDI of RATS (ISO/IEC 14443-4). -/
def fsdOf (i : Nat) : Nat := [16, 24, 32, 40, 48, 64, 96, 128, 256].getD i 256

/-- R419, R420: RATS with CID 0 and FSDI up to 8 is answered with the ATS; another one is not answered. -/
def execNfcRats (param : Byte) (s : State) : Host.Outcome State Fault Refusal :=
  let fsdi := param.toNat / 16
  .next (if s.nfc.st ≠ .active ∨ !s.fieldAnswers then s
    else if param.toNat % 16 = 0 ∧ fsdi ≤ 8 then
      { s with nfc :=
        { s.nfc with
          st := .isoDep, fsd := fsdOf fsdi, app := .none, file := 0
          out := [0x05#8, 0x78#8, 0x00#8, 0x70#8, 0x00#8] } }
    else (s.nfcOut []).protoErr)

/-- R420: PPS is accepted with DRI and DSI 0 only. -/
def execNfcPps (param : Byte) (s : State) : Host.Outcome State Fault Refusal :=
  .next (if s.nfc.st ≠ .isoDep then s
    else if param.toNat % 16 = 0 then s.nfcOut [0xD0#8]
    else (s.nfcOut []).protoErr)

/-- Cuts bytes into pieces of at most `n`. -/
def piecesOf (n : Nat) : Nat → List Byte → List (List Byte)
  | 0, b => [b]
  | fuel + 1, b => if b.length ≤ n then [b] else b.take n :: piecesOf n fuel (b.drop n)

/-- The frames in which an answer goes out (R420): chained so that each, with its PCB and its CRC, is within the FSD of the
reader. -/
def State.nfcFrames (s : State) : List (List Byte) := piecesOf (s.nfc.fsd - 3) s.nfc.out.length s.nfc.out

/-! ### The files -/

/-- The capability container (Table 14.2). -/
def capability : List Byte :=
  toBe 2 0x000F ++ [0x20#8] ++ toBe 2 0x00FF ++ toBe 2 0x00FF ++ [0x04#8, 0x06#8] ++ toBe 2 0xE104 ++
    toBe 2 0x0080 ++ [0x00#8, 0xFF#8]

/-- The device time of the last shutdown commit, 0 if none: that of the newest SHUTDOWN record. -/
def State.lastCommit (s : State) : Nat :=
  match s.patinaHeld.reverse.find? fun r => r.body.type == 5 with
  | some r => r.time
  | none => 0

/-- The flags of the pairing record (Table 14.3). -/
def State.pairFlags (s : State) : Nat :=
  flag (!s.unclaimed) 0 + flag s.plinth.timeValid 1 + flag (s.plinth.mode == .field) 2 +
    flag ((List.range 2).any fun r => (s.rail r).st == .ovLatched) 3 +
    flag ((List.range 4).any fun d => (s.fence d).any fun w => w != .absent) 4 +
    flag (s.sec.fallbackRan || s.plinth.seq == .recovery) 5 + flag s.sec.trial 6

/-- The pairing record (Table 14.3). -/
def State.pairing (s : State) : List Byte :=
  let b := toLe 1 1 ++ s.ident.uid ++
    toLe 1 (s.ident.role.code + flag s.ident.qb 2 + 16 * s.ident.sto.code) ++ toLe 2 ownStepping ++
    toLe 4 s.fwVersion ++ toLe 2 ownCompat ++ toLe 2 (s.param P.lineFeederId) ++ toLe 1 (s.param P.lineAddr) ++
    toLe 1 s.pairFlags ++ s.cfg8 ++ toLe 4 s.lastCommit ++ toLe 4 (wrapAdd 32 s.ctr.pseq (2 ^ 32 - 1)) ++
    toLe 1 (min (s.power.fieldUw / 100) 255) ++ toLe 1 s.plinth.cause
  b ++ toLe 4 (crc32c b).toNat

/-- The MIME type of the NDEF record (R424): "application/vnd.terdal.grenpol". -/
def mimeType : List Byte :=
  "application/vnd.terdal.grenpol".toList.map fun c => BitVec.ofNat 8 c.toNat

/-- The NDEF file (R424): NLEN, one short MIME record with the pairing record. -/
def State.ndefFile (s : State) : List Byte :=
  toBe 2 0x004D ++ [0xD2#8, 30#8, 44#8] ++ mimeType ++ s.pairing

/-- Selects a file of the Type 4 Tag application; the NDEF file is built afresh (R424). -/
def State.selectFile (s : State) (f : Nat) : State :=
  { s with nfc := { s.nfc with file := f, ndef := if f = 0xE104 then s.ndefFile else s.nfc.ndef } }

/-! ### APDUs -/

/-- The AID of the Type 4 Tag application. -/
def aidType4 : List Byte := [0xD2#8, 0x76#8, 0x00#8, 0x00#8, 0x85#8, 0x01#8, 0x01#8]

/-- The AID of the Camyx application. -/
def aidCamyx : List Byte := [0xF0#8, 0x43#8, 0x41#8, 0x4D#8, 0x59#8, 0x58#8, 0x01#8]

/-- A Camyx session over NFC ends with reason FIELD_LOST (R422, R427); one that is pending lapses. -/
def State.nfcSessionEnd (s : State) : State :=
  let s1 := s.onPort .nfc fun p => { p with pend := none, parts := [] }
  let s2 := { s1 with camyx := { s1.camyx with apdu := false } }.endSession .nfc 6
  { s2.nfcRelease with nfc := { s2.nfcRelease.nfc with fieldOnly := false } }

/-- SELECT (R422, R423): by name one of the two applications, by identifier a file of the Type 4 Tag application; anything
else is not found. -/
def State.selectApdu (s : State) (b : List Byte) : State :=
  let name := (b.drop 5).take (fieldAt b 4 1)
  let byName := decide (b.take 4 = [0x00#8, 0xA4#8, 0x04#8, 0x00#8])
  let byId := decide (b.take 3 = [0x00#8, 0xA4#8, 0x00#8])
  let f := ofBe name
  if byName && name == aidType4 then
    let s1 := s.nfcSessionEnd
    { s1 with nfc := { s1.nfc with app := .type4, file := 0 } }.apduSw 0x90 0x00
  else if byName && name == aidCamyx then
    { s with nfc := { s.nfc with app := .camyx, file := 0 } }.apduSw 0x90 0x00
  else if byId && s.nfc.app == .type4 && (f == 0xE103 || f == 0xE104) then (s.selectFile f).apduSw 0x90 0x00
  else s.apduSw 0x6A 0x82

/-- READ BINARY of the selected file (R423): the bytes from the offset on, and NDEF_READ for the NDEF file. -/
def State.readFile (s : State) (off len : Nat) : State :=
  let content := if s.nfc.file = 0xE103 then capability else s.nfc.ndef
  if s.nfc.app ≠ .type4 ∨ s.nfc.file = 0 then s.apduSw 0x69 0x86
  else if content.length ≤ off then s.apduSw 0x6B 0x00
  else
    let s1 := s.nfcOut ((content.drop off).take (min len 255) ++ [0x90#8, 0x00#8])
    if s.nfc.file = 0xE104 then s1.raiseP Ev.ndefRead 0 0 else s1

/-- Holds an APDU that Roeno cannot answer yet, with S(WTX) (R421). -/
def State.holdApdu (s : State) (b : List Byte) : State :=
  { s with nfc := { s.nfc with held := some b } }.sendWtx

/-- R422: SELECT selects an application or a file, and answers 0x6A82 for an unknown one. -/
def execAppSelect (bytes : List Byte) (s : State) : Host.Outcome State Fault Refusal :=
  .next (if s.nfc.st ≠ .isoDep then s
    else if s.portLive .nfc then s.selectApdu bytes
    else s.holdApdu bytes)

/-- R423: READ BINARY of a file, with the SELECT by file identifier before it where another one is selected. -/
def execReadBinary (file : BitVec 16) (offset len : Nat) (s : State) : Host.Outcome State Fault Refusal :=
  .next (if s.nfc.st ≠ .isoDep then s
    else if !s.portLive .nfc then s.holdApdu ([0x00#8, 0xB0#8] ++ toBe 2 offset ++ toBe 1 len)
    else if file.toNat = s.nfc.file then s.readFile offset len
    else if s.nfc.app = .type4 ∧ (file = 0xE103#16 ∨ file = 0xE104#16) then (s.selectFile file.toNat).readFile offset len
    else s.apduSw 0x6A 0x82)

/-- R423: UPDATE BINARY is answered 0x6982. -/
def execUpdateBinary (s : State) : Host.Outcome State Fault Refusal :=
  .next (if s.nfc.st ≠ .isoDep then s
    else if s.portLive .nfc then s.apduSw 0x69 0x82
    else s.holdApdu [0x00#8, 0xD6#8, 0x00#8, 0x00#8])

/-- The APDU that waited while Roeno was not ready is answered (R421). -/
def State.heldAny (s : State) : State :=
  match s.nfc.held with
  | some b =>
    let s1 : State := { s with nfc := { s.nfc with held := none } }
    if !s1.portLive .nfc then s1
    else if fieldAt b 0 1 ≠ 0 then s1.apdu b
    else if fieldAt b 1 1 = 0xB0 then s1.readFile (ofBe ((b.drop 2).take 2)) (fieldAt b 4 1)
    else if fieldAt b 1 1 = 0xD6 then s1.apduSw 0x69 0x82
    else s1.selectApdu b
  | none => s

/-! ### The field -/

/-- R427: the field is lost; the session ends, and the sessions opened in it are counted. -/
def execFieldLost (s : State) : Host.Outcome State Fault Refusal :=
  let quiet : State :=
    { s with
      nfc := { s.nfc with st := .idle, app := .none, file := 0, ndef := [], fsd := 0, nfcid := [], out := [], held := none }
      power := { s.power with fieldUw := 0, fieldMv := 0 }
      harvest := { s.harvest with nfc := false, nfcUw := 0 } }
  .next (if !s.plinthOn then quiet
    else
      let s1 := quiet.nfcSessionEnd
      { s1 with
        ctr := { s1.ctr with nfcSessions := wrapAdd 32 s1.ctr.nfcSessions s1.nfc.opened }
        nfc := { s1.nfc with opened := 0 } })

end Sys2Proof.Machine
end

