-- ==== Sys2Proof/Machine/Power.lean ====
section
/-! DEFINITION. The meanings of the commands on the bus input, the power path, the store, the backup cell and VHOST
(Chapter 2). -/

namespace Sys2Proof.Machine

/-! ### VBUS thresholds -/

/-- A reading of VBUS. -/
def State.setVbus (s : State) (mv : Int) : State := { s with power := { s.power with vbusMv := mv } }

/-- BUS is disqualified (R59): BUS_UP clears, and where BUS carries a downgrade starts at once. The pins of a bus grant are
evaluated at the next ledger update (R121). -/
def State.loseBus (s : State) : State := (s.clearE Ev.busUp).disqualify .bus

/-- R45: VBUS falls below 5.50 V for 1 µs; BUS is disqualified, BUS_SAG is raised and, where BUS was qualified, the
bus-loss count starts. -/
def execBusUvFall (vbusMv : Int) (s : State) : Host.Outcome State Fault Refusal :=
  let s1 := s.setVbus vbusMv
  .next (if s.power.busUv then s1
    else
      let s2 : State :=
        { s1 with power := { s1.power with busUv := true, lossCount := s1.power.lossCount || s1.power.busQ } }
      if s.plinthOn then ((s2.raiseP Ev.busSag 0 0).loseBus).tb8Eval
      else { s2 with power := { s2.power with busQ := false } })

/-- BUS qualifies with the Plinth running (R59, R137): BUS_UP is raised, BUS_LOST clears, PLINTH is left for RUN, and a bus
that returns begins a restart (R478, R480). -/
def State.gainBus (s : State) : State :=
  let s1 := ((s.clearE Ev.busLost).raiseOnce Ev.busUp 0 0).qualify .bus
  let s2 := if s1.plinth.mode = .plinth ∧ s1.life.st ≠ .plinthStart then s1.toRun else s1
  s2.busReturns.tb8Eval

/-- R59: VBUS has stayed above 6.00 V for 2 ms, without BUS_REVERSE or GND_OPEN. Without a supply for the Plinth the bus
is there to start it (R468). -/
def execBusQualify (vbusMv : Int) (s : State) : Host.Outcome State Fault Refusal :=
  let s1 := s.setVbus vbusMv
  .next (if s.power.busRev || s.power.gndOpen || s.power.busQ then s1
    else
      let s2 : State := { s1 with power := { s1.power with busUv := false, lossCount := false, busQ := true } }
      if s.plinthOn then s2.gainBus else s2)

/-- Whether a bus loss may begin the shutdown now (R473, R494): a boot, a restart of the sequencer or a decommissioning
completes first. -/
def State.mayShut (s : State) : Bool :=
  s.life.carried && s.plinth.seq != .coldBoot && s.plinth.seq != .warmRestart && !s.plinth.rstLow &&
    (match s.life.st with
      | .running => true
      | .pickup => true
      | .shelfPending => true
      | _ => false)

/-- R45: the bus-loss count has reached PWR_BUS_LOST_MS with BUS not qualified again; BUS_LOST is raised and the shutdown
begins. -/
def execBusLost (s : State) : Host.Outcome State Fault Refusal :=
  .next (if !s.plinthOn || s.power.busQ || !s.power.lossCount || !s.life.carried then s
    else
      let s1 := { s with power := { s.power with lossCount := false } }.raiseOnce Ev.busLost 0 0
      if s1.mayShut then s1.toRun.shutdownBegin else s1)

/-- R44: VBUS crosses BUS_FULL. A rise clears BUS_LOWPERF and brings the supplies of a restart (R480, P2); a fall raises
it. -/
def execBusFullCrossing (rising : Bool) (vbusMv : Int) (s : State) : Host.Outcome State Fault Refusal :=
  let s1 := s.setVbus vbusMv
  let s2 : State := { s1 with power := { s1.power with busFull := rising } }
  .next (if !s.plinthOn then s2
    else
      let s3 := s2.setC Ev.busLowperf (!rising) 0 0
      let s4 := if rising then (s3.restartAll 7).restartAll 2 else s3
      (if rising && s4.inPickup then s4.restartSupplies else s4).busPins)

/-- R44: VBUS crosses BUS_HIGH; BUS_HIGH is raised on a rise and clears on a fall. -/
def execBusHighCrossing (rising : Bool) (vbusMv : Int) (s : State) : Host.Outcome State Fault Refusal :=
  let s1 := s.setVbus vbusMv
  let s2 : State := { s1 with power := { s1.power with busHigh := rising } }
  .next (if s.plinthOn then s2.setC Ev.busHigh rising 0 0 else s2)

/-- BUS_OV stops a rail (R335): one that starts or regulates with VIN_OV, one that stops is stopped. -/
def State.vinOv (s : State) (r : Nat) : State :=
  if (s.rail r).st = .stopping then s.stopDone r
  else if (s.rail r).st.live then
    ((s.capture r 2 (s.runMask r) 0).faultNow r 2).raiseC (Ev.vinOv r) 0 0
  else s

/-- R335: VBUS is above BUS_OV; the charger stops, the line transmitter is inhibited (Table 2.3), every gate goes low. -/
def execBusOv (vbusMv : Int) (s : State) : Host.Outcome State Fault Refusal :=
  let s1 := s.setVbus vbusMv
  let s2 : State := { s1 with power := { s1.power with busOv := true } }
  .next (if !s.plinthOn then s2
    else
      let s3 := (List.range 2).foldl State.vinOv (s2.raiseOnce Ev.busOv 0 0)
      (s3.remap.tb8Eval).settle)

/-- R69: VBUS is above BUS_DUMP; the crossing is counted, and one within 10 s of the last also raises REPEAT. -/
def execBusDump (vbusMv : Int) (s : State) : Host.Outcome State Fault Refusal :=
  let s1 := s.setVbus vbusMv
  let up := s.plinth.upMs
  let again := match s.power.lastDump with
    | some t => decide (since up t < 10000)
    | none => false
  let s2 : State :=
    { s1 with
      power := { s1.power with busDump := true, lastDump := some up }
      ctr := { s1.ctr with dumpCount := wrapAdd 32 s1.ctr.dumpCount 1 } }
  .next (if !s.plinthOn then { s1 with power := { s1.power with busDump := true } }
    else
      let s3 := s2.raiseC Ev.busDump 0 0
      if again then s3.raiseC Ev.busDump 1 0 else s3)

/-- R70: VBUS is below BUS_REVERSE; BUS is disqualified, VREG10 and the charger stay off. -/
def execBusReverse (vbusMv : Int) (s : State) : Host.Outcome State Fault Refusal :=
  let s1 := s.setVbus vbusMv
  let s2 : State := { s1 with power := { s1.power with busRev := true } }
  .next (if s.plinthOn then ((s2.raiseOnce Ev.busReverse 0 0).loseBus).tb8Eval
    else { s2 with power := { s2.power with busQ := false } })

/-- R71: PGND to GND has exceeded 0.25 V for 50 µs; BUS is disqualified and the charger stops. -/
def execGndOpen (s : State) : Host.Outcome State Fault Refusal :=
  let s1 : State := { s with power := { s.power with gndOpen := true } }
  .next (if s.plinthOn then ((s1.raiseOnce Ev.gndOpen 0 0).loseBus).tb8Eval
    else { s1 with power := { s1.power with busQ := false } })

/-- R71, R302: the voltage has stayed below 0.10 V for 1 s; the latch writes recorded since are made in order, but for the
latches of a device in reset, which keep their state (R29). -/
def execGndOpenClear (s : State) : Host.Outcome State Fault Refusal :=
  let l := s.sw.defWrites
  let s1 : State :=
    { s with power := { s.power with gndOpen := false }, sw := { s.sw with defWrites := [] } }
  .next (l.foldl (fun (s : State) w => s.refresh w.1 w.2) (s1.clearE Ev.gndOpen))

/-! ### Hand-overs -/

/-- R65: the old switch is confirmed open and the target's switch closes. -/
def execHandoverMake (s : State) : Host.Outcome State Fault Refusal :=
  .next (match s.power.target with
    | some t => if s.power.path = .handover then s.make t else s
    | none => s)

/-- R62: the PWR_DWELL_MS that the last make began have ended. -/
def execDwellExpiry (s : State) : Host.Outcome State Fault Refusal :=
  .next (if s.power.dwellMs = 0 then { s with power := { s.power with dwell := false } }.upgrade else s)

/-- R63: VSEL collapses within 2 µs of a make; the target counts as disqualified, whatever the dwell. -/
def execVselCollapseAfterMake (s : State) : Host.Outcome State Fault Refusal :=
  .next (match s.carrier with
    | some .bus => s.loseBus
    | some x => s.disqualify x
    | none => s)

/-- The condition under which STO qualifies (Table 2.6): 100 mV above the floor while BUS carries, else E_est at 1.05 ×
KEEP_eff; never under STO_FAULT SHORT or OPEN. -/
def State.stoReady (s : State) : Bool :=
  !s.power.fShort && !s.power.fOpen &&
    (if s.busCarries then decide (s.param P.pwrStoFloorMv + 100 ≤ s.power.stoMv)
      else decide (105 * s.keepEff ≤ 100 * s.eEst))

/-- R59: STO reaches its qualification level. -/
def execStoQualify (stoMv : Nat) (s : State) : Host.Outcome State Fault Refusal :=
  let s1 := s.setSto stoMv
  .next (if s1.plinthOn && !s1.power.stoQ && s1.stoReady then s1.qualify .sto else s1)

/-- R59: STO has stayed below the floor for 1 ms; suspended through a start from nothing (R469). -/
def execStoDisqualify (stoMv : Nat) (s : State) : Host.Outcome State Fault Refusal :=
  let s1 := s.setSto stoMv
  .next (if s1.plinthOn && !s1.power.floorSusp && decide (stoMv < s1.param P.pwrStoFloorMv) then
      (s1.disqualify .sto).vhostEval
    else s1.vhostEval)

/-- R59: the field rectifier has stood at 2.2 V for 20 ms; a node at rest wakes (Table 5.6). -/
def execFieldQualify (s : State) : Host.Outcome State Fault Refusal :=
  let s1 : State := { s with power := { s.power with fieldMv := max s.power.fieldMv 2200 } }
  .next (if !s.plinthOn then { s1 with power := { s1.power with fieldQ := true } }
    else
      let s2 := s1.qualify .field
      if (s2.plinth.mode = .plinth ∨ s2.plinth.mode = .doze) ∧ s2.power.path ≠ .handover ∧ s2.life.st ≠ .plinthStart
      then s2.toRun else s2)

/-- R59: the field rectifier has fallen below 1.9 V for 50 µs. -/
def execFieldDisqualify (s : State) : Host.Outcome State Fault Refusal :=
  let s1 : State :=
    { s with
      power := { s.power with fieldMv := min s.power.fieldMv 1900 }
      harvest := { s.harvest with nfc := false, nfcUw := 0 } }
  .next (if s.plinthOn then s1.disqualify .field else { s1 with power := { s1.power with fieldQ := false } })

/-- R54: BAK crosses 2.20 V. -/
def execBakQualifyChange (bakMv : Int) (s : State) : Host.Outcome State Fault Refusal :=
  let s1 : State := { s with power := { s.power with bakMv := bakMv } }
  let want := s.isOn P.pwrBakEn && decide (2200 ≤ bakMv)
  .next (if !s.plinthOn || want == s.power.bakQ then s1 else if want then s1.qualify .bak else s1.disqualify .bak)

/-- The Plinth loses its supply: every clock, pin and stage that it runs stops; what it held is reset when it starts
again. -/
def State.supplyOff (s : State) (p : Path) (m : Mode) : State :=
  let s1 := ((s.toMode m).devReset s.plinth.cause).pinsLow
  { s1 with
    plinth := { s1.plinth with xo := false }
    ident := { s1.ident with sdoDecoded := false }
    power := { s1.power with path := p, target := none, dwell := false, dwellMs := 0, vhostOn := false, vhostMv := 0
                             busQ := false, stoQ := false, fieldQ := false, bakQ := false, lossCount := false } }

/-- R60, R469: no source has qualified before VPLN reached its reset level; a start from nothing ends below 0.90 V. -/
def execPlinthSupplyFail (s : State) : Host.Outcome State Fault Refusal :=
  let bare := s.power.path == .handover && s.power.target.isNone
  let early := s.power.path == .onSto && s.power.floorSusp
  .next (if bare || early then s.supplyOff .none .plinth else s)

/-! ### The store -/

/-- R49: the controller die crosses 65 °C rising or 60 °C falling. -/
def execScDerateChange (tempC : Int) (s : State) : Host.Outcome State Fault Refusal :=
  let on := s.isOn P.pwrScDerateEn && s.isCap && (decide (65 < tempC) || (s.power.derated && decide (60 ≤ tempC)))
  .next { s with power := { s.power with tempC := tempC, derated := on } }.evalLedger

/-- A storage fault that disqualifies STO (Table 2.9, R127). -/
def State.stoLost (s : State) (reason : Nat) : State :=
  (((s.raiseOnce Ev.stoFault reason 0).disqualify .sto).vhostEval).evalPins

/-- R72: STO is still below 0.20 V after 600 s of charging at 20 mA or more. -/
def execStoShortDetect (stoMv : Nat) (s : State) : Host.Outcome State Fault Refusal :=
  let s1 := s.setSto stoMv
  .next (if 600000 ≤ s1.power.shortMs ∧ stoMv < 200 then
      { s1 with power := { s1.power with fShort := true } }.stoLost 1
    else s1)

/-- R72: a retry at 5 mA under SHORT, every 600 s; above 0.50 V it clears. -/
def execStoShortRetry (stoMv : Nat) (s : State) : Host.Outcome State Fault Refusal :=
  let s1 := s.setSto stoMv
  .next (if s.power.fShort ∧ 500 < stoMv then
      ({ s1 with power := { s1.power with fShort := false } }.clearR Ev.stoFault 1).evalLedger
    else s1)

/-- R72: STO rises faster than 100 V/s while charging at 5 mA or more. -/
def execStoOpenDetect (stoMv : Nat) (s : State) : Host.Outcome State Fault Refusal :=
  let s1 := s.setSto stoMv
  .next (({ s1 with power := { s1.power with fOpen := true } }).stoLost 2)

/-- R72: STO has been above PWR_STO_VMAX_MV + 200 mV for 10 ms; every charging path stops. -/
def execStoOvervoltage (stoMv : Nat) (s : State) : Host.Outcome State Fault Refusal :=
  let s1 := s.setSto stoMv
  .next (if s.param P.pwrStoVmaxMv + 200 < stoMv then
      { s1 with power := { s1.power with fOv := true } }.raiseOnce Ev.stoFault 5 0
    else s1)

/-- R72: a cell is still below its pre-charge voltage after 1 h; charging stops. -/
def execPrechargeTimeout (stoMv : Nat) (s : State) : Host.Outcome State Fault Refusal :=
  let s1 := s.setSto stoMv
  .next (if stoMv < prechargeMv s.ident.sto then
      { s1 with power := { s1.power with fPre := true } }.raiseOnce Ev.stoFault 3 0
    else s1)

/-- R52: STO_MID has read outside 25 % to 75 % of STO for 1 s with STO above 1.0 V. -/
def execMidOpen (midMv : Nat) (s : State) : Host.Outcome State Fault Refusal :=
  let v := s.power.stoMv
  let s1 : State := { s with power := { s.power with midMv := midMv } }
  .next (if s.ident.sto = .sc2 ∧ 1000 < v ∧ (4 * midMv < v ∨ 3 * v < 4 * midMv) then
      ({ s1 with power := { s1.power with fMid := true, balancer := false } }.raiseOnce Ev.stoFault 4 0).evalLedger
    else s1)

/-- R52: STO_MID has read within 40 % to 60 % of STO for 10 s; the limit lifts. -/
def execMidOpenClear (midMv : Nat) (s : State) : Host.Outcome State Fault Refusal :=
  let v := s.power.stoMv
  let s1 : State := { s with power := { s.power with midMv := midMv } }
  .next (if s.power.fMid ∧ 4 * v ≤ 10 * midMv ∧ 10 * midMv ≤ 6 * v then
      ({ s1 with power := { s1.power with fMid := false } }.clearR Ev.stoFault 4).evalLedger
    else s1)

/-- R53: the cells have differed by more than 300 mV for 60 s while balancing, or have been within 150 mV for 60 s. -/
def execStoImbalance (cleared : Bool) (s : State) : Host.Outcome State Fault Refusal :=
  .next (if cleared then s.clearE Ev.stoImbalance
    else if s.ident.sto = .sc2 ∧ s.power.balancer = true then s.raiseOnce Ev.stoImbalance 0 0 else s)

/-- R51: 10 s have passed since the last charging path stopped. -/
def execBalancerStop (s : State) : Host.Outcome State Fault Refusal :=
  .next (if s.chargesSto then s else { s with power := { s.power with balancer := false } })

/-! ### The backup cell and VHOST -/

/-- R56: a measurement of BAK, with the events that its reading directs. While BAK carries, the charge drawn since is
counted; how much that is, is a free value (log 8). -/
def execBakMeasure (bakMv : Int) (loaded : Bool) (s : State) : Host.Outcome State Fault Refusal :=
  let s1 : State := { s with power := { s.power with bakMv := bakMv } }
  let s2 := if loaded then s1.bakDrawn else s1
  .next (if !s.plinthOn then s1
    else
      ((s2.setC Ev.bakLow (decide (bakMv < (s.param P.pwrBakLowMv : Int))) 0 0).setC Ev.bakAbsent
        (decide (bakMv < 1000 ∧ -300 ≤ bakMv)) 0 0).setC Ev.bakAbsent (decide (bakMv < -300)) 1 0)

/-- R58: VHOST has been 2 ms in current limit, with the load given in mA; it turns off and a retry is due. -/
def execVhostCurrentLimit (loadMa : Nat) (s : State) : Host.Outcome State Fault Refusal :=
  .next (if s.power.vhostOn && decide (s.vhostLimitMa ≤ loadMa) then
      { s with power := { s.power with vhostOn := false, vhostMv := 0, vhostWait := true } }
    else s)

/-- R58: a retry of VHOST, 500 ms after it turned off; the fifth failure in a row leaves it off with VHOST_FAULT. -/
def execVhostRetry (failed : Bool) (s : State) : Host.Outcome State Fault Refusal :=
  let n := s.power.vhostFails + 1
  .next (if !s.power.vhostWait then s
    else if !failed then { s with power := { s.power with vhostWait := false, vhostFails := 0 } }.vhostEval
    else if n < 5 then { s with power := { s.power with vhostFails := n } }
    else
      { s with power := { s.power with vhostWait := false, vhostFails := n, vhostFault := true } }.raiseOnce
        Ev.vhostFault 0 0)

end Sys2Proof.Machine
end

