-- ==== Sys2Proof/Machine/BootSteps.lean ====
section
/-! DEFINITION. The steps of a cold boot and of a warm restart (Table 16.2 N4 and N5, R153, R154): the firmware bank
(R440, R441), the counter record (R459), the configuration (R235, R7), the die self-tests (R293), the demands (R154, R270,
R470), and what the machine goes on with (R477, R494). -/

namespace Sys2Proof.Machine

/-! ### The firmware bank (R440) -/

/-- Whether the ROM's digest check passes a bank; an empty one fails it. -/
def State.romPasses (s : State) (chk : BootCheck) (b : Bool) : Bool :=
  let x := if b then s.sec.fwB else s.sec.fwA
  chk.fwPass.getLsbD (if b then 1 else 0) && (x.factory || !x.data.isEmpty)

/-- The other bank is booted (R440): the one that failed is marked empty, FW_FALLBACK is raised and pinned. -/
def State.fallback (s : State) : State :=
  let a := s.sec.fwActiveB
  let s1 : State := { s with sec :=
    { s.sec with
      fwA := if a then s.sec.fwA else FwBank.empty, fwB := if a then FwBank.empty else s.sec.fwB
      fwActiveB := !a, trial := false, trialMs := 0, fallbackRan := true, fwOpen := false } }
  (s1.clearE Ev.fwTrial).raisePinP Ev.fwFallback 0 0

/-- The choice of the bank, and whether one boots. -/
def State.chooseFw (s : State) (chk : BootCheck) : State × Bool :=
  let ok := s.romPasses chk s.sec.fwActiveB
  let stalled := s.sec.trial && (s.plinth.cause == 3 || s.plinth.cause == 4)
  let other := s.romPasses chk (!s.sec.fwActiveB) && s.acceptable s.sec.inactive
  let r := if (!ok || stalled || s.sec.fallbackReq) && other then (s.fallback, true) else (s, ok)
  ({ r.1 with sec := { r.1.sec with fwRunningB := r.1.sec.fwActiveB } }, r.2)

/-- Recovery (R441): the rails soft-stop, line and Miovin link are silent, channels keep their latched states. -/
def State.enterRecovery (s : State) : State :=
  let s1 := (List.range 2).foldl (fun (s : State) r => (s.softStop r 0).toIdle r) s
  { s1 with
    plinth := { s1.plinth with seq := .recovery, rc48 := true }
    line := { s1.line with generating := false, listening := false }
    sec := { s1.sec with fallbackReq := false } }.vhostEval.tb8Eval

/-! ### The counter record (R459) -/

/-- The least index of a step (R463). -/
def stepFloor (step : Nat) : Wear :=
  { micro := (if step = 0 then 0 else if step = 1 then 500000 else if step = 2 then 750000 else 900000) * 1000000
    driver := 0, step := step }

/-- The highest step that the pinned WEAR records show for a unit. -/
def State.pinnedStep (s : State) (kind unit : Nat) : Nat :=
  s.patina.pins.foldl
    (fun a r => match r.body with
      | .wear k u step .. => if k = kind ∧ u = unit then max a step else a
      | _ => a) 0

/-- No counter record is valid: NVM_FAULT; counters restart at 0, wear indices at the thresholds of their steps; PSEQ goes
on above the highest record held. -/
def State.countersLost (s : State) : State :=
  let z := Counters.factory
  let top := s.patinaHeld.foldl (fun a r => max a (r.pseq + 1)) 0
  { s with ctr :=
    { z with
      pseq := top
      wearDie := Vector.ofFn fun d => stepFloor (s.pinnedStep 1 d.val)
      wearPh := Vector.ofFn fun p => stepFloor (s.pinnedStep 2 p.val)
      wearSto := stepFloor (s.pinnedStep 3 0), wearNvm := stepFloor (s.pinnedStep 4 0) } }.raiseOnce Ev.nvmFault 0 1

/-! ### The configuration (R235, R7) -/

/-- Whether R7 keeps a value of a bank for another role: the system and security blocks, and the feeder identity, which is
taken as LINE_FEEDER_ID and LINE_ADDR (DEDUCED, log 65). -/
def ownBlock (id : Nat) : Bool :=
  id / 0x1000 == 0 || id / 0x1000 == 8 || id == P.lineFeederId || id == P.lineAddr

/-- Loads a bank: its values as differences from the defaults in force, and whether any, and whether one of the storage
limits of R50, was replaced. -/
def Bank.load (b : Bank) (role : Role) (t : StoType) (mismatch : Bool) : Vals × Bool × Bool :=
  let step := fun (a : Vals × Bool × Bool) (id : Nat) =>
    if mismatch && !ownBlock id then a
    else match findDesc id with
      | some (d, i) =>
        let barred := role == .head && id == P.sysPortEn && !bitAt (b.value id) 1
        if inRange t d i (b.value id) && !barred then (Vals.set role t a.1 id (b.value id), a.2)
        else (a.1, true, a.2.2 || id == P.pwrStoVmaxMv || id == P.pwrStoFloorMv)
      | none => a
  let r := savedIds.foldl step ([], false, false)
  if r.2.2 then ((r.1.del P.pwrStoVmaxMv).del P.pwrStoFloorMv, r.2) else r

/-- A bank after its check; `intact` says that NVM still reads as it was written. -/
def Bank.checked (b : Bank) (intact : Bool) : Bank × Nat :=
  match readBank (if intact then b.bytes else []) with
  | .ok x => (x, 0)
  | .error r => ({ b with bytes := if intact then b.bytes else [], bad := true }, r)

/-- Checks one bank, A at 1 and B at 2 (R235): CFG_BANK_BAD names it with its reason where it fails. -/
def State.checkBank (s : State) (chk : BootCheck) (n : Nat) : State :=
  match if n = 1 then s.config.bankA else s.config.bankB with
  | none => s
  | some b =>
    let x := b.checked (chk.bankPass.getLsbD (n - 1))
    let s1 : State := { s with config :=
      { s.config with
        bankA := if n = 1 then some x.1 else s.config.bankA, bankB := if n = 2 then some x.1 else s.config.bankB } }
    if x.1.bad then s1.raiseOnce Ev.cfgBankBad x.2 n else s1

/-- Both banks are checked (R235); CFG_DEFAULTS says that none is valid. -/
def State.checkBanks (s : State) (chk : BootCheck) : State :=
  let s1 := (s.checkBank chk 1).checkBank chk 2
  if s1.activeBank.isNone then s1.raiseOnce Ev.cfgDefaults 0 0 else s1

/-- Loads the configuration (R235) in the role in effect; a strapped role other than the saved one gives R7 where the straps
have been sampled, and stands until the saved one agrees. Other resets leave the role as it is (R5, R6). -/
def State.loadConfig (s : State) (straps : Bool) : State :=
  let role := if straps then s.roleFor s.ident.roleStrap else s.ident.role
  let bank := s.activeBank.map fun e => e.2
  let mismatch := match bank with
    | some b => decide (s.ident.roleStrap < 3 ∧ b.value P.sysRole ≠ role.code) && (straps || s.config.mismatch)
    | none => false
  let r := match bank with
    | some b => b.load role s.ident.sto mismatch
    | none => ([], false, false)
  let s1 : State :=
    { s with
      ident := { s.ident with role := role }
      power := { s.power with fType := r.2.2 }
      config := { s.config with
        inForce := r.1, staged := [], armed := none, armedBy := none, maqGen := 1, replaced := r.2.1
        mismatch := mismatch, baudNext := none, baudBy := none } }
  let s2 : State := { s1 with config :=
    { s1.config with baud := s1.param P.sysU0Baud } }
  let s3 := if r.2.2 then s2.raiseOnce Ev.stoFault 6 0 else s2
  s3.setC Ev.roleMismatch mismatch 0 0

/-! ### Dies and demands -/

/-- The die self-tests of a cold boot (R293). Channels of a fence that lifts return at their P4 instants where a restart
is to follow (Table 16.10). -/
def State.bootDies (s : State) (chk : BootCheck) (device : Bool) : State :=
  (List.range (s.chans / 4)).foldl
    (fun (s : State) d =>
      if chk.diePass.getLsbD d then
        match s.fence d with
        | some .repeated => s
        | none => s
        | _ =>
          ((if device then
              (List.range 4).foldl (fun (s : State) j => s.onChan (4 * d + j) fun h => { h with shut := true }) s
            else s).liftFence d)
      else s.fenceDie d .selftest) s

/-- Demands after a power-on reset (R270, R470): re-established under SHUTDOWN, without a change of any output. -/
def State.porDemands (s : State) : State :=
  (List.range s.chans).foldl
    (fun (s : State) c =>
      let d := if s.config.mismatch then .off else s.restoreDemand c
      let fed := (s.sw.die.toList.getD (dieOf c) Die.initial).supplied
      s.onChan c fun h =>
        { h with demand := d, lastOn := if d = .off then none else some d, shut := true, bus := !fed, pickAt := none }) s

/-- The latched state as the commanded one (R154). A channel that an inhibit, a protection or a fence holds off keeps its
demand. -/
def Chan.adopt (h : Chan) (fenced queued : Bool) : Chan :=
  let free := !queued && !h.inhibited && !h.protect && !fenced && h.pickAt.isNone
  if h.out && h.demand == .off then { h with demand := .on, lastOn := some .on }
  else if !h.out && free then { h with demand := .off }
  else h

/-- Demands after a device reset or the boot of another firmware (R154, R438): a turn-on in progress goes on from its retained
record (Table 7.4); under R7 every channel is turned off. -/
def State.adoptDemands (s : State) : State :=
  if s.config.mismatch then
    (List.range s.chans).foldl (fun (s : State) c => s.setDemand c .off)
      { s with sw := { s.sw with staggerQ := [], calm := [] } }
  else
    ((List.range s.chans).foldl
      (fun (s : State) c =>
        if (s.sw.die.toList.getD (dieOf c) Die.initial).supplied then
          s.onChan c fun h => h.adopt (s.fenced c) (s.sw.staggerQ.contains c)
        else s) s).fitDemands

/-! ### Roeno is ready -/

/-- The ledger firmware runs again (R128): reservations held at the stop are released, but for the HOST and the standing
one; requests that have arrived since are evaluated. -/
def State.ledgerRestart (s : State) : State :=
  let s1 : State := { s with ledger :=
    { s.ledger with
      res := s.ledger.res.filter fun r => r.1 == .shutdownCommit, fwStop := false, coreLow := false } }
  s1.evalLedger.regrant

/-- What a reset has left in hand goes on (Table 7.4): a SAVE asks for CONFIG_SAVE again and then writes the committed
configuration; a decommissioning at X3, which the marker alone resumes too (R492). -/
def State.resumeKept (s : State) : State :=
  let s1 := s.camyx.ops.foldl
    (fun (s : State) o => match o.kind with
      | .save image applied _ =>
        (s.onOp o fun x =>
          { x with wait := .grant .configSave (25 * mj), kind := .save image applied (savedOnly s.future) }).request
            .configSave (25 * mj)
      | _ => s) s
  if s1.ctr.decomMark then
    { s1 with life :=
      { s1.life with
        st := .decommissioning, step := 2
        prev := match s1.life.st with
          | .decommissioning => if s1.life.prev = .decommissioning then .running else s1.life.prev
          | .shelfPending => .running
          | st => st } }
  else s1

/-- A bus loss that came while the sequencer could not act begins the shutdown now (R494). -/
def State.deferredLoss (s : State) : State :=
  if s.holds Ev.busLost && !s.power.busQ && s.mayShut then s.toRun.shutdownBegin else s

/-- A lifecycle sequence that a reset has met goes on (Table 16.10): steps 1 to 3 begin again, or end in the restart of a
bus that has returned; step 4 is made again in full. -/
def State.resumeShut (s : State) : State :=
  let up := s.power.busQ
  match s.life.st with
  | .shut1 => if up then s.restartBegin else s.shutdownBegin
  | .shut2 => if up then s.restartBegin else s.shutdownBegin
  | .shut3 => if up then s.restartBegin else s.shutdownBegin
  | .shut4 => { s with life := { s.life with again := false, restart := s.life.restart || up } }
  | .shut5 => { s with life := { s.life with restart := s.life.restart || up } }
  | .down => if up then s.restartBegin else s
  | _ => s

/-- Rests on storage (Table 16.2 N5, Table 16.4 step 5): PLINTH with the sequencer off. -/
def State.toPlinth (s : State) : State :=
  let s1 := s.toMode .plinth
  { s1 with plinth := { s1.plinth with seq := .off, hk := false } }

/-- N5 of a start from nothing (Table 16.2): on the bus the restart, with the supplies that BUS_FULL has brought already; in
FIELD and on storage the node waits for its first bus. -/
def State.firstSettle (s : State) : State :=
  let s1 : State := { s with life := { s.life with st := .running, prev := .running } }
  if s.power.busQ then
    let ref := wrapAdd 32 s1.life.restartAt (s1.param P.sysClpBaseMs * (1 + s1.life.retry))
    let s2 := ({ s1 with life := { s1.life with tRef := ref } }).restartBegin
    if s2.power.busFull then s2.restartSupplies else s2
  else
    let s2 : State := { s1 with life := { s1.life with due := true } }
    if s2.plinth.mode = .field then s2 else s2.toPlinth

/-- N5 of any other boot: the state before it is taken up again; after a device reset the rails wait for a restart, which
begins at once on the bus. -/
def State.laterSettle (s : State) (device : Bool) : State :=
  let p := s.life.prev
  let s1 : State := { s with life := { s.life with st := p } }
  let again := match p with
    | .running => true
    | .shelfPending => true
    | .decommissioning => true
    | _ => false
  if device && again then
    if s1.power.busQ then s1.restartBegin else { s1 with life := { s1.life with due := true } }
  else if p = .pickup then { s1 with life := { s1.life with railsUp := s1.life.railsUp && !device } }
  else s1.resumeShut

/-- Roeno runs, with what every start of it does: what the dies and the wake latches hold is delivered, the BOOT record is
written, the ledger goes on. -/
def State.roenoUp (s : State) (pinned : Bool) : State :=
  let s1 := (s.bootRecord pinned).flushDies
  let s2 : State := { s1 with
    plinth := { s1.plinth with seq := .running, rc48 := true, wakes := [] }
    sec := { s1.sec with fallbackReq := false } }
  s2.wdtService.ledgerRestart.resumeOps

end Sys2Proof.Machine
end

