-- ==== Sys2Proof/Machine/Harvest.lean ====
section
/-! DEFINITION. The meanings of the commands on the harvest front end (Chapter 3), with the start from nothing through STO
(R80, R469). Operating points stand in microvolts. -/

namespace Sys2Proof.Machine

/-! ### Channels -/

/-- A channel's tracker. -/
def State.tracker (s : State) (c : HarvestCh) : Tracker :=
  match c with
  | .teg => s.harvest.teg
  | .vib => s.harvest.vib
  | .pv => s.harvest.pv

/-- Changes a channel's tracker. -/
def State.onTracker (s : State) (c : HarvestCh) (f : Tracker → Tracker) : State :=
  match c with
  | .teg => { s with harvest := { s.harvest with teg := f s.harvest.teg } }
  | .vib => { s with harvest := { s.harvest with vib := f s.harvest.vib } }
  | .pv => { s with harvest := { s.harvest with pv := f s.harvest.pv } }

/-- DETAIL of a channel's events (Table 15.2). -/
def hrvDetail : HarvestCh → Nat
  | .teg => 0
  | .vib => 1
  | .pv => 2

/-- A channel's enable parameter. -/
def hrvEn : HarvestCh → Nat
  | .teg => P.hrvTegEn
  | .vib => P.hrvVibEn
  | .pv => P.hrvPvEn

/-- A channel's step parameter, in 0.25 % units. -/
def hrvStep : HarvestCh → Nat
  | .teg => P.hrvTegPoStep
  | .vib => P.hrvVibPoStep
  | .pv => P.hrvPvPoStep

/-- The start fraction in percent (Table 3.4). -/
def startPct : HarvestCh → Nat
  | .pv => 80
  | _ => 50

/-- The setpoint resolution (Table 3.4). -/
def setpointUv : HarvestCh → Nat
  | .teg => 250
  | .vib => 10000
  | .pv => 2000

/-- The range of a channel's operating point (R83, R84, R86, HRV_VIB_VMAX_MV). For PIEZO the lower end is that of VHB, 2.4 V
(DESIGN CHOICE, log 74). -/
def State.hrvRange (s : State) (c : HarvestCh) : Nat × Nat :=
  match c with
  | .teg => (8000, 2500000)
  | .vib => if s.piezo then (2400000, s.param P.hrvVibVmaxMv * 1000) else (600000, 24000000)
  | .pv => (400000, 6000000)

/-- The highest open-circuit value or input peak at which a channel delivers, in µV (R99, Table 3.9). -/
def maxVocUv : HarvestCh → Nat
  | .teg => 2500000
  | .vib => 24000000
  | .pv => 6000000

/-- The highest input power of a channel in µW (Table 3.1, Table 3.9). -/
def maxPinUw : HarvestCh → Nat
  | .teg => 400000
  | .vib => 300000
  | .pv => 600000

/-- The current limit of a channel in mA: the peak current of TEG, the input current of PV (R83, R86); none is set for VIB. -/
def State.maxMa (s : State) (c : HarvestCh) : Option Nat :=
  match c with
  | .teg => some (s.param P.hrvTegIpk * 10)
  | .vib => none
  | .pv => some (s.param P.hrvPvImaxMa)

/-- Whether an input power and a current reach a limit of a channel (R92). -/
def State.atLimit (s : State) (c : HarvestCh) (uw ma : Nat) : Bool :=
  decide (maxPinUw c ≤ uw) || (s.maxMa c).any fun m => decide (m ≤ ma)

/-- An operating point at the setpoint resolution, rounded down (DESIGN CHOICE for the start point, log 75), and within its
channel's range (R88). -/
def State.clampVop (s : State) (c : HarvestCh) (uv : Nat) : Nat :=
  max (s.hrvRange c).1 (min (s.hrvRange c).2 (uv / setpointUv c * setpointUv c))

/-- The start point of Procedure 3.1. -/
def State.startVop (s : State) (c : HarvestCh) (voc : Nat) : Nat := s.clampVop c (voc * startPct c / 100)

/-- The step of R88 at an operating point. -/
def State.hrvStepUv (s : State) (c : HarvestCh) (vop : Nat) : Nat :=
  max (setpointUv c) (vop * s.param (hrvStep c) / 400 / setpointUv c * setpointUv c)

/-- Whether the modes let a channel run (Table 5.3): PLINTH, DOZE and RUN of a supplied Plinth, outside reset. -/
def State.hrvMode (s : State) : Bool :=
  s.plinthOn && s.plinth.mode != .field && s.plinth.mode != .shelf && !s.inReset

/-- Whether a stopped channel may start. -/
def State.hrvMayStart (s : State) (c : HarvestCh) : Bool :=
  let t := s.tracker c
  s.hrvMode && s.isOn (hrvEn c) && !t.running && !t.oc && !t.dead && !s.harvest.lstoOpen &&
    !(c == .vib && s.harvest.vibOv)

/-- Starts a channel with its open-circuit value sampled (Procedure 3.1). -/
def State.hrvStart (s : State) (c : HarvestCh) (voc : Nat) : State :=
  (s.onTracker c fun t =>
    { t with running := true, vop := s.startVop c voc, voc := voc, up := true, pLast := 0, pin := 0, skips := 0
             limited := false, held := false }).regulate

/-- Stops a channel. -/
def State.hrvStop (s : State) (c : HarvestCh) : State := s.onTracker c Tracker.stop

/-! ### Cold start -/

/-- V_start of R82 in µV: the terminal threshold and the start current through the source resistance, by the TTEG primary
that the board carries (Table 3.3). -/
def vStartUv (primary : Fin 3) (rsMohm : Nat) : Nat :=
  match primary with
  | 0 => 18000 + 9 * rsMohm
  | 1 => 18000 + 4 * rsMohm
  | 2 => 19000 + 2 * rsMohm

/-- Whether the TEG oscillator starts (R82). -/
def tegStarts (p : PassiveIn) : Bool :=
  decide (vStartUv Sys2Proof.Config.ttegPrimary p.tegRsMohm ≤ p.tegVocUv)

/-- Whether the passive doubler of VIB starts the CSC (R85). -/
def vibStarts (p : PassiveIn) : Bool := decide (1400 ≤ p.vibPeakMv ∧ 5 ≤ p.vibHz ∧ p.vibHz ≤ 2000)

/-- Whether the charge pump of PV starts the CSC (R86). -/
def pvStarts (p : PassiveIn) : Bool := decide (550 ≤ p.pvVocMv)

/-- What the CSC samples at its start and every 2 s (R79). -/
def State.cscSample (s : State) (p : PassiveIn) : State :=
  { s with harvest :=
    { s.harvest with cscTegUv := p.tegVocUv, cscPvMv := p.pvVocMv, cscVibMv := if vibStarts p then p.vibPeakMv else 0 } }

/-- The voltage to which the passive paths have charged VHB when the CSC starts: 2.0 V, or what the doubler gives (R85). -/
def passiveVhbMv (p : PassiveIn) : Nat := max 2000 (if vibStarts p then 2 * p.vibPeakMv - 700 else 0)

/-- R79, R82, R85, R86: a passive path has charged VHB to 2.0 V; the CSC runs only while the Plinth is unpowered or held in
device reset. -/
def execCscStart (p : PassiveIn) (s : State) : Host.Outcome State Fault Refusal :=
  .next (if (s.plinthOn && !s.inReset) || s.power.path == .shelf || !(tegStarts p || vibStarts p || pvStarts p) then s
    else
      let s1 := s.cscSample p
      { s1 with harvest := { s1.harvest with csc := true, vhbMv := min 26000 (max s.harvest.vhbMv (passiveVhbMv p)) } })

/-- R79: VHB has fallen below 1.7 V. -/
def execCscStop (s : State) : Host.Outcome State Fault Refusal :=
  .next (if s.harvest.csc then
      { s with harvest := { s.harvest with csc := false, vhbMv := min s.harvest.vhbMv 1700 } }
    else s)

/-- R79: the open-circuit voltages are sampled again, every 2 s. -/
def execCscVocSample (p : PassiveIn) (s : State) : Host.Outcome State Fault Refusal :=
  .next (if s.harvest.csc then s.cscSample p else s)

/-- The peak currents of the CSC's boosts in mA (R79). -/
def cscPeakMa : HarvestCh → Nat
  | .teg => 200
  | .vib => 0
  | .pv => 50

/-- The operating point of the CSC in µV (R79): 50 % of the open-circuit value at TEG and 75 % at PV; VIB is on its passive
doubler, and is taken over at its start fraction (log 76). -/
def State.cscPoint (s : State) (c : HarvestCh) : Nat :=
  match c with
  | .teg => s.harvest.cscTegUv / 2
  | .vib => s.harvest.cscVibMv * 1000 / 2
  | .pv => s.harvest.cscPvMv * 750

/-- Whether the CSC's store stage delivers into STO: up to the end-of-charge voltage in effect, 2.70 V until the strap has been
decoded (R37, R79). -/
def State.cscCharges (s : State) : Bool := s.harvest.csc && decide (s.power.stoMv < s.vFull)

/-- R80: an enabled channel is taken over from the CSC at the CSC's operating point. -/
def State.takeOver (s : State) (c : HarvestCh) (voc point : Nat) : State :=
  if s.isOn (hrvEn c) then
    (s.hrvStart c voc).onTracker c fun t => { t with vop := s.clampVop c point }
  else s

/-- The Plinth starts from STO (R80, Table 16.2 N2): within 10 ms every enabled channel is taken over from a CSC that runs, the
sources that delivered are recorded, and COLDSTART is raised. A device that TEST or RST_N holds leaves the CSC running. -/
def State.startFromSto (s : State) (delivering : BitVec 4) (straps : Straps) : State :=
  let s1 := s.powerOnReset .sto straps
  let s2 : State := { s1 with ctr := { s1.ctr with coldSrc := delivering.toNat } }
  if s1.inReset then s2
  else
    let s3 := if s.harvest.csc then
        ((s2.takeOver .teg s.harvest.cscTegUv (s.cscPoint .teg)).takeOver .vib (s.harvest.cscVibMv * 1000)
          (s.cscPoint .vib)).takeOver .pv (s.harvest.cscPvMv * 1000) (s.cscPoint .pv)
      else s2
    s3.raiseP Ev.coldStart 0 delivering.toNat

/-- R80, Table 16.2 N2: in NONE, STO at 1.00 V starts the Plinth; bits 0 TEG, 1 VIB, 2 PV, 3 NFC of `delivering` say which
sources delivered into VHB. -/
def execPlinthStartFromSto (stoMv : Nat) (delivering : BitVec 4) (straps : Straps) (s : State) :
    Host.Outcome State Fault Refusal :=
  let s1 : State := { s with power := { s.power with stoMv := stoMv } }
  .next (if s.power.path = .none ∧ 1000 ≤ stoMv then s1.startFromSto delivering straps else s1)

/-- R469: STO has first reached PWR_STO_FLOOR_MV + 100 mV; the floor disqualification applies from now on and the cold boot
begins. -/
def execColdBootTrigger (stoMv : Nat) (s : State) : Host.Outcome State Fault Refusal :=
  let s1 := s.setSto stoMv
  .next (if s.life.st = .plinthStart ∧ s.power.path = .onSto ∧ s.param P.pwrStoFloorMv + 100 ≤ stoMv then
      { s1 with power := { s1.power with floorSusp := false, stoQ := true } }.bootBegin
    else s1)

/-! ### Starts and losses of the channels -/

/-- R83, R99: the TEG open-circuit voltage is 12 mV or more, and no more than 2.5 V. -/
def execTegUp (vocUv : Nat) (s : State) : Host.Outcome State Fault Refusal :=
  .next (if s.hrvMayStart .teg && decide (12000 ≤ vocUv ∧ vocUv ≤ maxVocUv .teg) then
      (s.hrvStart .teg vocUv).raiseP Ev.tegUp 0 0
    else s)

/-- R83: the TEG cannot hold 8 mV, or delivers below 1 µW for 10 s. -/
def execTegLost (s : State) : Host.Outcome State Fault Refusal :=
  .next (if s.harvest.teg.running then (s.hrvStop .teg).raiseP Ev.tegLost 0 0 else s)

/-- R84, R99: the VIB input peak has reached 0.6 V (EM), or VHB_target + 0.2 V (PIEZO), within 24 V and 5 Hz to 2 kHz. -/
def execVibUp (vocUv hz : Nat) (s : State) : Host.Outcome State Fault Refusal :=
  let level := if s.piezo then (s.vhbTarget + 200) * 1000 else 600000
  .next (if s.hrvMayStart .vib && decide (level ≤ vocUv ∧ vocUv ≤ maxVocUv .vib ∧ 5 ≤ hz ∧ hz ≤ 2000) then
      (s.hrvStart .vib vocUv).raiseP Ev.vibUp 0 0
    else s)

/-- R84: the condition of VIB_UP has failed for 10 s. -/
def execVibLost (s : State) : Host.Outcome State Fault Refusal :=
  .next (if s.harvest.vib.running then (s.hrvStop .vib).raiseP Ev.vibLost 0 0 else s)

/-- R86, R99: the PV open-circuit voltage is 0.50 V or more, and no more than 6.0 V. -/
def execPvUp (vocUv : Nat) (s : State) : Host.Outcome State Fault Refusal :=
  .next (if s.hrvMayStart .pv && decide (500000 ≤ vocUv ∧ vocUv ≤ maxVocUv .pv) then
      (s.hrvStart .pv vocUv).raiseP Ev.pvUp 0 0
    else s)

/-- R86: the PV operating voltage has fallen below 0.40 V, or its power has stayed below 1 µW for 10 s. -/
def execPvLost (s : State) : Host.Outcome State Fault Refusal :=
  .next (if s.harvest.pv.running then (s.hrvStop .pv).raiseP Ev.pvLost 0 0 else s)

/-- R87: the field rectifier stands at `rectMv`, with `uw` to spare beyond what VSEL takes. Above 2.5 V field harvesting runs,
at no more than 6 mW; at 2.5 V it draws nothing. During a tag reply frame its current is held. -/
def execNfcHrv (rectMv uw : Nat) (s : State) : Host.Outcome State Fault Refusal :=
  let s1 : State := { s with power := { s.power with fieldMv := rectMv } }
  .next (if !(s.hrvMode && s.isOn P.hrvNfcEn && !s.harvest.lstoOpen) then s1
    else if s.nfc.txMs ≠ 0 then s1
    else if rectMv ≤ 2500 then { s1 with harvest := { s1.harvest with nfc := false, nfcUw := 0 } }
    else
      let s2 := { s1 with harvest := { s1.harvest with nfc := true, nfcUw := min uw 6000 } }.regulate
      if s.harvest.nfc then s2 else s2.raiseP Ev.nfcHrv 0 0)

/-! ### Tracking -/

/-- Whether a channel's stage stands still or its tracker holds its operating point (R77, R90, R93, R99). -/
def State.hrvHolds (s : State) (c : HarvestCh) : Bool :=
  let t := s.tracker c
  t.held || s.harvest.full || (s.harvest.ceiling && c != .vib) || decide (maxVocUv c < t.voc)

/-- Whether a PIEZO bridge conducts: its input peak exceeds VHB by 0.2 V (R84); every other stage does while it runs. -/
def State.hrvConducts (s : State) (c : HarvestCh) : Bool :=
  !(c == .vib && s.piezo) || decide ((s.harvest.vhbMv + 200) * 1000 ≤ s.harvest.vib.voc)

/-- One cycle of Procedure 3.1: the step, then the mean power over what is left of the period, and the direction. At its
limit the point does not step towards lower voltage (R92). -/
def State.perturb (s : State) (c : HarvestCh) (meanUw : Nat) : State :=
  let uw := if s.hrvConducts c then min meanUw (maxPinUw c) else 0
  (s.onTracker c fun t =>
    let d := s.hrvStepUv c t.vop
    let worse := decide (1000 * uw < t.pLast * (1000 - s.param P.hrvPoDeadband))
    { t with
      vop := if t.limited then t.vop else s.clampVop c (if t.up then t.vop + d else t.vop - d)
      up := if worse then !t.up else t.up
      pLast := uw, pin := uw, skips := 0 }).regulate

/-- A channel reaches its limit (R92): its tracker holds on the side nearer the open-circuit value, so that a point which
stepped down there steps back up (log 77). -/
def State.limitHrv (s : State) (c : HarvestCh) : State :=
  ((s.onTracker c fun t =>
    { t with
      limited := true
      vop := if t.limited || t.up then t.vop else s.clampVop c (t.vop + s.hrvStepUv c t.vop) }).regulate).raiseOnce
    Ev.mpptLimit 0 (hrvDetail c)

/-- R88, R89: a period of a running tracker in clean time, with the mean input power that it observes; one that reaches the
channel's limit makes the tracker hold (R92). -/
def execTrackerPeriod (c : HarvestCh) (meanUw : Nat) (s : State) : Host.Outcome State Fault Refusal :=
  .next (if !(s.tracker c).running || s.hrvHolds c || s.rxBusy then s
    else
      let s1 := (s.perturb c meanUw).clearD Ev.mpptStarved (hrvDetail c)
      let ma := if c = .pv then 1000 * meanUw / max (s1.tracker c).vop 1 else 0
      if s1.atLimit c meanUw ma && s.hrvConducts c then s1.limitHrv c else s1)

/-- R91: no clean time within four periods; the cycle is abandoned and counted, and the sixteenth in a row raises
MPPT_STARVED. -/
def execTrackerSkip (c : HarvestCh) (s : State) : Host.Outcome State Fault Refusal :=
  let n := (s.tracker c).skips + 1
  .next (if !(s.tracker c).running then s
    else
      let s1 := { s with ctr := { s.ctr with poSkips := wrapAdd 32 s.ctr.poSkips 1 } }.onTracker c fun t =>
        { t with skips := n }
      if 16 ≤ n then s1.raiseOnce Ev.mpptStarved 0 (hrvDetail c) else s1)

/-- A channel's open-circuit interval in s; 0 is never (Table 3.11). -/
def hrvVocS : HarvestCh → Nat
  | .teg => P.hrvTegVocS
  | .vib => P.hrvVibVocS
  | .pv => P.hrvPvVocS

/-- Takes an open-circuit value of a running channel: a point outside 30 % to 95 % of it goes back to the start fraction, but
not to a lower voltage at the limit (R92), and not while the tracker holds (R77, R93). -/
def State.resample (s : State) (c : HarvestCh) (vocUv : Nat) (carrier : Bool) : State :=
  s.onTracker c fun t =>
    let out := decide (100 * t.vop < 30 * vocUv ∨ 95 * vocUv < 100 * t.vop)
    let new := s.startVop c vocUv
    { t with
      voc := vocUv
      vop := if !out || s.hrvHolds c then t.vop else if t.limited then max t.vop new else new
      pin := if carrier then 0 else t.pin
      held := carrier, heldAt := s.plinth.upMs }

/-- R88, R90, R102: an open-circuit sample, in clean time; with the carrier detected the stage stays stopped. A channel whose
interval is 0 takes none while it runs. -/
def execVocSample (c : HarvestCh) (vocUv : Nat) (carrier : Bool) (s : State) : Host.Outcome State Fault Refusal :=
  let t := s.tracker c
  .next (if !(s.hrvMode && s.isOn (hrvEn c)) || s.rxBusy || (t.running && !s.isOn (hrvVocS c)) then s
    else
      let s1 := if carrier then s.carrierHeard else s
      if t.running then (s1.resample c vocUv carrier).regulate
      else s1.onTracker c fun t => { t with voc := vocUv })

/-- R90: rx_busy has cleared, or 40 ms have passed since the sample; the stage restarts at its held point. -/
def execVocSampleRestart (c : HarvestCh) (s : State) : Host.Outcome State Fault Refusal :=
  .next (if s.rxBusy && decide (since s.plinth.upMs (s.tracker c).heldAt < 40) then s
    else s.onTracker c fun t => { t with held := false })

/-- R92: a channel has reached its power, peak-current or input-current limit, at the power and the current given. -/
def execMpptLimit (c : HarvestCh) (uw ma : Nat) (s : State) : Host.Outcome State Fault Refusal :=
  .next (if (s.tracker c).running && s.atLimit c uw ma then s.limitHrv c else s)

/-- R92: the channel has stayed below its limit for 10 s. -/
def execMpptLimitClear (c : HarvestCh) (s : State) : Host.Outcome State Fault Refusal :=
  .next ((s.onTracker c fun t => { t with limited := false }).clearD Ev.mpptLimit (hrvDetail c))

/-! ### The harvest bus -/

/-- A reading of VHB. -/
def State.setVhb (s : State) (mv : Nat) : State := { s with harvest := { s.harvest with vhbMv := mv } }

/-- The stages stand still: no input power is reported (R77, R93). The PIEZO bridge goes on until VHB reaches its input
peak. -/
def State.stagesStop (s : State) (vib : Bool) : State :=
  let rest := fun t : Tracker => { t with pin := 0 }
  { s with harvest := { s.harvest with
      teg := rest s.harvest.teg, pv := rest s.harvest.pv
      vib := if vib && (!s.piezo || decide (s.harvest.vib.voc ≤ s.harvest.vhbMv * 1000)) then rest s.harvest.vib
        else s.harvest.vib } }

/-- R93: VHB has reached VHB_target + 0.5 V while R47 stops or limits charging; the stages stop and every tracker holds. -/
def execStoreFullStop (vhbMv : Nat) (s : State) : Host.Outcome State Fault Refusal :=
  let s1 := s.setVhb vhbMv
  .next (if s.harvesting && decide (s.vhbTarget + 500 ≤ vhbMv) && (s.stoLimited || s.harvest.storeOc) then
      { s1 with harvest := { s1.harvest with full := true } }.stagesStop true
    else s1)

/-- R93: VHB is back at VHB_target; each stage resumes at its held point. -/
def execStoreResume (vhbMv : Nat) (s : State) : Host.Outcome State Fault Refusal :=
  let s1 := s.setVhb vhbMv
  .next (if vhbMv ≤ s.vhbTarget then { s1 with harvest := { s1.harvest with full := false } } else s1)

/-- R77: VHB_target crosses 14.0 V rising or 13.5 V falling. -/
def execBoostCeiling (rising : Bool) (s : State) : Host.Outcome State Fault Refusal :=
  let on := if rising then s.harvest.ceiling || decide (14000 < s.vhbTarget)
    else s.harvest.ceiling && !decide (s.vhbTarget < 13500)
  let s1 : State := { s with harvest := { s.harvest with ceiling := on } }
  .next (if on then s1.stagesStop false else s1)

/-- R95: the Plinth refreshes every held reference, at 4 Hz. -/
def execReferenceRefresh (s : State) : Host.Outcome State Fault Refusal :=
  .next (if s.plinthOn then { s with harvest := { s.harvest with refreshAt := s.plinth.upMs } } else s)

/-- R100: the VHB clamp begins or stops to conduct at 26 V. -/
def execHbClamp (conducting : Bool) (s : State) : Host.Outcome State Fault Refusal :=
  let s1 : State :=
    { s with harvest :=
      { s.harvest with clamp := conducting, vhbMv := if conducting then 26000 else min s.harvest.vhbMv 26000 } }
  .next (if s.plinthOn then s1.setC Ev.hbClamp conducting 0 0 else s1)

/-! ### Faults (Table 3.10) -/

/-- R101, TEG_OSC: the daily check of the oscillator, with 30 mV or more at the TEG. It is made where the boost stands stopped
and stops no running one (DEDUCED, log 78). -/
def execTegOscCheck (gained : Bool) (s : State) : Host.Outcome State Fault Refusal :=
  let may := s.hrvMode && s.isOn P.hrvTegOscchkEn && !s.harvest.teg.running && decide (30000 ≤ s.harvest.teg.voc)
  let s1 : State := { s with harvest := { s.harvest with tegOsc := !gained } }
  .next (if !may then s
    else if gained then s1.clearR Ev.hrvFault 1
    else if s.harvest.tegOsc then s
    else s1.raisePinC Ev.hrvFault 1 0)

/-- R101, LSTO_OPEN: the store stage has switched for 100 ms without output charge; all channels stop. -/
def execLstoOpen (s : State) : Host.Outcome State Fault Refusal :=
  .next (if s.harvesting then
      let s1 := ((s.hrvStop .teg).hrvStop .vib).hrvStop .pv
      { s1 with harvest := { s1.harvest with nfc := false, nfcUw := 0, lstoOpen := true } }.raiseOnce Ev.hrvFault 2 0
    else s)

/-- R101: a retry of the store stage, every 60 s; the channels start again by their own conditions. -/
def execLstoRetry (works : Bool) (s : State) : Host.Outcome State Fault Refusal :=
  .next (if s.harvest.lstoOpen && works then
      { s with harvest := { s.harvest with lstoOpen := false } }.clearR Ev.hrvFault 2
    else s)

/-- The channel of a stage; the store stage has none. -/
def stageCh : Stage → Option HarvestCh
  | .teg => some .teg
  | .vib => some .vib
  | .pv => some .pv
  | .store => none

/-- R101, STAGE_OC: a peak current at 1.5 times its limit for three pulses stops the stage. -/
def execStageOc (st : Stage) (s : State) : Host.Outcome State Fault Refusal :=
  .next (match stageCh st with
    | some c =>
      if (s.tracker c).running then
        (s.onTracker c fun t => { t.stop with oc := true, ocFails := 0 }).raiseOnce Ev.hrvFault 3 0
      else s
    | none =>
      if s.harvesting && !s.harvest.storeOc then
        { s with harvest := { s.harvest with storeOc := true, storeFails := 0 } }.raiseOnce Ev.hrvFault 3 0
      else s)

/-- R101: the retry of a stage 1 s after STAGE_OC; the fifth failure in a row leaves it stopped. A stage that resumes keeps its
operating point, with p_last 0 and no new open-circuit sample (DESIGN CHOICE, log 79); LSTO_OPEN and VIB_DC_OV keep it
stopped. -/
def execStageOcRetry (st : Stage) (works : Bool) (s : State) : Host.Outcome State Fault Refusal :=
  .next (match stageCh st with
    | some c =>
      let t := s.tracker c
      if !t.oc || t.dead then s
      else if works then
        let may := s.hrvMode && s.isOn (hrvEn c) && !s.harvest.lstoOpen && !(c == .vib && s.harvest.vibOv)
        (s.onTracker c fun t => { t with running := may, oc := false, ocFails := 0, pLast := 0 }).regulate
      else s.onTracker c fun t => { t with ocFails := t.ocFails + 1, dead := decide (5 ≤ t.ocFails + 1) }
    | none =>
      let h := s.harvest
      if !h.storeOc || h.storeDead then s
      else if works then { s with harvest := { h with storeOc := false, storeFails := 0 } }
      else
        { s with harvest := { h with storeFails := h.storeFails + 1, storeDead := decide (5 ≤ h.storeFails + 1) } })

/-- A running tracker goes back to its start fraction (R101, VHB_LOW). -/
def State.hrvAgain (s : State) (c : HarvestCh) : State :=
  if (s.tracker c).running then s.hrvStart c (s.tracker c).voc else s

/-- R101, VHB_LOW: VHB has stayed below 1.7 V for 1 s while a channel reports input power, or has reached its target
again. -/
def execVhbLow (cleared : Bool) (s : State) : Host.Outcome State Fault Refusal :=
  let s1 : State := { s with harvest := { s.harvest with vhbLow := !cleared } }
  .next (if cleared then s1.clearR Ev.hrvFault 4
    else if s.harvesting then (((s1.raiseOnce Ev.hrvFault 4 0).hrvAgain .teg).hrvAgain .vib).hrvAgain .pv
    else s)

/-- R101, VIB_DC_OV: HB_CLAMP has held for 10 s and the VIB bridge stops, or VHB has been below 24 V for 10 s. -/
def execVibDcOv (cleared : Bool) (s : State) : Host.Outcome State Fault Refusal :=
  let s1 : State := { s with harvest := { s.harvest with vibOv := !cleared } }
  .next (if cleared then s1.clearR Ev.hrvFault 5
    else if s.harvest.clamp then (s1.hrvStop .vib).raiseOnce Ev.hrvFault 5 0
    else s)

end Sys2Proof.Machine
end

