-- ==== Sys2Proof/Machine/Boot.lean ====
section
/-! DEFINITION. The meanings of the commands on resets and boots (Chapter 5). -/

namespace Sys2Proof.Machine

/-! ### Resets -/

/-- Whether a source starts the Plinth: from nothing STO at 1.00 V, BUS and FIELD, never BAK (R468); out of SHELF BUS and
FIELD, the shelf timer by its own command (R491). The source that ends SHELF is the one entered (Table 16.2 N2; Table 2.7
names the best qualified one: DEDUCED, log 69). -/
def State.mayPowerOn (s : State) (src : Source) : Bool :=
  match s.power.path, src with
  | .none, .sto => decide (1000 ≤ s.power.stoMv)
  | .none, .bus => true
  | .none, .field => true
  | .shelf, .bus => true
  | .shelf, .field => true
  | _, _ => false

/-- The power-on reset and what follows it, unless TEST or RST_N holds the device (R26, R27). -/
def State.powerOn (s : State) (src : Source) (straps : Straps) : State :=
  let s1 := s.powerOnReset src straps
  if s1.inReset then s1 else s1.plinthStarts src

/-- The sources that deliver into VHB under the CSC, as bits 0 TEG, 1 VIB, 2 PV (R80): those whose operating point lies in their
channel's range (DEDUCED, log 76). -/
def State.cscDelivers (s : State) : BitVec 4 :=
  let bit := fun (c : HarvestCh) (i : Nat) =>
    flag (s.harvest.csc && decide ((s.hrvRange c).1 ≤ s.cscPoint c)) i
  BitVec.ofNat 4 (bit .teg 0 + bit .vib 1 + bit .pv 2)

/-- R152: VPLN has risen from below 1.0 V, or SHELF is left. A start from nothing through STO goes by R80. -/
def execPlinthPowerOnReset (src : Source) (straps : Straps) (s : State) : Host.Outcome State Fault Refusal :=
  .next (if !s.mayPowerOn src then s
    else if src = .sto then s.startFromSto s.cscDelivers straps
    else s.powerOn src straps)

/-- R152: RST_N low performs a device reset with cause RSTN. -/
def execRstNAssert (s : State) : Host.Outcome State Fault Refusal :=
  .next (if s.plinthOn then
      { s.devReset 1 with plinth := { (s.devReset 1).plinth with rstLow := true } }
    else { s with plinth := { s.plinth with rstLow := true } })

/-- R5: RST_N rises; the straps are sampled again and the cold boot begins, unless the node still waits for its store
(Table 16.2, N3). The cold-start controller stops, since the Plinth runs out of reset (R79). -/
def execRstNRelease (straps : Straps) (s : State) : Host.Outcome State Fault Refusal :=
  let s1 : State := { s with plinth := { s.plinth with rstLow := false } }
  .next (if !s.plinth.rstLow || !s.plinthOn then s1
    else
      let s2 := { s1 with harvest := { s1.harvest with csc := false } }.sampleStraps straps false
      if s.life.st = .plinthStart ∧ (s.power.path = .onSto ∨ s.power.path = .handover) then s2 else s2.bootBegin)

/-- R151: the watchdog expires, once it has counted down: a sequencer reset with cause WDT, WDT_RESET, and SYS_WDT_COUNT. -/
def execWatchdogExpiry (s : State) : Host.Outcome State Fault Refusal :=
  .next (if s.seqRuns && s.plinth.mode != .doze && s.plinth.wdtMs == 0 then
      { s.stallReset 3 with ctr := { (s.stallReset 3).ctr with wdtCount := satAdd 16 s.ctr.wdtCount 1 } }.raiseP
        Ev.wdtReset 0 0
    else s)

/-- R152: a core fault performs a sequencer reset with cause LOCKUP. -/
def execCoreLockup (s : State) : Host.Outcome State Fault Refusal := .next (s.stallReset 4)

/-- R152: a VCORE brown-out performs a sequencer reset with cause VCORE. -/
def execVcoreBrownout (s : State) : Host.Outcome State Fault Refusal := .next (s.seqReset 5)

/-- R157: RC48 has failed: a sequencer reset with cause CLK, and CLK_FAIL. -/
def execRc48Failure (s : State) : Host.Outcome State Fault Refusal :=
  let s1 := s.seqReset 6
  .next (if s.plinth.rc48 then { s1 with plinth := { s1.plinth with rc48 := false } }.raiseP Ev.clkFail 0 0 else s)

/-- R157: RC48 has not restarted within 1 ms: a device reset with cause CLKSTOP, and a cold boot. -/
def execRc48RestartTimeout (s : State) : Host.Outcome State Fault Refusal :=
  .next (if s.plinthOn ∧ s.plinth.rc48 = false ∧ s.plinth.seq ≠ .off then (s.devReset 8).bootBegin else s)

/-! ### Boots -/

/-- What follows once Roeno is ready: VHOST, TB8, levels, allowances and the edge map under the configuration in effect
(R57, R133, R313, R378, R384), FIELD_UP and the APDU that waited (R421, R427), a bus loss that waited (R494). -/
def State.ready (s : State) (boot : Bool) : State :=
  let s1 := ((s.powerEnables.vhostEval).tb8Eval).relevel
  let s2 := ((s1.applyShed.applyAllowances).remap).evalLedger
  let s3 := if boot && s2.plinth.mode == .field then s2.raiseP Ev.fieldUp 0 0 else s2
  s3.resumeKept.heldAny.deferredLoss

/-- A cold boot completes (Table 16.2 N4 and N5, R154). -/
def State.coldBoot (s : State) (chk : BootCheck) : State :=
  let cause := s.plinth.cause
  let device := decide (cause ≤ 2) || cause == 8
  let first := !s.sw.retained
  let start := s.life.prev == .plinthStart
  let pinned := s.sec.fallbackReq && (cause == 3 || cause == 4)
  let c := s.chooseFw chk
  if !c.2 then c.1.enterRecovery
  else
    let s1 := if first && !chk.counterPass then c.1.countersLost else c.1
    let s2 := ((s1.checkBanks chk).loadConfig (decide (cause ≤ 2))).bootDies chk device
    let s3 := if first then s2.porDemands else s2.adoptDemands
    let s4 := { s3 with sw := { s3.sw with retained := true } }.roenoUp pinned
    (if start then s4.firstSettle else s4.laterSettle device).ready true

/-- R154: the cold boot completes with what the ROM and the self-tests have found. -/
def execColdBootComplete (chk : BootCheck) (s : State) : Host.Outcome State Fault Refusal :=
  .next (if s.plinth.seq = .coldBoot then s.coldBoot chk else s)

/-- The warm restart after a decommissioning runs on factory defaults (R492, X5). -/
def State.afterDecom (s : State) : State :=
  if s.life.step = 5 ∧ s.activeBank.isNone then
    ({ s with life := { s.life with step := 0 } }.loadConfig false).raiseOnce Ev.cfgDefaults 0 0
  else s

/-- A warm restart ends (R153). -/
def State.warmUp (s : State) : State :=
  let s1 := if s.plinth.mode = .doze then s.toMode .run else s
  ((s1.afterDecom.roenoUp false).resumeShut).ready false

/-- R153: the warm restart ends. -/
def execWarmRestartComplete (s : State) : Host.Outcome State Fault Refusal :=
  .next (if s.plinth.seq = .warmRestart then s.warmUp else s)

end Sys2Proof.Machine
end

