-- ==== Sys2Proof/Machine/ChannelProt.lean ====
section
/-! DEFINITION. The meanings of the load-switch protection commands (Chapter 9): inrush, trips and latches, thermal
protection, the active clamp, heartbeats, fences, and the odd supplies of a die. -/

namespace Sys2Proof.Machine

/-! ### Inrush and current limit -/

/-- R277: with LSW_INR_REARM, a sample above 50 mA on an on channel that has been idle for 1 s opens the window. -/
def execLivePlugWindow (ch : Fin 16) (s : State) : Host.Outcome State Fault Refusal :=
  let c := s.lead ch.val
  .next (if (s.chan c).inrRearm && (s.chan c).out && decide (1000 ≤ (s.chan c).idleMs) then
      s.onChan c fun h => { h with window := true, idleMs := 0 }
    else s)

/-- R276: LSW_INR_WIN_MS has ended; the normal limit applies. -/
def execInrushWindowClose (ch : Fin 16) (s : State) : Host.Outcome State Fault Refusal :=
  .next (s.onChan (s.lead ch.val) fun h => { h with window := false })

/-- Whether a channel's die holds its switches on in reverse, where no protection acts (R299). -/
def State.inReverse (s : State) (c : Nat) : Bool := (s.sw.die.toList.getD (dieOf c) Die.initial).revHold

/-- R278: the current of an on channel reaches the limit in effect; the switch limits and the timer runs. -/
def execCurrentLimitReached (ch : Fin 16) (s : State) : Host.Outcome State Fault Refusal :=
  let l := s.lead ch.val
  .next (if s.inReverse ch.val then s
    else s.onChan l fun h =>
      { h with limiting := h.out, ilimHeld := if h.limiting then h.ilimHeld else s.param (P.lswIlim l) })

/-- What a trip does (R279 to R281): the output turns off and the trip is counted; in the window a retry waits, or the
latch is entered with EXHAUSTED; outside it the latch is entered with the trip's reason. -/
def State.trip (s : State) (c : Nat) (hard : Bool) : State :=
  let h := s.chan c
  let s1 := s.countTrip c
  if h.window then
    if h.retries < h.inrRetries then
      (s1.hardOff c).onChan c fun h => { h with backoff := true }
    else s1.enterLatch c (Ev.lswRt c) 1
  else s1.enterLatch c (Ev.lswOc c) (if hard then 2 else 1)

/-- R279: the limit timer has reached its time; `hard` says that VBUS − OUT exceeded 20 V while limiting. A trip and a thermal
shutdown of one system tick both take effect (R297). -/
def execLimitTrip (ch : Fin 16) (hard : Bool) (s : State) : Host.Outcome State Fault Refusal :=
  let c := s.lead ch.val
  let h := s.chan c
  .next (if (h.limiting || h.cutAt == some s.plinth.upMs) && !s.inReverse c then
      (s.trip c hard).onChan c fun h => { h with cutAt := none }
    else s)

/-- R280: the spacing has ended; the die itself turns the output on again as a retry, which is no fresh turn-on (R290, R302). -/
def execInrushRetry (ch : Fin 16) (s : State) : Host.Outcome State Fault Refusal :=
  let c := s.lead ch.val
  .next (if (s.chan c).backoff then
      let s1 := s.onChan c fun h => { h with backoff := false, retries := h.retries + 1 }
      if s1.wantOn c then s1.latch c true else s1
    else s)

/-- R279: the channel has been on and out of limit for 100 µs; the timer is reset. -/
def execLimitTimerReset (ch : Fin 16) (s : State) : Host.Outcome State Fault Refusal :=
  .next (s.onChan (s.lead ch.val) fun h => { h with limiting := false })

/-! ### Thermal -/

/-- R283: a junction at 170 °C turns the output off; by LSW_TH_MODE and the count in 60 s the channel restarts or
latches. -/
def State.thermal (s : State) (c : Nat) (tempC : Int) : State :=
  let l := s.lead c
  let s0 := s.onChan c fun h => { h with tjC := tempC }
  let h := s0.chan l
  if tempC < 170 || h.thermOff || h.thermLatch || s.inReverse c then s0
  else
    let up := s.plinth.upMs
    let old := h.thermUps.filter fun t => since up t < 60000
    let latch := s.isOn (P.lswThMode l) || decide (s.param (P.lswThMaxcyc l) ≤ old.length)
    let s1 := (s0.hardOff l).onChan l fun h =>
      { h with thermOff := !latch, thermLatch := latch, thermUps := (up :: old).take 51
               cutAt := if (s0.chan l).limiting then some up else none }
    s1.dieRaise (Ev.lswTh l) false (if latch then 2 else 1) false

/-- R283: a channel's junction reaches 170 °C. -/
def execThermalShutdown (ch : Fin 16) (tempC : Int) (s : State) : Host.Outcome State Fault Refusal :=
  .next (s.thermal ch.val tempC)

/-- R283: the junction falls below the restart temperature of Table 9.5, of a pair both (R288); the die returns a thermal-off
channel to its demand without a window (R290), a thermal latch stays. -/
def execThermalRestart (ch : Fin 16) (tempC : Int) (s : State) : Host.Outcome State Fault Refusal :=
  let c := ch.val
  let l := s.lead c
  let s0 := s.onChan c fun h => { h with tjC := tempC }
  .next (if s0.cool l ∧ (s.chan l).thermOff = true then
      let s1 := (s0.onChan l fun h => { h with thermOff := false }).clearE (Ev.lswTh l)
      if s1.wantOn l then s1.latch l true else s1
    else s0)

/-- R284: a die sensor at 140 °C raises WARN TEMP, below 130 °C it clears. -/
def execDieTempWarn (d : Fin 4) (tempC : Int) (s : State) : Host.Outcome State Fault Refusal :=
  let s1 : State := { s with sw := { s.sw with die := upd s.sw.die d.val fun x => { x with tempC := tempC } } }
  .next (if 140 ≤ tempC then s1.raiseOnce (Ev.dieWarn d.val) 1 0
    else if tempC < 130 then s1.clearR (Ev.dieWarn d.val) 1 else s1)

/-! ### Clamp -/

/-- The single-pulse energy from 125 °C of Table 9.2 in mJ, the lower of two rows between rows; outside the table
the spec states none, and the value is free (log 8). -/
def clampLimitMj (ma : Nat) : Nat :=
  if ma < 500 ∨ 8000 < ma then Sys2Proof.Config.clampLimit ma
  else if ma = 500 then 240 else if ma ≤ 1000 then 150 else if ma ≤ 2000 then 90 else if ma ≤ 4000 then 48 else 22

/-- R287: a clamp event is counted, and an estimate ½ × V_cl × I × t_cl above the limit raises LSW_RT CLAMP. The event
of a pair is the even channel's (R288). -/
def execClampEvent (ch : Fin 16) (ma tclUs vclMv : Nat) (s : State) : Host.Outcome State Fault Refusal :=
  let c := s.lead ch.val
  let s1 : State := { s with ctr := { s.ctr with clamps := upd s.ctr.clamps c fun n => wrapAdd 32 n 1 } }
  .next (if s.inReverse c then s
    else if clampLimitMj ma * 2000000000 < vclMv * ma * tclUs then s1.dieRaise (Ev.lswRt c) true 3 false else s1)

/-- R287: the clamp acts on more than half of a PWM channel's turn-offs over 1 s; with LSW_CLAMP_GUARD the channel
enters the current latch. -/
def execNoFreewheel (ch : Fin 16) (s : State) : Host.Outcome State Fault Refusal :=
  let c := s.lead ch.val
  .next (match (s.chan c).demand with
    | .pwm _ =>
      if !(s.chan c).out || s.inReverse c then s
      else if s.isOn (P.lswClampGuard c) then s.enterLatch c (Ev.lswRt c) 4
      else s.dieRaise (Ev.lswRt c) false 4 false
    | _ => s)

/-! ### Heartbeat -/

/-- R291: a die has had no heartbeat for LSW_ORPHAN_S; its channels with LSW_ORPHAN turn off. -/
def execHeartbeatLoss (d : Fin 4) (s : State) : Host.Outcome State Fault Refusal :=
  .next ((List.range 4).foldl
    (fun (s : State) j =>
      let c := 4 * d.val + j
      if s.isOn (P.lswOrphan (s.lead c)) && decide (c < s.chans) then
        (s.hardOff c).onChan (s.lead c) fun h => { h with orphan := true }
      else s)
    { s with sw := { s.sw with die := upd s.sw.die d.val fun x => { x with hbAbs := true } } })

/-- R291: the heartbeat returns; LSW_RT ORPHAN is raised for each orphaned channel, and they return to their demands as
fresh turn-ons, staggered (R247); the name clears with its state (Table 9.3). -/
def execHeartbeatReturn (d : Fin 4) (s : State) : Host.Outcome State Fault Refusal :=
  let cs := ((List.range 4).map fun j => 4 * d.val + j).filter fun c => (s.chan c).orphan
  let s1 : State := { s with sw := { s.sw with die := upd s.sw.die d.val fun x => { x with hbAbs := false } } }
  let s2 := cs.foldl (fun (s : State) c => s.raiseC (Ev.lswRt c) 5 0) s1
  let s3 := cs.foldl (fun (s : State) c => (s.onChan c fun h => { h with orphan := false }).clearR (Ev.lswRt c) 5) s2
  .next (s3.startStagger (cs.filter fun c => s3.wantOn c && !(s3.chan c).out))

/-! ### Fencing and the die's limits -/

/-- R292: a die is found unusable and is fenced. -/
def execDieFence (d : Fin 4) (why : FenceReason) (s : State) : Host.Outcome State Fault Refusal :=
  .next (s.fenceDie d.val why)

/-- R293: the die self-test. A failure fences the die; at a cold boot a pass lifts a fence of reason SELFTEST, TSENSE or
DIEBUS. -/
def execDieSelfTest (d : Fin 4) (pass : Bool) (s : State) : Host.Outcome State Fault Refusal :=
  .next (if !pass then s.fenceDie d.val .selftest
    else if s.plinth.seq = .coldBoot then s.liftFence d.val else s)

/-- LSW_DIE_SUM_MA: the on-state currents of a die. -/
def State.dieSumMa (s : State) (d : Nat) : Nat :=
  sumOf 4 fun j =>
    let c := 4 * d + j
    if (s.chan c).out && !s.pairOdd c then (s.chan c).ionMa else 0

/-- The continuous limit of a die in mA (Table 9.5). -/
def State.dieLimitMa (s : State) (d : Nat) : Nat := 16000 - 2000 * min (s.dieStep d) 3

/-- R296: the sum has been above the die's continuous limit for 10 s, or below it for 10 s. -/
def execDieSumWarn (d : Fin 4) (above : Bool) (s : State) : Host.Outcome State Fault Refusal :=
  .next (if above then
      if s.dieLimitMa d.val < s.dieSumMa d.val then s.raiseOnce (Ev.dieWarn d.val) 2 0 else s
    else if s.dieSumMa d.val ≤ s.dieLimitMa d.val then s.clearR (Ev.dieWarn d.val) 2 else s)

/-! ### Odd supplies -/

/-- R298: VBUS falls below 64.0 V; the turn-offs that waited take effect. -/
def execBusDumpFall (vbusMv : Int) (s : State) : Host.Outcome State Fault Refusal :=
  let s1 : State := { s with power := { s.power with vbusMv := vbusMv } }
  .next (if vbusMv < 64000 then
      s1.dumpEnd
    else s1)

/-- R299: VBUS between −6 V and −60 V; every die holds its four switches fully on. -/
def execReverseHoldOn (vbusMv : Int) (s : State) : Host.Outcome State Fault Refusal :=
  let s1 : State := { s with power := { s.power with vbusMv := vbusMv } }
  .next (s1.reverseHold vbusMv)

/-- R300: reverse has ended; the latches are clear and every channel is off, and each channel whose demand was not OFF
raises LSW_RT REVERSE and waits for restore at start. -/
def execBusReverseRelease (vbusMv : Int) (s : State) : Host.Outcome State Fault Refusal :=
  let s1 : State := { s with power := { s.power with vbusMv := vbusMv } }
  .next (if vbusMv ≤ -1000 then s1.reverseHold vbusMv
    else
      let s2 := (List.range 4).foldl (fun (s : State) d => s.dieDown d)
        ({ s1.reverseHold vbusMv with power := { s1.power with busRev := false } }.clearE Ev.busReverse)
      (List.range s.chans).foldl
        (fun (s : State) c => if (s.chan c).demand = .off then s else s.raiseP (Ev.lswRt c) 6 0) s2)

/-- R301: a dip of VBUS longer than 50 µs, or the loss of PGND, clears a die's latches. -/
def execDieSupplyLoss (d : Fin 4) (s : State) : Host.Outcome State Fault Refusal :=
  .next (s.dieDown d.val)

/-- R301: the die is supplied again; LSW_RT SUPPLY is raised for each of its channels whose demand is not OFF. -/
def execDieSupplyReturn (d : Fin 4) (s : State) : Host.Outcome State Fault Refusal :=
  .next (s.dieUp d.val)

end Sys2Proof.Machine
end

