-- ==== Sys2Proof/Machine/Channels.lean ====
section
/-! DEFINITION. The meanings of the load-switch operation commands (Chapter 8): PWM cycles, ADC-S measurement, open
load, wall switches and restore at start. -/

namespace Sys2Proof.Machine

/-! ### PWM -/

/-- Whether a channel's pattern changes at the next second boundary (R252). -/
def State.patternPends (s : State) (l : Nat) : Bool :=
  s.param (P.lswPwmDiv l) != (s.chan l).div || s.offsetOf l != (s.chan l).offset

/-- The length of a pulse that begins at `onA` of a cycle (R250); one that would cross the second boundary at which the pattern
changes ends there, and is left out where less than the minimum pulse would remain (R252). -/
def State.pulseSteps (s : State) (l onA duty : Nat) (last : Bool) : Nat :=
  let h := s.chan l
  let on := onSteps (s.minPulse l) h.div duty
  let room := periodSteps h.div - onA
  if last && s.patternPends l && decide (room < on) then (if room < s.minPulse l then 0 else room) else on

/-- One PWM cycle start (R249 to R252, R255) at a tick counted from the second boundary that is a multiple of the divider: the
demand's duty and the offset in effect give the pulse, a pulse that still runs goes on, a fresh turn-on opens its window, an
alignment moves by up to 1 % of the period. A duty without a pulse turns the output off. PWM keeps the node in RUN (R138). -/
def State.cycleStart (s : State) (c tick : Nat) : State :=
  let l := s.lead c
  let h := s.chan l
  match h.demand with
  | .pwm d =>
    if tick % max h.div 1 ≠ 0 || !h.out then s
    else
      let per := periodSteps h.div
      let onA := h.offset * per / 64
      let on := s.pulseSteps l onA d (decide (8000 ≤ tick % 8000 + h.div))
      let move : Int := if h.shift < 0 then max h.shift (-(per / 100 : Nat) : Int) else min h.shift (per / 100 : Nat)
      let s1 := s.onChan l fun h =>
        { h with running := true, duty := d, onAt := onA, offAt := onA + on
                 tail := if h.running then h.offAt - per else 0, tailAge := per - h.onAt
                 fromOn := h.fromOn && !h.running && decide (d ≠ 0)
                 shift := h.shift - move, window := h.window || h.fresh, fresh := false }
      (s1.refresh l false).needRun
  | _ => s

/-- R250: a cycle start of a channel at a TB8 tick counted from the second boundary. -/
def execPwmCycleStart (ch : Fin 16) (tick : Nat) (s : State) : Host.Outcome State Fault Refusal :=
  .next (s.cycleStart ch.val tick)

/-- A new divider or offset takes effect, and the old pattern ends with its pulse (R252, R253); an alignment ends where the
divider changes (Table 8.6). -/
def State.newPattern (s : State) (c : Nat) : State :=
  let l := s.lead c
  let dv := s.param (P.lswPwmDiv l)
  if !s.patternPends l then s
  else
    s.onChan l fun h =>
      { h with div := dv, offset := s.offsetOf l, shift := if h.div = dv then h.shift else 0, running := false, tail := 0 }

/-- R252: the second boundary at which a channel's new divider or phase offset takes effect. -/
def execSecondBoundaryPattern (ch : Fin 16) (s : State) : Host.Outcome State Fault Refusal :=
  .next (s.newPattern ch.val)

/-- R256: a die loses its TB8 strobe; its PWM free-runs. -/
def execStrobeLoss (d : Fin 4) (s : State) : Host.Outcome State Fault Refusal :=
  .next { s with sw := { s.sw with die := upd s.sw.die d.val fun x => { x with strobeAbs := true } } }

/-- The shift that realigns a channel's cycles with the second (R255): how far they stand off is a free value (log 8),
taken in the direction of the smaller shift. -/
def State.realign (s : State) (c : Nat) : State :=
  let per := periodSteps (s.chan c).div
  let x := Sys2Proof.Config.reading s.free % max per 1
  (s.onChan c fun h =>
    if h.running then { h with shift := if 2 * x ≤ per then (x : Int) else (x : Int) - per } else h).draw

/-- R256: the strobe returns and the running cycles of the die's channels realign. -/
def execStrobeReturn (d : Fin 4) (s : State) : Host.Outcome State Fault Refusal :=
  .next ((List.range 4).foldl (fun (s : State) j => s.realign (4 * d.val + j))
    { s with sw := { s.sw with die := upd s.sw.die d.val fun x => { x with strobeAbs := false } } })

/-! ### Measurement -/

/-- Full scale of the range in use in mA (Table 8.4). -/
def fullScale (range16 : Bool) : Nat := if range16 then 16000 else 4000

/-- Whether a channel reads in the 16 A range (R257). -/
def State.range16 (s : State) (c : Nat) : Bool :=
  if s.param (P.lswRange c) = 2 then true
  else if s.param (P.lswRange c) = 1 then false
  else (s.chan c).range16

/-- Adds energy in femtojoules to a channel's accumulators (R259), those of a pair to its even channel (R263): whole joules and
watt-hours, remainders carried. -/
def State.addEnergy (s : State) (c fj : Nat) : State :=
  let l := s.lead c
  let h := s.chan l
  let t := h.remFj + fj
  let j := t / 1000000000000000
  let w := h.remJ + j
  let s1 := s.onChan l fun h => { h with remFj := t % 1000000000000000, remJ := w % 3600 }
  { s1 with ctr := { s1.ctr with
      eDayJ := upd s1.ctr.eDayJ l fun n => wrapAdd 32 n j
      eTotWh := upd s1.ctr.eTotWh l fun n => wrapAdd 32 n (w / 3600) } }

/-- A reading in the range in use (R257): below zero it counts as zero, above full scale it reads full scale and saturates;
eight in a row above 3,800 mA move an automatic range to 16 A; `n` samples' time below 3,000 mA counts for the way back. -/
def Chan.read (h : Chan) (auto : Bool) (fs : Nat) (ma : Int) (n : Nat) : Chan :=
  let v := min ma.toNat fs
  let run := if 3800 < v then h.hiRun + 1 else 0
  let sat := decide (fs < ma.toNat)
  { h with
    lastMa := v
    saturated := h.saturated || sat
    satWin := h.satWin || sat
    hiRun := run
    range16 := h.range16 || (auto && decide (8 ≤ run))
    lowRun := if v < 3000 then h.lowRun + n else 0 }

/-- Adds a reading to the window and the second in hand (R150, R258): `on` is an on-state sample, 50 µs or more after its on
edge; more than 25 % noisy ones in 64,000 give the flag. -/
def Chan.gather (h : Chan) (on noisy : Bool) : Chan :=
  let clean := on && !noisy
  let n := h.secN + 1
  let m := h.secNoisy + flag noisy 0
  let done := decide (64000 ≤ n)
  { h with
    winSum := h.winSum + h.lastMa, winN := h.winN + 1
    onSum := h.onSum + (if clean then h.lastMa else 0), onN := h.onN + flag clean 0
    secN := if done then 0 else n, secNoisy := if done then 0 else m
    noisy := if done then decide (n < 4 * m) else h.noisy }

/-- One ADC-S sample (R149, R150, R257 to R259), taken in a slot, `pos` steps of 250 ns after the start of the channel's PWM
cycle, or after its on edge. -/
def State.sample (s : State) (c slot pos : Nat) (ma : Int) : State :=
  let noisy := s.slotNoisy slot
  let h := s.chan (s.lead c)
  let on := h.onNow pos && decide (200 ≤ h.onAge pos)
  let s1 := s.onChan c fun h =>
    (h.read (s.param (P.lswRange c) == 0) (fullScale (s.range16 c)) ma 1).gather on noisy
  let s2 := s1.addEnergy c ((s1.chan c).lastMa * s.power.vbusMv.toNat * 15625)
  if noisy then { s2 with plinth := { s2.plinth with quietMiss := satAdd 32 s2.plinth.quietMiss 1 } } else s2

/-- R149: ADC-S samples a channel, in RUN; in DOZE it makes the bursts of R138 only. A channel of mode 0 takes no part (R245). -/
def execAdcSSample (ch : Fin 16) (slot : Fin 128) (pos : Nat) (ma : Int) (s : State) :
    Host.Outcome State Fault Refusal :=
  .next (if s.plinth.mode = .run ∧ s.param (P.lswMode (s.lead ch.val)) ≠ 0 then s.sample ch.val slot.val pos ma else s)

/-- R257: after 100 ms, the time of 6,400 samples, with every one below 3,000 mA an automatic range returns to 4 A. -/
def execRangeSwitchDown (ch : Fin 16) (s : State) : Host.Outcome State Fault Refusal :=
  .next (s.onChan ch.val fun h =>
    if s.param (P.lswRange ch.val) = 0 ∧ 6400 ≤ h.lowRun then { h with range16 := false, hiRun := 0 } else h)

/-- The open-load timer over one window (R264): it advances below LSW_OL_MA, restarts at 1.2 × LSW_OL_MA, and holds
over a window with no clean on-state sample or while the output is off. -/
def State.olWindow (s : State) (c ms : Nat) (clean : Bool) : State :=
  let ol := s.param (P.lswOlMa c)
  let h := s.chan c
  if ol = 0 || !h.out || !clean then s
  else
    s.onChan c fun h =>
      { h with
        olMs := if h.ionMa < ol then h.olMs + ms else if 6 * ol ≤ 5 * h.ionMa then 0 else h.olMs
        olClearMs := if 6 * ol ≤ 5 * h.ionMa then h.olClearMs + ms else 0 }

/-- The values of a window of `ms` (R258): the mean of all samples, the mean of the clean on-state ones or the value held, and the
flags; how long the channel has stood below 50 mA while on (R277). The sums start again. -/
def Chan.measured (h : Chan) (ms : Nat) (burst : Bool) : Chan :=
  let ion := if h.onN = 0 then h.ionMa else h.onSum / h.onN
  { h with
    iMa := if h.winN = 0 then h.iMa else h.winSum / h.winN
    ionMa := ion
    heldVal := decide (h.onN = 0)
    burst := burst
    saturated := h.satWin
    idleMs := if ion < 50 ∧ h.out then h.idleMs + ms else 0
    winSum := 0, winN := 0, onSum := 0, onN := 0, satWin := false }

/-- The time for which the shares of a pair have been outside 30 % to 70 % at more than 2 A, and within 40 % to 60 % (R263), after
a window of `ms` with the shares `a` and `b`. -/
def Chan.shares (h : Chan) (a b ms : Nat) : Chan :=
  let lo := 10 * min a b
  let t := a + b
  { h with
    shareMs := if 2000 < t ∧ lo < 3 * t then h.shareMs + ms else 0
    shareOkMs := if 4 * t ≤ lo then h.shareOkMs + ms else 0 }

/-- A window of `ms` of a channel ends (R258, R263, R264). For a pair it ends on both channels at once: the odd one reports its own
share, the even one the sum. -/
def State.closeWindow (s : State) (c ms : Nat) (burst : Bool) : State :=
  let clean := decide ((s.chan c).onN ≠ 0)
  let s1 := s.onChan c fun h => h.measured ms burst
  if !s.paired c then s1.olWindow c ms clean
  else
    let s2 := s1.onChan (c + 1) fun h => h.measured ms burst
    let a := s2.chan c
    let b := s2.chan (c + 1)
    let s3 := s2.onChan (c + 1) fun h => h.shares a.ionMa b.ionMa ms
    (s3.onChan c fun h => { h with iMa := a.iMa + b.iMa, ionMa := a.ionMa + b.ionMa }).olWindow c ms clean

/-- R258: the 16 ms window of a channel ends; for a pair, that of its even channel. A channel of mode 0 takes no part (R245). -/
def execMeasurementWindow (ch : Fin 16) (s : State) : Host.Outcome State Fault Refusal :=
  .next (if s.param (P.lswMode (s.lead ch.val)) = 0 || s.pairOdd ch.val then s else s.closeWindow ch.val 16 false)

/-- One DOZE burst (R138, R258, R259): sixteen samples of a channel that is on, for 100 ms of energy at the present VBUS. -/
def State.burst (s : State) (c : Nat) (ma : Vector Int 16) : State :=
  let s0 := s.onChan c fun h => { h with winSum := 0, winN := 0, onSum := 0, onN := 0 }
  let fs := fullScale (s.range16 c)
  let auto := s.param (P.lswRange c) == 0
  let s1 := s0.onChan c fun h => ma.toList.foldl (fun (h : Chan) x => (h.read auto fs x 400).gather true false) h
  let s2 := s1.addEnergy c ((s1.chan c).winSum / 16 * s.power.vbusMv.toNat * 100000000)
  s2.onChan c fun h => { h with secN := 0, secNoisy := 0, noisy := false }

/-- R138: a burst of 16 samples of an on channel in DOZE; its values are the window's (R258, R264). -/
def execDozeBurst (ch : Fin 16) (ma : Vector Int 16) (s : State) : Host.Outcome State Fault Refusal :=
  let c := ch.val
  .next (if s.plinth.mode ≠ .doze || s.param (P.lswMode (s.lead c)) == 0 || !(s.chan c).out then s
    else
      let s1 := s.burst c ma
      if s.paired c then s1
      else if s.pairOdd c then s1.closeWindow (c - 1) 100 true else s1.closeWindow c 100 true)

/-! ### Open load and pair share -/

/-- The open-load filter in effect (R264): in DOZE at least 100 ms. -/
def State.olFilter (s : State) (c : Nat) : Nat :=
  if s.plinth.mode = .doze then max 100 (s.param (P.lswOlFiltMs c)) else s.param (P.lswOlFiltMs c)

/-- R264: the timer has reached its filter; LSW_OL OPEN is raised, and with LSW_OL_ACTION the demand goes OFF. -/
def execOpenLoadDetect (ch : Fin 16) (s : State) : Host.Outcome State Fault Refusal :=
  let c := ch.val
  .next (if s.param (P.lswOlMa c) ≠ 0 ∧ s.olFilter c ≤ (s.chan c).olMs ∧ (s.chan c).out = true then
      let s1 := s.raiseOnce (Ev.lswOl c) 1 0
      if s.isOn (P.lswOlAction c) then s1.setDemand c .off else s1
    else s)

/-- R264: LSW_ION_MA has stayed at 1.2 × LSW_OL_MA for the filter; LSW_OL OPEN clears. -/
def execOpenLoadClear (ch : Fin 16) (s : State) : Host.Outcome State Fault Refusal :=
  let c := ch.val
  .next (if s.olFilter c ≤ (s.chan c).olClearMs then (s.onChan c fun h => { h with olMs := 0 }).clearR (Ev.lswOl c) 1
    else s)

/-- R263: a pair's shares have been outside their band for 1 s, or back within it for 10 s; the event is the odd channel's. -/
def execPairShare (ch : Fin 16) (s : State) : Host.Outcome State Fault Refusal :=
  let e := ch.val / 2 * 2
  let h := s.chan (e + 1)
  .next (if !s.paired e then s
    else if 1000 ≤ h.shareMs then s.raiseOnce (Ev.lswOl (e + 1)) 2 0
    else if 10000 ≤ h.shareOkMs then s.clearR (Ev.lswOl (e + 1)) 2 else s)

/-! ### Wall switches -/

/-- Whether a GPIO level is the active one (R266). -/
def State.gpioActive (s : State) (g : Nat) (high : Bool) : Bool := if s.isOn (P.gpioInvert g) then high else !high

/-- Queues a decoded action with its number in the order of arrival at P5 (R243), or drops and counts it where 16 wait
(R268). -/
def State.queueWall (s : State) (a : WallAct) : State :=
  if s.sw.wallQ.length < 16 then
    { s with
      sw := { s.sw with wallQ := s.sw.wallQ ++ [(s.camyx.arrived, a)] }
      camyx := { s.camyx with arrived := s.camyx.arrived + 1 } }
  else { s with sw := { s.sw with dropped := wrapAdd 16 s.sw.dropped 1 } }

/-- Changes a GPIO's record. -/
def State.onGpio (s : State) (g : Nat) (f : Gpio → Gpio) : State := { s with sw := { s.sw with gpio := upd s.sw.gpio g f } }

/-- Whether the mapper runs (R266): in PLINTH, DOZE and RUN. -/
def State.mapperRuns (s : State) : Bool :=
  s.plinth.mode == .plinth || s.plinth.mode == .doze || s.plinth.mode == .run

/-- A pad level has completed its debounce (R266, Table 8.5): a change of level is decoded by the GPIO's mode. -/
def State.debounced (s : State) (g : Nat) (high : Bool) : State :=
  let p := s.sw.gpio.toList.getD g Gpio.initial
  let act := s.gpioActive g high
  let m := s.param (P.gpioMode g)
  let s1 := s.onGpio g fun p => { p with level := high }
  if !s.mapperRuns || (m != 4 && p.level == high) then s1
  else if m = 2 then if act && p.level != high then s1.queueWall (.toggle g) else s1
  else if m = 3 then s1.queueWall (.follow g act)
  else if m = 4 then
    if act && !p.pressed then s1.onGpio g fun p => { p with pressed := true, long := false, ramp := false }
    else if !act && p.pressed then
      let s2 := s1.onGpio g fun p => { p with pressed := false, long := false, ramp := false }
      if p.long then s2 else s2.queueWall (.toggle g)
    else s1
  else s1

/-- R266: a pad level has been steady for GPIO_DEBOUNCE_MS. -/
def execGpioDebounceComplete (g : Fin 8) (high : Bool) (s : State) : Host.Outcome State Fault Refusal :=
  .next (s.debounced g.val high)

/-- R267: a DIM press has been held for 500 ms; the long press is queued. -/
def execDimHold (g : Fin 8) (s : State) : Host.Outcome State Fault Refusal :=
  let p := s.sw.gpio.toList.getD g.val Gpio.initial
  .next (if s.param (P.gpioMode g.val) = 4 ∧ p.pressed = true ∧ p.long = false then
      (s.onGpio g.val fun p => { p with long := true }).queueWall (.dim g.val)
    else s)

/-- The channels a wall action reaches (R269): of GPIO_MASK, not fenced, not unused. -/
def State.wallChans (s : State) (g : Nat) : List Nat :=
  (List.range s.chans).filter fun c => bitAt (s.param (P.gpioMask g)) c && !s.fenced c && s.param (P.lswMode c) != 0

/-- A change of demand by a wall switch: one that leaves a demand other than OFF clears a current latch as a fresh
turn-on (R281). -/
def State.wallDemand (s : State) (c : Nat) (d : Demand) : State :=
  if d = .off then s.setDemand c d else ((s.clearLatch c).setDemand c d).refresh c true

/-- The first step of a long press on one channel (Table 8.5): PWM from its duty, from 51 if it was OFF and from 1,023 if
it was ON; the first ramp after a turn-on goes down, each later one the other way, and one from OFF goes up. -/
def State.dimStart (s : State) (c : Nat) : State :=
  match (s.chan c).demand with
  | .off => (s.wallDemand c (.pwm 51)).onChan c fun h => { h with dimUp := true }
  | .on => (s.wallDemand c (.pwm 1023)).onChan c fun h => { h with dimUp := false }
  | .pwm d => (s.wallDemand c (.pwm d)).onChan c fun h => { h with dimUp := !h.dimUp }

/-- A decoded action applied as a change of demand (R243, Table 8.5). -/
def State.applyWall (s : State) : WallAct → State
  | .toggle g =>
    let cs := s.wallChans g
    if cs.any fun c => (s.chan c).demand != .off then cs.foldl (fun s c => s.wallDemand c .off) s
    else cs.foldl (fun s c => s.wallDemand c (s.onDemand c)) s
  | .follow g act =>
    (s.wallChans g).foldl (fun s c => s.wallDemand c (if act then s.onDemand c else .off)) s
  | .dim g =>
    let cs := (s.wallChans g).filter fun c => s.param (P.lswMode c) == 2
    (cs.foldl (fun (s : State) c => s.dimStart c) s).onGpio g fun p => { p with ramp := p.pressed && !cs.isEmpty }

/-- R243, R268: the oldest queued action is applied at P5 at its turn; while the sequencer does not run, the actions wait. -/
def execWallActionApply (s : State) : Host.Outcome State Fault Refusal :=
  .next (match s.sw.wallQ with
    | (n, a) :: rest =>
      if s.seqRuns && s.firstAtP5 n then (({ s with sw := { s.sw with wallQ := rest } }).applyWall a).taskEnd 5 else s
    | [] => s)

/-- One duty step of a ramp (R267). -/
def dimNext (up : Bool) (d : Nat) : Nat := if up then min 1023 (d + 1) else max 51 (d - 1)

/-- A ramp step on one channel: its PWM duty moves by one; it is the demand that changes, not LSW_DUTY. -/
def State.dimStep (s : State) (c : Nat) : State :=
  match (s.chan c).demand with
  | .pwm d => s.setDemand c (.pwm (dimNext (s.chan c).dimUp d))
  | _ => s

/-- R267: every 2 ms of a hold the duty steps, until the release is first sampled or a limit is reached. -/
def execDimRampStep (g : Fin 8) (s : State) : Host.Outcome State Fault Refusal :=
  let p := s.sw.gpio.toList.getD g.val Gpio.initial
  let cs := (s.wallChans g.val).filter fun c => s.param (P.lswMode c) == 2
  .next (if p.ramp && p.pressed then
      let s1 := cs.foldl (fun (s : State) c => s.dimStep c) s
      let atEnd := cs.all fun c => match (s1.chan c).demand with
        | .pwm d => if (s1.chan c).dimUp then d == 1023 else d == 51
        | _ => true
      s1.onGpio g.val fun p => { p with ramp := p.ramp && !atEnd }
    else s)

/-! ### Restore -/

/-- R270: a supplied die has come up with its latches cleared; the demands of its channels are re-established. -/
def execRestoreAtStart (d : Fin 4) (s : State) : Host.Outcome State Fault Refusal :=
  .next (s.restoreDie d.val)

end Sys2Proof.Machine
end

