-- ==== Sys2Proof/Machine/Live.lean ====
section
/-! DEFINITION. The values of the Read parameters, block by block (Table 2.10, 3.11, 4.7, 5.12, 6.12, 7.9, 8.8, 9.7,
10.8, 11.6, 12.14, 13.12, 14.9, 15.12, 16.11). -/

namespace Sys2Proof.Machine

/-- SYS_LIFE_STATE (Table 16.1). -/
def Life.code : Life → Nat
  | .running => 0
  | .plinthStart => 1
  | .boot => 2
  | .shut1 => 3
  | .shut2 => 4
  | .shut3 => 5
  | .shut4 => 6
  | .shut5 => 7
  | .down => 8
  | .pickup => 9
  | .shelfPending => 10
  | .decommissioning => 11

/-- Identity, configuration and storage type (Table 7.9, Table 2.10). -/
def State.liveIdent (s : State) (base : Nat) : Nat :=
  match base with
  | 0x0001 => s.ident.roleStrap
  | 0x0002 => s.ident.role.code
  | 0x0003 => flag s.ident.qb 0
  | 0x0004 => ownStepping
  | 0x0005 => s.fwVersion
  | 0x0006 => ownCompat
  | 0x0007 => ofLe s.ident.uid
  | 0x0008 => s.ident.i2cAddr
  | 0x0020 => ofLe s.cfgDigest
  | 0x0021 => ofLe s.runDigest
  | 0x0022 => (s.activeBank.map fun b => b.1).getD 0
  | 0x0023 => (s.activeBank.map fun b => b.2.gen).getD 0
  | 0x0024 => s.config.maqGen
  | 0x0025 => s.config.staged.length
  | 0x0026 => s.cfgState
  | 0x0027 => s.ctr.saveCount
  | 0x0028 => s.ctr.commitCount
  | 0x3000 => s.ident.sto.code
  | _ => 0

/-- System values (Table 5.12, 6.12, 16.11). -/
def State.liveSys (s : State) (base i : Nat) : Nat :=
  match base with
  | 0xA040 => s.plinth.mode.code
  | 0xA041 => flag s.plinth.xo 0 + flag s.plinth.xtalFail 1 + flag s.plinth.rc48 2 + flag s.plinth.pll 3 +
      flag (s.plinth.tb8 == .pilot) 4 + flag s.plinth.rc32Trim 5
  | 0xA042 => s.plinth.upMs
  | 0xA043 => s.plinth.rtcSec
  | 0xA044 => flag s.plinth.timeValid 0
  | 0xA045 => ofInt 4 s.ctr.rtcTrim
  | 0xA046 => s.plinth.cause
  | 0xA047 => s.ctr.wdtCount
  | 0xA048 => s.plinth.blockMax.toList.getD i 0
  | 0xA04E => s.plinth.quietMiss
  | 0xA050 => s.camyx.rx
  | 0xA051 => s.camyx.err
  | 0xA052 => s.ctr.authFail
  | 0xA053 => maskOf 6 fun n => (s.camyx.ports.toList.getD n Port.empty).est.isSome
  | 0xA060 => s.life.st.code
  | 0xA061 => s.life.tRef
  | 0xA062 => s.life.retry
  | _ => 0

/-- Whether every calendar bin has been updated NRG_FC_MIN_WEEKS times (R123). -/
def State.fcReady (s : State) : Bool :=
  (List.range 168).all fun b => decide (s.param P.nrgFcMinWeeks ≤ s.ledger.cal.count.toList.getD b 0)

/-- Energy values (Table 4.7). -/
def State.liveNrg (s : State) (base : Nat) : Nat :=
  match base with
  | 0xA100 => s.eEst / mj
  | 0xA101 => s.eCnt / mj
  | 0xA102 => s.ledger.ev / mj
  | 0xA103 => s.eRes / mj
  | 0xA104 => ofInt 4 (s.eAvail / (mj : Int))
  | 0xA105 => s.eFull / mj
  | 0xA106 => s.capUse
  | 0xA107 => s.mvOfE s.keepEff
  | 0xA108 => s.mvOfE (s.param P.nrgSprigMj * mj)
  | 0xA109 => s.mvOfE (s.param P.nrgBunchMj * mj)
  | 0xA10A => flag s.ledger.sprig 0 + flag s.ledger.bunch 1 + flag s.ledger.hold 2 + flag s.ledger.fc 3 +
      flag s.ledger.belowKeep 4 + flag s.busGrants 5 + flag s.ledger.disagree 6 + flag s.ledger.rearm 7
  | 0xA10B => s.baseDrainUw
  | 0xA10C => s.ctr.rebases
  | 0xA10D => s.ctr.resRefused
  | 0xA10E => if !s.isOn P.nrgFcEn then 0 else if !s.plinth.timeValid then 4 else if s.ledger.suspended then 3
      else if s.fcReady then 2 else 1
  | 0xA10F => s.ctr.thruJ
  | _ => 0

/-- Harvest and power-path values (Table 3.11, Table 2.10). -/
def State.liveHrvPwr (s : State) (base : Nat) : Nat :=
  match base with
  | 0xA200 => flag s.harvest.teg.running 0 + flag s.harvest.vib.running 1 + flag s.harvest.pv.running 2 +
      flag s.harvest.nfc 3 + flag s.harvest.cscRan 4 + flag (s.harvest.full || (s.harvesting && s.stoLimited)) 5
  | 0xA201 => s.harvest.teg.vop
  | 0xA202 => s.harvest.vib.vop / 1000
  | 0xA203 => s.harvest.pv.vop / 1000
  | 0xA204 => s.harvest.teg.pin
  | 0xA205 => s.harvest.vib.pin
  | 0xA206 => s.harvest.pv.pin
  | 0xA207 => s.harvest.nfcUw
  | 0xA208 => s.harvest.vhbMv
  | 0xA209 => s.ctr.coldSrc
  | 0xA20A => s.ctr.poSkips
  | 0xA20B => s.ctr.eInJ
  | 0xA300 => s.power.path.code
  | 0xA301 => ofInt 4 s.power.vbusMv
  | 0xA302 => s.power.stoMv
  | 0xA303 => s.power.midMv
  | 0xA304 => ofInt 2 s.power.bakMv
  | 0xA305 => s.ctr.bakUsedUah
  | 0xA306 => s.ctr.hoCount
  | 0xA307 => s.ctr.dumpCount
  | _ => 0

/-- LSW_STATE (Table 8.8). -/
def State.lswStateOf (s : State) (c : Nat) : Nat :=
  let h := s.chan (s.lead c)
  let pwm := match h.demand with
    | .pwm _ => true
    | _ => false
  flag (h.demand != .off) 0 + flag pwm 1 + flag (s.chan c).out 2 + flag h.shed 3 + flag h.allow 4 + flag (s.fenced c) 5 +
    flag h.protect 6 + flag (h.shut || h.bus) 7

/-- LSW_PROT_STATE (Table 9.7). -/
def Chan.protState (h : Chan) : Nat :=
  flag h.limiting 0 + flag h.backoff 1 + flag h.curLatch 2 + flag h.thermOff 3 + flag h.thermLatch 4 + flag h.window 5 +
    flag h.escalated 6 + flag h.orphan 7

/-- LSW_ILIM_NOW (R278, R295): the limit of the window or of normal operation, under the ceiling of Table 9.5; a limiting keeps
the limit with which it began (R303). -/
def State.ilimNow (s : State) (c : Nat) : Nat :=
  let l := s.lead c
  let h := s.chan l
  min (if h.window then h.inrIlim else if h.limiting then h.ilimHeld else s.param (P.lswIlim l))
    (ilimCeiling (s.dieStep (dieOf c)))

/-- Load-switch values (Table 8.8, Table 9.7, Table 8.9). -/
def State.liveLsw (s : State) (base i : Nat) : Nat :=
  let h := s.chan i
  match base with
  | 0xA400 => s.lswStateOf i
  | 0xA401 => h.iMa
  | 0xA402 => h.ionMa
  | 0xA403 => flag h.noisy 0 + flag h.saturated 1 + flag h.heldVal 2 + flag (s.param (P.lswRange i) == 2 ||
      (s.param (P.lswRange i) == 0 && h.range16)) 3 + flag h.burst 4
  | 0xA404 => match (s.chan (s.lead i)).demand with
    | .pwm d => d
    | _ => 0
  | 0xA405 => (s.chan (s.lead i)).offset
  | 0xA406 => s.ctr.eDayJ.toList.getD i 0
  | 0xA407 => s.ctr.eTotWh.toList.getD i 0
  | 0xA480 => flag ((List.range 16).any fun c => (s.chan c).shift != 0) 0 +
      16 * maskOf 4 fun d => (s.sw.die.toList.getD d Die.initial).strobeAbs
  | 0xA481 => maskOf 16 fun c => (s.chan (s.lead c)).demand != .off
  | 0xA482 => maskOf 16 fun c => (s.chan c).out
  | 0xA4A0 => h.protState
  | 0xA4A1 => s.ilimNow i
  | 0xA4A2 => s.ctr.trips.toList.getD i 0
  | 0xA4A3 => s.ctr.clamps.toList.getD i 0
  | 0xA4A4 => ofInt 2 h.tjC
  | 0xA4F0 => (match s.fence i with
      | some f => 1 + 2 * fenceCode f
      | none => 0) + 16 * min (s.dieStep i) 3 + flag (s.holds (Ev.dieWarn i)) 6
  | 0xA4F1 => ofInt 2 (s.sw.die.toList.getD i Die.initial).tempC
  | 0xA4F2 => s.ctr.dieFences.toList.getD i 0
  | 0xA4F3 => s.dieSumMa i
  | 0xAB00 => maskOf 8 fun g => (s.sw.gpio.toList.getD g Gpio.initial).level
  | 0xAB01 => s.sw.dropped
  | _ => 0

/-- Armature values (Table 10.8, Table 11.6). -/
def State.liveArm (s : State) (base i : Nat) : Nat :=
  let x := s.rail i
  let p := s.phase i
  match base with
  | 0xA5C0 => x.st.code
  | 0xA5C1 => x.vos
  | 0xA5C2 => ofInt 4 (s.railMa i)
  | 0xA5C3 => x.fsw
  | 0xA5C4 => s.armLock i
  | 0xA5C5 => s.runMask i
  | 0xA5C6 => x.vref
  | 0xA5C7 => s.ctr.brakes.toList.getD i 0
  | 0xA5D0 => s.arm.quiet
  | 0xA5D1 => if s.arm.sync then 2 else if s.plinth.tb8 = .pilot then 1 else 0
  | 0xA5D4 => x.reason
  | 0xA5D5 => x.hiccups
  | 0xA5D6 => s.olNowMa i
  | 0xA5D7 => s.ctr.faults.toList.getD i 0
  | 0xA5E0 => ofInt 4 p.meanMa
  | 0xA5E1 => ofInt 2 p.trim
  | 0xA5E2 => flag (s.isOn (P.armPhEn i)) 0 + flag p.running 1 + flag (p.shed != 0) 2 + flag p.atLimit 3
  | 0xA5E3 => min (s.phStep i) 3 + 4 * (p.shed % 4)
  | _ => 0

/-- LINE_LEVEL_NOW (Table 12.14): the level in effect and the sources that stand at it. -/
def State.levelNow (s : State) : Nat :=
  let e := s.line.eff
  e + flag (decide (0 < e ∧ s.line.level = e)) 2 + flag (s.droopCounts && decide (0 < e ∧ s.line.droop = e)) 3 +
    flag (decide (0 < e ∧ s.line.cmd = e)) 4 + flag (decide (0 < e ∧ s.tabLevel = e)) 5

/-- Line values (Table 12.14). -/
def State.liveLine (s : State) (base i : Nat) : Nat :=
  let l := s.line
  match base with
  | 0xA600 => flag l.pilot 0 + flag l.lock 1 + flag l.joined 2 + flag l.generating 3 + flag l.conflict 4 +
      flag l.timeFrom 5 + flag l.txFault 6
  | 0xA601 => s.levelNow
  | 0xA602 => l.lanes.toNat
  | 0xA603 => l.mode.code
  | 0xA604 => ofLe ((List.range 4).map fun n => BitVec.ofNat 8 (l.snr.toList.getD n 0))
  | 0xA605 => l.fseq
  | 0xA606 => s.ctr.lineTx
  | 0xA607 => s.ctr.lineRx
  | 0xA608 => s.ctr.lineCrc
  | 0xA609 => s.ctr.lineRetry
  | 0xA610 => s.ctr.allowWh.toList.getD i 0
  | 0xA618 => l.hit.toNat
  | _ => 0

/-- Tableau and security values (Table 13.12, Table 14.9). -/
def State.liveTabSec (s : State) (base : Nat) : Nat :=
  let t := s.tab
  match base with
  | 0xA700 => flag t.inTab 0 + flag t.lead 1 + flag t.aside 2 + flag t.leadLost 3 + flag t.electing 4 +
      flag t.adopting 5 + flag t.tsync 6 + flag t.qualified 7
  | 0xA701 => t.members.toNat
  | 0xA702 => t.leadIdx
  | 0xA703 => t.asideReason
  | 0xA704 => flag t.fwMix 0
  | 0xA705 => t.ptot % 64
  | 0xA706 => ofInt 2 t.devTrim[0]
  | 0xA707 => ofInt 2 t.skewMs
  | 0xA708 => t.crcErr
  | 0xA800 => s.slotState
  | 0xA801 => s.power.fieldUw
  | 0xA802 => s.fwState
  | 0xA803 => s.sec.inactive.ver
  | 0xA804 => s.ctr.fwRollback
  | 0xA805 => s.sec.revoked.toNat
  | 0xA806 => ofLe (p256Public s.ident.attKey)
  | 0xA807 => ofLe s.ident.attCert
  | 0xA808 => s.ctr.nfcSessions
  | _ => 0

/-- TRACE_STATE (R461). -/
def TraceState.code : TraceState → Nat
  | .idle => 0
  | .armed => 1
  | .triggered => 2
  | .complete => 3
  | .stopped => 4

/-- A wear index in ppm. -/
def Wear.ppm (w : Wear) : Nat := w.micro / 1000000

/-- PATINA_PINNED: pinned records that are not released (R456). -/
def State.pinned (s : State) : Nat := (s.patina.pins.filter fun r => !r.released).length

/-- Event values (Table 15.12). -/
def State.liveEvt (s : State) (base i : Nat) : Nat :=
  let die := fun d => s.ctr.wearDie.toList.getD d Wear.zero
  let ph := fun p => s.ctr.wearPh.toList.getD p Wear.zero
  match base with
  | 0xA900 => s.events.status i
  | 0xA910 => s.events.fifo.length
  | 0xA911 => s.events.eseq
  | 0xA912 => s.events.lost
  | 0xA913 => s.ctr.pseq
  | 0xA914 => s.pinned
  | 0xA915 => s.ctr.suppressed
  | 0xA916 => s.trace.st.code
  | 0xA920 => (die i).ppm
  | 0xA924 => (ph i).ppm
  | 0xA92C => s.ctr.wearSto.ppm
  | 0xA92D => s.ctr.wearNvm.ppm
  | 0xA92E => (sumOf 4 fun d => (die d).step * 4 ^ d) + (sumOf 8 fun p => (ph p).step * 4 ^ (4 + p)) +
      s.ctr.wearSto.step * 2 ^ 24 + s.ctr.wearNvm.step * 2 ^ 26
  | _ => 0

/-- Whether a Read value stands in a block without supply: in FIELD, a VOLATILE value of the load switch, the Armature,
the line or the Tableau reads 0 (Table 14.4). -/
def State.unpowered (s : State) (d : PDesc) : Bool :=
  s.plinth.mode == .field && !d.saved && decide (0xA400 ≤ d.base ∧ d.base < 0xA800)

/-- The value of a Read parameter. -/
def State.live (s : State) (d : PDesc) (i : Nat) : Nat :=
  let b := d.base
  if s.unpowered d then 0
  else if b = 0x1100 then s.ledger.cal.bins.toList.getD i 0
  else if b < 0x4000 then s.liveIdent b
  else if b < 0xA100 then s.liveSys b i
  else if b < 0xA200 then s.liveNrg b
  else if b < 0xA400 then s.liveHrvPwr b
  else if b < 0xA500 then s.liveLsw b i
  else if b < 0xA600 then s.liveArm b i
  else if b < 0xA700 then s.liveLine b i
  else if b < 0xA900 then s.liveTabSec b
  else if b < 0xAB00 then s.liveEvt b i
  else s.liveLsw b i

/-- The present value of a defined parameter: live where it is Read, committed where it can be written. -/
def State.valueNow (s : State) (id : Nat) : Nat :=
  match findDesc id with
  | some (d, i) => if d.acc = .read then s.live d i % 2 ^ d.bits else s.param id
  | none => 0

end Sys2Proof.Machine
end

