-- ==== Sys2Proof/Machine/CmdBasic.lean ====
section
/-! DEFINITION. The meanings of the opcodes that read and of the session opcodes (R188 to R191, R197, R205 to R207, R210,
R214, R215). -/

namespace Sys2Proof.Machine

/-! ### PING, GET_INFO, reads -/

/-- PING (R210). -/
def State.cmdPing (s : State) (w : Waiting) : State := s.respond w .ok []

/-- R210: PING is answered with STATUS only. -/
def execPing (rq : Request) (s : State) : Host.Outcome State Fault Refusal := .next (s.serve 0x01 rq anyBody State.cmdPing)

/-- The Tableau byte of GET_INFO (Table 7.3): member count, own index, lead. -/
def State.tabByte (s : State) : Nat :=
  if s.tab.inTab then
    let own := BitVec.ofNat 8 (2 ^ s.param P.tabIndex)
    let all := s.tab.members ||| (if s.tab.aside then 0 else own)
    (placesOf 8 fun i => all.getLsbD i).length % 16 + 16 * (s.param P.tabIndex % 8) + flag s.tab.lead 7
  else 0

/-- The reply fields of GET_INFO (Table 7.3). -/
def State.infoBytes (s : State) : List Byte :=
  s.ident.uid ++ toLe 1 (flag s.ident.qb 0) ++ toLe 2 ownStepping ++ toLe 4 s.fwVersion ++ toLe 2 ownCompat ++
    toLe 1 s.ident.role.code ++ toLe 1 s.ident.sto.code ++
    toLe 2 (if s.line.joined then s.param P.lineFeederId else 0xFFFF) ++
    toLe 1 (if s.line.joined then s.param P.lineAddr else 0xFF) ++ toLe 1 s.tabByte ++ s.cfg8 ++
    toLe 4 s.plinth.rtcSec ++ toLe 1 (s.plinth.mode.code + flag s.plinth.timeValid 7) ++ toLe 1 s.cfgState

/-- GET_INFO (R215). -/
def State.cmdGetInfo (s : State) (w : Waiting) : State := s.respond w .ok s.infoBytes

/-- R215: GET_INFO returns the identity, role, time and configuration state. -/
def execGetInfo (rq : Request) (s : State) : Host.Outcome State Fault Refusal :=
  .next (s.serve 0x06 rq anyBody State.cmdGetInfo)

/-- The value that READ_PARAM returns from a SOURCE (Table 7.2): committed, staged, or of the active bank. -/
def State.readValue (s : State) (source id : Nat) : Nat :=
  let inBank := match findDesc id with
    | some (d, _) => d.saved && d.acc != .read
    | none => false
  if source = 1 then (s.config.staged.get? id).getD (s.valueNow id)
  else if source = 2 ∧ inBank = true then s.savedValue id
  else s.valueNow id

/-- The entries of a read (R214). -/
def State.readBytes (s : State) (source : Nat) (ids : List Nat) : List Byte :=
  ids.flatMap fun id => entryBytes id (s.readValue source id)

/-- READ_PARAM (R214): an undefined ID named alone is UNKNOWN_ID; SOURCE 2 without a valid bank is STATE. -/
def State.cmdReadParam (s : State) (w : Waiting) : State :=
  let ids := readIds (w.body.drop 1)
  if ids.any fun id => (findDesc id).isNone then s.respond w .unknownId []
  else if fieldAt w.body 0 1 = 2 ∧ s.activeBank.isNone = true then s.respond w .state []
  else s.respond w .ok (s.readBytes (fieldAt w.body 0 1) ids)

/-- R214: READ_PARAM returns parameter values from the committed, maquette or saved source. -/
def execReadParam (rq : Request) (s : State) : Host.Outcome State Fault Refusal :=
  .next (s.serve 0x10 rq anyBody State.cmdReadParam)

/-- Whether an ID is a live value of block 0xA. -/
def isLiveId (id : Nat) : Bool := decide (0xA000 ≤ id ∧ id < 0xB000) && (findDesc id).isSome

/-- READ_LIVE (R214): 0xAxxx only; an ID named alone that is none is UNKNOWN_ID, others are left out. -/
def State.cmdReadLive (s : State) (w : Waiting) : State :=
  let runs := runsOf (w.body.length / 3) w.body
  if runs.any fun r => r.2 == 1 && !isLiveId r.1 then s.respond w .unknownId []
  else s.respond w .ok (s.readBytes 0 ((readIds w.body).filter isLiveId))

/-- R214: READ_LIVE returns live values from one 1 ms snapshot. -/
def execReadLive (rq : Request) (s : State) : Host.Outcome State Fault Refusal :=
  .next (s.serve 0x15 rq anyBody State.cmdReadLive)

/-- JOINED (Table 7.2). -/
def State.joinedBytes (s : State) : List Byte := toLe 32 (maskOf 256 fun a => s.line.nodes.any fun n => n.addr == a)

/-- NODE_LIST, at a HEAD only (R8, R210). -/
def State.cmdNodeList (s : State) (w : Waiting) : State :=
  if s.ident.role = .head then s.respond w .ok (toLe 2 (s.param P.lineFeederId) ++ s.joinedBytes)
  else s.respond w .role []

/-- R210: NODE_LIST returns the feeder ID and the bitmap of joined addresses. -/
def execNodeList (rq : Request) (s : State) : Host.Outcome State Fault Refusal :=
  .next (s.serve 0x33 rq anyBody State.cmdNodeList)

/-! ### Sessions -/

/-- NONCE_D: eight draws from the TRNG (Table 6.7, log 8). -/
def State.nonceD (s : State) : List Byte := (List.range 8).map fun i => Sys2Proof.Config.trngByte (s.free + i)

/-- The key and the privilege of a new session (R191, R432): the claim key while unclaimed, for OWNER slot 0; else the
key of the slot, where it holds one. -/
def State.sessionSource (s : State) (role slot : Nat) : Option (List Byte × Priv) :=
  if s.unclaimed ∧ role = 1 ∧ slot = 0 then some (s.ident.claimKey, .claim)
  else (s.key? role slot).map fun k => (k, privOf role)

/-- The pending session of an OPEN_SESSION (R188 to R190). -/
def State.newSession (s : State) (t : Transport) (role slot : Nat) (nonceR key : List Byte) (p : Priv) : Session :=
  let ctx := s.ident.uid ++ nonceR ++ s.nonceD ++ toLe 1 (transportCode t) ++ toLe 1 role ++ toLe 1 slot
  { priv := p, slot := slot, kMac := sessionKey key 1 ctx, kEnc := sessionKey key 2 ctx, sid := s.camyx.sidNext, seq := 0,
    mac := [], rekeyDue := false, stored := none, seqs := [], verifiedAt := s.plinth.upMs, idleS := s.param P.sysSessIdleS }

/-- OPEN_SESSION (R188 to R191, R432): refused under AUTH, for SERVICE or a claim on gateway and line, and with NOKEY for
an empty slot; else the session is pending and its reply carries its K_MAC. -/
def State.cmdOpenSession (s : State) (w : Waiting) : State :=
  let role := fieldAt w.body 0 1
  let slot := fieldAt w.body 1 1
  let t := w.rq.via
  let far := t == .gateway || t == .line
  if w.rq.auth || (far && role == 3) then s.respond w .denied []
  else match s.sessionSource role slot with
    | none => s.respond w .noKey []
    | some (k, p) =>
      if far && p == .claim then s.respond w .denied []
      else
        let x := s.newSession t role slot (w.body.drop 2) k p
        let s1 : State :=
          { s with camyx := { s.camyx with sidNext := if s.camyx.sidNext = 65535 then 1 else s.camyx.sidNext + 1 }
                   free := s.free + 8 }
        let s2 := s1.onPort t fun q => { q with pend := some x }
        let s3 := if t = .nfc then s2.nfcReserve else s2
        s3.respond { w with key := some x.kMac } .ok (s.ident.uid ++ s.nonceD ++ toLe 2 x.sid)

/-- R188: OPEN_SESSION derives session keys and replies with UID, NONCE_D and SID under the new K_MAC. -/
def execOpenSession (rq : Request) (s : State) : Host.Outcome State Fault Refusal :=
  .next (s.serve 0x02 rq anyBody State.cmdOpenSession)

/-- CLOSE_SESSION (R197): the reply is under the session, which then ends. -/
def State.cmdCloseSession (s : State) (w : Waiting) : State :=
  let s1 := s.respond w .ok []
  match w.sid, (s1.port w.rq.via).est with
  | some i, some x => if x.sid = i then s1.endSession w.rq.via 1 else s1
  | _, _ => s1

/-- R197: CLOSE_SESSION ends the session with reason CLOSED. -/
def execCloseSession (rq : Request) (s : State) : Host.Outcome State Fault Refusal :=
  .next (s.serve 0x03 rq anyBody State.cmdCloseSession)

/-! ### ABORT -/

/-- Whether TARGET_SEQ names one of the parts from `first` to `last` (R207). -/
def targets (tgt first last : Nat) : Bool :=
  decide ((tgt + 65536 - first) % 65536 ≤ (last + 65536 - first) % 65536)

/-- What ABORT does to an operation in hand (R206, R213, R489): after its point of no return nothing; a pending SHELF is
undone; a forwarded request is aborted at its member, whose answer answers the ABORT; any other operation ends with
ABORTED and leaves state unchanged. -/
def State.abortOp (s : State) (w : Waiting) (o : Op) : State :=
  match o.kind with
  | .forward m =>
    let s1 : State :=
      { s with tab := { s.tab with
          bulkOut := s.tab.bulkOut ++ [(m, toLe 1 1 ++ toLe 1 w.priv.code ++ toLe 1 (transportCode w.rq.via) ++
            toLe 1 4 ++ toLe 2 0)] } }
    s1.begin_ w true .link (.forward m)
  | .shelf =>
    if o.pnr then s.respond w .alreadyDone []
    else
      let s1 := s.onOps fun l => l.erase o
      s1.shelfUndone.respond w .aborted []
  | _ =>
    if o.pnr then s.respond w .alreadyDone []
    else ((s.cancelOp o).finish o .aborted []).respond w .aborted []

/-- ABORT (R205 to R207): its target is looked for among the requests that wait, the parts of a run, the operations in
hand, the replies in parts, and the requests accepted before, all of its own sender: a session, or nobody, who is not the
LINE key either. A request that is IMMEDIATE or changes no state is not stopped while it waits (R207, R220). -/
def State.cmdAbort (s : State) (w : Waiting) : State :=
  let tgt := fieldAt w.body 0 2
  let t := w.rq.via
  let p := s.port t
  let hitW := fun v : Waiting => targets tgt v.first v.rq.seq.toNat
  let hitP := fun q : Parts => targets tgt q.first (q.next + 65535)
  let hitO := fun o : Op => o.via == t && targets tgt o.first o.seq
  let hitR := fun r : Reply => r.seq == tgt
  let used := fun x : Session => x.seqs.contains tgt
  match p.waiting.find? fun v => hitW v && v.sid == w.sid && !v.lineKeyed with
  | some v =>
    if immediate v.opc v.body || readsOnly v.opc v.body then s.respond w .alreadyDone []
    else ((s.onPort t fun p => { p with waiting := p.waiting.erase v }).respond v .aborted []).respond w .aborted []
  | none =>
  match p.parts.find? fun q => hitP q && q.of w with
  | some q => (s.onPort t fun p => { p with parts := p.parts.erase q }).respond w .aborted []
  | none =>
  match s.camyx.ops.find? fun o => hitO o && o.sid == w.sid && o.lineAddr.isNone with
  | some o => s.abortOp w o
  | none =>
  match p.replies.find? fun r => hitR r && r.sid == w.sid && r.lineAddr.isNone with
  | some r =>
    if s.replyLimit t r.key.isSome ≤ r.data.length ∨ 0 < r.part then
      (s.onPort t fun p =>
        { p with replies := p.replies.map fun x =>
            if x = r then { x with status := .aborted, data := [], cut := true, drops := [] } else x }).respond w .aborted []
    else s.respond w .alreadyDone []
  | none =>
    let mine := p.est.any fun x => w.sid == some x.sid && used x && tgt != w.rq.seq.toNat
    let others := p.waiting.any hitW || p.parts.any hitP || s.camyx.ops.any hitO || p.replies.any hitR ||
      p.est.any fun x => w.sid != some x.sid && used x
    s.respond w (if mine then .alreadyDone else if others then .denied else .badParam) []

/-- R206: ABORT sets the target's abort mark unless its point of no return is already set. -/
def execAbort (rq : Request) (s : State) : Host.Outcome State Fault Refusal :=
  .next (s.serve 0x04 rq anyBody State.cmdAbort)

end Sys2Proof.Machine
end

