-- ==== Sys2Proof/Machine/CmdLogs.lean ====
section
/-! DEFINITION. The meanings of the opcodes on events, the Patina and the trace (R452, R458, R460, R461). -/

namespace Sys2Proof.Machine

/-- EVT_READ (R452): the oldest entries; MODE 0 removes them as they are handed over (Table 7.4), MODE 1 leaves them. -/
def State.cmdEvtRead (s : State) (w : Waiting) : State :=
  let l := s.events.fifo.take (fieldAt w.body 1 1)
  let take := decide (fieldAt w.body 0 1 = 0)
  let remain := s.events.fifo.length - (if take then l.length else 0)
  s.respondWith w .ok (toLe 2 remain ++ l.flatMap FifoEntry.bytes) (if take then l.map fun e => e.eseq else [])

/-- R452: EVT_READ returns FIFO entries and removes them with MODE 0. -/
def execEvtRead (rq : Request) (s : State) : Host.Outcome State Fault Refusal :=
  .next (s.serve 0x40 rq anyBody State.cmdEvtRead)

/-- PATINA_READ (R458): records from the lowest held at or above FROM; RANGE above the next PSEQ. -/
def State.cmdPatinaRead (s : State) (w : Waiting) : State :=
  let from_ := fieldAt w.body 0 4
  let l := (s.patinaHeld.filter fun r => decide (from_ ≤ r.pseq)).take (fieldAt w.body 4 1)
  let next := match l.getLast? with
    | some r => r.pseq + 1
    | none => from_
  if s.ctr.pseq < from_ then s.respond w .range []
  else s.respond w .ok (toLe 4 next ++ l.flatMap PatRec.bytes)

/-- R458: PATINA_READ returns Patina records in ascending PSEQ from FROM. -/
def execPatinaRead (rq : Request) (s : State) : Host.Outcome State Fault Refusal :=
  .next (s.serve 0x41 rq anyBody State.cmdPatinaRead)

/-- TRACE_STATE (R461). -/
def TraceState.byte : TraceState → Nat
  | .idle => 0
  | .armed => 1
  | .triggered => 2
  | .complete => 3
  | .stopped => 4

/-- TRACE ACTION 0 (R460): the buffer is emptied and the trace armed with the parameters as they stand (R466). -/
def State.cmdTraceArm (s : State) (w : Waiting) : State :=
  let t : Trace :=
    { st := .armed, buf := [], trig := 0xFFFF, left := 0, gaps := 0
      sel := (List.range 4).map fun i => s.param (P.evtTrcSel i)
      trigCfg := s.param P.evtTrcTrig, prePct := s.param P.evtTrcPrePct, seen := false, paused := false }
  { s with trace := t }.respond w .ok (toLe 1 1)

/-- R460: TRACE ACTION 0 empties the buffer and arms the trace. -/
def execTraceArm (rq : Request) (s : State) : Host.Outcome State Fault Refusal :=
  .next (s.serve 0x42 rq (fun b => fieldAt b 0 1 == 0) State.cmdTraceArm)

/-- Whether the trace runs. -/
def Trace.runs (t : Trace) : Bool := t.st == .armed || t.st == .triggered

/-- TRACE ACTION 1 (R460). -/
def State.cmdTraceStop (s : State) (w : Waiting) : State :=
  let s1 : State := if s.trace.runs then { s with trace := { s.trace with st := .stopped } } else s
  s1.respond w .ok (toLe 1 s1.trace.st.byte)

/-- R460: TRACE ACTION 1 stops the trace at once. -/
def execTraceStop (rq : Request) (s : State) : Host.Outcome State Fault Refusal :=
  .next (s.serve 0x42 rq (fun b => fieldAt b 0 1 == 1) State.cmdTraceStop)

/-- One sample of 8 bytes. -/
def Sample.bytes (x : Sample) : List Byte := toLe 2 x.v0 ++ toLe 2 x.v1 ++ toLe 2 x.v2 ++ toLe 2 x.v3

/-- T0 (R461): the uptime of sample 0; without one, a value that the spec leaves open (log 8). -/
def State.traceT0 (s : State) : Nat :=
  match s.trace.buf with
  | x :: _ => x.up
  | [] => Sys2Proof.Config.reading s.free % 2 ^ 32

/-- TRIG (R461). -/
def Trace.trigIndex (t : Trace) : Nat := if t.trig < t.buf.length then t.trig else 0xFFFF

/-- TRACE ACTION 2 (R461): STATE while the trace runs. -/
def State.cmdTraceRead (s : State) (w : Waiting) : State :=
  let t := s.trace
  if t.runs then s.respond w .state []
  else
    s.draw.respond w .ok (toLe 1 t.st.byte ++ toLe 2 t.trigIndex ++ toLe 4 s.traceT0 ++ toLe 2 t.gaps ++
      ((t.buf.drop (fieldAt w.body 1 2)).take 126).flatMap Sample.bytes)

/-- R461: TRACE ACTION 2 returns the trace state and samples from FROM. -/
def execTraceRead (rq : Request) (s : State) : Host.Outcome State Fault Refusal :=
  .next (s.serve 0x42 rq (fun b => fieldAt b 0 1 == 2) State.cmdTraceRead)

end Sys2Proof.Machine
end

