-- ==== Sys2Proof/Machine/EventsLog.lean ====
section
/-! DEFINITION. The meanings of the event, Patina, trace and wear commands (Chapter 15). -/

namespace Sys2Proof.Machine

/-! ### The FIFO and the pins -/

/-- The oldest capture becomes an entry (R450, R451): in a full FIFO the oldest entry is dropped and counted, and
EVT_OVERFLOW is raised unless it is held. -/
def State.fifoWrite (s : State) : State :=
  match s.events.caps with
  | [] => s
  | c :: rest =>
    let full := decide (256 ≤ s.events.fifo.length)
    let s0 : State := { s with events := { s.events with caps := rest } }
    let s1 := if full then s0.fifoDrop 1 else s0
    let e : FifoEntry := { cap := c, dropped := full, eseq := s.events.eseq }
    let s2 : State :=
      { s1 with events :=
        { s1.events with
          fifo := s1.events.fifo ++ [e], eseq := wrapAdd 16 s1.events.eseq 1
          lost := if full then satAdd 32 s1.events.lost 1 else s1.events.lost } }
    if full && !s2.holds Ev.evtOverflow then s2.raiseC Ev.evtOverflow 0 0 else s2

/-- R450: a queued raise or clear is written as a FIFO entry. -/
def execFifoWrite (s : State) : Host.Outcome State Fault Refusal := .next (s.fifoWrite.taskEnd 1)

/-- Whether a held pulse still has an entry or a capture of its own. -/
def Events.hasEntry (e : Events) (h : Held) : Bool :=
  let same := fun c : Capture => !c.clear && c.src == h.src && c.reason == h.reason && c.detail == h.detail
  e.fifo.any (fun x => same x.cap) || e.caps.any same

/-- R446: 1 ms after its raise, a pulse of a source that is not queued is acknowledged. -/
def execPulseAckTimeout (g bit : Fin 16) (s : State) : Host.Outcome State Fault Refusal :=
  let mine := fun h : Held => h.pulse && h.src.grp == g.val && h.src.bit == bit.val && !s.events.hasEntry h
  .next (if bitAt (s.param (P.evtQG g.val)) bit.val then s
    else { s with events := { s.events with held := s.events.held.filter fun h => !mine h } })

/-- R448: the 1 ms minimum assertion of a pin ends. -/
def execEvtPinMinHoldExpiry (pin : Fin 2) (s : State) : Host.Outcome State Fault Refusal :=
  .next { s with events := { s.events with hold := s.events.hold &&& ~~~(BitVec.ofNat 2 (2 ^ pin.val)) } }

/-! ### The Patina -/

/-- R453: Roeno builds the oldest capture into a record in the Patina RAM. -/
def execPatinaCapture (s : State) : Host.Outcome State Fault Refusal :=
  .next (match s.patina.caps with
    | c :: rest =>
      if s.seqRuns then ({ s with patina := { s.patina with caps := rest } }.admitRec c).taskEnd 1 else s
    | [] => s)

/-- The SUMMARY of what was refused takes the token, once the RAM has room (R454). -/
def State.summary (s : State) : State :=
  match s.patina.refused with
  | some (n, g, first, last) =>
    if s.patina.ram.length < 64 ∧ 0 < s.patina.tokens then
      let c : PatCap :=
        { pinned := false, up := s.plinth.upMs, time := s.stamp, grp := 15, body := .summary n g first last }
      ({ s with patina := { s.patina with tokens := s.patina.tokens - 1, refused := none } }.keepRec c).clearE
        Ev.patinaSuppress
    else s
  | none => s

/-- R454: the bucket gains a token. -/
def execTokenGain (s : State) : Host.Outcome State Fault Refusal :=
  .next ({ s with patina := { s.patina with tokens := min 64 (s.patina.tokens + 1) } }.summary)

/-- Whether NVM may be flushed to: not on BAK (Table 5.7), not in FIELD (R427), with the firmware running. -/
def State.mayFlush (s : State) : Bool := s.seqRuns && s.power.path != .onBak && s.plinth.mode != .field

/-- A flush (R455): the RAM in PSEQ order, then the counter record; where the write fails its readback, NVM_FAULT and the
records stay. -/
def State.flush (s : State) (ok : Bool) : State :=
  if ok then
    let s1 := s.patina.ram.foldl State.writeRec s
    let s2 := s1.writeCounters
    ({ s2 with patina := { s2.patina with ram := [], flushReq := false, lastFlush := s2.plinth.upMs } }.clearD
      Ev.nvmFault 0).clearD Ev.nvmFault 1
  else s.raiseOnce Ev.nvmFault 0 (if s.patina.ram.isEmpty then 1 else 0)

/-- Whether the ledger holds PATINA_FLUSH for a flush that has waited. -/
def State.flushHeld (s : State) : Bool := s.ledger.res.any fun e => e.1 == .patinaFlush

/-- A flush under its reservation, which ends with it (Table 4.5). -/
def State.flushDone (s : State) (ok : Bool) : State :=
  let s1 := (s.flush ok).release .patinaFlush
  { s1 with ledger := { s1.ledger with
      waiting := dropJob .patinaFlush s1.ledger.waiting, fresh := dropJob .patinaFlush s1.ledger.fresh } }

/-- R455: the Patina RAM and the counter record are written to NVM under PATINA_FLUSH, where it is granted; else the request waits
for an update of the ledger that grants it, up to 60 s (Table 4.5), and the flush follows then. -/
def execPatinaFlush (ok : Bool) (s : State) : Host.Outcome State Fault Refusal :=
  let waits := s.ledger.waiting.any fun e => e.1 == .patinaFlush
  let w : State := { s with ledger := { s.ledger with waiting := s.ledger.waiting ++ [(.patinaFlush, 6 * mj)] } }
  .next (if !s.mayFlush then s
    else if !s.flushDue && !s.flushHeld && !waits then s
    else if s.flushHeld || s.canReserve .patinaFlush (6 * mj) then (s.flushDone ok).taskEnd 6
    else if waits then s
    else w.refuse .patinaFlush)

/-! ### The trace -/

/-- One value of a selector. -/
def State.traceValue (s : State) (i : Nat) : Nat :=
  let id := s.trace.sel.getD i 0
  if id = 0 then 0 else s.valueNow id % 65536

/-- One sample in RUN (R460): after the trigger only as many as are left. -/
def State.traceStep (s : State) : State :=
  let t := s.trace
  if s.plinth.mode ≠ .run || !t.runs || (t.st == .triggered && t.left == 0) then s
  else
    let x : Sample :=
      { up := s.plinth.upMs, v0 := s.traceValue 0, v1 := s.traceValue 1, v2 := s.traceValue 2, v3 := s.traceValue 3 }
    let full := decide (4096 ≤ t.buf.length)
    { s with trace :=
      { t with
        buf := pushMax 4096 t.buf x
        trig := if full && t.st == .triggered && t.trig != 0xFFFF then t.trig - 1 else t.trig
        left := if t.st = .triggered then t.left - 1 else t.left
        gaps := if t.paused then wrapAdd 16 t.gaps 1 else t.gaps
        paused := false } }

/-- R460: the sampling period. -/
def execTraceSample (s : State) : Host.Outcome State Fault Refusal := .next s.traceStep

/-- R460: the trigger source has been raised; the next sample is the trigger's. -/
def execTraceTrigger (s : State) : Host.Outcome State Fault Refusal :=
  .next (if s.trace.st = .armed ∧ s.trace.seen = true then
      { s with trace := { s.trace with st := .triggered, trig := s.trace.buf.length,
                                       left := (100 - s.trace.prePct) * 4096 / 100 } }
    else s)

/-- R460: the samples after the trigger are taken; the trace stops. -/
def execTraceDone (s : State) : Host.Outcome State Fault Refusal :=
  .next (if s.trace.st = .triggered ∧ s.trace.left = 0 then
      { s with trace := { s.trace with st := .complete } }.raiseP Ev.traceDone 0 0
    else s)

/-! ### Wear -/

/-- A half cycle of a die (Table 15.8): ΔT^5 × 2^((T_max − 125) / 20) / 1,000 millionths of a ppm. -/
def State.wearDie (s : State) (d : Nat) (deltaK maxC : Int) : State :=
  let old := s.ctr.wearDie.toList.getD d Wear.zero
  if deltaK < 5 then s
  else
    let new := old.rise (old.micro + scalePow (deltaK.toNat ^ 5) (maxC - 125) 20 / 1000) (old.driver + 1)
    { s with ctr := { s.ctr with wearDie := upd s.ctr.wearDie d fun _ => new } }.stepRise 1 d old new (new.driver / 2)
      (s.sw.die.toList.getD d Die.initial).tempC

/-- An addition to a phase's index (Table 15.8). -/
def State.wearPhase (s : State) (p : Nat) (add limited : Nat) : State :=
  let old := s.ctr.wearPh.toList.getD p Wear.zero
  let new := old.rise (old.micro + add) (old.driver + limited)
  { s with ctr := { s.ctr with wearPh := upd s.ctr.wearPh p fun _ => new } }.stepRise 2 p old new (new.driver / 1000)
    s.power.tempC

/-- The store's index from the throughput since the last EVT_STO_RESET (Table 15.8, R463); with EVT_STO_LIFE_KJ at 0 the
spec gives no value (log 8). -/
def State.wearStore (s : State) : State :=
  let old := s.ctr.wearSto
  let life := s.param P.evtStoLifeKj
  let j := s.ctr.thruJ - s.ctr.stoBaseJ
  let micro := if life = 0 then Sys2Proof.Config.reading s.free else j * 1000000000 / life
  let new := old.rise micro s.ctr.thruJ
  { (if life = 0 then s.draw else s) with ctr := { s.ctr with wearSto := new } }.stepRise 3 0 old new new.driver
    s.power.tempC

/-- The NVM index (Table 15.8). -/
def State.wearNvm (s : State) (maxErase : Nat) : State :=
  let old := s.ctr.wearNvm
  let new := old.rise (maxErase * 10000000) maxErase
  { s with ctr := { s.ctr with wearNvm := new } }.stepRise 4 0 old new new.driver s.power.tempC

/-- R462: P3 firmware updates an index from a hardware capture. -/
def execWearUpdate (w : WearIn) (s : State) : Host.Outcome State Fault Refusal :=
  .next (if !s.seqRuns then s
    else match w with
    | .die d deltaK maxC => s.wearDie d.val deltaK maxC
    | .phase p meanMa tempC =>
      let ol := max (s.param (P.armOlPhMa (s.railOf p.val))) 1
      s.wearPhase p.val (scalePow (1000000000000 * meanMa * meanMa / (ol * ol * 788400000)) (tempC - 85) 10) 0
    | .limited p count => s.wearPhase p.val (10000 * count) count
    | .store => s.wearStore
    | .nvm maxErase => s.wearNvm maxErase)

end Sys2Proof.Machine
end

