-- ==== Sys2Proof/Machine/Forward.lean ====
section
/-! DEFINITION. TAB_FORWARD (R213): an inner request for a member of the Tableau. -/

namespace Sys2Proof.Machine

/-- KEY_WRITE inside a TAB_FORWARD: its key field has the index 4 in the packet (R194). -/
def State.innerKeyWrite (s : State) (w : Waiting) (outer : List Byte) : State :=
  match s.openKey w 4 ((outer.drop 4).take 16) with
  | some key => s.keyWriteOpen w (fieldAt w.body 0 1) (fieldAt w.body 1 1) key (w.body.drop 18)
  | none => s.respond w .badParam []

/-- RAIL_CTRL by its ACTION. -/
def State.cmdRailCtrl (s : State) (w : Waiting) : State :=
  match fieldAt w.body 1 1 with
  | 0 => s.cmdRailStop w
  | 1 => s.cmdRailStart w
  | _ => s.cmdRailClear w

/-- TRACE by its ACTION. -/
def State.cmdTrace (s : State) (w : Waiting) : State :=
  match fieldAt w.body 0 1 with
  | 0 => s.cmdTraceArm w
  | 1 => s.cmdTraceStop w
  | _ => s.cmdTraceRead w

/-- An inner request executed by this device itself, where it is the member named; `outer` holds the parameters of the
TAB_FORWARD. -/
def State.inner (s : State) (w : Waiting) (opc : Nat) (outer : List Byte) : State :=
  match opc with
  | 0x01 => s.cmdPing w
  | 0x06 => s.cmdGetInfo w
  | 0x10 => s.cmdReadParam w
  | 0x11 => s.cmdWriteParam w
  | 0x12 => s.cmdCommit w
  | 0x13 => s.cmdRevert w
  | 0x14 => s.cmdSave w
  | 0x15 => s.cmdReadLive w
  | 0x16 => s.cmdImageExport w
  | 0x17 => s.cmdImageImport w
  | 0x20 => s.cmdChSet w
  | 0x21 => s.cmdChClear w
  | 0x28 => s.cmdRailCtrl w
  | 0x29 => s.cmdFaultRead w
  | 0x30 => s.cmdShedSet w
  | 0x31 => s.cmdTimeSet w
  | 0x32 => s.cmdAllowanceSet w
  | 0x33 => s.cmdNodeList w
  | 0x40 => s.cmdEvtRead w
  | 0x41 => s.cmdPatinaRead w
  | 0x42 => s.cmdTrace w
  | 0x50 => s.innerKeyWrite w outer
  | 0x51 => s.cmdKeyErase w
  | 0x52 => s.cmdAttest w
  | 0x53 => s.cmdFwBegin w
  | 0x54 => s.cmdFwBlock w
  | 0x55 => s.cmdFwActivate w
  | 0x56 => s.cmdDebugUnlock w
  | 0x60 => s.cmdReset w
  | 0x61 => s.cmdShelf w
  | 0x62 => s.cmdDecommission w
  | _ => s.respond w .badOpc []

/-- The checks of an inner request at this device, then its execution. -/
def State.innerHere (s : State) (w : Waiting) (opc : Nat) (outer : List Byte) : State :=
  let w1 : Waiting := { w with body := outer.drop 2 }
  if (rolesOf opc).isNone then s.respond w .badOpc []
  else if !admits w.priv (transportCode w.rq.via) opc w1.body then s.respond w .denied []
  else if !wellFormed opc w1.body then s.respond w .badParam (badDetail opc w1.body)
  else match s.gate opc w.rq.via w1.body with
    | some st => s.respond w st (s.gateDetail opc)
    | none => s.inner w1 opc outer

/-- TAB_FORWARD (R213). -/
def State.cmdTabForward (s : State) (w : Waiting) : State :=
  let m := fieldAt w.body 0 1
  let opc := fieldAt w.body 1 1
  if s.isSelf m then s.innerHere w opc w.body else s.forward w m opc (w.body.drop 2)

/-- R213: TAB_FORWARD carries an inner request to a member of the Tableau and answers with its reply. -/
def execTabForward (rq : Request) (s : State) : Host.Outcome State Fault Refusal :=
  .next (s.serve 0x07 rq anyBody State.cmdTabForward)

end Sys2Proof.Machine
end

