-- ==== Sys2Proof/Machine/Ledger.lean ====
section
/-! DEFINITION. The meanings of the commands on the energy ledger (Chapter 4): the gauge (R103 to R112), HOLD (R117 to R120),
reservations (R113 to R116), the forecast calendar (R123, R125) and the termination of a charge (R104). -/

namespace Sys2Proof.Machine

/-! ### The count -/

/-- Units of energy in one microjoule (log 7). -/
def ujUnits : Nat := 2000

/-- What a ledger instant counts (R103, R116, R123, R129): the charge, what VHOST has drawn from the HOST reservation, the
harvest of the hour and since manufacture, the outflow and the throughput; how long the current has kept within the bounds
of R111, and since when it discharges STO (R106). -/
def State.count (s : State) (g : Gauge) : State :=
  let l := s.ledger
  let thru := l.thruUj + g.hostUj + g.outUj
  let up := s.plinth.upMs
  let ms := since up l.lastAt
  let inUj := s.harvest.inUj + g.harvUj
  { s with
    ledger := { l with
      qUc := l.qUc - g.dqUc
      host := l.host.map fun r => r - g.hostUj * ujUnits
      hourUj := l.hourUj + g.harvUj
      checks := l.checks.map fun f => { f with harvested := f.harvested + g.harvUj * ujUnits }
      outUj := l.outUj + g.outUj
      disAt := if 0 < g.dqUc then some (l.disAt.getD l.lastAt) else none
      lastAt := up
      calmMs := if g.peakUa ≤ 1000 then min (l.calmMs + ms) 1800000 else 0
      restMs := if g.peakUa ≤ 500 then min (l.restMs + ms) 1800000 else 0
      thruUj := thru % 1000000 }
    harvest := { s.harvest with inUj := inUj % 1000000, outUa := g.harvUa }
    power := { s.power with midMv := g.midMv }
    ctr := { s.ctr with
      thruJ := wrapAdd 32 s.ctr.thruJ (thru / 1000000), eInJ := wrapAdd 32 s.ctr.eInJ (inUj / 1000000) } }

/-- The rest voltage (R103): the measured voltage with the drop of the discharge current over NRG_ESR_MOHM. -/
def State.restMv (s : State) (g : Gauge) : Nat :=
  ((g.stoMv : Int) + g.netUa * s.param P.nrgEsrMohm / 1000000).toNat

/-! ### The gauge (Table 4.4) -/

/-- Anchors the primary estimate at E_v (Table 4.4). -/
def State.anchor (s : State) : State :=
  { s with ledger := { s.ledger with evLast := s.ledger.ev, ecLast := s.eCnt } }

/-- Sets the count without a step in what R106 and R107 measure. -/
def State.setCount (s : State) (q : Int) : State :=
  { s with ledger :=
    { s.ledger with qUc := q, learn := s.ledger.learn.map fun x => (x.1, x.2 + (q - s.ledger.qUc)) } }

/-- A rebase (R112): the count is set, REBASE is raised and counted, and a disagreement ends. -/
def State.rebase (s : State) (q : Int) : State :=
  let s1 := s.setCount q
  ({ s1 with
    ledger := { s1.ledger with disagree := false, unrested := false }
    ctr := { s1.ctr with rebases := satAdd 16 s1.ctr.rebases 1 } }.clearE Ev.disagree).raiseP Ev.rebase 0 0

/-- Begins or withdraws a disagreement. -/
def State.setDisagree (s : State) (b : Bool) : State :=
  { s with ledger := { s.ledger with disagree := b } }.setC Ev.disagree b 0 0

/-- The first reading after a start from nothing (Table 4.4, R127): the count is set from the voltage, a cell's is unrested,
and the standing reservation is held from now on (Table 4.5). -/
def State.firstReading (s : State) (mv : Nat) : State :=
  let res := if s.ledger.res.any fun r => r.1 == .shutdownCommit then s.ledger.res
    else (.shutdownCommit, 40 * mj) :: s.ledger.res
  ({ s with ledger :=
    { s.ledger with
      qUc := s.ucOfMv mv, first := true, unrested := !s.isCap, learn := none, res := res } }.setDisagree false).anchor

/-- Takes a measured capacitance or capacity into use at one part in four (R106, R107), where it lies between half the
nominal value and `hi` per cent of it; else CAP_SUSPECT. -/
def State.learned (s : State) (m : Int) (nom hi : Nat) : State :=
  if (nom : Int) ≤ 2 * m ∧ 100 * m ≤ (hi * nom : Nat) then
    { s with ctr := { s.ctr with capMeas := (3 * s.capUse + m.toNat) / 4 } }
  else s.raiseP Ev.capSuspect 0 0

/-- A measurement of R106 at a valid reading: over an interval of charging of 200 mV and more, ΔQ / ΔV. A second of net
discharge abandons the interval. With NRG_CAP_LEARN_EN at 0 nothing is measured, so no CAP_SUSPECT is raised either (DEDUCED,
log 73). -/
def State.learnCap (s : State) (mv : Nat) : State :=
  let from_ := { s with ledger := { s.ledger with learn := some (mv, s.ledger.qUc) } }
  match s.ledger.learn with
  | none => if s.ledger.disAt.isNone then from_ else s
  | some (v, q) =>
    if mv < v + 200 then s
    else if s.isOn P.nrgCapLearnEn then
      from_.learned ((s.ledger.qUc - q) / ((mv - v : Nat) : Int)) (s.param P.nrgCapNomMf) 150
    else from_

/-- Whether the discharge has lasted a whole second (R106). -/
def State.abandons (s : State) : Bool :=
  match s.ledger.disAt with
  | some t => decide (1000 ≤ since s.plinth.upMs t)
  | none => false

/-- A measurement of R107 at a rest reading: between two of them that lie 50 % apart, ΔQ / ΔSoC. -/
def State.learnCell (s : State) (mv : Nat) : State :=
  let from_ := { s with ledger := { s.ledger with learn := some (mv, s.ledger.qUc) } }
  match s.ledger.learn with
  | none => from_
  | some (v, q) =>
    let d := s.ucOfMv mv - s.ucOfMv v
    if d.natAbs < 5 * s.cellSeg then s
    else if s.isOn P.nrgCapLearnEn then
      from_.learned ((s.ledger.qUc - q) * s.capUse / d) (s.param P.nrgCellMah) 110
    else from_

/-- Whether the ADC-P sample of a reading is noisy: it is placed by the rule of the channel samples in RUN (R149). -/
def State.gaugeNoisy (s : State) (g : Gauge) : Bool := s.plinth.mode == .run && s.slotNoisy g.slot.val

/-- Whether a reading is valid (R111, R150): the current has stayed within ±1 mA for 100 ms, and the sample is clean. -/
def State.validReading (s : State) (g : Gauge) : Bool := decide (100 ≤ s.ledger.calmMs) && !s.gaugeNoisy g

/-- Whether a reading is a rest reading (R111): within ±0.5 mA for 30 min. -/
def State.restReading (s : State) (g : Gauge) : Bool := decide (1800000 ≤ s.ledger.restMs) && !s.gaugeNoisy g

/-- The gauge of a supercapacitor (Table 4.4). -/
def State.gaugeCap (s : State) (g : Gauge) (mv : Nat) : State :=
  let s0 : State := if s.abandons then { s with ledger := { s.ledger with learn := none } } else s
  let s1 := if s.validReading g then
      let s2 := if s0.ledger.disagree then s0.rebase (s0.ucOfMv mv) else s0
      let s3 := s2.learnCap mv
      { s3 with ledger := { s3.ledger with ev := s3.eOfMv mv } }.anchor
    else s0
  if s1.eFull < 20 * dist s1.ePrimary s1.eCnt then s1.setDisagree true else s1

/-- Whether a reading of a cell counts as a rest reading (R111): not on the plateau of LFP. -/
def State.restUsable (s : State) (g : Gauge) (mv : Nat) : Bool :=
  s.restReading g && !(s.ident.sto == .lfp && decide (3250 ≤ mv ∧ mv ≤ 3330))

/-- The gauge of a cell (Table 4.4, R111). -/
def State.gaugeCell (s : State) (g : Gauge) (mv : Nat) : State :=
  let apart := decide (s.cellSeg < (s.ucOfMv mv - s.ledger.qUc).natAbs)
  if s.restUsable g mv then
    let s1 := if apart && !s.ledger.unrested then s.setDisagree true else s
    (if apart || s.ledger.unrested then s1.rebase (s.ucOfMv mv) else s1.setDisagree false).learnCell mv
  else if !s.restReading g && apart then s.setDisagree true
  else s

/-- The readings and estimates of one ledger instant (R112, R127). -/
def State.gauge (s : State) (g : Gauge) : State :=
  let mv := s.restMv g
  let s1 : State := { s with ledger := { s.ledger with ev := s.eOfMv mv } }
  if s.power.fShort || s.power.fOpen then
    { s1 with ledger := { s1.ledger with first := false } }
  else if !s.ledger.first then s1.firstReading mv
  else if s.isCap then s1.gaugeCap g mv
  else s1.gaugeCell g mv

/-! ### KEEP -/

/-- Below KEEP (R108): entered below KEEP_eff, left at 1.05 × KEEP_eff; never left while KEEP_eff is unreachable (R110). -/
def State.keepEval (s : State) : State :=
  let below := if s.ledger.belowKeep then decide (100 * s.eEst < 105 * s.keepEff ∨ s.eFull < s.keepEff)
    else decide (s.eEst < s.keepEff)
  { s with ledger := { s.ledger with belowKeep := below } }.setC Ev.belowKeep below 0 0

/-- A KEEP breach (R120): since the last update or the rise of HOLD, E_est has fallen below KEEP_eff while HOLD is high; both
pins go low at once. -/
def State.breachEval (s : State) : State :=
  let now := decide (s.keepEff ≤ s.eEst)
  let s1 : State := { s with ledger := { s.ledger with above := now } }
  if s.ledger.hold && !s.ledger.ignored && !s.ledger.overrun && !s.ledger.breach && s.ledger.above && !now then
    { s1 with ledger := { s1.ledger with breach := true } }.raiseP Ev.keepBreach 0 0
  else s1

/-- The procedure of R117 at a fall of HOLD: the HOST reservation closes and both pins go low until the rearm ends. -/
def State.holdDown (s : State) : State :=
  { s with ledger := { s.ledger with
      host := none, rearm := true, breach := false, overrun := false, ignored := false } }.pinsLow

/-- VHOST returns after a breach once E_est has reached NRG_SPRIG_MJ (R120); a HOLD that is still high stays ignored. -/
def State.breachReturn (s : State) : State :=
  if s.power.vhostBreach && decide (s.param P.nrgSprigMj * mj ≤ s.eEst) then
    let s1 := ({ s with power := { s.power with vhostBreach := false } }.vhostEval).holdDown
    { s1 with ledger := { s1.ledger with ignored := s1.ledger.hold } }
  else s

/-- R122: one instant of the ledger's grid. The core counts and drives the pins; while the ledger firmware stands still,
readings and requests wait (R128). -/
def State.ledgerStep (s : State) (g : Gauge) : State :=
  let s1 := (s.setSto g.stoMv).count g
  let s2 := if s.ledger.fwStop then s1 else s1.gauge g
  let s3 := (((s2.unreachEval.keepEval).breachEval).breachReturn).vhostEval
  (if s.ledger.fwStop then s3 else (s3.regrant.resumeOps).nfcRegrant).evalPins

/-- R122, R149: at each grid instant the ledger updates the gauge, the thresholds and the grant pins. The ledger runs in PLINTH,
DOZE and RUN. -/
def execLedgerUpdate (g : Gauge) (s : State) : Host.Outcome State Fault Refusal :=
  let s1 : State := if s.gaugeNoisy g then
      { s with plinth := { s.plinth with quietMiss := satAdd 32 s.plinth.quietMiss 1 } } else s
  .next (if s.plinthOn && s.plinth.mode != .field then (s1.ledgerStep g).taskEnd 3 else s)

/-- R104: the charge of a cell ends; the count is set to 100 %. -/
def execChargeTermination (s : State) : Host.Outcome State Fault Refusal :=
  .next (if s.isCap || !s.plinthOn || s.power.ended || !(s.busCarries || s.harvesting) then s
    else
      ({ s with power := { s.power with ended := true } }.rebase (10 * s.cellSeg : Nat)).evalLedger)

/-! ### HOLD -/

/-- Whether HOLD is sensed (Table 1.5): not in SHELF, FIELD or under device reset. -/
def State.holdSensed (s : State) : Bool :=
  s.plinthOn && s.plinth.mode != .field && s.plinth.mode != .shelf && !s.inReset

/-- R117, R118, R121: HOLD qualifies high; a HOST reservation opens for the highest pin asserted, else HOLD_UNGRANTED is
raised. While VHOST is held off, HOLD is ignored (R120). -/
def execHoldRise (s : State) : Host.Outcome State Fault Refusal :=
  let up : State := { s with ledger := { s.ledger with hold := true, above := decide (s.keepEff ≤ s.eEst) } }
  .next (if !s.holdSensed || s.ledger.hold then s
    else if s.power.vhostBreach then up
    else match s.hostAmount with
      | some r => { up with ledger := { up.ledger with host := some r } }
      | none => up.raiseP Ev.holdUngranted 0 0)

/-- R117, R119, R120: HOLD qualifies low, also one that was ignored; the HOST reservation closes and both pins go low for
NRG_REARM_MS. -/
def execHoldFall (s : State) : Host.Outcome State Fault Refusal :=
  let down : State := { s with ledger := { s.ledger with hold := false } }
  .next (if !s.holdSensed || !s.ledger.hold then s
    else down.holdDown)

/-- R117: NRG_REARM_MS ends; the pins are evaluated afresh. -/
def execRearmEnd (s : State) : Host.Outcome State Fault Refusal :=
  .next (if s.ledger.rearm then { s with ledger := { s.ledger with rearm := false } }.evalPins else s)

/-- R119: HOLD has been high for NRG_HOLD_MAX_MS; 0 disables the limit. -/
def execHoldOverrun (s : State) : Host.Outcome State Fault Refusal :=
  let l := s.ledger
  .next (if !l.hold || l.ignored || l.overrun || s.power.vhostBreach || s.param P.nrgHoldMaxMs == 0 then s
    else ({ s with ledger := { l with host := none, overrun := true } }.raiseP Ev.holdOverrun 0 0).pinsLow)

/-- R120: HOLD is still high NRG_BREACH_GRACE_MS after a breach; VHOST turns off where NRG_BREACH_VHOST_OFF is 1. -/
def execBreachGraceExpiry (s : State) : Host.Outcome State Fault Refusal :=
  .next (if s.ledger.breach && s.ledger.hold && s.isOn P.nrgBreachVhostOff then
      ({ s with power := { s.power with vhostBreach := true } }.vhostEval).evalPins
    else s)

/-! ### Reservations -/

/-- The amount of a reservation (Table 4.5); `n` counts records, blocks or slots. -/
def jobAmount (j : Job) (n : Nat) : Nat :=
  match j with
  | .shutdownCommit => 40 * mj
  | .faultRecord => 4 * n * mj
  | .keyCommit => 15 * mj
  | .patinaFlush => 6 * mj
  | .calendarSave => 3 * mj
  | .configSave => 25 * mj
  | .fwBlock => n * mj
  | .nfcSession => 20 * mj
  | .lineTxDark => 4 * n * mj

/-- Whether a job waits for its reservation (Table 4.5). -/
def jobWaits : Job → Bool
  | .keyCommit => true
  | .patinaFlush => true
  | .configSave => true
  | .fwBlock => true
  | _ => false

/-- R114: an internal job requests its reservation. The standing one is always held. -/
def execReservationRequest (j : Job) (units : Nat) (s : State) : Host.Outcome State Fault Refusal :=
  let r := jobAmount j units
  .next (if j = .shutdownCommit then s
    else if jobWaits j then s.request j r
    else if s.canReserve j r then s.hold j r
    else s.refuse j)

/-- Whether an operation in hand waits for a reservation of a job that it does not hold. -/
def State.awaits (s : State) (j : Job) (o : Op) : Bool :=
  match o.wait with
  | .grant k r => k == j && !s.granted k r
  | _ => false

/-- R113: a waiting reservation has reached its wait limit: the operation that waits for it is answered ENERGY, a job
without one goes on without it. -/
def execReservationWaitExpiry (j : Job) (s : State) : Host.Outcome State Fault Refusal :=
  .next (match s.camyx.ops.find? (s.awaits j) with
    | some o => s.energyOut o
    | none => { s with ledger :=
        { s.ledger with waiting := dropJob j s.ledger.waiting, fresh := dropJob j s.ledger.fresh } })

/-- Whether an operation in hand or the NFC session holds a reservation of a job. -/
def State.inUse (s : State) (j : Job) : Bool :=
  (j == .nfcSession && s.nfc.sessionRes) ||
    s.camyx.ops.any fun o => match o.kind with
      | .save .. => j == .configSave
      | .keyWrite .. => j == .keyCommit
      | .fwBegin .. => j == .fwBlock
      | .fwBlock .. => j == .fwBlock
      | .decommission => j == .configSave || j == .keyCommit
      | _ => false

/-- R113: a job ends and its reservation is released. One that an operation in hand holds ends with that operation. -/
def execReservationRelease (j : Job) (s : State) : Host.Outcome State Fault Refusal :=
  .next (if j = .shutdownCommit ∨ s.inUse j = true then s else s.release j)

/-- R128: the ledger firmware has stood still for 2 s; the core drives both pins low. -/
def execLedgerFirmwareTimeout (s : State) : Host.Outcome State Fault Refusal :=
  .next (if s.ledger.fwStop then { s with ledger := { s.ledger with coreLow := true } }.pinsLow else s)

/-! ### The forecast calendar -/

/-- The bin of an hour after its update (R123): nearest, halves up, saturating at 16 bits. -/
def binAfter (bin uj weight : Nat) : Nat :=
  let d : Int := 10000 * max weight 1
  let x : Int := (uj : Int) - 10000 * bin
  min 65535 ((bin : Int) + (2 * x + d) / (2 * d)).toNat

/-- R123: an hour ends; its bin is updated, unless time was invalid or stepped in it, and its outflow joins those of the last
24 h. -/
def execCalendarHourEnd (s : State) : Host.Outcome State Fault Refusal :=
  let l := s.ledger
  let b := s.binOf ((s.plinth.rtcSec : Int) - 1)
  let good := s.isOn P.nrgFcEn && s.plinth.timeValid && !l.hourBad
  .next (if !s.plinthOn then s
    else
      { s with ledger :=
        { l with
          cal := if good then
              { bins := upd l.cal.bins b fun v => binAfter v (min l.hourUj 655350000) (s.param P.nrgFcWeight)
                count := upd l.cal.count b fun n => min 255 (n + 1) }
            else l.cal
          outUj := 0, outHours := (l.outUj :: l.outHours).take 24
          hourUj := 0, hourBad := !s.plinth.timeValid } })

/-- R123: the daily write of the calendar under CALENDAR_SAVE, weekly once the NVM has reached a wear step (Table 15.9); where
it is not granted the day is skipped. `ok` says that the readback passes. -/
def execCalendarSave (ok : Bool) (s : State) : Host.Outcome State Fault Refusal :=
  .next (if !s.seqRuns || s.plinth.mode == .field then s
    else if s.ctr.wearNvm.step ≠ 0 ∧ s.ledger.calSkip < 6 then
      { s with ledger := { s.ledger with calSkip := s.ledger.calSkip + 1 } }
    else if !s.canReserve .calendarSave (3 * mj) then s.refuse .calendarSave
    else if ok then { s with ledger := { s.ledger with nvmCal := s.ledger.cal, calSkip := 0 } }.clearD Ev.nvmFault 2
    else s.raiseOnce Ev.nvmFault 0 2)

/-- R125: NRG_FC_HORIZON_H after a forecast grant; the third miss in a row suspends forecast grants. -/
def execForecastCheck (s : State) : Host.Outcome State Fault Refusal :=
  .next (match s.ledger.checks with
    | [] => s
    | f :: rest =>
      let n := if f.deficit ≤ f.harvested then 0 else s.ledger.misses + 1
      if 3 ≤ n then
        (({ s with ledger := { s.ledger with checks := rest, misses := 0, suspended := true } }).raiseOnce
          Ev.fcSuspend 0 0).evalPins
      else { s with ledger := { s.ledger with checks := rest, misses := n } })

/-- R125: 24 h after FC_SUSPEND. -/
def execFcSuspendEnd (s : State) : Host.Outcome State Fault Refusal :=
  .next (if s.ledger.suspended then
      { s with ledger := { s.ledger with suspended := false } }.clearE Ev.fcSuspend
    else s)

end Sys2Proof.Machine
end

