-- ==== Sys2Proof/Machine/Line.lean ====
section
/-! DEFINITION. The meanings of the feeder-line commands (Chapter 12, and the two heads of R415). -/

namespace Sys2Proof.Machine

/-! ### The pilot -/

/-- The pilot word of Table 12.6. -/
def pilotWord (level sec : Nat) (valid : Bool) : BitVec 10 :=
  let sfn := sec % 8
  let t := if valid then sec - sfn else 0xFFFFFFFF
  let w := level % 4 + 4 * sfn + 32 * (t / 16 ^ sfn % 16)
  let par := sumOf 9 fun i => flag (bitAt w i) 0
  BitVec.ofNat 10 (w + 512 * (par % 2))

/-- R357, R358, R380: at a HEAD whose pilot runs, the word of this second, with the higher of the commanded and the
droop level. -/
def execPilotWordSend (s : State) : Host.Outcome State Fault Refusal :=
  .next (if s.pilotOn then
      { s with line := { s.line with
          word := pilotWord (max s.line.cmd s.line.droop) s.plinth.rtcSec s.plinth.timeValid } }
    else s)

/-- Even parity over the ten bits. -/
def wordParity (w : BitVec 10) : Bool := (sumOf 10 fun i => flag (w.getLsbD i) 0) % 2 == 0

/-- Takes a valid word while locked (R358, R360, R379): the level rises at once and falls at the second word in a row;
nibbles gather from SFN 0, and a full set gives the time of the next second. -/
def State.takeWord (s : State) (level sfn tnib : Nat) : State :=
  let l := s.line
  let nib := if sfn = 0 then [tnib] else if l.nibbles.length = sfn then l.nibbles ++ [tnib] else []
  let full := decide (nib.length = 8)
  let t := nib.foldr (fun n a => n + 16 * a) 0
  let rise := decide (l.level < level)
  let fall := decide (level < l.level)
  let now := fall && l.fall == some level
  { s with line :=
      { l with
        bad := 0
        lastSfn := some sfn
        nibbles := if full then [] else nib
        applyT := if full && t != 0xFFFFFFFF then some (t + 8) else l.applyT
        level := if rise || now then level else l.level
        fall := if fall && !now then some level else none } }.relevel

/-- A word at a node (R358, R359). Without lock, three words in a row with good parity and consecutive SFN gain it; with
lock, a word that fails its check is counted and not used. -/
def State.hearWord (s : State) (w : BitVec 10) : State :=
  let level := w.toNat % 4
  let sfn := w.toNat / 4 % 8
  let tnib := w.toNat / 32 % 16
  let par := wordParity w
  let next := match s.line.lastSfn with
    | some x => decide (sfn = (x + 1) % 8)
    | none => true
  let s0 : State := { s with line := { s.line with pilot := true } }
  if s.line.lock then
    if par && next then (s0.takeWord level sfn tnib).trimRtc
    else
      { s0 with line :=
          { s0.line with bad := s.line.bad + 1, fall := none, nibbles := []
                         lastSfn := s.line.lastSfn.map fun x => (x + 1) % 8 } }
  else if !par then { s0 with line := { s0.line with good := 0, lastSfn := none } }
  else
    let n := if next then s.line.good + 1 else 1
    let s1 : State := { s0 with line := { s0.line with good := n, lastSfn := some sfn } }
    if 3 ≤ n then ((s1.gainLock).takeWord level sfn tnib).trimRtc else s1

/-- R358: a pilot word has ended. A receiver that is off (R27, Table 5.3), a HEAD (Table 0.2) and a Tableau member that is not
lead (R394) take none. -/
def execPilotWordReceived (w : BitVec 10) (s : State) : Host.Outcome State Fault Refusal :=
  .next (if !s.lineReceives || s.ident.role == .head || s.follower then s else s.hearWord w)

/-- R359: the pilot has been below 10 mV for 500 ms, or three words in a row have failed; lock is lost. -/
def execPilotLoss (byWords : Bool) (s : State) : Host.Outcome State Fault Refusal :=
  .next (if byWords then (if 3 ≤ s.line.bad then s.loseLock else s)
    else { s with line := { s.line with pilot := false } }.loseLock)

/-- R360: the next pilot second after a full set of nibbles. Time is set where it is not valid, stepped where it is more
than 2 s off, else slewed by 1 %. -/
def State.timeFromPilot (s : State) : State :=
  match s.line.applyT with
  | none => s
  | some t =>
    if !s.line.lock then s
    else
      let s1 : State := { s with line := { s.line with applyT := none, timeFrom := true } }
      let diff : Int := ((t : Int) - (s.plinth.rtcSec : Int)) * 100000 - ((s.plinth.rtcSub * 100000 / 32768 : Nat) : Int)
      if !s.plinth.timeValid then s1.setTime t
      else if 200000 < diff.natAbs then (s1.setTime t).raiseP Ev.timeStep 0 0
      else { s1 with plinth := { s1.plinth with slew := diff } }

/-- R360: at the pilot second, the node takes the time that the nibbles gave. -/
def execTimeApply (s : State) : Host.Outcome State Fault Refusal := .next s.timeFromPilot

/-! ### Superframes, exchanges and frames -/

/-- Whether a node waits to join (R373, R374). -/
def State.wantsJoin (s : State) : Bool :=
  !s.isHead && s.line.lock && !s.line.joined && s.line.heardFirst && s.param P.lineAddr != 255 &&
    s.param P.lineFeederId != 0xFFFF && !s.follower

/-- A new superframe (R361, R362, R374): a backoff counts down; a node that has to join, or to send an ALERT, draws its
first wait of 0 to 3 superframes; a refused node tries once every 60 s. -/
def State.superframe (s : State) : State :=
  match s.line.backoff with
  | some n => { s with line := { s.line with backoff := some (n - 1) } }
  | none =>
    let conflictDue := s.line.conflict && decide (60000 ≤ since s.plinth.upMs s.line.rejoinAt)
    if conflictDue && s.wantsJoin then
      { s with line := { s.line with backoff := some 0, rejoinAt := s.plinth.upMs } }
    else if (s.wantsJoin && !s.line.joinSent && !s.line.conflict) || (s.line.joined && !s.line.alertDue.isEmpty) then
      { s with line := { s.line with backoff := some (Sys2Proof.Config.backoff s.free % 4) } }.draw
    else s

/-- R361: a superframe begins: no exchange has been made in it. A node that has lock is to receive in its first slot, in which the
HEAD's first frame begins (R89: DEDUCED, log 86). -/
def execSuperframeStart (s : State) : Host.Outcome State Fault Refusal :=
  let s1 : State := { s with line := { s.line with
    exch := 0, used := 0, slotMs := if s.line.lock then 20 else s.line.slotMs } }
  .next (if s.seqRuns then s1.superframe.taskEnd 4 else s1)

/-- Exchanges that brought no REPLY (R367): two in a row lower the node's mode. -/
def State.settleGrants (s : State) : State :=
  (s.line.nodes.filter fun n => n.granted).foldl
    (fun (s : State) n =>
      if 2 ≤ n.bad + 1 then (s.setMode n.addr n.mode.down).onNode n.addr fun x => { x with granted := false }
      else s.onNode n.addr fun x => { x with granted := false, bad := n.bad + 1, good := 0 }) s

/-- Loads the oldest bridged packet of each node that has no transfer in hand (R370). -/
def State.loadBridge (s : State) : State :=
  s.line.nodes.foldl
    (fun (s : State) n =>
      match s.camyx.bridge.find? fun b => b.addr == n.addr && !b.sent with
      | some b =>
        if n.tx.isNone then
          { s.onNode n.addr fun x => { x with tx := some { rest := b.pkt, frag := 0, cur := none, tries := 0 } } with
            camyx := { s.camyx with
              bridge := s.camyx.bridge.map fun x => if x = b then { x with sent := true } else x } }
        else s
      | none => s) s

/-- The body room of one HEAD frame in `left` slots beside a reply window, in whole bytes (R354, R370). -/
def fitRoom (m : LinkMode) (k left over_ : Nat) : Nat :=
  (List.range 256).foldl (fun a n => if slotsOf m k (over_ + n) ≤ left then n else a) 0

/-- Notes an exchange of the superframe with its slots (R361), in the last `rlen` of which the HEAD is to receive (R89). -/
def State.useSlots (s : State) (n rlen : Nat) : State :=
  { s with line := { s.line with exch := s.line.exch + 1, used := s.line.used + n, slotMs := 20 * rlen } }

/-- Sends a HEAD frame to a node (R355, R361, R364, R367): payload or poll, the acknowledgement it owes, and the reply
window in the slots left. -/
def State.headFrame (s : State) (n : Node) (left : Nat) : State :=
  let k := s.laneCount
  let f := s.line.fseq
  let room := if n.mode = .robust then 0 else fitRoom n.mode k (left / 2) 17
  let resend := match n.tx with
    | some t => t.cur.isSome
    | none => false
  let tx := if n.mode = .robust then n.tx else n.tx.map fun t => t.next f room
  let cur := if n.mode = .robust then none else tx.bind fun t => t.cur.map fun c => (c, t.frag)
  let payload := match cur with
    | some ((_, p, _), _) => p
    | none => []
  let fseq := match cur with
    | some ((q, _, _), _) => q
    | none => f
  let frag := match cur with
    | some ((_, _, last), i) => i + flag last 7
    | none => 0
  let used := slotsOf n.mode k (17 + payload.length)
  let most := if n.mode = .robust then 14 else 14 + min 255 (lineLimit n.mode k)
  let rlen := min (left - used) (slotsOf n.mode k most)
  let others := s.camyx.bridge.any fun b => b.addr == n.addr && !b.sent
  if left < used + slotsOf n.mode k 14 then s
  else
    let b := frameBody 1 (s.param P.lineFeederId) n.addr 0 fseq
      (match tx with
        | some t => !t.rest.isEmpty || others
        | none => others)
      (if n.ackDue then n.rxSeq else none) frag (if payload.isEmpty then 0 else 1)
      (toLe 1 n.addr ++ toLe 1 rlen ++ toLe 1 n.mode.code) payload
    let s1 := ((s.sendFrame n.mode b).useSlots (used + rlen) rlen).onNode n.addr fun x =>
      { x with
        tx := tx.map fun t => if resend then { t with tries := t.tries + 1 } else t
        ackDue := false, owes := false, alert := false, granted := true, polledAt := s.plinth.upMs }
    let s2 := if resend then { s1 with ctr := { s1.ctr with lineRetry := wrapAdd 32 s1.ctr.lineRetry 1 } } else s1
    if resend then s2 else s2.nextFseq

/-- The mode of a frame to a group or to broadcast (R366). -/
def State.castMode (s : State) : LinkMode := if s.line.nodes.all fun n => n.mode == .normal then .normal else .diversity

/-- The fragment that a cast sends in `left` slots, with whether it is the last: the one in hand, or the next; JOIN_ACK records go
whole. -/
def Cast.piece (c : Cast) (m : LinkMode) (k left : Nat) : List Byte × Bool :=
  match c.cur with
  | some x => x
  | none =>
    let room := fitRoom m k left 17
    let p := c.rest.take (if c.ptype = 2 then room / 10 * 10 else room)
    (p, decide (p.length = c.rest.length))

/-- What is left of a cast after a frame with that fragment: LINE_BCAST_REPEAT frames carry each of them (R366), and none has an
index above 15 (R365). -/
def Cast.after (c : Cast) (x : List Byte × Bool) : Option Cast :=
  let n := (if c.cur.isSome then c.left else c.times) - 1
  if 0 < n then some { c with cur := some x, left := n }
  else if x.2 || decide (15 ≤ c.frag ∧ c.ptype = 1) then none
  else some { c with rest := c.rest.drop x.1.length, frag := c.frag + 1, cur := none, left := 0 }

/-- Replaces the first entry of a queue that is `c`. -/
def replaceCast (c : Cast) (r : Option Cast) : List Cast → List Cast
  | [] => []
  | x :: l => if x = c then r.toList ++ l else x :: replaceCast c r l

/-- Sends a frame of a cast (R366): to a group or to broadcast, with no acknowledgement and no window, each time with a new
FSEQ. -/
def State.castFrame (s : State) (c : Cast) (left : Nat) : State :=
  let m := s.castMode
  let x := c.piece m s.laneCount left
  let n := slotsOf m s.laneCount (17 + x.1.length)
  let frag := if c.ptype = 2 then 0x80 else c.frag % 16 + flag x.2 7
  if left < n || (x.1.isEmpty && !x.2) then s
  else
    let s1 := ((s.sendFrame m (frameBody 1 (s.param P.lineFeederId) c.addr 0 s.line.fseq false none frag c.ptype [0, 0, 0]
      x.1)).useSlots n 0).nextFseq
    { s1 with line := { s1.line with castQ := replaceCast c (c.after x) s1.line.castQ } }

/-- JOIN_ACK records that wait become a broadcast (R373). -/
def State.formAcks (s : State) : State :=
  if s.line.joinAcks.isEmpty then s
  else { s with line := { s.line with
    castQ := s.line.castQ ++ [newCast 255 2 s.line.joinAcks.flatten (s.param P.lineBcastRepeat) false], joinAcks := [] } }

/-- Drops a transfer that has been resent LINE_RETRIES times (R364). -/
def State.dropDead (s : State) : State :=
  { s with line := { s.line with nodes := s.line.nodes.map fun n =>
      match n.tx with
      | some t => if s.param P.lineRetries ≤ t.tries then { n with tx := none } else n
      | none => n } }

/-- The node polled longest ago. -/
def oldestPoll (up : Nat) : List Node → Option Node
  | [] => none
  | n :: l =>
    match oldestPoll up l with
    | some m => if since up m.polledAt ≤ since up n.polledAt then some n else some m
    | none => some n

/-- One exchange of the HEAD (R361, R370): the first item of R370 that there is. -/
def State.exchange (s : State) (left : Nat) : State :=
  let s := ((s.settleGrants).dropDead).loadBridge
  let ns := s.line.nodes
  match ns.find? (fun n => match n.tx with
      | some t => t.cur.isSome
      | none => false) with
  | some n => s.headFrame n left
  | none =>
    let carried := s.camyx.bridge.findSome? fun b => ns.find? fun n => b.sent && n.addr == b.addr && n.tx.isSome
    match carried.or (ns.find? fun n => n.tx.isSome || n.owes) with
    | some n => s.headFrame n left
    | none =>
      let s := s.formAcks
      match s.line.castQ.find? fun c => c.ptype == 2 with
      | some c => s.castFrame c left
      | none =>
        match ns.find? fun n => n.alert with
        | some n => s.headFrame n left
        | none =>
          match s.line.castQ with
          | c :: _ => s.castFrame c left
          | [] =>
            match oldestPoll s.plinth.upMs ns with
            | some n => s.headFrame n left
            | none => s

/-- R370: the HEAD fills an exchange, the fourth of a superframe at most, with the slots left of the scheduled region (R361). -/
def execHeadExchange (slotsLeft : Nat) (s : State) : Host.Outcome State Fault Refusal :=
  .next (if s.pilotOn && s.seqRuns && decide (s.line.exch < 4) then
      (s.exchange (min slotsLeft (44 - s.line.used))).taskEnd 4
    else s)

/-- Counts a dropped frame (R355). -/
def State.badFrameIn (s : State) : State :=
  { s with ctr := { s.ctr with lineCrc := wrapAdd 32 s.ctr.lineCrc 1 } }

/-- Counts an intact frame and its SNR on the active lanes (R368). -/
def State.goodFrameIn (s : State) (snrQ : Nat) : State :=
  { s with
    ctr := { s.ctr with lineRx := wrapAdd 32 s.ctr.lineRx 1 }
    line := { s.line with snr := Vector.ofFn fun i =>
      if s.activeLanes.getLsbD i.val then min snrQ 255 else s.line.snr[i] } }

/-- Whether a destination address is this node's (R372). -/
def State.mine (s : State) (dst : Nat) : Bool :=
  dst == 255 || (dst == s.param P.lineAddr && decide (1 ≤ dst ∧ dst ≤ 250)) ||
    (decide (251 ≤ dst ∧ dst ≤ 254) && bitAt (s.param P.lineGroups) (dst - 251))

/-- The JOIN_ACK records of a broadcast (R373, R374): the one with this node's UID joins it or refuses it. -/
def State.joinAck (s : State) (payload : List Byte) : State :=
  (List.range (payload.length / 10)).foldl
    (fun (s : State) i =>
      let r := (payload.drop (10 * i)).take 10
      if r.take 8 ≠ s.lineUid || fieldAt r 8 1 ≠ s.param P.lineAddr || !s.line.joinSent then s
      else if fieldAt r 9 1 = 0 then
        ({ s with
            line := { s.line with
              joined := true, conflict := false, joinSent := false, joinTry := 0, grantAt := s.plinth.upMs }
            tab := { s.tab with joinUid := s.lineUid } }).clearE Ev.addrConflict
      else
        ({ s with line := { s.line with joined := false, conflict := true, joinSent := false
                                        rejoinAt := s.plinth.upMs } }).raiseOnce Ev.addrConflict 0 0) s

/-- A HEAD frame at a node (R355, R364, R365, R367, R373): acknowledgement of its own frame, a fragment or JOIN_ACK
records, and its link mode from RMODE. -/
def State.fromHead (s : State) (bs : List Byte) : State :=
  let dst := fieldAt bs 3 1
  let fseq := fieldAt bs 5 2
  let ptype := fieldAt bs 10 1
  let plen := fieldAt bs 11 1
  let payload := (bs.drop 15).take plen
  let s0 : State := { s with line := { s.line with heardFirst := true } }
  if !s.mine dst then s0
  else
    let own := dst == s.param P.lineAddr
    let s1 := if own && bitAt (fieldAt bs 0 1) 7 then
        { s0 with line := { s0.line with tx := s0.line.tx.bind fun t => t.acked (fieldAt bs 7 2) } }
      else s0
    let s2 := if own && fieldAt bs 12 1 == dst then
        { s1 with line := { s1.line with
            mode := match fieldAt bs 14 1 with
              | 0 => .normal
              | 1 => .diversity
              | _ => .robust } }
      else s1
    if ptype = 2 then s2.joinAck payload
    else if ptype = 1 then
      let dup := own && s.line.rxSeq == some fseq
      let s3 := if own then { s2 with line := { s2.line with rxSeq := some fseq } } else s2
      if dup then s3
      else
        let r := Reasm.add (if own then s3.line.rx else s3.line.rxCast) (fieldAt bs 9 1) payload
        let s4 : State := { s3 with line :=
          if own then { s3.line with rx := r.1 } else { s3.line with rxCast := r.1 } }
        match r.2 with
        | some pkt => s4.linePacket (fieldAt bs 4 1) dst pkt
        | none => s4
    else s2

/-- A REPLY frame at the HEAD (R364, R367, R370, R376). -/
def State.fromNode (s : State) (bs : List Byte) (snrQ : Nat) : State :=
  let src := fieldAt bs 4 1
  let fseq := fieldAt bs 5 2
  let fctl := fieldAt bs 0 1
  let payload := (bs.drop 12).take (fieldAt bs 11 1)
  match s.node? src with
  | none => s
  | some n =>
    let good := if 48 ≤ snrQ then n.good + 1 else 0
    let dup := n.rxSeq == some fseq
    let s1 := s.onNode src fun x =>
      { x with
        granted := false, bad := 0, good := good, heardAt := s.plinth.upMs, owes := bitAt fctl 6
        tx := if bitAt fctl 7 then x.tx.bind fun t => t.acked (fieldAt bs 7 2) else x.tx
        rxSeq := if payload.isEmpty then x.rxSeq else some fseq
        ackDue := !payload.isEmpty }
    let s2 := if 16 ≤ good && n.mode != .normal then s1.setMode src n.mode.up else s1
    match fieldAt bs 10 1 with
    | 1 =>
      if dup then s2
      else
        let r := Reasm.add n.rx (fieldAt bs 9 1) payload
        let s3 := s2.onNode src fun x => { x with rx := r.1 }
        match r.2 with
        | some pkt => s3.bridgeReply src pkt
        | none => s3
    | 3 =>
      let key := fun l : List Byte => (l.take 2, (l.drop 4).take 2, (l.drop 12).take 2)
      let every := s.param P.lineNotifyS
      let due := decide (key payload ≠ key n.report) ||
        (decide (every ≠ 0) && decide (every * 1000 ≤ since s.plinth.upMs n.reportAt))
      if dup then s2
      else
        let s3 := s2.onNode src fun x =>
          { x with report := payload, reportAt := if due then s.plinth.upMs else x.reportAt }
        if due then s3.notify (toLe 1 src ++ toLe 1 1 ++ payload) else s3
    | _ => s2

/-- A frame at the receiver (R355, R356): a failed CRC or another feeder's ID drops it. The lanes of the HEAD's descriptor are those
of what the node sends (R356, R368). -/
def State.lineFrame (s : State) (lanes : BitVec 4) (bs : List Byte) (snrQ : Nat) : State :=
  if !crcOk bs || fieldAt bs 1 2 ≠ s.param P.lineFeederId then s.badFrameIn
  else
    let s1 := s.goodFrameIn snrQ
    match fieldAt bs 0 1 % 8 with
    | 1 => if s.isHead then s1 else { s1 with line := { s1.line with lanes := lanes } }.fromHead bs
    | 2 => if s.isHead then s1.fromNode bs snrQ else s1
    | 4 => if s.isHead then s1.onNode (fieldAt bs 3 1) fun n => { n with alert := true } else s1
    | _ => s1

/-- A burst has ended at the receiver: rx_busy lasts 2 ms more (R89), and one whose descriptor check fails is discarded (R353); one
that the MAC does not take, since the sequencer restarts, is lost (R153). -/
def State.heard (s : State) (desc : Byte) (f : State → State) : State :=
  if !s.lineReceives then s
  else
    let s1 : State := { s with line := { s.line with rxMs := 2 } }
    if (descMode desc.toNat).isNone || !s.seqRuns then s1 else (f s1).taskEnd 4

/-- R353, R355: a line frame is received whole. -/
def execLineFrameReceived (desc : Byte) (bytes : List Byte) (snrQ : Nat) (s : State) : Host.Outcome State Fault Refusal :=
  .next (s.heard desc fun s => s.lineFrame (BitVec.ofNat 4 desc.toNat) bytes snrQ)

/-- The REPLY of a node in its window (R362 to R364, R376): the frame that awaits its acknowledgement, else the next
fragment of a reply, else a STATUS report, else a frame with PTYPE 0; silence where even that does not fit. -/
def State.reply (s : State) (rlen : Nat) (m : LinkMode) : State :=
  let k := s.laneCount
  let room := min 255 (if m = .robust then 0 else fitRoom m k rlen 14)
  let s0 : State := { s with line := { s.line with mode := m, grantAt := s.plinth.upMs, alertDue := [] },
                             events := { s.events with alert := 0 } }
  let loaded : State := match s0.line.tx with
    | some _ => s0
    | none =>
      if m = .robust then s0
      else match s0.nextLineReply with
        | some (pkt, t) => { t with line := { t.line with
            tx := some { rest := pkt, frag := 0, cur := none, tries := 0 } } }
        | none => s0
  let dead := match loaded.line.tx with
    | some t => t.cur.isSome && decide (s.param P.lineRetries ≤ t.tries)
    | none => false
  let s1 : State := if dead then { loaded with line := { loaded.line with tx := none } } else loaded
  let ack := s1.line.rxSeq
  let f := s1.line.fseq
  let addr := s.param P.lineAddr
  let feeder := s.param P.lineFeederId
  let bare := frameBody 2 feeder 0 addr f false ack 0 0 [] []
  let plain := fun (s : State) => if slotsOf m k 14 ≤ rlen then (s.nodeBurst m bare).nextFseq else s
  match s1.line.tx with
  | some t =>
    let resend := t.cur.isSome
    let t1 := t.next f room
    match t1.cur with
    | some (q, p, last) =>
      if m = .robust || rlen < slotsOf m k (14 + p.length) || (room = 0 && !resend) then plain s1
      else
        let b := frameBody 2 feeder 0 addr q (!last || !(s1.port .line).replies.isEmpty) ack (t1.frag + flag last 7) 1 [] p
        let s0 := s1.nodeBurst m b
        let s2 : State := { s0 with line :=
          { s0.line with tx := some { t1 with tries := if resend then t.tries + 1 else 0 } } }
        if resend then { s2 with ctr := { s2.ctr with lineRetry := wrapAdd 32 s2.ctr.lineRetry 1 } } else s2.nextFseq
    | none => plain s1
  | none =>
    if m ≠ .robust && slotsOf m k 28 ≤ rlen then
      (s1.nodeBurst m (frameBody 2 feeder 0 addr f false ack 0x80 3 [] s1.statusReport)).nextFseq
    else plain s1

/-- R362, R363: a node's granted reply window. -/
def execReplyWindow (rlen : Nat) (rmode : Fin 3) (s : State) : Host.Outcome State Fault Refusal :=
  let m : LinkMode := if rmode.val = 0 then .normal else if rmode.val = 1 then .diversity else .robust
  .next (if s.isHead || !s.seqRuns then s
    else if s.line.joined && s.line.lock then (s.reply rlen m).taskEnd 4
    else { s with line := { s.line with grantAt := s.plinth.upMs } })

/-- R362, R373, R377: a node whose backoff has ended sends a JOIN of six slots, or an ALERT, in the access window, in DIVERSITY
(R356). -/
def execAccessFrameSend (s : State) : Host.Outcome State Fault Refusal :=
  let feeder := s.param P.lineFeederId
  let addr := s.param P.lineAddr
  .next (if s.line.backoff ≠ some 0 || !s.line.lock || !s.seqRuns then s
    else
      match s.line.joined, s.line.alertDue with
      | true, g :: _ =>
        let s1 := s.nodeBurst .diversity (accessBody 4 feeder addr (toLe 1 g))
        { s1 with line := { s1.line with backoff := none, alertDue := s1.line.alertDue.drop 1 } }
      | _, _ =>
        if s.wantsJoin then
          let s1 := s.nodeBurst .diversity (accessBody 3 feeder addr s.lineUid)
          { s1 with line := { s1.line with backoff := none, joinSent := true } }
        else s)

/-! ### Joining -/

/-- A node record as it joins (R367, R373). -/
def newNode (a : Nat) (uid : List Byte) (up : Nat) : Node :=
  { addr := a, uid := uid, mode := .diversity, bad := 0, good := 0, rxSeq := none, ackDue := false, owes := false,
    alert := false, polledAt := up, heardAt := up, tx := none, rx := none, report := [], reportAt := up,
    granted := false }

/-- Sends the HEAD's allowance table to a node that has joined (R373, R384), as a LINE-keyed packet where the HEAD
has a LINE key. -/
def State.sendAllowances (s : State) (dst : Nat) : State :=
  (List.range 8).foldl
    (fun (s : State) k => s.sendLine dst 0x32 (toLe 1 k ++ toLe 4 (s.ctr.allowWh.toList.getD k 0xFFFFFFFF)) 1) s

/-- A JOIN at the HEAD (R373, R374): an address held by another UID that has replied within LINE_NODE_LOST_S is a
conflict; else the address is the sender's. -/
def State.join (s : State) (bs : List Byte) : State :=
  if !crcOk bs || fieldAt bs 1 2 ≠ s.param P.lineFeederId || fieldAt bs 0 1 % 8 ≠ 3 then s.badFrameIn
  else
    let a := fieldAt bs 3 1
    let uid := (bs.drop 4).take 8
    let s0 : State := { s with ctr := { s.ctr with lineRx := wrapAdd 32 s.ctr.lineRx 1 } }
    if a = 0 || 250 < a then s0
    else
      let held := match s.node? a with
        | some n => n.uid != uid && decide (since s.plinth.upMs n.heardAt < s.param P.lineNodeLostS * 1000)
        | none => false
      let ackRec := uid ++ toLe 1 a ++ toLe 1 (flag held 0)
      let s1 : State := { s0 with line := { s0.line with joinAcks := s0.line.joinAcks ++ [ackRec] } }
      if held then (s1.raiseP Ev.addrConflict 0 0).notify (toLe 1 a ++ toLe 1 4 ++ uid)
      else
        let s2 : State := { s1 with line := { s1.line with
          nodes := (s1.line.nodes.filter fun n => n.addr ≠ a) ++ [newNode a uid s.plinth.upMs] } }
        ((s2.raiseP Ev.nodeChange 0 a).sendAllowances a).notify (toLe 1 a ++ toLe 1 2 ++ uid)

/-- R373: the HEAD receives a JOIN. -/
def execJoinReceived (desc : Byte) (bytes : List Byte) (s : State) : Host.Outcome State Fault Refusal :=
  .next (if s.isHead then s.heard desc fun s => s.join bytes else s)

/-- R362, R373: four superframes without a record; the node backs off 0 to 2^(r+2) − 1 superframes and tries again. -/
def execJoinRetry (s : State) : Host.Outcome State Fault Refusal :=
  .next (if s.line.joinSent && !s.line.joined then
      let r := min (s.line.joinTry + 1) 4
      { s with line := { s.line with joinSent := false, joinTry := r
                                     backoff := some (Sys2Proof.Config.backoff s.free % 2 ^ (r + 2)) } }.draw
    else s)

/-- R365: LINE_REASM_S has passed; a partial packet from an address is discarded. -/
def execReassemblyTimeout (addr : Nat) (s : State) : Host.Outcome State Fault Refusal :=
  .next (if s.isHead then s.onNode addr fun n => { n with rx := none }
    else { s with line := { s.line with rx := none, rxCast := none } })

/-- R368: a lane is dropped or restored; one enabled lane always stays. -/
def execLaneDrop (lane : Fin 4) (restore : Bool) (s : State) : Host.Outcome State Fault Refusal :=
  let b := BitVec.ofNat 4 (2 ^ lane.val)
  let next := if restore then s.line.lanes ||| (b &&& BitVec.ofNat 4 (s.param P.lineLaneEn)) else s.line.lanes &&& ~~~b
  .next (if !s.isHead || next = 0 || next = s.line.lanes then s
    else ({ s with line := { s.line with lanes := next } }).raiseP Ev.laneDrop (if restore then 2 else 1) lane.val)

/-- R375: a node has sent no intact REPLY for LINE_NODE_LOST_S; the HEAD frees its address. -/
def execNodeLost (addr : Nat) (s : State) : Host.Outcome State Fault Refusal :=
  .next (match s.node? addr with
    | some n =>
      if since s.plinth.upMs n.heardAt < s.param P.lineNodeLostS * 1000 then s
      else
        (({ s with line := { s.line with nodes := s.line.nodes.filter fun n => n.addr ≠ addr } }).raiseP
          Ev.nodeChange 0 addr).notify (toLe 1 addr ++ toLe 1 3)
    | none => s)

/-- R375: a node ungranted for LINE_NODE_LOST_S counts itself unjoined. -/
def execNodeUnjoin (s : State) : Host.Outcome State Fault Refusal :=
  .next (if s.line.joined && decide (s.param P.lineNodeLostS * 1000 ≤ since s.plinth.upMs s.line.grantAt) then
      { s with line := { s.line with
        joined := false, joinSent := false, joinTry := 0, backoff := none, tx := none, rx := none } }
    else s)

/-- R377: an event of an alert group has had no reply window within 1 s; an ALERT is due. -/
def execAlertTrigger (group : Fin 16) (s : State) : Host.Outcome State Fault Refusal :=
  .next (if s.line.joined && s.events.alert.getLsbD group.val then
      { s with
        events := { s.events with alert := s.events.alert &&& ~~~(BitVec.ofNat 16 (2 ^ group.val)) }
        line := { s.line with alertDue := s.line.alertDue ++ [group.val] } }
    else s)

/-! ### Levels -/

/-- R378: LINE_PILOT_HOLD_S after the loss of lock, the held pilot level drops to 0; so does the level of a lead that has been
lost for as long (R406). -/
def execPilotHoldExpiry (s : State) : Host.Outcome State Fault Refusal :=
  let alone := s.tab.leadLost && decide (s.param P.linePilotHoldS * 1000 ≤ since s.plinth.upMs s.tab.leadAt)
  .next (if s.line.lock && !alone then s
    else
      ({ s with
        line := { s.line with level := if s.line.lock then s.line.level else 0 }
        tab := { s.tab with level := if alone then 0 else s.tab.level } }).relevel)

/-- Whether the levels of this device may change: a HEAD holds its shed level while its sequencer restarts (Table 5.11). -/
def State.levelFree (s : State) : Bool := s.seqRuns || s.ident.role != .head

/-- R380: HOLD_S has expired; the commanded level returns to 0. -/
def execShedHoldExpiry (s : State) : Host.Outcome State Fault Refusal :=
  .next (match s.line.cmdUntil with
    | some t =>
      if since s.plinth.upMs t < 2 ^ 31 && s.levelFree then
        ({ s with line := { s.line with cmd := 0, cmdUntil := none } }).relevel
      else s
    | none => s)

/-- The droop threshold of a level in mV (Table 12.11). -/
def State.droopMv (s : State) (level : Nat) : Nat := s.param (P.lineDroopMv (level - 1))

/-- R381: VBUS has stayed below a level's threshold for LINE_DROOP_T_MS; the droop level rises. -/
def execDroopRise (level : Fin 4) (vbusMv : Int) (s : State) : Host.Outcome State Fault Refusal :=
  let s1 : State := { s with power := { s.power with vbusMv := vbusMv } }
  .next (if s.line.droop < level.val ∧ vbusMv < s.droopMv level.val ∧ s.levelFree = true then
      (({ s1 with line := { s1.line with droop := level.val } }).raiseC Ev.droopShed 0 0).relevel
    else s1)

/-- R381: VBUS has stayed above the present level's threshold + LINE_DROOP_REL_MV for LINE_DROOP_REL_S; the level falls
by one. -/
def execDroopFall (vbusMv : Int) (s : State) : Host.Outcome State Fault Refusal :=
  let s1 : State := { s with power := { s.power with vbusMv := vbusMv } }
  .next (if 0 < s.line.droop ∧ s.levelFree = true ∧
      ((s.droopMv s.line.droop + s.param P.lineDroopRelMv : Nat) : Int) < vbusMv then
      let s2 : State := { s1 with line := { s1.line with droop := s.line.droop - 1 } }
      (if s.line.droop = 1 then s2.clearE Ev.droopShed else s2).relevel
    else s1)

/-- A return after its delay (R383, R483): a fresh turn-on; channels of one tick switch LSW_ON_STAGGER_MS apart (R247). -/
def State.pickup (s : State) (c : Nat) : State :=
  let busy := match s.sw.pickedAt with
    | some t => decide (since s.plinth.upMs t < s.param P.lswOnStaggerMs)
    | none => false
  if !s.wantOn c then s
  else if busy then { s with sw := { s.sw with staggerQ := s.sw.staggerQ.filter (· ≠ c) ++ [c] } }
  else ({ s with sw := { s.sw with pickedAt := some s.plinth.upMs } }).refresh c true

/-- R383: the pickup delay of a channel ends. -/
def execPickupDelayExpiry (ch : Fin 16) (s : State) : Host.Outcome State Fault Refusal :=
  .next (match (s.chan ch.val).pickAt with
    | some _ =>
      if (s.chan ch.val).inhibited then s
      else (s.onChan ch.val fun h => { h with pickAt := none }).pickup ch.val
    | none => s)

/-- R384: a class's energy has reached its allowance. -/
def execAllowanceReached (cls : Fin 8) (s : State) : Host.Outcome State Fault Refusal :=
  .next (s.applyAllowance cls.val)

/-- R385: an allowance day starts. -/
def execAllowanceDayStart (s : State) : Host.Outcome State Fault Refusal := .next s.clearDay

/-! ### Faults and heads -/

/-- R388: the coupling monitor finds the drive open or shorted; the transmitter stops. -/
def execTxFault (short : Bool) (s : State) : Host.Outcome State Fault Refusal :=
  .next (({ s.endBurst with line := { s.endBurst.line with txFault := true } }).raiseOnce Ev.txFault (if short then 2 else 1) 0)

/-- R388: the retry burst 60 s after TX_FAULT. -/
def execTxFaultRetry (works : Bool) (s : State) : Host.Outcome State Fault Refusal :=
  .next (if works then ({ s with line := { s.line with txFault := false } }).clearE Ev.txFault else s)

/-- A HEAD's listen ends (R415): with another head heard it stands down, with no node joined; else it generates the pilot. -/
def State.endListen (s : State) (heard : Bool) : State :=
  { s with
    line := { s.line with
      listening := false, generating := !heard, stoodDown := heard
      nodes := if heard then [] else s.line.nodes, joinAcks := if heard then [] else s.line.joinAcks } }.tb8Eval

/-- R415: a HEAD ends its first listen of 3 s. -/
def execHeadStartupListenEnd (heard : Bool) (s : State) : Host.Outcome State Fault Refusal :=
  .next (if s.isHead && s.line.listening && !s.holds Ev.headClash then s.endListen heard else s)

/-- R415: a running HEAD meets another head; its pilot and transmitter stop, its joined nodes are cleared, HEAD_CLASH is
raised and it listens. -/
def execHeadClash (s : State) : Host.Outcome State Fault Refusal :=
  .next (if s.isHead && s.line.generating then
      (({ s.endBurst with
          line := { s.endBurst.line with generating := false, listening := true, nodes := [], joinAcks := [] } }).raiseC
        Ev.headClash 0 0).tb8Eval
    else s)

/-- R415: the clash listen ends; without a pilot the HEAD resumes, else it stands down. A further clash uses the next
byte of the UID. -/
def execHeadClashListenEnd (heard : Bool) (s : State) : Host.Outcome State Fault Refusal :=
  .next (if s.isHead && s.line.listening && s.holds Ev.headClash then
      ({ s.endListen heard with
        line := { (s.endListen heard).line with clashByte := (s.line.clashByte + 1) % 8 } }).clearE Ev.headClash
    else s)

/-- R415: a HEAD that has stood down resumes after 10 s without a pilot. -/
def execStoodDownCheck (quiet : Bool) (s : State) : Host.Outcome State Fault Refusal :=
  .next (if s.isHead && s.line.stoodDown && quiet then s.endListen false else s)

end Sys2Proof.Machine
end

