-- ==== Sys2Proof/Machine/Lifecycle.lean ====
section
/-! DEFINITION. The meanings of the lifecycle commands (Chapter 16): the steps of the shutdown (R474 to R476), the pickups of
a restart (R480 to R485), long darkness (R488), the shelf (R490, R491) and decommissioning (R492). -/

namespace Sys2Proof.Machine

/-! ### The shutdown -/

/-- Whether no rail switches any more. -/
def State.railsStopped (s : State) : Bool := (List.range 2).all fun r => !(s.rail r).st.live

/-- Sets SHUTDOWN on the channels of class 7 down to class 0; demands are kept (Table 16.4, step 2). -/
def State.openChannels (s : State) : State :=
  (List.range 8).foldl
    (fun (s : State) k =>
      (List.range 16).foldl
        (fun (s : State) c =>
          if s.param (P.lswShedClass c) = 7 - k then s.inhibit c fun h => { h with shut := true } else s) s) s

/-- R474: every rail has stopped; SHUTDOWN is set. A COMMIT that was armed has taken effect before (Table 16.5). -/
def execShutdownStep2 (s : State) : Host.Outcome State Fault Refusal :=
  .next (if s.life.st = .shut1 ∧ s.seqRuns = true ∧ s.railsStopped = true then
      let s1 := match s.config.armed with
        | some vs => s.transferNow vs
        | none => s
      { s1.openChannels with life := { s1.openChannels.life with st := .shut2 } }
    else s)

/-- Whether an operation is past its point of no return and step 3 waits for it (R477). -/
def Op.holdsShut (o : Op) : Bool :=
  o.pnr && match o.kind with
    | .save .. => true
    | .keyWrite .. => true
    | .fwBegin .. => true
    | .fwBlock .. => true
    | .decommission => true
    | _ => false

/-- The commit of R475. -/
def State.commitKind (s : State) : CommitKind :=
  match s.power.path with
  | .onSto => if s.eFloor + 40 * mj + s.eRes ≤ s.eEst then .full else .essential
  | .onBak => .essential
  | .onField => if 3000 ≤ s.power.fieldUw then .essential else .none
  | _ => .none

/-- R475: the commit is chosen once the operations of R477 have ended; step 4 is next, and with it the point of no return of
SHELF (R489). -/
def execShutdownStep3 (s : State) : Host.Outcome State Fault Refusal :=
  .next (if (s.life.st = .shut2 ∨ s.life.st = .shut3) ∧ s.seqRuns = true then
      if s.camyx.ops.any Op.holdsShut then { s with life := { s.life with st := .shut3 } }
      else
        let s1 := s.onOps fun l => l.map fun o => if o.kind = .shelf then { o with pnr := true } else o
        { s1 with life := { s1.life with st := .shut4, commit := s.commitKind } }
    else s)

/-! ### The commit (R476) -/

/-- A fault record with FLAGS bit 2 set: written by the shutdown commit (Table 11.5). -/
def markByShutdown (b : List Byte) : List Byte :=
  if bitAt (fieldAt b 15 1) 2 then b else b.take 15 ++ toLe 1 (fieldAt b 15 1 + 4) ++ b.drop 16

/-- Writes the fault records that retained RAM holds, oldest first. -/
def Rail.writeLate (x : Rail) : Rail :=
  let l := (x.late ++ x.caps).map fun b => sealRec (markByShutdown b)
  { x with late := [], caps := [], ring := (l.reverse ++ x.ring).take 8 }

/-- The demands as retained RAM holds them. -/
def State.demands (s : State) : Vector Demand 16 := Vector.ofFn fun c => s.sw.ch[c].demand

/-- Writes the records of the Patina RAM, all or the pinned ones, with FLAGS bit 2 set. -/
def State.writeRam (s : State) (pinnedOnly : Bool) : State :=
  let now := s.patina.ram.filter fun r => r.pinned || !pinnedOnly
  let later := s.patina.ram.filter fun r => !(r.pinned || !pinnedOnly)
  now.foldl (fun (s : State) r => s.writeRec { r with byShutdown := true })
    { s with patina := { s.patina with ram := later, flushReq := false, lastFlush := s.plinth.upMs } }

/-- The body of the SHUTDOWN record (Table 15.7). -/
def State.shutdownBody (s : State) (step : Nat) : PatBody :=
  .shutdown (maskOf s.chans fun c => (s.chan c).demand != .off)
    (maskOf s.chans fun c => match (s.chan c).demand with
      | .pwm _ => true
      | _ => false)
    ((s.rail 0).st.code + 8 * (s.rail 1).st.code) step (s.eEst / mj) s.power.stoMv (s.power.vbusMv / 10)

/-- Fault records, Patina records and the counter record, which holds the position after a record still to come. -/
def State.commitRecords (s : State) (kind : CommitKind) (more : Nat) : State :=
  let s1 : State := { s with arm := { s.arm with rail := Vector.ofFn fun r => s.arm.rail[r].writeLate } }
  let s2 := s1.writeRam (kind == .essential)
  { s2 with ctr := { s2.ctr with pseq := wrapAdd 32 s2.ctr.pseq more } }.writeCounters

/-- The SHUTDOWN record, always the last write; it takes the PSEQ before the counter record's. -/
def State.shutdownRecord (s : State) (step : Nat) : State :=
  let r : PatRec :=
    { pseq := wrapAdd 32 s.ctr.pseq (2 ^ 32 - 1), up := s.plinth.upMs, time := s.stamp, pinned := false
      byShutdown := true, pinRefused := false, released := false, body := s.shutdownBody step }
  { s.writeRec r with sw := { (s.writeRec r).sw with saved := some s.demands } }

/-- Whether anything has changed since the last commit (R485): new records, demands, the shelf marker. -/
def State.commitChanged (s : State) (kind : CommitKind) : Bool :=
  (List.range 2).any (fun r => !(s.rail r).late.isEmpty || !(s.rail r).caps.isEmpty) ||
    (s.patina.ram.any fun r => r.pinned || kind == .full) || s.sw.saved != some s.demands ||
    (s.life.shelfPend && !s.ctr.shelfMark)

/-- The commit that step 3 has chosen. -/
def State.commitNow (s : State) : State :=
  let kind := s.life.commit
  let s1 := s.admitAll
  if kind = .none ∨ (s.life.again = true ∧ s1.commitChanged kind = false) then s1
  else
    let s2 : State := { s1 with ctr := { s1.ctr with shelfMark := s1.ctr.shelfMark || s1.life.shelfPend } }
    (s2.commitRecords kind 1).shutdownRecord (if kind = .full then 4 else 3)

/-- R476: the shutdown commit is written; step 5 is next. -/
def execShutdownCommit (s : State) : Host.Outcome State Fault Refusal :=
  .next (if s.life.st = .shut4 ∧ s.seqRuns = true then
      { s.commitNow with life := { s.commitNow.life with st := .shut5 } }
    else s)

/-! ### Step 5 -/

/-- H3 of R490: VHOST, trackers, cold-start controller and VSEL off; BAK feeds the shelf timer. -/
def State.shelfIn (s : State) : State :=
  let s1 := s.supplyOff .shelf .shelf
  { s1 with harvest := { s1.harvest with csc := false } }

/-- A reset that waits for step 5 takes place (R477), unless it waits for more. -/
def State.owedReset (s : State) : Bool :=
  match s.camyx.resetOwed with
  | some t => !s.resetWaits t
  | none => false

/-- R474: the sequencer stops in PLINTH, or in SHELF where SHELF is pending; a bus that has returned begins its restart
(R478). -/
def execPlinthEntry (s : State) : Host.Outcome State Fault Refusal :=
  .next (if s.life.st ≠ .shut5 then s
    else if s.life.shelfPend then s.shelfIn
    else
      let s1 : State := { s with life := { s.life with st := .down, prev := .down } }
      let s2 := if s1.owedReset then s1.seqReset 7 else if s1.plinth.mode = .field then s1 else s1.toPlinth
      let s3 := s2.vhostEval
      if s.life.restart then s3.restartBegin else s3)

/-! ### Pickups -/

/-- Whether ARM_AUTOSTART asks for a rail at P3. -/
def State.autostarts (s : State) (r : Nat) : Bool :=
  s.railExists r && s.isOn (P.armEn r) && s.isOn (P.armAutostart r) && (s.rail r).st == .stopped && !s.config.mismatch

/-- P3 for one rail (R480, R482, R487): a start; one that only its supply refuses stays pending; a gang rail starts on the
lead's order alone. -/
def State.autostart (s : State) (r : Nat) : State :=
  if !s.autostarts r then s
  else if s.ganged r then (if s.tab.lead && s.mayGang r then s.gangOrder r 1 else s)
  else if s.mayStart r then s.startRail r
  else if s.railSupply then s
  else s.onRail r fun x => { x with autoPend := true }

/-- R480, P3: each rail with ARM_EN and ARM_AUTOSTART at 1 starts. -/
def execRailPickup (s : State) : Host.Outcome State Fault Refusal :=
  .next (if s.inPickup && s.seqRuns && !s.life.railsUp then
      let s1 := (List.range 2).foldl State.autostart s
      { s1 with life := { s1.life with railsUp := true } }
    else s)

/-- R482: VBUS and VDRV both let the rail run; its pending autostart takes place. -/
def execAutostartPending (r : Fin 2) (s : State) : Host.Outcome State Fault Refusal :=
  .next (if (s.rail r.val).autoPend && s.mayStart r.val then s.startRail r.val else s)

/-- P5 (R480): the last pickup is over; a SHELF that is pending is reported again. -/
def State.pickupsDone (s : State) : State :=
  if !s.inPickup || !s.life.railsUp || (List.range s.chans).any (fun c => (s.chan c).shut) then s
  else
    { s with life :=
      { s.life with
        st := match s.life.st with
          | .pickup => if s.life.shelfPend then .shelfPending else .running
          | st => st
        prev := .running, due := false } }

/-- R480, P4: the pickup instant of a channel; SHUTDOWN is cleared, and with no other inhibit the output returns as a fresh
turn-on. -/
def execChannelPickup (ch : Fin 16) (s : State) : Host.Outcome State Fault Refusal :=
  let c := ch.val
  .next (if !s.power.busQ || s.shutBegun || !s.seqRuns || s.life.st == .plinthStart || s.life.st == .boot then s
    else
      let s1 := if (s.chan c).shut then (s.onChan c fun h => { h with shut := false }).pickup c else s
      s1.pickupsDone)

/-- R485: BUS has carried VSEL for 60 s without a BUS_LOST. -/
def execClpRetryReset (s : State) : Host.Outcome State Fault Refusal :=
  .next (if s.busCarries then { s with life := { s.life with retry := 0 } } else s)

/-! ### Long darkness -/

/-- R488: after a shutdown STO has first fallen to PWR_STO_FLOOR_MV + 100 mV; an essential commit without a SHUTDOWN record
keeps the records. -/
def execFloorEssentialCommit (stoMv : Nat) (s : State) : Host.Outcome State Fault Refusal :=
  let s1 := s.setSto stoMv
  .next (if s.life.st = .down ∧ s.power.path = .onSto ∧ stoMv ≤ s.param P.pwrStoFloorMv + 100 then
      s1.admitAll.commitRecords .essential 0
    else s1)

/-! ### The shelf -/

/-- Begins the shutdown that SHELF alone asks for. -/
def State.shelfShut (s : State) : State :=
  let s1 := s.toRun.shutdownBegin
  { s1 with life := { s1.life with own := true } }

/-- R490: on storage, H2 begins 100 ms after the reply; on the bus SHELF waits for BUS_LOST. -/
def execShelfShutdownStart (s : State) : Host.Outcome State Fault Refusal :=
  .next (if s.life.st = .shelfPending ∧ s.life.shelfPend = true ∧ (s.power.path = .onSto ∨ s.power.path = .onBak) ∧
        s.power.busQ = false then s.shelfShut
    else s)

/-- R490, H3: the shelf is entered once the commit has ended. -/
def execShelfEntry (s : State) : Host.Outcome State Fault Refusal :=
  .next (if s.life.st = .shut5 ∧ s.life.shelfPend = true then s.shelfIn else s)

/-- R491: the shelf timer expires: a Plinth power-on reset, on STO where its voltage shows 1.05 × KEEP_eff (Table 2.6, after a
SHELF exit; the gauge has no reading yet, log 68), else on BAK. -/
def execShelfTimer (straps : Straps) (s : State) : Host.Outcome State Fault Refusal :=
  .next (if s.power.path = .shelf ∧ s.param P.sysShelfWakeD ≠ 0 then
      s.powerOn (if 105 * s.keepEff ≤ 100 * s.eOfMv s.power.stoMv then .sto else .bak) straps
    else s)

/-- Whether SHELF is entered again while the marker stands (R491): after an exit by the field, with the field lost; after
one by the timer, unless a session has been opened. -/
def State.shelfAgain (s : State) : Bool :=
  s.ctr.shelfMark && !s.power.busQ && s.power.path != .onField &&
    (match s.life.shelfExit with
      | some .nfcField => !s.power.fieldQ
      | some .shelfTimer => s.camyx.sidNext == 1
      | _ => false)

/-- R491: the shelf is entered again through H2 and H3. -/
def execShelfReentry (s : State) : Host.Outcome State Fault Refusal :=
  .next (if s.shelfAgain && s.life.st == .running && s.plinthOn then
      { s with life := { s.life with shelfPend := true, prev := .running } }.shelfShut
    else s)

/-- R491: BUS has stayed qualified for 10 s; the marker is cleared. -/
def execShelfMarkerClear (s : State) : Host.Outcome State Fault Refusal :=
  .next (if s.power.busQ then
      { s with ctr := { s.ctr with shelfMark := false }, nvm := { s.nvm with shelfMark := false } }
    else s)

/-! ### Decommissioning -/

/-- R492, X3: every demand OFF, every rail soft-stopped; a latched rail stays so. -/
def execDecommissionOutputs (s : State) : Host.Outcome State Fault Refusal :=
  .next (if s.life.st = .decommissioning ∧ s.life.step = 2 ∧ s.seqRuns = true then
      let s1 := s.turnOff (List.range s.chans)
      let s2 := (List.range 2).foldl
        (fun (s : State) r => ((s.onRail r fun x => { x with autoPend := false }).softStop r 0).toIdle r) s1
      { s2 with life := { s2.life with step := 3 } }
    else s)

/-- A key copy with every slot empty. -/
def KeyCopy.erased (k : KeyCopy) : KeyCopy := { count := k.count + 1, slots := Vector.replicate 10 none }

/-- R492, X4: keys, configuration banks, calendar and retained demands are erased. -/
def execDecommissionErase (s : State) : Host.Outcome State Fault Refusal :=
  .next (if s.life.st = .decommissioning ∧ s.life.step = 3 ∧ s.seqRuns = true ∧ s.railsStopped = true then
      let s1 := s.fcClear
      { s1 with
        sec := { s1.sec with copyA := s1.sec.copyA.erased, copyB := s1.sec.copyB.erased }
        config := { s1.config with bankA := none, bankB := none }
        ledger := { s1.ledger with nvmCal := s1.ledger.cal }
        sw := { s1.sw with
          saved := none, ch := Vector.ofFn fun c => { s1.sw.ch[c] with demand := .off, lastOn := none } }
        life := { s1.life with step := 4 } }
    else s)

/-- The reply of X5 under its session, and the ends of every session (R492); a DECOMMISSION that a reset has met has no
reply left (R208). -/
def State.decomReply (s : State) : State :=
  let s1 := match s.camyx.ops.find? fun o => o.kind == .decommission with
    | some o =>
      let s2 := ((s.releaseOf .configSave (25 * mj)).releaseOf .keyCommit (15 * mj)).finish o .ok []
      if o.cast then s2 else { s2 with camyx := { s2.camyx with resetOwed := some o.via } }
    | none => s
  sessionPorts.foldl
    (fun (s : State) t => (s.onPort t fun p => { p with pend := none }).endSession t 7) s1

/-- R492, X5: the reply, and a reset with cause CMD that leads to factory defaults; the marker is cleared. A decommissioning
that has no reply to wait for resets at once. -/
def execDecommissionReset (s : State) : Host.Outcome State Fault Refusal :=
  .next (if s.life.st = .decommissioning ∧ s.life.step = 4 ∧ s.seqRuns = true then
      let s1 := s.decomReply
      let s2 : State :=
        { s1 with
          ctr := { s1.ctr with decomMark := false }
          nvm := { s1.nvm with decomMark := false }
          life := { s1.life with
            st := if s1.life.shelfPend then .shelfPending else s1.life.prev, step := 5 } }
      if s2.camyx.resetOwed.isNone then s2.seqReset 7 else s2
    else s)

end Sys2Proof.Machine
end

