-- ==== Sys2Proof/Machine/Modes.lean ====
section
/-! DEFINITION. The meanings of the commands on clocks, power modes and wakes (Chapter 5): XO32 (R131, R132), the end of RUN
(R137, R138), wake sources (R141) and housekeeping runs (R143). -/

namespace Sys2Proof.Machine

/-! ### XO32 -/

/-- Whether XO32 may run: with the Plinth supplied, outside FIELD (Table 1.5). -/
def State.xoPowered (s : State) : Bool := s.plinthOn && s.plinth.mode != .field

/-- R132: XO32 has failed; RTC and TB8 go to RC32, which is trimmed against TB8 where that comes from the pilot. -/
def execXtalFail (s : State) : Host.Outcome State Fault Refusal :=
  .next (if s.xoPowered then
      let s1 : State := { s with plinth :=
        { s.plinth with xo := false, xtalFail := true, rc32Trim := s.plinth.rc32Trim || s.plinth.tb8 == .pilot } }
      (s1.raiseOnce Ev.xtalFail 0 0).tb8Eval
    else s)

/-- R132: XO32 is tried again while XTAL_FAIL stands. -/
def execXtalRetry (s : State) : Host.Outcome State Fault Refusal :=
  .next (if s.xoPowered && s.plinth.xtalFail then { s with plinth := { s.plinth with xo := true } } else s)

/-- R132: a retry has run 10 s without a further failure. -/
def execXtalFailClear (s : State) : Host.Outcome State Fault Refusal :=
  .next (if s.plinth.xo && s.plinth.xtalFail then
      ({ s with plinth := { s.plinth with xtalFail := false, rc32Trim := true } }.clearE Ev.xtalFail).tb8Eval
    else s)

/-- R131: XO32 has started; RC32 is trimmed against it (Table 5.2). -/
def execXo32Started (s : State) : Host.Outcome State Fault Refusal :=
  .next (if s.xoPowered then { s with plinth := { s.plinth with xo := true, rc32Trim := true } }.tb8Eval else s)

/-! ### RUN and its end -/

/-- Goes where RUN ends (R137): DOZE on the bus, PLINTH on storage. -/
def State.leaveRun (s : State) : State :=
  match s.power.path with
  | .onBus => s.toMode .doze
  | .onSto => s.toPlinth
  | .onBak => s.toPlinth
  | _ => s

/-- R137, R138: no RUN condition has held for SYS_RUN_LINGER_MS. -/
def execRunLingerExpiry (s : State) : Host.Outcome State Fault Refusal :=
  .next (if s.plinth.mode = .run && s.seqRuns && !s.workReady && !s.active then s.leaveRun else s)

/-! ### Housekeeping (R143) -/

/-- A run on storage: latched wakes are delivered and deferred work goes on. -/
def State.housekeeping (s : State) : State :=
  let s1 := s.toRun
  if s1.seqRuns then { s1 with plinth := { s1.plinth with hk := true } }.regrant.resumeOps else s1

/-- Whether the node rests in PLINTH, after its first boot. -/
def State.inPlinth (s : State) : Bool :=
  decide (s.plinth.mode = Mode.plinth ∧ s.life.st ≠ .plinthStart ∧ s.life.st ≠ .boot)

/-- Whether it does so on storage or on the backup cell. -/
def State.rests (s : State) : Bool := s.inPlinth && (s.power.path == .onSto || s.power.path == .onBak)

/-- R143: the housekeeping run starts, whatever SYS_WAKE_EN holds. -/
def execHousekeepingRun (s : State) : Host.Outcome State Fault Refusal :=
  .next (if s.rests then s.housekeeping else s)

/-- R143: the housekeeping run has reached its time limit and ends in PLINTH, unless a RUN condition of its own holds
(R138); what did not finish resumes at the next run. -/
def execHousekeepingLimit (s : State) : Host.Outcome State Fault Refusal :=
  let s1 : State := { s with plinth := { s.plinth with hk := false } }
  .next (if !s.plinth.hk then s else if s1.holdsRun || s1.busCarries then s1 else s1.leaveRun)

/-! ### Wakes (Table 5.6) -/

/-- The bit of SYS_WAKE_EN that enables a source; none for those that are enabled always. -/
def wakeBit : WakeSrc → Option Nat
  | .rtcRun => some 0
  | .rtcAlarm => some 1
  | .gpioEdge => some 2
  | .event => some 3
  | .hostByte => some 4
  | .i2cAddr => some 5
  | .miovin => some 6
  | _ => none

/-- Whether a source is enabled. -/
def State.wakeOn (s : State) (w : WakeSrc) : Bool :=
  match wakeBit w with
  | some b => bitAt (s.param P.sysWakeEn) b
  | none => true

/-- Captures a source in the wake latches. -/
def State.latchWake (s : State) (w : WakeSrc) : State :=
  if s.plinth.wakes.contains w then s else { s with plinth := { s.plinth with wakes := s.plinth.wakes ++ [w] } }

/-- Wakes into RUN; the latches hold the source until the sequencer has read it (R140). -/
def State.wakeRun (s : State) (w : WakeSrc) : State := (s.latchWake w).toRun

/-- Whether a source wakes in PLINTH at all. -/
def wakesPlinth : WakeSrc → Bool
  | .vbus => true
  | .nfcField => true
  | .rtcRun => true
  | .rtcAlarm => true
  | .gpioEdge => true
  | .event => true
  | _ => false

/-- A wake source in PLINTH. During a hand-over the mode does not change (R137), and the latches hold it. -/
def State.wakePlinth (s : State) (w : WakeSrc) : State :=
  let late := s.power.path == .handover || (s.power.path == .onBak && (w == .gpioEdge || w == .event))
  if !wakesPlinth w then s
  else if late then s.latchWake w
  else if w = .rtcRun then s.housekeeping
  else s.wakeRun w

/-- A wake source in DOZE. CS_N, U0RX and the I²C pads wake only while VHOST supplies them and their port is enabled (R30,
Table 6.12); a carrier makes the receiver busy (R89). -/
def State.wakeDoze (s : State) (w : WakeSrc) : State :=
  let en := fun i => bitAt (s.param P.sysPortEn) i
  match w with
  | .vbus => s
  | .shelfTimer => s
  | .hold => s
  | .hostByte => if s.power.vhostOn && (en 0 || en 1 || s.ident.role == .head) then s.wakeRun w else s
  | .i2cAddr => if s.power.vhostOn && en 2 then s.wakeRun w else s
  | .lineCarrier => if s.lineReceives then s.carrierHeard.wakeRun w else s
  | _ => s.wakeRun w

/-- R141: a source of Table 5.6. The one of an event is the raise that its mask routes to wake; while the sequencer
restarts, sources are captured for it (R153). SHELF is left by PLINTH_POWER_ON_RESET and SHELF_TIMER. -/
def execWakeSource (w : WakeSrc) (s : State) : Host.Outcome State Fault Refusal :=
  let enabled := (s.wakeOn w || (w == .rtcRun && s.plinth.mode == .plinth)) && (w != .event || s.events.wake)
  let s1 : State := if w = .event then { s with events := { s.events with wake := false } } else s
  .next (if !enabled then s
    else if s.plinth.seq = .warmRestart ∨ s.plinth.seq = .coldBoot then s1.latchWake w
    else if s.inPlinth then s1.wakePlinth w
    else if s.plinth.mode = .doze then s1.wakeDoze w
    else s)

end Sys2Proof.Machine
end

