-- ==== Sys2Proof/Machine/Dispatch.lean ====
section
/-! DEFINITION. One arm per command: each calls its own meaning. -/

namespace Sys2Proof.Machine

def exec (i : Instr) (s : State) : Host.Outcome State Fault Refusal :=
  match i with
  | .plinthPowerOnReset src straps => Sys2Proof.Machine.execPlinthPowerOnReset src straps s
  | .rstNAssert => Sys2Proof.Machine.execRstNAssert s
  | .rstNRelease straps => Sys2Proof.Machine.execRstNRelease straps s
  | .watchdogExpiry => Sys2Proof.Machine.execWatchdogExpiry s
  | .coreLockup => Sys2Proof.Machine.execCoreLockup s
  | .vcoreBrownout => Sys2Proof.Machine.execVcoreBrownout s
  | .rc48Failure => Sys2Proof.Machine.execRc48Failure s
  | .rc48RestartTimeout => Sys2Proof.Machine.execRc48RestartTimeout s
  | .warmRestartComplete => Sys2Proof.Machine.execWarmRestartComplete s
  | .coldBootComplete chk => Sys2Proof.Machine.execColdBootComplete chk s
  | .xtalFail => Sys2Proof.Machine.execXtalFail s
  | .xtalRetry => Sys2Proof.Machine.execXtalRetry s
  | .xtalFailClear => Sys2Proof.Machine.execXtalFailClear s
  | .busUvFall vbusMv => Sys2Proof.Machine.execBusUvFall vbusMv s
  | .busQualify vbusMv => Sys2Proof.Machine.execBusQualify vbusMv s
  | .busLost => Sys2Proof.Machine.execBusLost s
  | .busFullCrossing rising vbusMv => Sys2Proof.Machine.execBusFullCrossing rising vbusMv s
  | .busHighCrossing rising vbusMv => Sys2Proof.Machine.execBusHighCrossing rising vbusMv s
  | .busOv vbusMv => Sys2Proof.Machine.execBusOv vbusMv s
  | .busOvFall vbusMv => Sys2Proof.Machine.execBusOvFall vbusMv s
  | .busDump vbusMv => Sys2Proof.Machine.execBusDump vbusMv s
  | .busDumpFall vbusMv => Sys2Proof.Machine.execBusDumpFall vbusMv s
  | .busReverse vbusMv => Sys2Proof.Machine.execBusReverse vbusMv s
  | .busReverseRelease vbusMv => Sys2Proof.Machine.execBusReverseRelease vbusMv s
  | .reverseHoldOn vbusMv => Sys2Proof.Machine.execReverseHoldOn vbusMv s
  | .gndOpen => Sys2Proof.Machine.execGndOpen s
  | .gndOpenClear => Sys2Proof.Machine.execGndOpenClear s
  | .handoverMake => Sys2Proof.Machine.execHandoverMake s
  | .dwellExpiry => Sys2Proof.Machine.execDwellExpiry s
  | .vselCollapseAfterMake => Sys2Proof.Machine.execVselCollapseAfterMake s
  | .stoQualify stoMv => Sys2Proof.Machine.execStoQualify stoMv s
  | .stoDisqualify stoMv => Sys2Proof.Machine.execStoDisqualify stoMv s
  | .fieldQualify => Sys2Proof.Machine.execFieldQualify s
  | .fieldDisqualify => Sys2Proof.Machine.execFieldDisqualify s
  | .bakQualifyChange bakMv => Sys2Proof.Machine.execBakQualifyChange bakMv s
  | .plinthSupplyFail => Sys2Proof.Machine.execPlinthSupplyFail s
  | .scDerateChange tempC => Sys2Proof.Machine.execScDerateChange tempC s
  | .stoShortDetect stoMv => Sys2Proof.Machine.execStoShortDetect stoMv s
  | .stoShortRetry stoMv => Sys2Proof.Machine.execStoShortRetry stoMv s
  | .stoOpenDetect stoMv => Sys2Proof.Machine.execStoOpenDetect stoMv s
  | .stoOvervoltage stoMv => Sys2Proof.Machine.execStoOvervoltage stoMv s
  | .prechargeTimeout stoMv => Sys2Proof.Machine.execPrechargeTimeout stoMv s
  | .chargeTermination => Sys2Proof.Machine.execChargeTermination s
  | .midOpen midMv => Sys2Proof.Machine.execMidOpen midMv s
  | .midOpenClear midMv => Sys2Proof.Machine.execMidOpenClear midMv s
  | .stoImbalance cleared => Sys2Proof.Machine.execStoImbalance cleared s
  | .balancerStop => Sys2Proof.Machine.execBalancerStop s
  | .bakMeasure bakMv loaded => Sys2Proof.Machine.execBakMeasure bakMv loaded s
  | .vhostCurrentLimit loadMa => Sys2Proof.Machine.execVhostCurrentLimit loadMa s
  | .vhostRetry failed => Sys2Proof.Machine.execVhostRetry failed s
  | .cscStart p => Sys2Proof.Machine.execCscStart p s
  | .cscStop => Sys2Proof.Machine.execCscStop s
  | .cscVocSample p => Sys2Proof.Machine.execCscVocSample p s
  | .plinthStartFromSto stoMv delivering straps => Sys2Proof.Machine.execPlinthStartFromSto stoMv delivering straps s
  | .coldBootTrigger stoMv => Sys2Proof.Machine.execColdBootTrigger stoMv s
  | .tegUp vocUv => Sys2Proof.Machine.execTegUp vocUv s
  | .tegLost => Sys2Proof.Machine.execTegLost s
  | .vibUp vocUv hz => Sys2Proof.Machine.execVibUp vocUv hz s
  | .vibLost => Sys2Proof.Machine.execVibLost s
  | .pvUp vocUv => Sys2Proof.Machine.execPvUp vocUv s
  | .pvLost => Sys2Proof.Machine.execPvLost s
  | .nfcHrv rectMv uw => Sys2Proof.Machine.execNfcHrv rectMv uw s
  | .trackerPeriod c meanUw => Sys2Proof.Machine.execTrackerPeriod c meanUw s
  | .trackerSkip c => Sys2Proof.Machine.execTrackerSkip c s
  | .vocSample c vocUv carrier => Sys2Proof.Machine.execVocSample c vocUv carrier s
  | .vocSampleRestart c => Sys2Proof.Machine.execVocSampleRestart c s
  | .mpptLimit c uw ma => Sys2Proof.Machine.execMpptLimit c uw ma s
  | .mpptLimitClear c => Sys2Proof.Machine.execMpptLimitClear c s
  | .storeFullStop vhbMv => Sys2Proof.Machine.execStoreFullStop vhbMv s
  | .storeResume vhbMv => Sys2Proof.Machine.execStoreResume vhbMv s
  | .boostCeiling rising => Sys2Proof.Machine.execBoostCeiling rising s
  | .referenceRefresh => Sys2Proof.Machine.execReferenceRefresh s
  | .hbClamp conducting => Sys2Proof.Machine.execHbClamp conducting s
  | .tegOscCheck gained => Sys2Proof.Machine.execTegOscCheck gained s
  | .lstoOpen => Sys2Proof.Machine.execLstoOpen s
  | .lstoRetry works => Sys2Proof.Machine.execLstoRetry works s
  | .stageOc st => Sys2Proof.Machine.execStageOc st s
  | .stageOcRetry st works => Sys2Proof.Machine.execStageOcRetry st works s
  | .vhbLow cleared => Sys2Proof.Machine.execVhbLow cleared s
  | .vibDcOv cleared => Sys2Proof.Machine.execVibDcOv cleared s
  | .ledgerUpdate g => Sys2Proof.Machine.execLedgerUpdate g s
  | .holdRise => Sys2Proof.Machine.execHoldRise s
  | .holdFall => Sys2Proof.Machine.execHoldFall s
  | .rearmEnd => Sys2Proof.Machine.execRearmEnd s
  | .holdOverrun => Sys2Proof.Machine.execHoldOverrun s
  | .breachGraceExpiry => Sys2Proof.Machine.execBreachGraceExpiry s
  | .reservationRequest j units => Sys2Proof.Machine.execReservationRequest j units s
  | .reservationWaitExpiry j => Sys2Proof.Machine.execReservationWaitExpiry j s
  | .reservationRelease j => Sys2Proof.Machine.execReservationRelease j s
  | .ledgerFirmwareTimeout => Sys2Proof.Machine.execLedgerFirmwareTimeout s
  | .calendarHourEnd => Sys2Proof.Machine.execCalendarHourEnd s
  | .calendarSave ok => Sys2Proof.Machine.execCalendarSave ok s
  | .forecastCheck => Sys2Proof.Machine.execForecastCheck s
  | .fcSuspendEnd => Sys2Proof.Machine.execFcSuspendEnd s
  | .runLingerExpiry => Sys2Proof.Machine.execRunLingerExpiry s
  | .wakeSource w => Sys2Proof.Machine.execWakeSource w s
  | .housekeepingRun => Sys2Proof.Machine.execHousekeepingRun s
  | .housekeepingLimit => Sys2Proof.Machine.execHousekeepingLimit s
  | .shadowTransfer => Sys2Proof.Machine.execShadowTransfer s
  | .u0BaudChange => Sys2Proof.Machine.execU0BaudChange s
  | .adcSSample ch slot pos ma => Sys2Proof.Machine.execAdcSSample ch slot pos ma s
  | .dozeBurst ch ma => Sys2Proof.Machine.execDozeBurst ch ma s
  | .blockOverrun level us => Sys2Proof.Machine.execBlockOverrun level us s
  | .spiWriteTransaction bytes => Sys2Proof.Machine.execSpiWriteTransaction bytes s
  | .spiReadTransaction n => Sys2Proof.Machine.execSpiReadTransaction n s
  | .spiVoidTransaction header n => Sys2Proof.Machine.execSpiVoidTransaction header n s
  | .i2cWriteTransaction addr bytes => Sys2Proof.Machine.execI2cWriteTransaction addr bytes s
  | .i2cReadTransaction addr n => Sys2Proof.Machine.execI2cReadTransaction addr n s
  | .uartPacketReceived bytes => Sys2Proof.Machine.execUartPacketReceived bytes s
  | .uartGapTimeout => Sys2Proof.Machine.execUartGapTimeout s
  | .uartReplyTransmit => Sys2Proof.Machine.execUartReplyTransmit s
  | .bridgeFrame bytes => Sys2Proof.Machine.execBridgeFrame bytes s
  | .bridgeReplyTimeout addr seq => Sys2Proof.Machine.execBridgeReplyTimeout addr seq s
  | .packetPart opc rq => Sys2Proof.Machine.execPacketPart opc rq s
  | .camyxApdu bytes => Sys2Proof.Machine.execCamyxApdu bytes s
  | .sWtx => Sys2Proof.Machine.execSWtx s
  | .sessionPendingLapse t => Sys2Proof.Machine.execSessionPendingLapse t s
  | .sessionIdleExpiry t => Sys2Proof.Machine.execSessionIdleExpiry t s
  | .ping rq => Sys2Proof.Machine.execPing rq s
  | .openSession rq => Sys2Proof.Machine.execOpenSession rq s
  | .closeSession rq => Sys2Proof.Machine.execCloseSession rq s
  | .abort rq => Sys2Proof.Machine.execAbort rq s
  | .getInfo rq => Sys2Proof.Machine.execGetInfo rq s
  | .tabForward rq => Sys2Proof.Machine.execTabForward rq s
  | .readParam rq => Sys2Proof.Machine.execReadParam rq s
  | .writeParam rq => Sys2Proof.Machine.execWriteParam rq s
  | .commit rq => Sys2Proof.Machine.execCommit rq s
  | .revert rq => Sys2Proof.Machine.execRevert rq s
  | .save rq => Sys2Proof.Machine.execSave rq s
  | .readLive rq => Sys2Proof.Machine.execReadLive rq s
  | .imageExport rq => Sys2Proof.Machine.execImageExport rq s
  | .imageImport rq => Sys2Proof.Machine.execImageImport rq s
  | .chSet rq => Sys2Proof.Machine.execChSet rq s
  | .chClear rq => Sys2Proof.Machine.execChClear rq s
  | .railCtrlStop rq => Sys2Proof.Machine.execRailCtrlStop rq s
  | .railCtrlStart rq => Sys2Proof.Machine.execRailCtrlStart rq s
  | .railCtrlClearLatch rq => Sys2Proof.Machine.execRailCtrlClearLatch rq s
  | .faultRead rq => Sys2Proof.Machine.execFaultRead rq s
  | .shedSet rq => Sys2Proof.Machine.execShedSet rq s
  | .timeSet rq => Sys2Proof.Machine.execTimeSet rq s
  | .allowanceSet rq => Sys2Proof.Machine.execAllowanceSet rq s
  | .nodeList rq => Sys2Proof.Machine.execNodeList rq s
  | .evtRead rq => Sys2Proof.Machine.execEvtRead rq s
  | .patinaRead rq => Sys2Proof.Machine.execPatinaRead rq s
  | .traceArm rq => Sys2Proof.Machine.execTraceArm rq s
  | .traceStop rq => Sys2Proof.Machine.execTraceStop rq s
  | .traceRead rq => Sys2Proof.Machine.execTraceRead rq s
  | .keyWrite rq => Sys2Proof.Machine.execKeyWrite rq s
  | .keyErase rq => Sys2Proof.Machine.execKeyErase rq s
  | .attest rq => Sys2Proof.Machine.execAttest rq s
  | .fwBegin rq => Sys2Proof.Machine.execFwBegin rq s
  | .fwBlock rq => Sys2Proof.Machine.execFwBlock rq s
  | .fwActivate rq => Sys2Proof.Machine.execFwActivate rq s
  | .debugUnlock rq => Sys2Proof.Machine.execDebugUnlock rq s
  | .debugUnlockLapse => Sys2Proof.Machine.execDebugUnlockLapse s
  | .reset rq => Sys2Proof.Machine.execReset rq s
  | .resetExecute => Sys2Proof.Machine.execResetExecute s
  | .shelf rq => Sys2Proof.Machine.execShelf rq s
  | .decommission rq => Sys2Proof.Machine.execDecommission rq s
  | .pwmCycleStart ch tick => Sys2Proof.Machine.execPwmCycleStart ch tick s
  | .secondBoundaryPattern ch => Sys2Proof.Machine.execSecondBoundaryPattern ch s
  | .strobeLoss d => Sys2Proof.Machine.execStrobeLoss d s
  | .strobeReturn d => Sys2Proof.Machine.execStrobeReturn d s
  | .rangeSwitchDown ch => Sys2Proof.Machine.execRangeSwitchDown ch s
  | .measurementWindow ch => Sys2Proof.Machine.execMeasurementWindow ch s
  | .openLoadDetect ch => Sys2Proof.Machine.execOpenLoadDetect ch s
  | .openLoadClear ch => Sys2Proof.Machine.execOpenLoadClear ch s
  | .pairShare ch => Sys2Proof.Machine.execPairShare ch s
  | .gpioDebounceComplete g high => Sys2Proof.Machine.execGpioDebounceComplete g high s
  | .dimHold g => Sys2Proof.Machine.execDimHold g s
  | .dimRampStep g => Sys2Proof.Machine.execDimRampStep g s
  | .wallActionApply => Sys2Proof.Machine.execWallActionApply s
  | .restoreAtStart d => Sys2Proof.Machine.execRestoreAtStart d s
  | .livePlugWindow ch => Sys2Proof.Machine.execLivePlugWindow ch s
  | .inrushWindowClose ch => Sys2Proof.Machine.execInrushWindowClose ch s
  | .currentLimitReached ch => Sys2Proof.Machine.execCurrentLimitReached ch s
  | .limitTrip ch hard => Sys2Proof.Machine.execLimitTrip ch hard s
  | .inrushRetry ch => Sys2Proof.Machine.execInrushRetry ch s
  | .limitTimerReset ch => Sys2Proof.Machine.execLimitTimerReset ch s
  | .thermalShutdown ch tempC => Sys2Proof.Machine.execThermalShutdown ch tempC s
  | .thermalRestart ch tempC => Sys2Proof.Machine.execThermalRestart ch tempC s
  | .dieTempWarn d tempC => Sys2Proof.Machine.execDieTempWarn d tempC s
  | .clampEvent ch ma tclUs vclMv => Sys2Proof.Machine.execClampEvent ch ma tclUs vclMv s
  | .noFreewheel ch => Sys2Proof.Machine.execNoFreewheel ch s
  | .heartbeatLoss d => Sys2Proof.Machine.execHeartbeatLoss d s
  | .heartbeatReturn d => Sys2Proof.Machine.execHeartbeatReturn d s
  | .dieFence d why => Sys2Proof.Machine.execDieFence d why s
  | .dieSelfTest d pass => Sys2Proof.Machine.execDieSelfTest d pass s
  | .dieSumWarn d above => Sys2Proof.Machine.execDieSumWarn d above s
  | .dieSupplyLoss d => Sys2Proof.Machine.execDieSupplyLoss d s
  | .dieSupplyReturn d => Sys2Proof.Machine.execDieSupplyReturn d s
  | .railFiring r dt fbUv integUv vosMv vbusMv low => Sys2Proof.Machine.execRailFiring r dt fbUv integUv vosMv vbusMv low s
  | .lockChange r locked corrLimit => Sys2Proof.Machine.execLockChange r locked corrLimit s
  | .quietMapRecompute vbusMv => Sys2Proof.Machine.execQuietMapRecompute vbusMv s
  | .balanceTick r means => Sys2Proof.Machine.execBalanceTick r means s
  | .balanceLimit p cleared => Sys2Proof.Machine.execBalanceLimit p cleared s
  | .pll384Locked chk => Sys2Proof.Machine.execPll384Locked chk s
  | .railUp r => Sys2Proof.Machine.execRailUp r s
  | .softStopComplete r => Sys2Proof.Machine.execSoftStopComplete r s
  | .trackFault r => Sys2Proof.Machine.execTrackFault r s
  | .syncAcquire => Sys2Proof.Machine.execSyncAcquire s
  | .syncLoss => Sys2Proof.Machine.execSyncLoss s
  | .brakeStart r => Sys2Proof.Machine.execBrakeStart r s
  | .brakeEnd r why => Sys2Proof.Machine.execBrakeEnd r why s
  | .scLimit p => Sys2Proof.Machine.execScLimit p s
  | .overloadTimeout r onePhase => Sys2Proof.Machine.execOverloadTimeout r onePhase s
  | .overloadRetry r => Sys2Proof.Machine.execOverloadRetry r s
  | .undervolt r atMaxDuty limited => Sys2Proof.Machine.execUndervolt r atMaxDuty limited s
  | .dropoutClear r => Sys2Proof.Machine.execDropoutClear r s
  | .hiccupRestart r => Sys2Proof.Machine.execHiccupRestart r s
  | .hiccupCountClear r => Sys2Proof.Machine.execHiccupCountClear r s
  | .vdrvLockout => Sys2Proof.Machine.execVdrvLockout s
  | .vdrvRelease => Sys2Proof.Machine.execVdrvRelease s
  | .pllLoss => Sys2Proof.Machine.execPllLoss s
  | .pllRelock => Sys2Proof.Machine.execPllRelock s
  | .outOvLatch r peakFbMv => Sys2Proof.Machine.execOutOvLatch r peakFbMv s
  | .phaseFailedPath p why => Sys2Proof.Machine.execPhaseFailedPath p why s
  | .phaseShed p => Sys2Proof.Machine.execPhaseShed p s
  | .vosMismatch r => Sys2Proof.Machine.execVosMismatch r s
  | .faultRecordWrite r => Sys2Proof.Machine.execFaultRecordWrite r s
  | .pilotWordSend => Sys2Proof.Machine.execPilotWordSend s
  | .pilotWordReceived w => Sys2Proof.Machine.execPilotWordReceived w s
  | .pilotLoss byWords => Sys2Proof.Machine.execPilotLoss byWords s
  | .timeApply => Sys2Proof.Machine.execTimeApply s
  | .superframeStart => Sys2Proof.Machine.execSuperframeStart s
  | .headExchange slotsLeft => Sys2Proof.Machine.execHeadExchange slotsLeft s
  | .lineFrameReceived desc bytes snrQ => Sys2Proof.Machine.execLineFrameReceived desc bytes snrQ s
  | .replyWindow rlen rmode => Sys2Proof.Machine.execReplyWindow rlen rmode s
  | .accessFrameSend => Sys2Proof.Machine.execAccessFrameSend s
  | .joinReceived desc bytes => Sys2Proof.Machine.execJoinReceived desc bytes s
  | .joinRetry => Sys2Proof.Machine.execJoinRetry s
  | .reassemblyTimeout addr => Sys2Proof.Machine.execReassemblyTimeout addr s
  | .laneDrop lane restore => Sys2Proof.Machine.execLaneDrop lane restore s
  | .nodeLost addr => Sys2Proof.Machine.execNodeLost addr s
  | .nodeUnjoin => Sys2Proof.Machine.execNodeUnjoin s
  | .alertTrigger group => Sys2Proof.Machine.execAlertTrigger group s
  | .pilotHoldExpiry => Sys2Proof.Machine.execPilotHoldExpiry s
  | .shedHoldExpiry => Sys2Proof.Machine.execShedHoldExpiry s
  | .droopRise level vbusMv => Sys2Proof.Machine.execDroopRise level vbusMv s
  | .droopFall vbusMv => Sys2Proof.Machine.execDroopFall vbusMv s
  | .pickupDelayExpiry ch => Sys2Proof.Machine.execPickupDelayExpiry ch s
  | .allowanceReached cls => Sys2Proof.Machine.execAllowanceReached cls s
  | .allowanceDayStart => Sys2Proof.Machine.execAllowanceDayStart s
  | .txFault short => Sys2Proof.Machine.execTxFault short s
  | .txFaultRetry works => Sys2Proof.Machine.execTxFaultRetry works s
  | .headStartupListenEnd heard => Sys2Proof.Machine.execHeadStartupListenEnd heard s
  | .headClash => Sys2Proof.Machine.execHeadClash s
  | .headClashListenEnd heard => Sys2Proof.Machine.execHeadClashListenEnd heard s
  | .stoodDownCheck quiet => Sys2Proof.Machine.execStoodDownCheck quiet s
  | .tabCycleStart => Sys2Proof.Machine.execTabCycleStart s
  | .leadFrameReceived bytes => Sys2Proof.Machine.execLeadFrameReceived bytes s
  | .gangShareStart r => Sys2Proof.Machine.execGangShareStart r s
  | .memberFrameReceived bytes => Sys2Proof.Machine.execMemberFrameReceived bytes s
  | .bulkFrameReceived bytes => Sys2Proof.Machine.execBulkFrameReceived bytes s
  | .joinFrameReceived bytes => Sys2Proof.Machine.execJoinFrameReceived bytes s
  | .electionStart => Sys2Proof.Machine.execElectionStart s
  | .electionListenEnd => Sys2Proof.Machine.execElectionListenEnd s
  | .readbackFailure => Sys2Proof.Machine.execReadbackFailure s
  | .tsyncLock => Sys2Proof.Machine.execTsyncLock s
  | .tsyncLoss => Sys2Proof.Machine.execTsyncLoss s
  | .tsyncContention => Sys2Proof.Machine.execTsyncContention s
  | .memberSilent m => Sys2Proof.Machine.execMemberSilent m s
  | .memberLost m => Sys2Proof.Machine.execMemberLost m s
  | .leadLostTimeout => Sys2Proof.Machine.execLeadLostTimeout s
  | .memberReturn m => Sys2Proof.Machine.execMemberReturn m s
  | .disagreementCheck m => Sys2Proof.Machine.execDisagreementCheck m s
  | .linkFault cleared => Sys2Proof.Machine.execLinkFault cleared s
  | .nfcReqa rectMv => Sys2Proof.Machine.execNfcReqa rectMv s
  | .nfcAnticollision uid => Sys2Proof.Machine.execNfcAnticollision uid s
  | .nfcRats param => Sys2Proof.Machine.execNfcRats param s
  | .nfcPps param => Sys2Proof.Machine.execNfcPps param s
  | .appSelect bytes => Sys2Proof.Machine.execAppSelect bytes s
  | .readBinary file offset len => Sys2Proof.Machine.execReadBinary file offset len s
  | .updateBinary => Sys2Proof.Machine.execUpdateBinary s
  | .fieldLost => Sys2Proof.Machine.execFieldLost s
  | .keyCommitSurplusCheck uw rectMv expired => Sys2Proof.Machine.execKeyCommitSurplusCheck uw rectMv expired s
  | .fwTrialConfirm => Sys2Proof.Machine.execFwTrialConfirm s
  | .fifoWrite => Sys2Proof.Machine.execFifoWrite s
  | .pulseAckTimeout g bit => Sys2Proof.Machine.execPulseAckTimeout g bit s
  | .patinaCapture => Sys2Proof.Machine.execPatinaCapture s
  | .tokenGain => Sys2Proof.Machine.execTokenGain s
  | .patinaFlush ok => Sys2Proof.Machine.execPatinaFlush ok s
  | .traceSample => Sys2Proof.Machine.execTraceSample s
  | .traceTrigger => Sys2Proof.Machine.execTraceTrigger s
  | .traceDone => Sys2Proof.Machine.execTraceDone s
  | .wearUpdate w => Sys2Proof.Machine.execWearUpdate w s
  | .shutdownStep2 => Sys2Proof.Machine.execShutdownStep2 s
  | .shutdownStep3 => Sys2Proof.Machine.execShutdownStep3 s
  | .shutdownCommit => Sys2Proof.Machine.execShutdownCommit s
  | .plinthEntry => Sys2Proof.Machine.execPlinthEntry s
  | .railPickup => Sys2Proof.Machine.execRailPickup s
  | .autostartPending r => Sys2Proof.Machine.execAutostartPending r s
  | .channelPickup ch => Sys2Proof.Machine.execChannelPickup ch s
  | .clpRetryReset => Sys2Proof.Machine.execClpRetryReset s
  | .floorEssentialCommit stoMv => Sys2Proof.Machine.execFloorEssentialCommit stoMv s
  | .shelfShutdownStart => Sys2Proof.Machine.execShelfShutdownStart s
  | .shelfEntry => Sys2Proof.Machine.execShelfEntry s
  | .shelfTimer straps => Sys2Proof.Machine.execShelfTimer straps s
  | .shelfReentry => Sys2Proof.Machine.execShelfReentry s
  | .shelfMarkerClear => Sys2Proof.Machine.execShelfMarkerClear s
  | .decommissionOutputs => Sys2Proof.Machine.execDecommissionOutputs s
  | .decommissionErase => Sys2Proof.Machine.execDecommissionErase s
  | .decommissionReset => Sys2Proof.Machine.execDecommissionReset s
  | .xo32Started => Sys2Proof.Machine.execXo32Started s
  | .nvmProgramEraseComplete ok => Sys2Proof.Machine.execNvmProgramEraseComplete ok s
  | .onStaggerExpiry => Sys2Proof.Machine.execOnStaggerExpiry s
  | .evtPinMinHoldExpiry pin => Sys2Proof.Machine.execEvtPinMinHoldExpiry pin s
  | .nfcSessionRenewal => Sys2Proof.Machine.execNfcSessionRenewal s

end Sys2Proof.Machine
end

