-- ==== Sys2Proof/Machine/Tick.lean ====
section
/-! DEFINITION. One system tick of 1 ms without a command (log 3): uptime, the RTC with its slew, and the millisecond
counts that run by themselves. -/

namespace Sys2Proof.Machine

/-- How fast the RTC runs against its clock, in parts per billion (R134): by the trim that the pilot gives; without the pilot
by the last one, corrected by 0.034 ppm/K² about 25 °C for the crystal, which is slower there (DEDUCED, log 81); on RC32,
which is trimmed itself, as it is. -/
def State.rtcPpb (s : State) : Int :=
  let dt := s.power.tempC - 25
  if !s.plinth.xo || s.plinth.xtalFail then 0
  else if s.plinth.tb8 = .pilot then s.ctr.rtcTrim
  else s.ctr.rtcTrim + 34 * dt * dt

/-- One millisecond of uptime and of the RTC, whose rate is `ppb` off, and which runs 1 % fast or slow while it slews (R360).
The 32,768 Hz divider of the uptime carries its fraction of a cycle; RC32 at 32 kHz has none (R135). -/
def Plinth.tick (p : Plinth) (ppb : Int) : Plinth :=
  let d : Int := if 0 < p.slew then 1 else if p.slew < 0 then -1 else 0
  let tot := p.rtcRem + 32768 * (1000000000 + ppb + 10000000 * d).toNat
  let sub := p.rtcSub + tot / 1000000000000
  { p with
    upMs := wrapAdd 32 p.upMs 1
    upFrac := if p.xo && !p.xtalFail then (p.upFrac + 768) % 1000 else p.upFrac
    slew := p.slew - d
    rtcSec := wrapAdd 32 p.rtcSec (sub / 32768)
    rtcSub := sub % 32768
    rtcRem := tot % 1000000000000 }

/-- The watchdog in one millisecond (R151): it counts while the sequencer runs, and is held at its reload value while it is
off, restarts, or is halted in DOZE; levels that have work ready are noted. -/
def State.wdtTick (s : State) : Plinth :=
  if s.seqRuns && s.plinth.mode != .doze then
    { s.plinth with wdtMs := s.plinth.wdtMs - 1, wdtSeen := s.plinth.wdtSeen ||| s.levelsReady }
  else { s.plinth with wdtMs := s.config.wdtLoadMs, wdtSeen := 0, wdtDone := 0 }

/-- What counts by itself in one millisecond. -/
def State.count1 (s : State) : State :=
  { s with
    plinth := s.wdtTick.tick s.rtcPpb
    power := { s.power with
      shortMs := if 200 ≤ s.power.stoMv then 0
        else if s.chargesSto && decide (20000 ≤ s.chargerUa + s.harvest.outUa) then s.power.shortMs + 1
        else s.power.shortMs
      retryMs := if s.power.fShort then (s.power.retryMs + 1) % 600000 else 0
      dwellMs := s.power.dwellMs - 1
      vhostMv := if !s.power.vhostOn then 0
        else if s.power.vhostMv ≤ s.vhostSetMv then min (s.power.vhostMv + 1000) s.vhostSetMv
        else max (s.power.vhostMv - 1000) s.vhostSetMv
      balancer := s.power.balancer || (decide (s.ident.sto = .sc2) && s.chargesSto && !s.power.fMid) }
    line := { s.line with
      rxMs := s.line.rxMs - 1, slotMs := if s.line.txMs = 0 then s.line.slotMs - 1 else s.line.slotMs
      pilotOffUs := if 0 < s.line.pilotOffUs then s.line.pilotOffUs - 1
        else if s.line.pilotOffUs < 0 then s.line.pilotOffUs + 1 else 0 }
    camyx := { s.camyx with u0TxMs := s.camyx.u0TxMs - 1 }
    nfc := { s.nfc with txMs := s.nfc.txMs - 1 }
    arm := { s.arm with glideMs := s.arm.glideMs - 1 }
    sec := { s.sec with trialMs := if !s.sec.trial then 0
        else if s.plinth.mode == .doze || s.plinth.mode == .run then s.sec.trialMs + 1 else s.sec.trialMs } }

/-- One millisecond of a burst; it ends with its slots, or is cut where the transmitter may not act any more (R363). -/
def State.burstTick (s : State) : State :=
  if s.line.txMs ≤ 1 || !s.txFree then s.endBurst else { s with line := { s.line with txMs := s.line.txMs - 1 } }

/-- One tick; without a supply for the Plinth nothing counts. Where a RUN condition holds in DOZE, it goes to RUN (R137). -/
def State.tick (s : State) : State :=
  if !s.plinthOn then s
  else
    let s1 := (s.count1.rampRails.burstTick).leadWatch
    if s1.active || s1.workReady then s1.needRun else s1

end Sys2Proof.Machine
end

