-- ==== Sys2Proof/Machine/Pads.lean ====
section
/-! DEFINITION. What the pads show (Chapter 1): the pad map of Table 1.4, the state of every pad in each power mode and
under device reset (Table 1.5, R26 to R33), and the outputs of other chapters that Table 1.5 refers to: SYNC (R322), the line
pads (R351), the Miovin link and TSYNC (R390, R394), VREG10 (R46, R70) and the host ports in a sequencer reset (R28). -/

namespace Sys2Proof.Machine

/-! ### Pads -/

/-- The pads of Table 1.4, one constructor per name or numbered group. -/
inductive Pad
  | out (ch : Nat) | vbus (die : Nat) | pgnd (die : Nat) | gnd | vdrv
  | gh (ph : Nat) | gl (ph : Nat) | sw (ph : Nat) | bst (ph : Nat) | csp (ph : Nat) | csn (ph : Nat)
  | vos (r : Nat) | fb (r : Nat) | trk | sync
  | vibA | vibB | vibDc | tegP | tegN | tegSw | tegOsc | tegAux | pvIn | pvSw | lxSto
  | sto | stoMid | bak | vhost | vpln | vcore | vreg10 | xin32 | xout32
  | nfcLa | nfcLb | lnTx | lnTxb | lnRef | lnRx | tabP | tabN | tsync
  | gpio (i : Nat) | sprig | bunch | hold | evt (p : Nat) | rstN | test
  | sck | sdi | csN | sdo | u0Tx | u0Rx | u0De | scl | sda | dbgClk | dbgIo | dnc
deriving DecidableEq, Repr

/-- The state classes of Table 1.5. -/
inductive PadClass
  | out | sup | gdrv | swn | sense | sync | dsup | hrv | stor | vhost | ireg | xtal | grant | hold | evt | hin | hout | i2c
  | gpio | nfc | lntx | lnrx | tab | rstn | test | dbg | dnc
deriving DecidableEq, Repr

/-- A run of pads that alternate between names, as Table 1.4 lists them. -/
def alternating (n : Nat) (f : Nat → List Pad) : List Pad := (List.range n).flatMap f

/-- The four OUT pads of each channel named (Table 1.4). -/
def outPads (cs : List Nat) : List Pad := cs.flatMap fun c => List.replicate 4 (Pad.out c)

/-- The supply pads of a die with its returns (Table 1.4). -/
def supplyPads (d : Nat) : List Pad :=
  [List.replicate 3 (Pad.vbus d), List.replicate 6 (Pad.pgnd d), List.replicate 3 (Pad.vbus d)].flatten

/-- The high-side pads of two phases (Table 1.4). -/
def highPads (a : Nat) : List Pad := alternating 2 fun i => [Pad.gh (a + i), Pad.sw (a + i)]

/-- The bootstrap and low-side pads of four phases (Table 1.4). -/
def lowPads (a : Nat) : List Pad := alternating 4 fun i => [Pad.bst (a + i), Pad.gl (a + i)]

/-- The shunt pads of four phases (Table 1.4). -/
def shuntPads (a : Nat) : List Pad := alternating 4 fun i => [Pad.csp (a + i), Pad.csn (a + i)]

/-- Table 1.4: the pads 1 to 240 in order. -/
def padMap : List Pad :=
  [outPads [14, 15], [.vibA, .vibB, .vibDc, .tegP, .tegN, .tegSw, .lxSto, .lxSto, .sto, .sto],
    outPads [0, 1, 2, 3], [.nfcLa, .nfcLb, .gnd, .lnTx, .lnTxb, .lnRef, .lnRx, .tabP, .tabN, .tsync],
    outPads [4, 5, 6, 7], highPads 0, [.vdrv], highPads 2, [.gnd],
    outPads [8, 9, 10, 11], highPads 4, [.vdrv], highPads 6, [.gnd], outPads [12, 13],
    List.replicate 3 (.pgnd 3), List.replicate 3 (.vbus 3),
    [.pvIn, .pvSw, .tegOsc, .tegAux, .gnd, .stoMid, .bak, .vhost, .vhost, .gnd], supplyPads 0,
    (List.range 8).map .gpio, [.dnc, .dnc], supplyPads 1, lowPads 0, [.gnd, .dnc], supplyPads 2, lowPads 4, [.gnd, .dnc],
    List.replicate 3 (.vbus 3), List.replicate 3 (.pgnd 3),
    [.vpln, .vcore, .vreg10, .xin32, .xout32, .gnd, .sprig, .bunch, .hold, .evt 0, .evt 1, .rstN, .sck, .sdi, .sdo,
      .csN, .u0Tx, .u0Rx, .u0De, .scl, .sda, .test, .dbgClk, .dbgIo],
    shuntPads 0, [.vos 0, .fb 0, .trk, .sync], shuntPads 4, [.vos 1, .fb 1, .dnc, .dnc]].flatten

/-- The state class of a pad (Table 1.4). -/
def Pad.cls : Pad → PadClass
  | .out _ => .out
  | .vbus _ => .sup
  | .pgnd _ => .sup
  | .gnd => .sup
  | .vdrv => .dsup
  | .gh _ => .gdrv
  | .gl _ => .gdrv
  | .sw _ => .swn
  | .bst _ => .swn
  | .csp _ => .sense
  | .csn _ => .sense
  | .vos _ => .sense
  | .fb _ => .sense
  | .trk => .sense
  | .sync => .sync
  | .vibA => .hrv
  | .vibB => .hrv
  | .vibDc => .hrv
  | .tegP => .hrv
  | .tegN => .hrv
  | .tegSw => .hrv
  | .tegOsc => .hrv
  | .tegAux => .hrv
  | .pvIn => .hrv
  | .pvSw => .hrv
  | .lxSto => .hrv
  | .sto => .stor
  | .stoMid => .stor
  | .bak => .stor
  | .vhost => .vhost
  | .vpln => .ireg
  | .vcore => .ireg
  | .vreg10 => .ireg
  | .xin32 => .xtal
  | .xout32 => .xtal
  | .nfcLa => .nfc
  | .nfcLb => .nfc
  | .lnTx => .lntx
  | .lnTxb => .lntx
  | .lnRef => .lnrx
  | .lnRx => .lnrx
  | .tabP => .tab
  | .tabN => .tab
  | .tsync => .tab
  | .gpio _ => .gpio
  | .sprig => .grant
  | .bunch => .grant
  | .hold => .hold
  | .evt _ => .evt
  | .rstN => .rstn
  | .test => .test
  | .sck => .hin
  | .sdi => .hin
  | .csN => .hin
  | .u0Rx => .hin
  | .sdo => .hout
  | .u0Tx => .hout
  | .u0De => .hout
  | .scl => .i2c
  | .sda => .i2c
  | .dbgClk => .dbg
  | .dbgIo => .dbg
  | .dnc => .dnc

/-! ### What a pad shows -/

/-- The pull of an input, with its resistance in kΩ. -/
inductive PadPull
  | none
  | up (kohm : Nat)
  | down (kohm : Nat)
  | pulsed
deriving DecidableEq, Repr

/-- What a pad shows: `off` stands for Off, Ignored and Not sensed, `data` for a level that a transfer in progress gives,
`supply` for a supply or return in volts of mV where the model holds them. -/
inductive PadState
  | off | hiZ | low | high | released | asserted
  | input (pull : PadPull)
  | square (hz : Nat)
  | data
  | bias (mv : Nat)
  | supply (on : Bool)
  | volts (mv : Int)
  | switching | sensing | passive | active | isolated | oscillating
  | locked (pull : PadPull)
  | debug
  | internal | noConnect
deriving DecidableEq, Repr

/-- A logic level as a driven pad shows it. -/
def PadState.ofBool (b : Bool) : PadState := if b then .high else .low

/-! ### The classes of Table 1.5 -/

/-- OUT: the state held in the switch-die latch, in every mode and through a device reset (R29); off without VBUS. -/
def State.padOut (s : State) (ch : Nat) : PadState :=
  if s.ident.qb ∧ 8 ≤ ch then .noConnect
  else if (s.sw.die.toList.getD (dieOf ch) Die.initial).supplied && (s.chan ch).out then .high
  else .off

/-- GDRV: switching where the phase's rail runs; GL high on a rail in state 4 while VDRV is in regulation (R338, R339). -/
def State.padGate (s : State) (ph : Nat) (isLow : Bool) : PadState :=
  let x := s.rail (s.railOf ph)
  if s.plinth.mode = .shelf ∨ s.plinthOn = false then .low
  else if x.st = .ovLatched then .ofBool (isLow && s.arm.vdrvOk)
  else if s.plinth.mode = .run ∧ s.inReset = false ∧ (s.phase ph).running = true ∧ x.braking = false then .switching
  else .low

/-- SWN and SENSE: in use in RUN alone. -/
def State.padSense (s : State) (rest : PadState) : PadState :=
  if s.plinth.mode = .run ∧ s.inReset = false ∧ s.plinthOn = true then .sensing else rest

/-- SYNC (R321, R322): an input in mode 1, a square wave at TB8 × ARM_SYNC_M in mode 2, in RUN; else high-impedance; an input
with its pull-down under device reset. -/
def State.padSync (s : State) : PadState :=
  if !s.plinthOn then .hiZ
  else if s.inReset then .input (.down 100)
  else if s.plinth.mode ≠ .run then .hiZ
  else match s.param P.armSyncMode with
    | 1 => .input .none
    | 2 => .square (8000 * s.param P.armSyncM)
    | _ => .hiZ

/-- VREG10 in mV (Table 2.3, R46): it follows VBUS at about 1 V below it up to 10 V; off without VBUS, under reverse bus (R70), and
in SHELF, PLINTH and FIELD (Table 1.5). "About 1 V" is taken as 1 V (DEDUCED, log 90). -/
def State.vreg10Mv (s : State) : Nat :=
  let on := s.inReset || s.plinth.mode == .doze || s.plinth.mode == .run
  if s.plinthOn && on && !s.power.busUv && !s.power.busRev then min 10000 (s.power.vbusMv - 1000).toNat else 0

/-- HRV: active where a channel runs or may run; the passive paths alone without Roeno's Plinth, in FIELD and in device
reset (R78, R79); disabled in SHELF. -/
def State.padHarvest (s : State) : PadState :=
  if s.plinth.mode = .shelf then .hiZ
  else if s.plinth.mode = .field ∨ s.inReset = true ∨ s.plinthOn = false then .passive
  else .active

/-- STO: isolated in SHELF and FIELD. -/
def State.padSto (s : State) : PadState :=
  if s.plinth.mode = .shelf ∨ s.plinth.mode = .field then .isolated else .volts s.power.stoMv

/-- GRANT: driven where granted, high-impedance in SHELF and FIELD and without VHOST, which supplies the pads (R30); low under
device reset. -/
def State.padGrant (s : State) (granted : Bool) : PadState :=
  if !s.plinthOn || !s.power.vhostOn || s.plinth.mode == .shelf || s.plinth.mode == .field then .hiZ
  else .ofBool (granted && !s.inReset)

/-- HOLD: an input in PLINTH, DOZE and RUN; else ignored. -/
def State.padHold (s : State) : PadState :=
  if s.plinthOn && !s.inReset && s.plinth.mode != .shelf && s.plinth.mode != .field then .input .none else .off

/-- Whether the host ports are in a sequencer reset (R28). -/
def State.hostReset (s : State) : Bool := s.plinth.seq == .warmRestart || s.plinth.seq == .coldBoot

/-- HIN: inputs in DOZE and RUN, with their pulls under device reset. -/
def State.padHostIn (s : State) (pull : PadPull) : PadState :=
  if !s.plinthOn || !s.power.vhostOn then .hiZ
  else if s.inReset then .input pull
  else if s.plinth.mode = .doze ∨ s.plinth.mode = .run then .input .none
  else .hiZ

/-- SDO: driven with data while a reply is read, high-impedance while CS_N is high and during a sequencer reset (R28). -/
def State.padSdo (s : State) : PadState :=
  if s.portLive .spi && !s.hostReset && !s.inReset then (if (s.port .spi).replies.isEmpty then .hiZ else .data) else .hiZ

/-- U0TX: idle high, data while it transmits; U0DE: high while it transmits (R175). Both idle during a sequencer reset (R28). -/
def State.padUart (s : State) (de : Bool) : PadState :=
  let up := s.plinth.mode == .doze || s.plinth.mode == .run
  if !s.plinthOn || !s.power.vhostOn || s.inReset || !up then .hiZ
  else if s.hostReset || s.camyx.u0TxMs == 0 then .ofBool (!de)
  else if de then .high
  else .data

/-- SCL and SDA: a target in DOZE and RUN; released otherwise and during a sequencer reset (R28). -/
def State.padI2c (s : State) : PadState :=
  if s.portLive .i2c && !s.hostReset && !s.inReset then .active else .released

/-- The pull of GPIO_PULL (R266). -/
def gpioPullOf (n : Nat) : PadPull :=
  match n with
  | 1 => .up 100
  | 2 => .down 100
  | 3 => .pulsed
  | _ => .none

/-- GPIO: as configured from PLINTH on, an output at GPIO_OUT in mode 1, an input with its pull otherwise (R266, R33). -/
def State.padGpio (s : State) (i : Nat) : PadState :=
  if !s.plinthOn then .hiZ
  else if s.inReset then .input (.down 100)
  else if s.plinth.mode = .shelf ∨ s.plinth.mode = .field then .hiZ
  else if s.param (P.gpioMode i) = 1 then .ofBool (s.isOn (P.gpioOut i))
  else .input (gpioPullOf (s.param (P.gpioPull i)))

/-- LN_TX and LN_TXB (R351): driven in antiphase while a burst or the pilot is sent, in RUN; else high-impedance. -/
def State.padLineTx (s : State) : PadState :=
  if s.plinthOn && s.plinth.mode == .run && !s.inReset && (s.pilotOn || s.line.txMs != 0) then .data else .hiZ

/-- LN_REF at 5.0 V in DOZE and RUN, off otherwise (R351). -/
def State.padLineRef (s : State) : PadState :=
  if s.plinthOn && !s.inReset && (s.plinth.mode == .doze || s.plinth.mode == .run) then .bias 5000 else .off

/-- LN_RX: receiving while LN_REF is biased. -/
def State.padLineRx (s : State) : PadState := if s.padLineRef = .off then .off else .sensing

/-- TAB_P and TAB_N: the link in RUN with TAB_EN at 1; the receiver alone in DOZE and with TAB_EN at 0 (R390). -/
def State.padLink (s : State) : PadState :=
  if !s.plinthOn || s.inReset then .off
  else if s.plinth.mode = .run then (if s.isOn P.tabEn then .active else .sensing)
  else if s.plinth.mode = .doze then .sensing
  else .off

/-- TSYNC: driven at TB8 by the device that sends lead frames, else an input with its 100 kΩ pull-down (R394, R395). -/
def State.padTsync (s : State) : PadState :=
  if !s.plinthOn then .off
  else if s.inReset then .input (.down 100)
  else if s.plinth.mode = .run then
    (if s.isOn P.tabEn && s.tab.drive then .square 8000 else .input (.down 100))
  else if s.plinth.mode = .doze then .input (.down 100)
  else .off

/-- DBG: locked unless DEBUG_UNLOCK has opened it, in RUN. -/
def State.padDebug (s : State) (pull : PadPull) : PadState :=
  if !s.plinthOn then .hiZ
  else if s.inReset then .locked pull
  else match s.plinth.mode with
    | .shelf => .hiZ
    | .plinth => .hiZ
    | .run => if s.camyx.debugMin = 0 then .locked pull else .debug
    | _ => .locked pull

/-- The state that a pad shows (R27, Table 1.5). -/
def State.pad (s : State) : Pad → PadState
  | .out ch => s.padOut ch
  | .vbus _ => .volts s.power.vbusMv
  | .pgnd _ => .supply true
  | .gnd => .supply true
  | .vdrv => .volts (s.arm.vdrvDv * 100)
  | .gh ph => s.padGate ph false
  | .gl ph => s.padGate ph true
  | .sw _ => s.padSense .passive
  | .bst _ => s.padSense .passive
  | .csp _ => s.padSense .hiZ
  | .csn _ => s.padSense .hiZ
  | .vos _ => s.padSense .hiZ
  | .fb _ => s.padSense .hiZ
  | .trk => s.padSense .hiZ
  | .sync => s.padSync
  | .sto => s.padSto
  | .stoMid => s.padSto
  | .bak => .volts s.power.bakMv
  | .vhost => .volts (if s.power.vhostOn then s.power.vhostMv else 0)
  | .vpln => .supply s.plinthOn
  | .vcore => .supply (s.plinthOn && (s.plinth.mode != .plinth && s.plinth.mode != .shelf))
  | .vreg10 => .volts s.vreg10Mv
  | .xin32 => if s.plinth.xo then .oscillating else .off
  | .xout32 => if s.plinth.xo then .oscillating else .off
  | .nfcLa => .active
  | .nfcLb => .active
  | .lnTx => s.padLineTx
  | .lnTxb => s.padLineTx
  | .lnRef => s.padLineRef
  | .lnRx => s.padLineRx
  | .tabP => s.padLink
  | .tabN => s.padLink
  | .tsync => s.padTsync
  | .gpio i => s.padGpio i
  | .sprig => s.padGrant s.ledger.sprig
  | .bunch => s.padGrant s.ledger.bunch
  | .hold => s.padHold
  | .evt p => if s.evtPin p then .asserted else .released
  | .rstN => if s.plinthOn then .input (.up 50) else .off
  | .test => if s.plinthOn then .input (.down 50) else .off
  | .sck => s.padHostIn (.down 100)
  | .sdi => s.padHostIn (.down 100)
  | .csN => s.padHostIn (.up 100)
  | .u0Rx => s.padHostIn (.up 100)
  | .sdo => s.padSdo
  | .u0Tx => s.padUart false
  | .u0De => s.padUart true
  | .scl => s.padI2c
  | .sda => s.padI2c
  | .dbgClk => s.padDebug (.down 50)
  | .dbgIo => s.padDebug (.up 50)
  | .dnc => .internal
  | _ => s.padHarvest

end Sys2Proof.Machine
end

