-- ==== Sys2Proof/Safety.lean ====
section
/-! DEFINITION. What a safe run of the block is, and the terms in which statements about it are made: counts and logs stay
within what their registers and buffers can hold; what a command leaves alone; a request that its transport has accepted,
and the reply to it. -/

namespace Sys2Proof.Machine

/-- The event FIFO and the Patina stay within the sizes of Table 15.1. -/
def State.logsBounded (s : State) : Prop :=
  s.events.fifo.length ≤ 256 ∧ s.patina.ram.length ≤ 64 ∧ s.patina.tokens ≤ 64

/-- SYS_UPTIME_MS and SYS_TIME are 32-bit counts, and the RTC sub-second stays below one second (R134, R135). -/
def State.clockBounded (s : State) : Prop :=
  s.plinth.upMs < 2 ^ 32 ∧ s.plinth.rtcSec < 2 ^ 32 ∧ s.plinth.rtcSub < 32768

/-- The bounds that hold at reset and that every step keeps. -/
def State.bounded (s : State) : Prop := s.clockBounded ∧ s.logsBounded

/-- A state with the logs of another: the events, the Patina captures and the trace are all that a raise or a clear
changes. -/
def State.withLogs (s t : State) : State := { s with events := t.events, patina := t.patina, trace := t.trace }

/-- A name holds as a condition (kind C of R446). -/
def State.holdsC (s : State) (src : Src) : Bool := s.events.held.any fun h => h.src == src && !h.pulse

/-- A request of an opcode that its transport has accepted, whose turn it is (R184, R204) and that no condition of R221, R425
or R441 refuses. -/
def State.Ready (s : State) (opc : Nat) (rq : Request) (w : Waiting) : Prop :=
  (s.port rq.via).waiting.find? (fun v => v.opc == opc && v.rq == rq) = some w ∧
    s.turn w = true ∧ s.gate opc rq.via w.body = none

/-- The state with a request taken out of its transport's queue. -/
def State.taken (s : State) (w : Waiting) : State :=
  s.onPort w.rq.via fun p => { p with waiting := p.waiting.erase w }

/-- The state as the task that served a request leaves it: its level has completed a task (R151). -/
def State.done (s : State) (w : Waiting) : State := s.taskEnd (if immediate w.opc w.body then 4 else 5)

/-- A node may send a burst at once (R363): it has lock, its transmitter is free, it is in RUN, not on the backup cell, and needs
no LINE_TX_DARK (Table 4.5). -/
abbrev State.mayBurst (s : State) : Prop :=
  s.line.lock = true ∧ s.txFree = true ∧ s.plinth.mode = .run ∧ s.power.path ≠ .onBak ∧ s.txDark = false

/-- What a sequencer reset of cause `k` leaves (R152, R153, R208): a warm restart or a cold boot begins, staged changes and ports are
empty, the ledger firmware stands still; everything of Table 5.11 is as before. -/
abbrev AfterSeqReset (s t : State) (k : Nat) : Prop :=
  t.plinth.cause = k ∧ t.plinth.prevUp = s.plinth.upMs ∧
    (t.plinth.seq = .warmRestart ∨ (t.plinth.seq = .coldBoot ∧ t.life.st = .boot)) ∧
    t.config = { s.config with staged := [], maqGen := 1 } ∧ t.camyx.ports = Vector.replicate 7 Port.empty ∧
    t.ledger = { s.ledger with fwStop := true, waiting := [], fresh := [] } ∧
    t.line = { s.line with tx := none, rx := none } ∧ t.tab = { s.tab with bulkIn := [], bulkOut := [] } ∧ t.sw = s.sw ∧
    t.arm = s.arm ∧ t.power = s.power ∧ t.harvest = s.harvest ∧ t.ctr = s.ctr ∧ t.nvm = s.nvm ∧ t.ident = s.ident

/-- The last thing done on the way to `t` is the answer to `w`, with a status and reply fields. -/
def Answers (t : State) (w : Waiting) (st : Status) (data : List Byte) : Prop :=
  ∃ u : State, t = (u.respond w st data).done w

end Sys2Proof.Machine
end

