-- ==== Sys2Proof/Certificates/Slice0/Obligations.lean ====
section
/-! DEFINITION. The statements for the provers: what the commands of each family do, what the clocks, the queue and the
reset leave, and what every step keeps. Each says that `exec` answers a next state and what that state holds; `withLogs`
stands where only events, Patina captures and the trace may differ beside what is named. -/

open Sys2Proof Sys2Proof.Machine

/-- R44, R45, R59, R69, R335: the thresholds of VBUS with the Plinth supplied. BUS_UV_FALL disqualifies BUS and starts
the bus-loss count; BUS_QUALIFY qualifies it. -/
def Obligations.BusThresholdsAct : Prop :=
  ∀ (s : State) (v : Int), s.plinthOn = true →
    (s.power.busUv = false → s.power.busQ = true →
      ∃ t, exec (.busUvFall v) s = .next t ∧ t.power.vbusMv = v ∧ t.power.busUv = true ∧ t.power.busQ = false ∧
        t.power.lossCount = true ∧ (s.power.path = .onBus → t.power.path = .handover) ∧
        t = { s.withLogs t with plinth := t.plinth, power := t.power, arm := t.arm }) ∧
    (s.power.busRev = false → s.power.gndOpen = false → s.power.busQ = false →
      ∃ t, exec (.busQualify v) s = .next t ∧ t.power.vbusMv = v ∧ t.power.busUv = false ∧ t.power.busQ = true ∧
        t.power.lossCount = false) ∧
    (∀ rise, ∃ t, exec (.busFullCrossing rise v) s = .next t ∧ t.power.vbusMv = v ∧ t.power.busFull = rise ∧
      t.power.path = s.power.path ∧ (rise = false → t.holds Ev.busLowperf = true ∧ t.sw = s.sw)) ∧
    (∀ rise, ∃ t, exec (.busHighCrossing rise v) s = .next t ∧
      t = { s.withLogs t with power := { s.power with vbusMv := v, busHigh := rise } }) ∧
    (∃ t, exec (.busOv v) s = .next t ∧ t.power = { s.power with vbusMv := v, busOv := true } ∧ t.sw = s.sw) ∧
    (∃ t, exec (.busOvFall v) s = .next t ∧
      t.power = { s.power with vbusMv := v, busOv := false, busDump := false } ∧
      t = { s.withLogs t with power := t.power, arm := t.arm, ctr := t.ctr, sw := t.sw }) ∧
    (∃ t, exec (.busDump v) s = .next t ∧
      t.power = { s.power with vbusMv := v, busDump := true, lastDump := some s.plinth.upMs } ∧
      t.ctr.dumpCount = wrapAdd 32 s.ctr.dumpCount 1 ∧ t = { s.withLogs t with power := t.power, ctr := t.ctr })

/-- R45, R59, R70, R71, R299, R300, R302: the bus is lost, reversed, or its ground opens, and each recovers. -/
def Obligations.BusFaultsDisqualify : Prop :=
  ∀ (s : State) (v : Int), s.plinthOn = true →
    (s.power.busQ = false → s.power.lossCount = true → s.mayShut = true →
      ∃ t, exec .busLost s = .next t ∧ t.life.st = .shut1 ∧ t.life.step = 0 ∧ t.power.lossCount = false) ∧
    (∃ t, exec (.busReverse v) s = .next t ∧ t.power.busRev = true ∧ t.power.vbusMv = v ∧ t.power.busQ = false ∧
      t.pad .vreg10 = .volts 0 ∧
      (s.power.path = .onBus → t.power.path = .handover) ∧
      t = { s.withLogs t with plinth := t.plinth, power := t.power, arm := t.arm }) ∧
    (∃ t, exec .gndOpen s = .next t ∧ t.power.gndOpen = true ∧ t.power.busQ = false ∧
      (s.power.path = .onBus → t.power.path = .handover) ∧
      t = { s.withLogs t with plinth := t.plinth, power := t.power, arm := t.arm }) ∧
    (∃ t, exec .gndOpenClear s = .next t ∧ t.power = { s.power with gndOpen := false } ∧ t.sw.defWrites = [] ∧
      t = { s.withLogs t with power := t.power, sw := t.sw }) ∧
    (v < 64000 → ∃ t, exec (.busDumpFall v) s = .next t ∧ t.power = { s.power with vbusMv := v, busDump := false } ∧
      t = { s.withLogs t with power := t.power, sw := t.sw }) ∧
    (-60000 ≤ v → v ≤ -6000 → ∃ t, exec (.reverseHoldOn v) s = .next t ∧
      t.power = { s.power with vbusMv := v } ∧ t = { s with power := t.power, sw := t.sw }) ∧
    (-1000 < v → ∃ t, exec (.busReverseRelease v) s = .next t ∧
      t.power = { s.power with vbusMv := v, busRev := false } ∧
      t = { s.withLogs t with power := t.power, sw := t.sw })

/-- R59, R61, R62, R63, R65: sources qualify and are disqualified, and VSEL is handed over. -/
def Obligations.SourcesHandOver : Prop :=
  ∀ (s : State), s.plinthOn = true →
    (∀ x, s.life.st ≠ .plinthStart → s.power.path = .handover → s.power.target = some x → s.qualified x = true →
      ∃ t, exec .handoverMake s = .next t ∧ t.power.path = pathOf x ∧ t.power.target = none ∧ t.power.dwell = true ∧
        t.ctr.hoCount = wrapAdd 32 s.ctr.hoCount 1) ∧
    (s.power.path = .onSto → s.power.busQ = true → s.power.dwellMs = 0 →
      exec .dwellExpiry s = .next
        { s with power := { s.power with dwell := false, path := .handover, target := some .bus } }) ∧
    (s.power.path = .onSto → s.power.busQ = false → s.power.fieldQ = true →
      exec .vselCollapseAfterMake s = .next
        { s with power := { s.power with stoQ := false, path := .handover, target := some .field } }) ∧
    (∀ mv, s.power.path = .onBus → s.power.stoQ = false → s.power.fShort = false → s.power.fOpen = false →
      s.param P.pwrStoFloorMv + 100 ≤ mv →
      ∃ t, exec (.stoQualify mv) s = .next t ∧ t.power.stoQ = true ∧ t.power.stoMv = mv ∧ t.power.path = .onBus ∧
        t = { s.withLogs t with power := t.power, harvest := t.harvest }) ∧
    (∀ mv, s.power.floorSusp = false → mv < s.param P.pwrStoFloorMv →
      ∃ t, exec (.stoDisqualify mv) s = .next t ∧ t.power.stoQ = false ∧ t.power.stoMv = mv ∧
        (s.power.path = .onSto → t.power.path = .handover) ∧
        t = { s.withLogs t with power := t.power, harvest := t.harvest }) ∧
    (∃ t, exec .fieldQualify s = .next t ∧ t.power.fieldQ = true ∧ 2200 ≤ t.power.fieldMv) ∧
    (∃ t, exec .fieldDisqualify s = .next t ∧ t.power.fieldQ = false ∧ t.power.fieldMv ≤ 1900 ∧
      t.harvest = { s.harvest with nfc := false, nfcUw := 0 } ∧
      t = { s with power := t.power, harvest := t.harvest }) ∧
    (∀ mv, ∃ t, exec (.bakQualifyChange mv) s = .next t ∧ t.power.bakMv = mv ∧
      t.power.bakQ = (s.isOn P.pwrBakEn && decide (2200 ≤ mv)) ∧
      t = { s with power := t.power, ctr := t.ctr, free := t.free })

/-- R47, R51, R52, R53, R72: the store's faults, each under the condition that its rule gives. -/
def Obligations.StoreFaultsAct : Prop :=
  ∀ (s : State) (mv : Nat),
    (600000 ≤ s.power.shortMs → mv < 200 →
      ∃ t, exec (.stoShortDetect mv) s = .next t ∧ t.power.fShort = true ∧ t.power.stoMv = mv ∧
        t.power.stoQ = false ∧
        t = { s.withLogs t with power := t.power, harvest := t.harvest, ledger := t.ledger }) ∧
    (s.power.fShort = true → 500 < mv →
      ∃ t, exec (.stoShortRetry mv) s = .next t ∧ t.power.fShort = false ∧ t.power.stoMv = mv ∧
        t = { s.withLogs t with power := t.power, harvest := t.harvest, ledger := t.ledger }) ∧
    (∃ t, exec (.stoOpenDetect mv) s = .next t ∧ t.power.fOpen = true ∧ t.power.stoMv = mv ∧ t.power.stoQ = false ∧
      t = { s.withLogs t with power := t.power, harvest := t.harvest, ledger := t.ledger }) ∧
    (s.param P.pwrStoVmaxMv + 200 < mv →
      ∃ t, exec (.stoOvervoltage mv) s = .next t ∧ t.power.fOv = true ∧ t.power.stoMv = mv ∧
        t = { s.withLogs t with power := t.power, harvest := t.harvest }) ∧
    (mv < prechargeMv s.ident.sto →
      ∃ t, exec (.prechargeTimeout mv) s = .next t ∧ t.power.fPre = true ∧ t.power.stoMv = mv ∧
        t = { s.withLogs t with power := t.power, harvest := t.harvest }) ∧
    (s.ident.sto = .sc2 → 1000 < s.power.stoMv → (4 * mv < s.power.stoMv ∨ 3 * s.power.stoMv < 4 * mv) →
      ∃ t, exec (.midOpen mv) s = .next t ∧
        t.power = { s.power with midMv := mv, fMid := true, balancer := false } ∧
        t = { s.withLogs t with power := t.power, ledger := t.ledger }) ∧
    (s.power.fMid = true → 4 * s.power.stoMv ≤ 10 * mv → 10 * mv ≤ 6 * s.power.stoMv →
      ∃ t, exec (.midOpenClear mv) s = .next t ∧ t.power = { s.power with midMv := mv, fMid := false } ∧
        t = { s.withLogs t with power := t.power, ledger := t.ledger }) ∧
    (s.ident.sto = .sc2 → s.power.balancer = true →
      ∃ t, exec (.stoImbalance false) s = .next t ∧ t.holds Ev.stoImbalance = true ∧ t = s.withLogs t) ∧
    (∃ t, exec (.stoImbalance true) s = .next t ∧ t.holdsC Ev.stoImbalance = false ∧ t = s.withLogs t) ∧
    (s.chargesSto = false →
      exec .balancerStop s = .next { s with power := { s.power with balancer := false } })

/-- R49, R54, R56, R58, R60: derating, the backup cell, VHOST, and the loss of the Plinth's supply. -/
def Obligations.BackupAndHostSupplyAct : Prop :=
  ∀ (s : State),
    (∀ c, ∃ t, exec (.scDerateChange c) s = .next t ∧
      t.power = { s.power with
        tempC := c,
        derated := s.isOn P.pwrScDerateEn && s.isCap && (decide (65 < c) || (s.power.derated && decide (60 ≤ c))) } ∧
      t = { s.withLogs t with power := t.power, ledger := t.ledger }) ∧
    (∀ mv ld, s.plinthOn = true → (ld = false ∨ s.power.path ≠ .onBak) →
      ∃ t, exec (.bakMeasure mv ld) s = .next t ∧ t = { s.withLogs t with power := { s.power with bakMv := mv } } ∧
        (mv < -300 → t.holds Ev.bakAbsent = true)) ∧
    (∀ ma, s.power.vhostOn = true → s.vhostLimitMa ≤ ma →
      exec (.vhostCurrentLimit ma) s =
        .next { s with power := { s.power with vhostOn := false, vhostMv := 0, vhostWait := true } }) ∧
    (s.power.vhostWait = true → s.power.vhostFails = 4 →
      ∃ t, exec (.vhostRetry true) s = .next t ∧ t = { s.withLogs t with
        power := { s.power with vhostWait := false, vhostFails := 5, vhostFault := true } } ∧
        t.holds Ev.vhostFault = true) ∧
    (s.power.vhostWait = true → s.power.vhostFails < 4 →
      exec (.vhostRetry true) s =
        .next { s with power := { s.power with vhostFails := s.power.vhostFails + 1 } }) ∧
    (s.power.vhostWait = true →
      ∃ t, exec (.vhostRetry false) s = .next t ∧ t.power.vhostWait = false ∧ t.power.vhostFails = 0 ∧
        t = { s with power := t.power }) ∧
    (s.power.path = .handover → s.power.target = none →
      ∃ t, exec .plinthSupplyFail s = .next t ∧ t.power.path = .none ∧ t.plinth.mode = .plinth ∧
        t.power.vhostOn = false)

/-- R79, R80, R82, R85, R86, R469, Table 16.2: the cold-start circuit runs once a passive path starts, STO starts the
Plinth, and the cold boot begins at PWR_STO_FLOOR_MV + 100 mV. -/
def Obligations.ColdStartActs : Prop :=
  ∀ (s : State),
    (∀ p : PassiveIn, s.power.path = .none → (tegStarts p = true ∨ vibStarts p = true ∨ pvStarts p = true) →
      ∃ t, exec (.cscStart p) s = .next t ∧ t.harvest.csc = true ∧ t.harvest.cscTegUv = p.tegVocUv ∧
        t.harvest.cscPvMv = p.pvVocMv ∧ (s.harvest.vhbMv ≤ 26000 → s.harvest.vhbMv ≤ t.harvest.vhbMv) ∧
        2000 ≤ t.harvest.vhbMv ∧ t = { s with harvest := t.harvest }) ∧
    (∀ p : PassiveIn, tegStarts p = false → vibStarts p = false → pvStarts p = false →
      exec (.cscStart p) s = .next s) ∧
    (s.harvest.csc = true → ∃ t, exec .cscStop s = .next t ∧
      t = { s with harvest := { s.harvest with csc := false, vhbMv := min s.harvest.vhbMv 1700 } }) ∧
    (∀ p : PassiveIn, s.harvest.csc = true → ∃ t, exec (.cscVocSample p) s = .next t ∧
      t = { s with harvest := { s.harvest with
        cscTegUv := p.tegVocUv, cscPvMv := p.pvVocMv, cscVibMv := t.harvest.cscVibMv } }) ∧
    (∀ mv (d : BitVec 4) (p : Straps), s.power.path = .none → 1000 ≤ mv → p.test = false → s.plinth.rstLow = false →
      ∃ t, exec (.plinthStartFromSto mv d p) s = .next t ∧ t.power.path = .onSto ∧ t.power.stoMv = mv ∧
        t.plinth.mode = .plinth ∧ t.life.st = .plinthStart ∧ t.ctr.coldSrc = d.toNat ∧ t.holds Ev.coldStart = true) ∧
    (∀ mv, s.life.st = .plinthStart → s.power.path = .onSto → s.param P.pwrStoFloorMv + 100 ≤ mv →
      s.plinth.testHeld = false → s.plinth.rstLow = false → s.plinth.mode ≠ .field →
      ∃ t, exec (.coldBootTrigger mv) s = .next t ∧ t.power.floorSusp = false ∧ t.power.stoQ = true ∧
        t.power.stoMv = mv ∧ t.plinth.mode = .run ∧ t.plinth.seq = .coldBoot ∧ t.life.st = .boot)

/-- R83, R84, R86, R87, R92, R99 and Procedure 3.1: each harvest channel starts at its own condition, at its start
fraction of the open-circuit value, and stops at its loss; a limit holds and releases its tracker. -/
def Obligations.HarvestChannelsStartAndStop : Prop :=
  ∀ (s : State) (v : Nat),
    (s.hrvMayStart .teg = true → 12000 ≤ v → v ≤ 2500000 →
      ∃ t, exec (.tegUp v) s = .next t ∧ t.harvest.teg.running = true ∧
        t.harvest.teg.voc = v ∧ t.harvest.teg.vop = s.startVop .teg v ∧ t.holds Ev.tegUp = true ∧
        t = { s.withLogs t with harvest := { s.harvest with teg := t.harvest.teg, vhbMv := t.harvest.vhbMv } }) ∧
    (s.harvest.teg.running = true → ∃ t, exec .tegLost s = .next t ∧ t.holds Ev.tegLost = true ∧
      t = { s.withLogs t with harvest := { s.harvest with teg := s.harvest.teg.stop } }) ∧
    (∀ hz, s.hrvMayStart .vib = true → (if s.piezo then (s.vhbTarget + 200) * 1000 else 600000) ≤ v → v ≤ 24000000 →
      5 ≤ hz → hz ≤ 2000 →
      ∃ t, exec (.vibUp v hz) s = .next t ∧ t.harvest.vib.running = true ∧ t.harvest.vib.voc = v ∧
        t.harvest.vib.vop = s.startVop .vib v ∧ t.holds Ev.vibUp = true ∧
        t = { s.withLogs t with harvest := { s.harvest with vib := t.harvest.vib, vhbMv := t.harvest.vhbMv } }) ∧
    (s.harvest.vib.running = true → ∃ t, exec .vibLost s = .next t ∧ t.holds Ev.vibLost = true ∧
      t = { s.withLogs t with harvest := { s.harvest with vib := s.harvest.vib.stop } }) ∧
    (s.hrvMayStart .pv = true → 500000 ≤ v → v ≤ 6000000 →
      ∃ t, exec (.pvUp v) s = .next t ∧ t.harvest.pv.running = true ∧
        t.harvest.pv.voc = v ∧ t.harvest.pv.vop = s.startVop .pv v ∧ t.holds Ev.pvUp = true ∧
        t = { s.withLogs t with harvest := { s.harvest with pv := t.harvest.pv, vhbMv := t.harvest.vhbMv } }) ∧
    (s.harvest.pv.running = true → ∃ t, exec .pvLost s = .next t ∧ t.holds Ev.pvLost = true ∧
      t = { s.withLogs t with harvest := { s.harvest with pv := s.harvest.pv.stop } }) ∧
    (∀ mv uw, s.hrvMode = true → s.isOn P.hrvNfcEn = true → s.harvest.lstoOpen = false → s.nfc.txMs = 0 →
      s.harvest.nfc = false → 2500 < mv →
      ∃ t, exec (.nfcHrv mv uw) s = .next t ∧ t.harvest.nfc = true ∧ t.harvest.nfcUw = min uw 6000 ∧
        t.holds Ev.nfcHrv = true ∧
        t = { s.withLogs t with
          power := { s.power with fieldMv := mv },
          harvest := { s.harvest with nfc := true, nfcUw := min uw 6000, vhbMv := t.harvest.vhbMv } }) ∧
    (∀ mv uw, s.hrvMode = true → s.isOn P.hrvNfcEn = true → s.harvest.lstoOpen = false → s.nfc.txMs = 0 → mv ≤ 2500 →
      exec (.nfcHrv mv uw) s = .next
        { s with power := { s.power with fieldMv := mv }, harvest := { s.harvest with nfc := false, nfcUw := 0 } }) ∧
    (∀ c uw ma, (s.tracker c).running = true → s.atLimit c uw ma = true → (s.tracker c).limited = false →
      ∃ t, exec (.mpptLimit c uw ma) s = .next t ∧ t.tracker c = { s.tracker c with
          limited := true,
          vop := if (s.tracker c).up = true then (s.tracker c).vop
            else s.clampVop c ((s.tracker c).vop + s.hrvStepUv c (s.tracker c).vop) } ∧
        (∀ d, d ≠ c → t.tracker d = s.tracker d) ∧ t.holds Ev.mpptLimit = true ∧
        t = { s.withLogs t with harvest := t.harvest }) ∧
    (∀ c uw ma, s.atLimit c uw ma = false → exec (.mpptLimit c uw ma) s = .next s) ∧
    (∀ c, ∃ t, exec (.mpptLimitClear c) s = .next t ∧ t.tracker c = { s.tracker c with limited := false } ∧
      (∀ d, d ≠ c → t.tracker d = s.tracker d) ∧ t = { s.withLogs t with harvest := t.harvest })

/-- R88 to R92 and Procedure 3.1: one period of a tracker, a period skipped, and an open-circuit sample. -/
def Obligations.TrackersFollowTheProcedure : Prop :=
  ∀ (s : State) (c : HarvestCh),
    (∀ uw, (s.tracker c).running = true → s.hrvHolds c = false → s.rxBusy = false → (s.tracker c).limited = false →
      s.hrvConducts c = true → uw < maxPinUw c → (c = .teg → 0 < s.param P.hrvTegIpk) →
      (c = .pv → 1000 * uw < s.param P.hrvPvImaxMa * 400000) →
      ∃ t, exec (.trackerPeriod c uw) s = .next t ∧
        (t.tracker c).vop = s.clampVop c (if (s.tracker c).up then
            (s.tracker c).vop + s.hrvStepUv c (s.tracker c).vop
          else (s.tracker c).vop - s.hrvStepUv c (s.tracker c).vop) ∧
        ((t.tracker c).up ≠ (s.tracker c).up ↔ 1000 * uw < (s.tracker c).pLast * (1000 - s.param P.hrvPoDeadband)) ∧
        (t.tracker c).pLast = uw ∧ (t.tracker c).pin = uw ∧ (t.tracker c).skips = 0 ∧
        (∀ d, d ≠ c → t.tracker d = s.tracker d) ∧ t = { s.withLogs t with harvest := t.harvest }) ∧
    (∀ uw, (s.tracker c).running = true → s.hrvHolds c = false → s.rxBusy = false →
      ∃ t, exec (.trackerPeriod c uw) s = .next t ∧ (t.tracker c).skips = 0 ∧
        (t.tracker c).pin = (if s.hrvConducts c then min uw (maxPinUw c) else 0) ∧
        ((s.tracker c).limited = true → (t.tracker c).vop = (s.tracker c).vop) ∧
        (∀ d, d ≠ c → t.tracker d = s.tracker d) ∧ t = { s.withLogs t with harvest := t.harvest }) ∧
    (∀ uw, s.rxBusy = true → exec (.trackerPeriod c uw) s = .next s) ∧
    ((s.tracker c).running = true → ∃ t, exec (.trackerSkip c) s = .next t ∧
      t.tracker c = { s.tracker c with skips := (s.tracker c).skips + 1 } ∧
      t.ctr = { s.ctr with poSkips := wrapAdd 32 s.ctr.poSkips 1 } ∧
      (16 ≤ (s.tracker c).skips + 1 → t.holds Ev.mpptStarved = true) ∧
      t = { s.withLogs t with harvest := t.harvest, ctr := t.ctr }) ∧
    (∀ v k, s.hrvMode = true → s.isOn (hrvEn c) = true → s.rxBusy = false → (s.tracker c).running = true →
      s.isOn (hrvVocS c) = true → s.hrvHolds c = false → (s.tracker c).limited = false →
      ∃ t, exec (.vocSample c v k) s = .next t ∧ (t.tracker c).voc = v ∧ (t.tracker c).held = k ∧
        (30 * v ≤ 100 * (s.tracker c).vop → 100 * (s.tracker c).vop ≤ 95 * v →
          (t.tracker c).vop = (s.tracker c).vop) ∧
        (100 * (s.tracker c).vop < 30 * v ∨ 95 * v < 100 * (s.tracker c).vop →
          (t.tracker c).vop = s.startVop c v) ∧
        t = { s with harvest := t.harvest, line := t.line }) ∧
    (s.rxBusy = false → ∃ t, exec (.vocSampleRestart c) s = .next t ∧
      t.tracker c = { s.tracker c with held := false } ∧ t = { s with harvest := t.harvest })

/-- R77, R93, R95, R100, R101: what happens on VHB, and the faults of Table 3.10 with their retries. -/
def Obligations.HarvestBusAndFaultsAct : Prop :=
  ∀ (s : State),
    (∀ v, s.harvesting = true → s.vhbTarget + 500 ≤ v → (s.stoLimited = true ∨ s.harvest.storeOc = true) →
      ∃ t, exec (.storeFullStop v) s = .next t ∧ t.harvest.full = true ∧ t.harvest.vhbMv = v ∧ t.harvest.teg.pin = 0 ∧
        t.harvest.pv.pin = 0 ∧ (∀ c, (t.tracker c).vop = (s.tracker c).vop) ∧ t = { s with harvest := t.harvest }) ∧
    (∀ v, v ≤ s.vhbTarget → exec (.storeResume v) s = .next
      { s with harvest := { s.harvest with vhbMv := v, full := false } }) ∧
    (14000 < s.vhbTarget → ∃ t, exec (.boostCeiling true) s = .next t ∧ t.harvest.ceiling = true ∧
      t.harvest.teg.pin = 0 ∧ t.harvest.pv.pin = 0 ∧ (∀ c, (t.tracker c).vop = (s.tracker c).vop) ∧
      t = { s with harvest := t.harvest }) ∧
    (s.vhbTarget < 13500 →
      exec (.boostCeiling false) s = .next { s with harvest := { s.harvest with ceiling := false } }) ∧
    (s.plinthOn = true → exec .referenceRefresh s = .next
      { s with harvest := { s.harvest with refreshAt := s.plinth.upMs } }) ∧
    (∀ k, s.plinthOn = true → ∃ t, exec (.hbClamp k) s = .next t ∧ t.harvest.clamp = k ∧
      (k = true → t.harvest.vhbMv = 26000 ∧ t.holds Ev.hbClamp = true) ∧
      t = { s.withLogs t with harvest := { s.harvest with clamp := k, vhbMv := t.harvest.vhbMv } }) ∧
    (∀ g, s.hrvMode = true → s.isOn P.hrvTegOscchkEn = true → s.harvest.teg.running = false →
      30000 ≤ s.harvest.teg.voc → s.harvest.tegOsc = false →
      ∃ t, exec (.tegOscCheck g) s = .next t ∧ (g = false → t.holds Ev.hrvFault = true) ∧
        t = { s.withLogs t with harvest := { s.harvest with tegOsc := !g } }) ∧
    (s.harvesting = true → ∃ t, exec .lstoOpen s = .next t ∧ t.harvest.lstoOpen = true ∧ t.harvesting = false ∧
      t.holds Ev.hrvFault = true ∧ t = { s.withLogs t with harvest := t.harvest }) ∧
    (s.harvest.lstoOpen = true → ∃ t, exec (.lstoRetry true) s = .next t ∧
      t = { s.withLogs t with harvest := { s.harvest with lstoOpen := false } }) ∧
    (∀ st c, stageCh st = some c → (s.tracker c).running = true → ∃ t, exec (.stageOc st) s = .next t ∧
      t.tracker c = { (s.tracker c).stop with oc := true, ocFails := 0 } ∧ t.holds Ev.hrvFault = true ∧
      t = { s.withLogs t with harvest := t.harvest }) ∧
    (s.harvesting = true → s.harvest.storeOc = false → ∃ t, exec (.stageOc .store) s = .next t ∧
      t.holds Ev.hrvFault = true ∧
      t = { s.withLogs t with harvest := { s.harvest with storeOc := true, storeFails := 0 } }) ∧
    (∀ st c, stageCh st = some c → (s.tracker c).oc = true → (s.tracker c).dead = false →
      (∃ t, exec (.stageOcRetry st true) s = .next t ∧ (t.tracker c).oc = false ∧
        (t.tracker c).running = (s.hrvMode && s.isOn (hrvEn c) && !s.harvest.lstoOpen &&
          !(c == .vib && s.harvest.vibOv)) ∧ t = { s with harvest := t.harvest }) ∧
      (∃ t, exec (.stageOcRetry st false) s = .next t ∧ (t.tracker c).oc = true ∧
        ((t.tracker c).dead = true ↔ 5 ≤ (s.tracker c).ocFails + 1) ∧ t = { s with harvest := t.harvest })) ∧
    (s.harvest.storeOc = true → s.harvest.storeDead = false → exec (.stageOcRetry .store true) s = .next
      { s with harvest := { s.harvest with storeOc := false, storeFails := 0 } }) ∧
    (∀ k, (k = true ∨ s.harvesting = true) → ∃ t, exec (.vhbLow k) s = .next t ∧ t.harvest.vhbLow = !k ∧
      (k = false → t.holds Ev.hrvFault = true) ∧ t = { s.withLogs t with harvest := t.harvest }) ∧
    (∀ k, (k = true ∨ s.harvest.clamp = true) → ∃ t, exec (.vibDcOv k) s = .next t ∧ t.harvest.vibOv = !k ∧
      (k = false → t.harvest.vib.running = false ∧ t.holds Ev.hrvFault = true) ∧
      t = { s.withLogs t with harvest := t.harvest })

/-- R103, R104, R116, R122, R123, R129: one instant of the ledger's grid counts charge, harvest and throughput and takes
the STO reading; the end of a cell's charge sets the count to 100 %; the hour updates its bin of the calendar, and the
daily save writes it under CALENDAR_SAVE. -/
def Obligations.LedgerCountsAndKeepsTheCalendar : Prop :=
  ∀ (s : State),
    (∀ g, s.plinthOn = true → s.plinth.mode ≠ .field → (s.ledger.fwStop = true ∨ s.camyx.ops = []) →
      ∃ t, exec (.ledgerUpdate g) s = .next t ∧ t.power.stoMv = g.stoMv ∧
        t.power.midMv = g.midMv ∧
        t.ctr.thruJ = wrapAdd 32 s.ctr.thruJ ((s.ledger.thruUj + g.hostUj + g.outUj) / 1000000) ∧
        t.ctr.eInJ = wrapAdd 32 s.ctr.eInJ ((s.harvest.inUj + g.harvUj) / 1000000) ∧
        t.ledger.thruUj = (s.ledger.thruUj + g.hostUj + g.outUj) % 1000000 ∧
        t.harvest = { s.harvest with
          inUj := (s.harvest.inUj + g.harvUj) % 1000000, outUa := g.harvUa, vhbMv := t.harvest.vhbMv } ∧
        t.ledger.hourUj = s.ledger.hourUj + g.harvUj ∧ t.ledger.outUj = s.ledger.outUj + g.outUj ∧
        t.plinth.quietMiss = (if s.gaugeNoisy g then satAdd 32 s.plinth.quietMiss 1 else s.plinth.quietMiss) ∧
        (s.ledger.fwStop = true → t.ledger.qUc = s.ledger.qUc - g.dqUc) ∧
        t.config = { s.config with wdtLoadMs := t.config.wdtLoadMs } ∧ t.sec = s.sec ∧ t.sw = s.sw ∧ t.arm = s.arm ∧
          t.line = s.line ∧ t.life = s.life) ∧
    (s.isCap = false → s.plinthOn = true → s.power.ended = false → (s.busCarries = true ∨ s.harvesting = true) →
      ∃ t, exec .chargeTermination s = .next t ∧ t.power = { s.power with ended := true } ∧
        t.ledger.qUc = 10 * s.cellSeg ∧ t.ledger.disagree = false ∧ t.ctr.rebases = satAdd 16 s.ctr.rebases 1 ∧
        t.holds Ev.rebase = true ∧
        t = { s.withLogs t with power := t.power, ledger := t.ledger, ctr := t.ctr }) ∧
    (s.plinthOn = true → s.isOn P.nrgFcEn = true → s.plinth.timeValid = true → s.ledger.hourBad = false →
      ∃ t, exec .calendarHourEnd s = .next t ∧ t = { s with ledger := { s.ledger with
        outUj := 0,
        outHours := (s.ledger.outUj :: s.ledger.outHours).take 24,
        hourBad := false,
        cal := { bins := upd s.ledger.cal.bins (s.binOf ((s.plinth.rtcSec : Int) - 1)) fun v =>
                   binAfter v (min s.ledger.hourUj 655350000) (s.param P.nrgFcWeight),
                 count := upd s.ledger.cal.count (s.binOf ((s.plinth.rtcSec : Int) - 1)) fun n => min 255 (n + 1) },
        hourUj := 0 } }) ∧
    (s.plinthOn = true → (s.plinth.timeValid = false ∨ s.ledger.hourBad = true) →
      ∃ t, exec .calendarHourEnd s = .next t ∧ t.ledger.cal = s.ledger.cal ∧ t.ledger.hourUj = 0 ∧
        t = { s with ledger := t.ledger }) ∧
    (s.seqRuns = true → s.plinth.mode ≠ .field → (s.ctr.wearNvm.step = 0 ∨ 6 ≤ s.ledger.calSkip) →
      s.canReserve .calendarSave (3 * mj) = true → ∃ t, exec (.calendarSave true) s = .next t ∧
        t = { s.withLogs t with ledger := { s.ledger with nvmCal := s.ledger.cal, calSkip := 0 } }) ∧
    (s.seqRuns = true → s.plinth.mode ≠ .field → s.ctr.wearNvm.step ≠ 0 → s.ledger.calSkip < 6 →
      ∃ t, exec (.calendarSave true) s = .next t ∧
        t = { s with ledger := { s.ledger with calSkip := s.ledger.calSkip + 1 } }) ∧
    (s.seqRuns = true → s.plinth.mode ≠ .field → (s.ctr.wearNvm.step = 0 ∨ 6 ≤ s.ledger.calSkip) →
      s.canReserve .calendarSave (3 * mj) = false → ∃ t, exec (.calendarSave true) s = .next t ∧
        t.ctr.resRefused = satAdd 16 s.ctr.resRefused 1 ∧
        t.holds Ev.resRefused = true ∧ t = { s.withLogs t with ctr := t.ctr })

/-- R117 to R120, R128: HOLD opens and closes the HOST reservation, both pins stay low for the rearm, an overrun and a
standing ledger firmware drive them low, and a breach turns VHOST off where NRG_BREACH_VHOST_OFF says so. -/
def Obligations.HoldRulesThePins : Prop :=
  ∀ (s : State),
    (∀ r, s.holdSensed = true → s.ledger.hold = false → s.power.vhostBreach = false → s.hostAmount = some r →
      ∃ t, exec .holdRise s = .next t ∧ t = { s with ledger := { s.ledger with
        hold := true, host := some r, above := decide (s.keepEff ≤ s.eEst) } }) ∧
    (s.holdSensed = true → s.ledger.hold = false → s.power.vhostBreach = true →
      ∃ t, exec .holdRise s = .next t ∧ t = { s with ledger := { s.ledger with
        hold := true, above := decide (s.keepEff ≤ s.eEst) } }) ∧
    (s.holdSensed = true → s.ledger.hold = false → s.power.vhostBreach = false → s.hostAmount = none →
      ∃ t, exec .holdRise s = .next t ∧ t.holds Ev.holdUngranted = true ∧
        t = { s.withLogs t with ledger := { s.ledger with hold := true, above := decide (s.keepEff ≤ s.eEst) } }) ∧
    (s.holdSensed = true → s.ledger.hold = true →
      ∃ t, exec .holdFall s = .next t ∧ t.ledger.hold = false ∧ t.ledger.host = none ∧ t.ledger.rearm = true ∧
        t.ledger.sprig = false ∧ t.ledger.bunch = false ∧ t = { s.withLogs t with ledger := t.ledger }) ∧
    (s.ledger.rearm = true → ∃ t, exec .rearmEnd s = .next t ∧ t.ledger.rearm = false ∧
      t = { s.withLogs t with ledger := t.ledger }) ∧
    (s.ledger.hold = true → s.ledger.ignored = false → s.ledger.overrun = false → s.power.vhostBreach = false →
      s.param P.nrgHoldMaxMs ≠ 0 → ∃ t, exec .holdOverrun s = .next t ∧ t.ledger.overrun = true ∧
        t.ledger.host = none ∧ t.ledger.sprig = false ∧ t.ledger.bunch = false ∧ t.holds Ev.holdOverrun = true ∧
        t = { s.withLogs t with ledger := t.ledger }) ∧
    (s.ledger.breach = true → s.ledger.hold = true → s.isOn P.nrgBreachVhostOff = true →
      ∃ t, exec .breachGraceExpiry s = .next t ∧ t.power.vhostBreach = true ∧ t.power.vhostOn = false ∧
        t = { s.withLogs t with power := t.power, ledger := t.ledger }) ∧
    (s.ledger.fwStop = true → ∃ t, exec .ledgerFirmwareTimeout s = .next t ∧ t.ledger.coreLow = true ∧
      t.ledger.sprig = false ∧ t.ledger.bunch = false ∧ t = { s.withLogs t with ledger := t.ledger })

/-- R113, R114, R125: a reservation is requested, held, refused or released, a wait expires; a forecast is checked and
its suspension ends. -/
def Obligations.ReservationsAndForecastAct : Prop :=
  ∀ (s : State),
    (∀ j n, j ≠ .shutdownCommit → (jobWaits j = false ∨ s.busCarries = true) →
      s.canReserve j (jobAmount j n) = true → exec (.reservationRequest j n) s =
        .next { s with ledger := { s.ledger with res := s.ledger.res ++ [(j, jobAmount j n)] } }) ∧
    (∀ j n, j ≠ .shutdownCommit → jobWaits j = false → s.canReserve j (jobAmount j n) = false →
      ∃ t, exec (.reservationRequest j n) s = .next t ∧ t.ctr.resRefused = satAdd 16 s.ctr.resRefused 1 ∧
        t.holds Ev.resRefused = true ∧ t = { s.withLogs t with ctr := t.ctr }) ∧
    (∀ j n, j ≠ .shutdownCommit → jobWaits j = true → s.busCarries = false →
      exec (.reservationRequest j n) s =
        .next { s with ledger := { s.ledger with fresh := s.ledger.fresh ++ [(j, jobAmount j n)] } }) ∧
    (∀ j, s.camyx.ops.find? (s.awaits j) = none → exec (.reservationWaitExpiry j) s =
      .next { s with ledger := { s.ledger with
        waiting := dropJob j s.ledger.waiting, fresh := dropJob j s.ledger.fresh } }) ∧
    (∀ j o, s.camyx.ops.find? (s.awaits j) = some o → ∃ t, exec (.reservationWaitExpiry j) s = .next t ∧
      t.camyx.ops = s.camyx.ops.erase o ∧
      t = { s.withLogs t with ledger := t.ledger, camyx := t.camyx, nfc := t.nfc, tab := t.tab }) ∧
    (∀ j, j ≠ .shutdownCommit → s.inUse j = false → exec (.reservationRelease j) s =
      .next { s with ledger := { s.ledger with res := dropJob j s.ledger.res } }) ∧
    (∀ f rest, s.ledger.checks = f :: rest → f.deficit ≤ f.harvested → exec .forecastCheck s =
      .next { s with ledger := { s.ledger with checks := rest, misses := 0 } }) ∧
    (∀ f rest, s.ledger.checks = f :: rest → f.harvested < f.deficit → s.ledger.misses < 2 → exec .forecastCheck s =
      .next { s with ledger := { s.ledger with checks := rest, misses := s.ledger.misses + 1 } }) ∧
    (∀ f rest, s.ledger.checks = f :: rest → f.harvested < f.deficit → 2 ≤ s.ledger.misses →
      ∃ t, exec .forecastCheck s = .next t ∧ t.ledger.checks = rest ∧ t.ledger.misses = 0 ∧
        t.ledger.suspended = true ∧ t.holds Ev.fcSuspend = true ∧ t = { s.withLogs t with ledger := t.ledger }) ∧
    (s.ledger.suspended = true → ∃ t, exec .fcSuspendEnd s = .next t ∧ t.holdsC Ev.fcSuspend = false ∧
      t = { s.withLogs t with ledger := { s.ledger with suspended := false } })

/-- R161, R164, R179, R181, R422 and Table 13.7: where a reply goes. None to a group or to broadcast; on the byte ports
and the line it joins the unread replies with SEQ and OPC echoed; on SPI and I²C REPLY_READY holds; over NFC it is the
response APDU; over the Miovin link it goes back to the lead. -/
def Obligations.RepliesGoToTheirTransport : Prop :=
  ∀ (s : State) (w : Waiting) (st : Status) (d : List Byte),
    (w.rq.cast = true → s.respond w st d = s) ∧
    (w.rq.cast = false → (w.rq.via = .spi ∨ w.rq.via = .i2c ∨ w.rq.via = .uart ∨ w.rq.via = .gateway ∨
      w.rq.via = .line) →
      ∃ r : Reply, ((s.respond w st d).port w.rq.via).replies = (s.port w.rq.via).replies ++ [r] ∧
        r.seq = w.rq.seq.toNat ∧ r.opc = w.opc ∧ r.status = st ∧ r.data = d ∧ r.key = w.key) ∧
    (w.rq.cast = false → (w.rq.via = .spi ∨ w.rq.via = .i2c) → (s.respond w st d).holds Ev.replyReady = true) ∧
    (w.rq.cast = false → w.rq.via = .nfc → s.nfc.st = .isoDep → s.nfc.app = .camyx →
      ∃ b, (s.respond w st d).nfc = { s.nfc with out := b ++ [0x90#8, 0x00#8] } ∧
        (s.respond w st d).camyx.apdu = false) ∧
    (w.rq.cast = false → w.rq.via = .link → (s.respond w st d).tab =
      { s.tab with bulkOut := s.tab.bulkOut ++ [(s.tab.leadIdx, toLe 1 2 ++ toLe 1 st.code ++ d)] })

/-- R210, R213 to R215, R240, R347, R434, R452, R458, R461: the requests that read are answered with OK and their
fields, and change nothing but the queues, beside what EVT_READ with MODE 0 removes. -/
def Obligations.RequestsThatReadAreAnswered : Prop :=
  ∀ (s : State) (rq : Request) (w : Waiting),
    (s.Ready 0x01 rq w → exec (.ping rq) s = .next (((s.taken w).respond w .ok []).done w)) ∧
    (s.Ready 0x06 rq w → exec (.getInfo rq) s = .next (((s.taken w).respond w .ok s.infoBytes).done w)) ∧
    (s.Ready 0x10 rq w → (∀ id ∈ readIds (w.body.drop 1), (findDesc id).isSome = true) →
      (fieldAt w.body 0 1 ≠ 2 ∨ s.activeBank.isSome = true) →
      exec (.readParam rq) s = .next
        (((s.taken w).respond w .ok (s.readBytes (fieldAt w.body 0 1) (readIds (w.body.drop 1)))).done w)) ∧
    (s.Ready 0x15 rq w → (∀ r ∈ runsOf (w.body.length / 3) w.body, r.2 = 1 → isLiveId r.1 = true) →
      exec (.readLive rq) s = .next
        (((s.taken w).respond w .ok ((s.taken w).readBytes 0 ((readIds w.body).filter isLiveId))).done w)) ∧
    (s.Ready 0x33 rq w → s.ident.role = .head → exec (.nodeList rq) s = .next
      (((s.taken w).respond w .ok (toLe 2 (s.param P.lineFeederId) ++ s.joinedBytes)).done w)) ∧
    (s.Ready 0x33 rq w → s.ident.role ≠ .head →
      exec (.nodeList rq) s = .next (((s.taken w).respond w .role []).done w)) ∧
    (∀ n b, s.Ready 0x16 rq w → fieldAt w.body 0 1 = 0 → s.activeBank = some (n, b) →
      exec (.imageExport rq) s = .next
        (((s.taken w).respond w .ok (s.image b.role b.sto b.vals (bitAt (fieldAt w.body 1 1) 0))).done w)) ∧
    (s.Ready 0x16 rq w → fieldAt w.body 0 1 ≠ 0 → exec (.imageExport rq) s = .next
      (((s.taken w).respond w .ok (s.image s.ident.role s.ident.sto s.future (bitAt (fieldAt w.body 1 1) 0))).done w)) ∧
    (∀ b, s.Ready 0x29 rq w → (s.rail (fieldAt w.body 0 1)).ring[fieldAt w.body 1 1]? = some b → recordOk b = true →
      exec (.faultRead rq) s = .next (((s.taken w).respond w .ok b).done w)) ∧
    (s.Ready 0x41 rq w → s.ctr.pseq < fieldAt w.body 0 4 →
      exec (.patinaRead rq) s = .next (((s.taken w).respond w .range []).done w)) ∧
    (∀ l, s.Ready 0x41 rq w → fieldAt w.body 0 4 ≤ s.ctr.pseq →
      l = (s.patinaHeld.filter fun r => decide (fieldAt w.body 0 4 ≤ r.pseq)).take (fieldAt w.body 4 1) →
      exec (.patinaRead rq) s = .next (((s.taken w).respond w .ok
        (toLe 4 ((l.getLast?.map fun r => r.pseq + 1).getD (fieldAt w.body 0 4)) ++ l.flatMap PatRec.bytes)).done w)) ∧
    (s.Ready 0x40 rq w → fieldAt w.body 0 1 = 1 → exec (.evtRead rq) s = .next
      (((s.taken w).respond w .ok (toLe 2 s.events.fifo.length ++
        (s.events.fifo.take (fieldAt w.body 1 1)).flatMap FifoEntry.bytes)).done w)) ∧
    (s.Ready 0x40 rq w → fieldAt w.body 0 1 = 0 → exec (.evtRead rq) s = .next (((s.taken w).respondWith w .ok
      (toLe 2 (s.events.fifo.length - (s.events.fifo.take (fieldAt w.body 1 1)).length) ++
        (s.events.fifo.take (fieldAt w.body 1 1)).flatMap FifoEntry.bytes)
      ((s.events.fifo.take (fieldAt w.body 1 1)).map fun e => e.eseq)).done w)) ∧
    (s.Ready 0x42 rq w → fieldAt w.body 0 1 = 2 → s.trace.runs = false → exec (.traceRead rq) s = .next
      (((s.taken w).draw.respond w .ok (toLe 1 s.trace.st.byte ++ toLe 2 s.trace.trigIndex ++ toLe 4 s.traceT0 ++
        toLe 2 s.trace.gaps ++ ((s.trace.buf.drop (fieldAt w.body 1 2)).take 126).flatMap Sample.bytes)).done w)) ∧
    (s.Ready 0x52 rq w → exec (.attest rq) s = .next (((s.taken w).draw.respond w .ok
      ((s.ident.uid ++ s.fw8 ++ s.cfg8 ++ toLe 4 s.stamp) ++ p256Sign s.ident.attKey
        (Sys2Proof.Config.signNonce s.free % (p256N - 1) + 1)
        (sha256 (w.body ++ (s.ident.uid ++ s.fw8 ++ s.cfg8 ++ toLe 4 s.stamp))))).done w))

/-- R188 to R191, R197, R205 to R207: sessions open, close and end; ABORT ends what has not passed its point of no
return. -/
def Obligations.SessionsAndAbortAct : Prop :=
  ∀ (s : State) (rq : Request) (w : Waiting),
    (∀ k p, s.Ready 0x02 rq w → rq.auth = false → s.sessionSource (fieldAt w.body 0 1) (fieldAt w.body 1 1) =
      some (k, p) →
      (rq.via = .gateway ∨ rq.via = .line → fieldAt w.body 0 1 ≠ 3 ∧ p ≠ .claim) →
      ∃ t, exec (.openSession rq) s = .next t ∧ t.free = s.free + 8 ∧
        (t.port rq.via).pend =
          some (s.newSession rq.via (fieldAt w.body 0 1) (fieldAt w.body 1 1) (w.body.drop 2) k p) ∧
        t.camyx.sidNext = (if s.camyx.sidNext = 65535 then 1 else s.camyx.sidNext + 1)) ∧
    (∀ x, s.Ready 0x03 rq w → w.sid = some x.sid → (s.port rq.via).est = some x →
      ∃ t, exec (.closeSession rq) s = .next t ∧ (t.port rq.via).est = none ∧ t.holds Ev.sessionEnd = true) ∧
    (∀ v, s.Ready 0x04 rq w → ((s.taken w).port rq.via).waiting.find? (fun v =>
        targets (fieldAt w.body 0 2) v.first v.rq.seq.toNat && v.sid == w.sid && !v.lineKeyed) = some v →
      immediate v.opc v.body = false → readsOnly v.opc v.body = false → exec (.abort rq) s =
        .next (((((s.taken w).onPort rq.via fun p => { p with waiting := p.waiting.erase v }).respond v
        .aborted []).respond w .aborted []).done w)) ∧
    (∀ v, s.Ready 0x04 rq w → ((s.taken w).port rq.via).waiting.find? (fun v =>
        targets (fieldAt w.body 0 2) v.first v.rq.seq.toNat && v.sid == w.sid && !v.lineKeyed) = some v →
      (immediate v.opc v.body = true ∨ readsOnly v.opc v.body = true) →
      exec (.abort rq) s = .next (((s.taken w).respond w .alreadyDone []).done w)) ∧
    (∀ o, s.Ready 0x04 rq w → ((s.taken w).port rq.via).waiting.find? (fun v =>
        targets (fieldAt w.body 0 2) v.first v.rq.seq.toNat && v.sid == w.sid && !v.lineKeyed) = none →
      (s.port rq.via).parts = [] → s.camyx.ops.find? (fun o =>
        (o.via == rq.via && targets (fieldAt w.body 0 2) o.first o.seq) && o.sid == w.sid && o.lineAddr.isNone) =
          some o →
      (∀ m, o.kind ≠ .forward m) → o.kind ≠ .shelf →
      exec (.abort rq) s = .next ((if o.pnr then (s.taken w).respond w .alreadyDone []
        else ((((s.taken w).cancelOp o).finish o .aborted []).respond w .aborted [])).done w)) ∧
    (∀ tr x, (s.port tr).pend = some x → 10000 ≤ since s.plinth.upMs x.verifiedAt →
      ∃ t, exec (.sessionPendingLapse tr) s = .next t ∧ (t.port tr).pend = none ∧ (t.port tr).est = (s.port tr).est ∧
      t = { s with ledger := t.ledger, camyx := t.camyx, nfc := t.nfc }) ∧
    (∀ tr x, (s.port tr).est = some x → 1000 * x.idleS ≤ since s.plinth.upMs x.verifiedAt →
      ∃ t, exec (.sessionIdleExpiry tr) s = .next t ∧ (t.port tr).est = none ∧ t.holds Ev.sessionEnd = true ∧
      t = { s.withLogs t with ledger := t.ledger, camyx := t.camyx, nfc := t.nfc })

/-- R176, R228, R229, R231, R233, R239: WRITE_PARAM stages all its entries or none; COMMIT arms the transfer; REVERT
restages; SAVE reserves the write of the bank, or answers NOCHANGE; IMAGE_IMPORT with APPLY 0 stages; the transfer makes
every armed value take effect; a new SYS_U0_BAUD follows its reply. -/
def Obligations.ConfigurationRequestsAct : Prop :=
  ∀ (s : State) (rq : Request) (w : Waiting) (l : List (Nat × Nat × Nat)),
    (s.Ready 0x11 rq w → parseEntries w.body.length w.body = some l → s.entriesFault w.priv 0 l = none →
      overflowAt (s.config.staged.map fun e => e.1) 0 l = none →
      exec (.writeParam rq) s = .next ((((s.taken w).stage (l.map fun e => (e.1, e.2.2))).respond w .ok
        (toLe 2 (nextGen s.config.maqGen))).done w)) ∧
    (∀ st i, s.Ready 0x11 rq w → parseEntries w.body.length w.body = some l → s.entriesFault w.priv 0 l = some (st, i) →
      exec (.writeParam rq) s = .next (((s.taken w).respond w st (toLe 1 (min i 255))).done w)) ∧
    (s.Ready 0x12 rq w → s.commitFault w.priv (fieldAt w.body 0 2) = none →
      exec (.commit rq) s = .next ((((s.taken w).armCommit (some (w.rq.via, w.rq.seq.toNat))).respond w .ok
        (toLe 2 s.config.staged.length ++ toLe 4 (wrapAdd 32 s.plinth.upMs 1) ++
          (s.armCommit (some (w.rq.via, w.rq.seq.toNat))).run8)).done w)) ∧
    (∀ st d, s.Ready 0x12 rq w → s.commitFault w.priv (fieldAt w.body 0 2) = some (st, d) →
      exec (.commit rq) s = .next (((s.taken w).respond w st d).done w)) ∧
    (s.Ready 0x13 rq w → fieldAt w.body 0 1 = 0 → exec (.revert rq) s = .next
      ((((s.taken w).restage []).respond w .ok (toLe 2 (nextGen s.config.maqGen))).done w)) ∧
    (∀ n b, s.Ready 0x13 rq w → fieldAt w.body 0 1 = 1 → s.activeBank = some (n, b) → exec (.revert rq) s = .next
      ((((s.taken w).restage (savedIds.map fun id => (id, b.value id))).respond w .ok
        (toLe 2 (nextGen s.config.maqGen))).done w)) ∧
    (s.Ready 0x14 rq w → bitAt (fieldAt w.body 0 1) 0 = false → s.sameDigest s.snapshot = true →
      exec (.save rq) s = .next (((s.taken w).respond w .ok (s.saveReply true)).done w)) ∧
    (s.Ready 0x14 rq w → bitAt (fieldAt w.body 0 1) 0 = false → s.sameDigest s.snapshot = false → s.genFull = false →
      exec (.save rq) s = .next
        (((s.taken w).reserveOp w .configSave (25 * mj) (.save false 0 s.snapshot)).done w)) ∧
    (s.Ready 0x17 rq w → fieldAt w.body 0 1 = 0 → s.imageFault w.priv (w.body.drop 1) = none →
      parseImage (w.body.drop 1) = some l → overflowAt (s.config.staged.map fun e => e.1) 0 l = none →
      exec (.imageImport rq) s = .next
        ((((s.taken w).stage (s.imageVals (fieldAt (w.body.drop 1) 5 1) l)).respond w .ok
          (toLe 2 (l.filter fun e => (findDesc e.1).isSome).length ++ toLe 2 (nextGen s.config.maqGen))).done w)) ∧
    (∀ vs, s.config.armed = some vs → ∃ t, exec .shadowTransfer s = .next t ∧ t.config.armed = none ∧
      t.config.inForce = Vals.setAll s.ident.role s.ident.sto s.config.inForce vs ∧
      t.config.staged = s.config.staged ∧ t.ident = s.ident) ∧
    (∀ b, s.config.baudNext = some b → s.baudWaits = false → exec .u0BaudChange s = .next
      { s with config := { s.config with baud := b, baudNext := none } })

/-- R216, R217, R247, R281, R318, R326, R339, R345: CH_SET, CH_CLEAR and RAIL_CTRL act on this device's own channels and
rails. -/
def Obligations.ChannelAndRailRequestsAct : Prop :=
  ∀ (s : State) (rq : Request) (w : Waiting) (r : Nat),
    (s.Ready 0x20 rq w → s.isSelf (fieldAt w.body 0 1) = true → (maskChans (fieldAt w.body 1 2)).any s.fenced = false →
      (maskChans (fieldAt w.body 1 2)).any (s.chSetBarred 0) = false → fieldAt w.body 3 1 = 0 →
      ∃ u t, exec (.chSet rq) s = .next t ∧ t = (u.respond w .ok (toLe 2 u.outMask)).done w ∧
        u = (s.taken w).turnOff (maskChans (fieldAt w.body 1 2)) ∧
        (∀ c ∈ maskChans (fieldAt w.body 1 2), (t.chan c).demand = .off)) ∧
    (∀ a, s.Ready 0x20 rq w → s.isSelf (fieldAt w.body 0 1) = true →
      (maskChans (fieldAt w.body 1 2)).any s.fenced = false → fieldAt w.body 3 1 = a → a = 1 ∨ a = 2 →
      (maskChans (fieldAt w.body 1 2)).any (s.chSetBarred a) = false →
      ∃ t, exec (.chSet rq) s = .next t ∧
        (∀ c ∈ maskChans (fieldAt w.body 1 2), (t.chan c).demand = s.chSetDemand a (fieldAt w.body 4 2) c)) ∧
    (s.Ready 0x21 rq w → s.isSelf (fieldAt w.body 0 1) = true → (maskChans (fieldAt w.body 1 2)).any s.fenced = false →
      (maskChans (fieldAt w.body 1 2)).any s.pairOdd = false → s.fieldLimits rq.via = false →
      exec (.chClear rq) s = .next (((((s.taken w).clearMask (fieldAt w.body 1 2)).begin_ w true .stagger
        (.chClear (fieldAt w.body 1 2))).settle).done w)) ∧
    (s.Ready 0x21 rq w → s.isSelf (fieldAt w.body 0 1) = true → (maskChans (fieldAt w.body 1 2)).any s.fenced = false →
      (maskChans (fieldAt w.body 1 2)).any s.pairOdd = false → s.fieldLimits rq.via = true →
      ∃ t, exec (.chClear rq) s = .next t ∧ t.camyx.late = s.camyx.late ++ [.chClear (fieldAt w.body 1 2)] ∧
        Answers t w .ok (toLe 2 0)) ∧
    (s.Ready 0x28 rq w → fieldAt w.body 1 1 = 0 → fieldAt w.body 0 1 = r → s.railHere r = true → s.ganged r = false →
      (s.rail r).st ≠ .ovLatched → (s.rail r).st ≠ .faulted →
      exec (.railCtrlStop rq) s = .next (((((s.taken w).softStop r 0).respond w .ok
        (toLe 1 (((s.taken w).softStop r 0).railCode r))).settle).done w)) ∧
    (s.Ready 0x28 rq w → fieldAt w.body 1 1 = 0 → fieldAt w.body 0 1 = r → s.railHere r = true → s.ganged r = false →
      (s.rail r).st = .faulted →
      exec (.railCtrlStop rq) s = .next (((((s.taken w).toIdle r).respond w .ok
        (toLe 1 (((s.taken w).toIdle r).railCode r))).settle).done w)) ∧
    (s.Ready 0x28 rq w → fieldAt w.body 1 1 = 1 → fieldAt w.body 0 1 = r → s.railHere r = true → s.ganged r = false →
      s.mayStart r = true → (s.rail r).st = .stopped →
      exec (.railCtrlStart rq) s =
        .next ((((((s.taken w).onRail r fun x => { x with hiccups := 0 }).startRail r).begin_ w true (.rail (if r =
        0 then 0 else 1))
        (.railStart (if r = 0 then 0 else 1))).settle).done w)) ∧
    (s.Ready 0x28 rq w → fieldAt w.body 1 1 = 2 → fieldAt w.body 0 1 = r → s.railHere r = true → s.ganged r = false →
      (s.rail r).st = .ovLatched → 10 * (s.rail r).vos < s.targetMv r →
      exec (.railCtrlClearLatch rq) s = .next ((((s.taken w).clearOv r).respond w .ok
        (toLe 1 (((s.taken w).clearOv r).rail r).st.code)).done w))

/-- R360, R380, R384, R460: levels, allowances, device time and the trace are set by their requests; a level or
allowance from a requester without authority here is ROLE. -/
def Obligations.LevelTimeAndTraceRequestsAct : Prop :=
  ∀ (s : State) (rq : Request) (w : Waiting),
    (s.Ready 0x30 rq w → s.authority w.priv = true → s.fieldLimits rq.via = false →
      ∃ t, exec (.shedSet rq) s = .next t ∧
      t.line.cmd = fieldAt w.body 0 1 ∧ t.line.cmdUntil = (if fieldAt w.body 1 2 = 0 then none
        else some ((s.plinth.upMs + 1000 * fieldAt w.body 1 2) % 2 ^ 32)) ∧ Answers t w .ok (toLe 1 t.line.eff)) ∧
    (s.Ready 0x30 rq w → s.authority w.priv = false →
      exec (.shedSet rq) s = .next (((s.taken w).respond w .role []).done w)) ∧
    (s.Ready 0x32 rq w → s.authority w.priv = true → s.fieldLimits rq.via = false →
      ∃ t, exec (.allowanceSet rq) s = .next t ∧ Answers t w .ok [] ∧
        t.ctr.allowWh = upd s.ctr.allowWh (fieldAt w.body 0 1) fun _ => fieldAt w.body 1 4) ∧
    (s.Ready 0x32 rq w → s.authority w.priv = true → s.fieldLimits rq.via = true →
      ∃ t, exec (.allowanceSet rq) s = .next t ∧ Answers t w .ok [] ∧
        t.camyx.late = s.camyx.late ++ [.allow (fieldAt w.body 0 1) (fieldAt w.body 1 4)]) ∧
    (s.Ready 0x31 rq w → ∃ t, exec (.timeSet rq) s = .next t ∧ t.plinth.timeValid = true ∧
      t.plinth.rtcSec = fieldAt w.body 0 4 ∧ t.plinth.rtcSub = fieldAt w.body 4 2 / 2 ∧
      Answers t w .ok (toLe 4 s.stamp)) ∧
    (s.Ready 0x42 rq w → fieldAt w.body 0 1 = 0 → exec (.traceArm rq) s = .next (({ s.taken w with
      trace := { st := .armed, buf := [], trig := 0xFFFF, left := 0, gaps := 0,
                 sel := (List.range 4).map fun i => s.param (P.evtTrcSel i),
                 trigCfg := s.param P.evtTrcTrig, prePct := s.param P.evtTrcPrePct, seen := false,
                 paused := false } }.respond w .ok (toLe 1 1)).done w)) ∧
    (s.Ready 0x42 rq w → fieldAt w.body 0 1 = 1 → s.trace.runs = true → exec (.traceStop rq) s = .next
      (({ s.taken w with trace := { s.trace with st := .stopped } }.respond w .ok (toLe 1 4)).done w))

/-- R147, R426, R430, R431, R437 to R439: keys and firmware images are written through their reservations, NVM writes
end the operations, FW_ACTIVATE switches the boot selector, and a trial is confirmed. -/
def Obligations.KeyAndFirmwareRequestsAct : Prop :=
  ∀ (s : State) (rq : Request) (w : Waiting),
    (∀ role slot key, s.Ready 0x50 rq w → fieldAt w.body 0 1 = role → fieldAt w.body 1 1 = slot →
      s.openKey w 2 ((w.body.drop 2).take 16) = some key → kcvOf key = w.body.drop 18 → slot < slotCount role →
      exec (.keyWrite rq) s = .next ((if s.fieldLimits rq.via
        then (s.taken w).begin_ w false .surplus (.keyWrite role slot key false false)
        else (s.taken w).reserveOp w .keyCommit (15 * mj) (.keyWrite role slot key true false)).done w)) ∧
    (∀ role slot, s.Ready 0x51 rq w → fieldAt w.body 0 1 = role → fieldAt w.body 1 1 = slot →
      (s.key? role slot).isSome = true → ¬(role = 1 ∧ (s.key? 1 (1 - slot)).isNone = true) →
      exec (.keyErase rq) s = .next (((s.taken w).reserveOp w .keyCommit (15 * mj) (.keyErase role slot)).done w) ∧
        (s.busCarries = true → s.ledger.fwStop = false → s.camyx.ops = [] → s.ledger.waiting = [] →
          s.ledger.fresh = [] →
          ((s.taken w).reserveOp w .keyCommit (15 * mj) (.keyErase role slot)).sec =
            (s.sec.writeOlder role slot none).level ∧
          ((s.taken w).reserveOp w .keyCommit (15 * mj) (.keyErase role slot)).holds Ev.keyChange = true)) ∧
    (s.Ready 0x53 rq w → fieldAt w.body 0 4 ≤ fwBankSize → 192 ≤ fieldAt w.body 0 4 → s.sec.trial = false →
      exec (.fwBegin rq) s = .next (((s.taken w).reserveOp w .fwBlock (eraseShare (fieldAt w.body 0 4))
        (.fwBegin (fieldAt w.body 0 4) (fieldAt w.body 4 4))).done w)) ∧
    (s.Ready 0x54 rq w → s.sec.fwOpen = true → fieldAt w.body 0 4 = s.sec.inactive.data.length →
      fieldAt w.body 0 4 + (w.body.drop 4).length ≤ s.sec.inactive.size → s.headerFails (w.body.drop 4) = false →
      exec (.fwBlock rq) s =
        .next (((s.taken w).reserveOp w .fwBlock mj (.fwBlock (fieldAt w.body 0 4) (w.body.drop 4))).done w)) ∧
    (s.Ready 0x55 rq w → s.sec.inactive.complete = true → s.unsaved = false → s.sec.trial = false →
      s.acceptable s.sec.inactive = true →
      (s.sec.inactive.compat / 256 = ownCompat / 256 ∨ s.activeBank = none) →
      ∃ t, exec (.fwActivate rq) s = .next t ∧ t.sec = { s.sec with
          fwActiveB := !s.sec.fwActiveB, trial := true, trialMs := 0, fwOpen := false } ∧
        t.camyx.resetOwed = some rq.via ∧ t.holds Ev.fwTrial = true ∧ Answers t w .ok (toLe 4 s.sec.inactive.ver)) ∧
    (∀ o snap, s.camyx.ops.find? (fun o => o.wait == .nvm) = some o → o.kind = .save false 0 snap →
      ∃ t, exec (.nvmProgramEraseComplete true) s = .next t ∧ t.camyx.ops = s.camyx.ops.erase o ∧
        t.ctr.saveCount = wrapAdd 32 s.ctr.saveCount 1 ∧
        (if s.nextBank.1 = 1 then t.config.bankA else t.config.bankB) =
          some { bytes := bankBytes s.nextBank.2 (s.image s.ident.role s.ident.sto snap true), gen := s.nextBank.2,
                 role := s.ident.role, sto := s.ident.sto, vals := snap, bad := false }) ∧
    (∀ o size version, s.camyx.ops.find? (fun o => o.wait == .nvm) = some o → o.kind = .fwBegin size version →
      ∃ t, exec (.nvmProgramEraseComplete true) s = .next t ∧ t.camyx.ops = s.camyx.ops.erase o ∧ t.sec.fwOpen = true ∧
        t.sec.inactive = { size := size, version := version, data := [], factory := false }) ∧
    (∀ o off data, s.camyx.ops.find? (fun o => o.wait == .nvm) = some o → o.kind = .fwBlock off data →
      off = s.sec.inactive.data.length →
      ∃ t, exec (.nvmProgramEraseComplete true) s = .next t ∧ t.camyx.ops = s.camyx.ops.erase o ∧
        t.sec.inactive = { s.sec.inactive with data := s.sec.inactive.data ++ data }) ∧
    (∀ o role slot key f second uw mv e, s.camyx.ops.find? (fun o => o.wait == .surplus) = some o →
      o.kind = .keyWrite role slot key f second → s.isOn P.secFieldKeys = true → 3000 ≤ uw → 2500 ≤ mv →
      exec (.keyCommitSurplusCheck uw mv e) s = .next
        ({ s with power := { s.power with fieldUw := min uw 65535, fieldMv := mv } }.onOp o fun x =>
          { x with wait := .nvm, pnr := true })) ∧
    (∀ o uw mv, s.camyx.ops.find? (fun o => o.wait == .surplus) = some o → uw < 3000 →
      ∃ t, exec (.keyCommitSurplusCheck uw mv true) s = .next t ∧ t.camyx.ops = s.camyx.ops.erase o ∧
        t.holds Ev.fieldLow = true) ∧
    (s.sec.trial = true → s.seqRuns = true → s.param P.secFwTrialS * 1000 ≤ s.sec.trialMs →
      ∃ t, exec .fwTrialConfirm s = .next t ∧ t.sec.trial = false ∧ t.sec.fwActiveB = s.sec.fwActiveB ∧
        t.ctr.fwRollback = max s.ctr.fwRollback (s.sec.active.rollback % 2 ^ 32) ∧ t.holds Ev.fwConfirmed = true ∧
        t = { s.withLogs t with sec := t.sec, ctr := t.ctr })

/-- R210, R213, R218, R220, R489, R492: debug unlock, RESET and its execution, SHELF, DECOMMISSION and TAB_FORWARD. -/
def Obligations.ResetShelfAndForwardRequestsAct : Prop :=
  ∀ (s : State) (rq : Request) (w : Waiting),
    (s.Ready 0x56 rq w → exec (.debugUnlock rq) s = .next
      (({ s.taken w with
          camyx := { (s.taken w).camyx with debugMin := fieldAt w.body 0 1 } }.respond w .ok []).done w)) ∧
    (exec .debugUnlockLapse s = .next { s with camyx := { s.camyx with debugMin := 0 } }) ∧
    (s.Ready 0x60 rq w → exec (.reset rq) s = .next (State.done { (s.taken w).respond w .ok [] with
      camyx := { ((s.taken w).respond w .ok []).camyx with resetOwed := some rq.via } } w)) ∧
    (∀ p, s.camyx.resetOwed = some p → s.resetWaits p = false → s.plinth.seq = .running →
      s.sec.fwActiveB = s.sec.fwRunningB →
      ∃ t, exec .resetExecute s = .next t ∧ t.plinth.seq = .warmRestart ∧ t.plinth.cause = 7 ∧
        t.plinth.prevUp = s.plinth.upMs ∧ t.config = { s.config with staged := [], maqGen := 1 } ∧
        t.ledger.fwStop = true ∧ t.camyx.ports = Vector.replicate 7 Port.empty ∧ t.camyx.resetOwed = none ∧
        t.sw = s.sw ∧ t.arm = s.arm ∧ t.power = s.power) ∧
    (s.Ready 0x61 rq w → s.power.bakQ = true → s.life.shelfPend = false → s.life.st ≠ .decommissioning →
      exec (.shelf rq) s = .next ((({ s.taken w with life :=
        { s.life with prev := s.life.st, st := .shelfPending, shelfPend := true } }.begin_ w false .tick .shelf).respond
          w .ok []).done w)) ∧
    (s.Ready 0x61 rq w → s.power.bakQ = false → exec (.shelf rq) s = .next (((s.taken w).respond w .state []).done w)) ∧
    (s.Ready 0x62 rq w → s.life.st ≠ .decommissioning → exec (.decommission rq) s = .next
      (((s.taken w).reserveOp w .configSave (25 * mj) .decommission).done w)) ∧
    (∀ opc, s.Ready 0x07 rq w → s.isSelf (fieldAt w.body 0 1) = true → fieldAt w.body 1 1 = opc →
      (rolesOf opc).isSome = true → admits w.priv (transportCode rq.via) opc (w.body.drop 2) = true →
      wellFormed opc (w.body.drop 2) = true → s.gate opc rq.via (w.body.drop 2) = none →
      exec (.tabForward rq) s = .next (((s.taken w).inner { w with body := w.body.drop 2 } opc w.body).done w)) ∧
    (∀ opc m x, s.Ready 0x07 rq w → s.isSelf m = false → fieldAt w.body 0 1 = m → fieldAt w.body 1 1 = opc →
      s.tab.inTab = true → s.tab.lead = true → m ≠ s.param P.tabIndex →
      s.tab.member.toList.getD m none = some x → x.present = true →
      exec (.tabForward rq) s = .next ((({ s.taken w with tab := { s.tab with bulkOut := s.tab.bulkOut ++
        [(m, toLe 1 1 ++ toLe 1 w.priv.code ++ toLe 1 (transportCode rq.via) ++ toLe 1 opc ++ w.body.drop 2)] } }.begin_
          w true .link (.forward m))).done w)) ∧
    (∀ m, s.Ready 0x07 rq w → s.isSelf m = false → fieldAt w.body 0 1 = m →
      s.tab.lead = false → exec (.tabForward rq) s = .next (((s.taken w).respond w .noRoute []).done w))

/-- R148, R166 to R171, R173, R175, R183, R247, R425: the byte ports; a queued turn-on; the NFC reservation; a blocking
overrun. -/
def Obligations.BytePortsAndTimersAct : Prop :=
  ∀ (s : State) (b : List Byte) (p : List Byte) (n : Nat),
    (s.portLive .spi = true → s.rxFree .spi = true → untilPacket (hunt b.length b) = [.packet p] →
      exec (.spiWriteTransaction b) s = .next ((s.onPort .spi fun q =>
        { q with out := toLe 1 (s.portStat .spi) ++ List.replicate b.length 0 }).receive (opcOf p)
          (requestOf .spi 0 0 p))) ∧
    (s.portLive .spi = true → s.rxFree .spi = false → ∃ t, exec (.spiWriteTransaction b) s = .next t ∧
      t.holds Ev.queueFull = true ∧ (t.port .spi).waiting = (s.port .spi).waiting ∧
      t = { s.withLogs t with camyx := t.camyx }) ∧
    (s.portLive .spi = true → (s.port .spi).replies = [] → ∃ t, exec (.spiReadTransaction n) s = .next t ∧
      (t.port .spi).out = toLe 1 (s.portStat .spi) ++ List.replicate n 0xFF#8 ∧
      t = { s with camyx := t.camyx }) ∧
    (∀ r l, s.portLive .spi = true → (s.port .spi).replies = r :: l → ∃ t, exec (.spiReadTransaction n) s = .next t ∧
      (t.port .spi).out = toLe 1 (s.portStat .spi) ++ (frameLocal (r.take (paramLimit .spi)).1 ++
        List.replicate (n - (frameLocal (r.take (paramLimit .spi)).1).length) 0xFF#8).take n ∧
      t = { s.withLogs t with camyx := t.camyx }) ∧
    (∀ h, s.portLive .spi = true → h ≠ 0x5A#8 → h ≠ 0xA5#8 → ∃ t, exec (.spiVoidTransaction h n) s = .next t ∧
      (t.port .spi).out = toLe 1 (s.portStat .spi) ++ List.replicate n 0xFF#8 ∧ t = { s with camyx := t.camyx }) ∧
    (∀ a, s.portLive .i2c = true → a.toNat = s.ident.i2cAddr → s.rxFree .i2c = true →
      untilPacket (hunt b.length b) = [.packet p] → exec (.i2cWriteTransaction a b) s = .next
        (s.receive (opcOf p) (requestOf .i2c 0 0 p))) ∧
    (∀ a, s.portLive .i2c = true → a.toNat = s.ident.i2cAddr → (s.port .i2c).replies = [] →
      ∃ t, exec (.i2cReadTransaction a n) s = .next t ∧
        (t.port .i2c).out = toLe 1 (s.portStat .i2c) ++ List.replicate n 0xFF#8 ∧ t = { s with camyx := t.camyx }) ∧
    (s.portLive s.uartAs = true → s.plinth.mode = .doze → bitAt (s.param P.sysWakeEn) 4 = true →
      hunt b.length (b.drop ((50 * s.config.baud + 9999999) / 10000000)) = [.packet p] →
      exec (.uartPacketReceived b) s = .next (s.toRun.receive (opcOf p) (requestOf s.toRun.uartAs 0 0 p))) ∧
    (s.portLive s.uartAs = true → s.plinth.mode ≠ .doze → hunt b.length b = [.packet p] →
      exec (.uartPacketReceived b) s = .next
      (s.receive (opcOf p) (requestOf s.uartAs 0 0 p))) ∧
    (s.portLive s.uartAs = true → ∃ t, exec .uartGapTimeout s = .next t ∧ t.holds Ev.frameError = true ∧
      t = s.withLogs t) ∧
    (∀ r l, s.portLive s.uartAs = true → s.camyx.u0TxMs = 0 → (s.port s.uartAs).replies = r :: l →
      ∃ t, exec .uartReplyTransmit s = .next t ∧
      (t.port s.uartAs).out = frameLocal (r.take (paramLimit s.uartAs)).1 ∧
      ((s.plinthOn && !s.inReset) = true → t.pad .u0De = .high ∧ t.pad .u0Tx = .data) ∧
      t = { s.withLogs t with camyx := t.camyx }) ∧
    (∀ f l, s.portLive s.uartAs = true → s.camyx.u0TxMs = 0 → (s.port s.uartAs).replies = [] → s.camyx.gwOut = f :: l →
      ∃ t, exec .uartReplyTransmit s = .next t ∧ (t.port s.uartAs).out = f ∧ t.camyx.gwOut = l ∧
        t = { s with camyx := t.camyx }) ∧
    (∀ c l, s.seqRuns = true → s.sw.staggerQ = c :: l → ∃ t, exec .onStaggerExpiry s = .next t ∧ t.sw.staggerQ = l ∧
      t = { s.withLogs t with sw := t.sw, camyx := t.camyx, nfc := t.nfc, tab := t.tab }) ∧
    ((s.port .nfc).est.isSome = true → s.power.path = .onSto → ∃ t, exec .nfcSessionRenewal s = .next t ∧
      (t.nfc.sessionRes = true ∨ t.nfc.fieldOnly = true) ∧
      t = { s.withLogs t with ledger := t.ledger, nfc := t.nfc, ctr := t.ctr }) ∧
    (∀ l us, s.seqRuns = true → ∃ t, exec (.blockOverrun l us) s = .next t ∧ t.holds Ev.blockOverrun = true ∧
      t = { s.withLogs t with plinth := { s.plinth with
        blockMax := upd s.plinth.blockMax l.val fun m => max m (min us 0xFFFFFFFF) } })

/-- R163, R177 to R179, R181, R182, R366, R421, R422: the HEAD's bridge, parts of a request, and the command APDU. -/
def Obligations.BridgePartsAndApdusAct : Prop :=
  ∀ (s : State) (b : List Byte) (pkt : List Byte) (a : Nat),
    (s.portLive .gateway = true → fieldAt b 0 1 = 0xAB → fieldAt b 1 1 = a → b.length = fieldAt b 2 2 + 6 →
      pkt = (b.drop 2).take (fieldAt b 2 2 + 2) → packetOk pkt = true →
      (crc16 ((b.drop 1).take (fieldAt b 2 2 + 3))).toNat = fieldAt b (fieldAt b 2 2 + 4) 2 →
      s.plinth.mode ≠ .doze →
        (a = 0 → exec (.bridgeFrame b) s = .next (s.receive (opcOf pkt) (requestOf .gateway 0 0 pkt))) ∧
      (251 ≤ a → s.line.stoodDown = false → pkt.length ≤ 270 → s.bridgeFull a = false → exec (.bridgeFrame b) s = .next
        { s with line := { s.line with castQ := s.line.castQ ++
          [newCast a 1 pkt (s.param P.lineBcastRepeat) true] } }) ∧
      (a ≠ 0 → a < 251 → (s.line.stoodDown = true ∨ s.node? a = none) → ∃ t, exec (.bridgeFrame b) s = .next t ∧
        t.holds Ev.bridgeDrop = true ∧
        t.camyx.bridge = s.camyx.bridge ∧ t.camyx.gwOut = s.camyx.gwOut ++
          [frameBridge a (packetBody 1 (fieldAt pkt 3 2) (fieldAt pkt 5 1) (toLe 1 Status.noRoute.code) 0)]) ∧
      (∀ n, a ≠ 0 → a < 251 → s.line.stoodDown = false → s.node? a = some n → pkt.length ≤ 270 →
        s.bridgeFull a = false → pkt.length ≤ lineLimit n.mode s.laneCount →
        s.bridgeLoad + s.bridgeSlots n pkt.length ≤ 150 →
        exec (.bridgeFrame b) s = .next { s with camyx := { s.camyx with
          bridge := s.camyx.bridge ++ [{ addr := a, pkt := pkt, sent := false }] } })) ∧
    (∀ q x, s.camyx.bridge.find? (fun b => b.addr == a && fieldAt b.pkt 3 2 == q) = some x →
      ∃ t, exec (.bridgeReplyTimeout a q) s = .next t ∧ t.camyx.bridge = s.camyx.bridge.erase x ∧
        t.holds Ev.bridgeDrop = true ∧ t = { s.withLogs t with camyx := t.camyx }) ∧
    (∀ opc rq, rq.more = true → s.portLive rq.via = true →
      exec (.packetPart opc rq) s = .next (s.receive opc.toNat rq)) ∧
    (∀ (opc : Byte) rq, rq.more = true → s.portLive rq.via = true → rq.auth = false → rq.cast = false →
      (rq.via = .line → rq.origin = 0) → rq.ctrl &&& 0xF9#8 = 0 → rq.params.length ≤ paramLimit rq.via →
        (s.port rq.via).parts = [] →
      (rolesOf opc.toNat).isSome = true →
      admits (s.plainPriv rq.via) (transportCode rq.via) opc.toNat rq.params = true →
      ∃ t, exec (.packetPart opc rq) s = .next t ∧ (t.port rq.via).waiting = (s.port rq.via).waiting ∧
        (t.port rq.via).parts = [{ opc := opc.toNat, first := rq.seq.toNat, next := wrapAdd 16 rq.seq.toNat 1,
                                   data := rq.params, sid := none, lineKeyed := false }]) ∧
    (s.nfc.st = .isoDep → s.camyx.apdu = false → s.portLive .nfc = true → s.nfc.app = .camyx → fieldAt b 0 1 = 0x80 →
      fieldAt b 1 1 = 0xCA → fieldAt b 4 1 = 0 → pkt = (b.drop 7).take (ofBe ((b.drop 5).take 2)) →
      b.length = ofBe ((b.drop 5).take 2) + 9 → pkt.length = ofBe ((b.drop 5).take 2) → packetOk pkt = true →
      exec (.camyxApdu b) s = .next ({ s with
        nfc := { s.nfc with out := [] }, camyx := { s.camyx with apdu := true } }.receive (opcOf pkt)
          (requestOf .nfc 0 0 pkt))) ∧
    (s.nfc.st = .isoDep → s.camyx.apdu = false → s.portLive .nfc = true → fieldAt b 0 1 ≠ 0x80 →
      exec (.camyxApdu b) s = .next { s with nfc := { s.nfc with out := [0x6E#8, 0x00#8] } }) ∧
    (s.nfc.st = .isoDep → s.camyx.apdu = false → s.portLive .nfc = false →
      exec (.camyxApdu b) s = .next { s with nfc := { s.nfc with held := some b, out := [0xF2#8, 25#8] } }) ∧
    (s.nfc.st = .isoDep → (s.camyx.apdu = true ∨ s.nfc.held.isSome = true) →
      exec .sWtx s = .next { s with nfc := { s.nfc with out := [0xF2#8, 25#8] } })

/-- R419, R420, R422, R423, R427 and Tables 14.2 and 14.3: activation, the two applications, the files and the loss of
the field. -/
def Obligations.NfcReaderCommandsAct : Prop :=
  ∀ (s : State),
    (∀ mv, s.power.path ≠ .shelf → 2200 ≤ mv → s.nfc.nfcid ≠ [] → exec (.nfcReqa mv) s = .next
      { s with power := { s.power with fieldMv := mv }, nfc := { s.nfc with st := .ready, out := [0x04#8, 0x00#8] } }) ∧
    (∀ mv, s.power.path ≠ .shelf → 2200 ≤ mv → s.nfc.nfcid = [] → ∃ t, exec (.nfcReqa mv) s = .next t ∧
      t.nfc = { s.nfc with st := .ready, out := [0x04#8, 0x00#8], nfcid := t.nfc.nfcid } ∧
      t.nfc.nfcid.length = 4 ∧ t.nfc.nfcid.head? = some 0x08#8 ∧
      t = { s with nfc := t.nfc, power := { s.power with fieldMv := mv }, free := s.free + 3 }) ∧
    (∀ mv, (s.power.path = .shelf ∨ mv < 2200) →
      exec (.nfcReqa mv) s = .next { s with power := { s.power with fieldMv := mv } }) ∧
    (∀ u, s.nfc.st = .ready → s.fieldAnswers = true → toBe 4 u.toNat = s.nfc.nfcid →
      exec (.nfcAnticollision u) s = .next { s with nfc := { s.nfc with st := .active, out := [0x20#8] } }) ∧
    (∀ u, s.nfc.st = .ready → s.fieldAnswers = true → toBe 4 u.toNat ≠ s.nfc.nfcid →
      exec (.nfcAnticollision u) s = .next { s with nfc := { s.nfc with out := [] } }) ∧
    (∀ p : Byte, s.nfc.st = .active → s.fieldAnswers = true → p.toNat % 16 = 0 → p.toNat / 16 ≤ 8 →
      exec (.nfcRats p) s = .next { s with nfc := { s.nfc with
        st := .isoDep, fsd := [16, 24, 32, 40, 48, 64, 96, 128, 256].getD (p.toNat / 16) 256, app := .none, file := 0,
        out := [0x05#8, 0x78#8, 0x00#8, 0x70#8, 0x00#8] } }) ∧
    (∀ p : Byte, s.nfc.st = .active → s.fieldAnswers = true → (p.toNat % 16 ≠ 0 ∨ 8 < p.toNat / 16) →
      s.plinthOn = true → ∃ t, exec (.nfcRats p) s = .next t ∧ t.holds Ev.nfcProtoErr = true ∧
        t = { s.withLogs t with nfc := { s.nfc with out := [] } }) ∧
    (∀ p : Byte, s.nfc.st = .isoDep → p.toNat % 16 = 0 → exec (.nfcPps p) s = .next
      { s with nfc := { s.nfc with out := [0xD0#8] } }) ∧
    (∀ p : Byte, s.nfc.st = .isoDep → p.toNat % 16 ≠ 0 → s.plinthOn = true → ∃ t, exec (.nfcPps p) s = .next t ∧
      t.holds Ev.nfcProtoErr = true ∧ t = { s.withLogs t with nfc := { s.nfc with out := [] } }) ∧
    (s.nfc.st = .isoDep → s.portLive .nfc = true →
      exec (.appSelect ([0x00#8, 0xA4#8, 0x04#8, 0x00#8, 0x07#8] ++ aidCamyx)) s = .next
        { s with nfc := { s.nfc with app := .camyx, file := 0, out := [0x90#8, 0x00#8] } }) ∧
    (s.nfc.st = .isoDep → s.portLive .nfc = true →
      ∃ t, exec (.appSelect ([0x00#8, 0xA4#8, 0x04#8, 0x00#8, 0x07#8] ++ aidType4)) s = .next t ∧
        t.nfc.app = .type4 ∧ t.nfc.file = 0 ∧ t.nfc.out = [0x90#8, 0x00#8] ∧ (t.port .nfc).est = none ∧
        t = { s.withLogs t with ledger := t.ledger, camyx := t.camyx, nfc := t.nfc }) ∧
    (∀ off len, s.nfc.st = .isoDep → s.portLive .nfc = true → s.nfc.app = .type4 → s.nfc.file = 0xE103 → off < 15 →
      exec (.readBinary 0xE103#16 off len) s = .next
        { s with nfc := { s.nfc with out := (capability.drop off).take (min len 255) ++ [0x90#8, 0x00#8] } }) ∧
    (∀ off len, s.nfc.st = .isoDep → s.portLive .nfc = true → s.nfc.app = .type4 → s.nfc.file = 0xE104 →
      off < s.nfc.ndef.length → ∃ t, exec (.readBinary 0xE104#16 off len) s = .next t ∧ t.holds Ev.ndefRead = true ∧
        t = { s.withLogs t with
          nfc := { s.nfc with out := (s.nfc.ndef.drop off).take (min len 255) ++ [0x90#8, 0x00#8] } }) ∧
    (s.nfc.st = .isoDep → s.portLive .nfc = true → exec .updateBinary s = .next
      { s with nfc := { s.nfc with out := [0x69#8, 0x82#8] } }) ∧
    (s.nfc.st = .isoDep → s.portLive .nfc = false → exec .updateBinary s = .next
      { s with nfc := { s.nfc with held := some [0x00#8, 0xD6#8, 0x00#8, 0x00#8], out := [0xF2#8, 25#8] } }) ∧
    (s.plinthOn = true → ∃ t, exec .fieldLost s = .next t ∧ t.nfc.st = .idle ∧ t.nfc.app = .none ∧ t.nfc.nfcid = [] ∧
      t.nfc.opened = 0 ∧ (t.port .nfc).est = none ∧ (t.port .nfc).pend = none ∧
      t.ctr = { s.ctr with nfcSessions := wrapAdd 32 s.ctr.nfcSessions s.nfc.opened } ∧
      t = { s.withLogs t with power := { s.power with fieldUw := 0, fieldMv := 0 },
                              harvest := { s.harvest with nfc := false, nfcUw := 0 },
                              ledger := t.ledger, camyx := t.camyx, nfc := t.nfc, ctr := t.ctr }) ∧
    (s.plinthOn = false → exec .fieldLost s = .next { s with
      nfc := { s.nfc with st := .idle, app := .none, file := 0, ndef := [], fsd := 0, nfcid := [], out := [],
                          held := none },
      power := { s.power with fieldUw := 0, fieldMv := 0 }, harvest := { s.harvest with nfc := false, nfcUw := 0 } })

/-- R149, R250, R252, R253, R256 to R259: a PWM cycle, the second boundary, the strobe, and what ADC-S measures. -/
def Obligations.PwmAndMeasurementFollowTheRules : Prop :=
  ∀ (s : State) (ch : Fin 16),
    (∀ tick d h, h = s.chan (s.lead ch.val) → h.demand = .pwm d → h.out = true → tick % max h.div 1 = 0 →
      s.wantOn (s.lead ch.val) = true → s.plinth.mode ≠ .doze → ∃ t, exec (.pwmCycleStart ch tick) s = .next t ∧
        (t.chan (s.lead ch.val)).running = true ∧ (t.chan (s.lead ch.val)).duty = d ∧
        (t.chan (s.lead ch.val)).onAt = h.offset * periodSteps h.div / 64 ∧
        (t.chan (s.lead ch.val)).offAt = (t.chan (s.lead ch.val)).onAt + s.pulseSteps (s.lead ch.val)
          (h.offset * periodSteps h.div / 64) d (decide (8000 ≤ tick % 8000 + h.div)) ∧
        (t.chan (s.lead ch.val)).tail = (if h.running then h.offAt - periodSteps h.div else 0) ∧
        (t.chan (s.lead ch.val)).window = (h.window || h.fresh) ∧ (t.chan (s.lead ch.val)).fresh = false ∧
        (t.chan (s.lead ch.val)).out = true ∧ (∀ j, j ≠ s.lead ch.val → t.chan j = s.chan j) ∧
        t = { s with sw := t.sw }) ∧
    (∀ tick d h, h = s.chan (s.lead ch.val) → h.demand = .pwm d → h.out = true → tick % max h.div 1 = 0 →
      s.wantOn (s.lead ch.val) = false → s.inReset = false → s.power.gndOpen = false → s.plinth.mode ≠ .doze →
      ∃ t, exec (.pwmCycleStart ch tick) s = .next t ∧ (t.chan (s.lead ch.val)).out = false ∧
        t = { s with sw := t.sw }) ∧
    (s.patternPends (s.lead ch.val) = true → ∃ t, exec (.secondBoundaryPattern ch) s = .next t ∧
      (t.chan (s.lead ch.val)).div = s.param (P.lswPwmDiv (s.lead ch.val)) ∧
      (t.chan (s.lead ch.val)).offset = s.offsetOf (s.lead ch.val) ∧ (t.chan (s.lead ch.val)).running = false ∧
      (t.chan (s.lead ch.val)).tail = 0 ∧
      (∀ j, j ≠ s.lead ch.val → t.chan j = s.chan j) ∧ t = { s with sw := t.sw }) ∧
    (s.patternPends (s.lead ch.val) = false → exec (.secondBoundaryPattern ch) s = .next s) ∧
    (∀ d : Fin 4, exec (.strobeLoss d) s = .next
      { s with sw := { s.sw with die := upd s.sw.die d.val fun x => { x with strobeAbs := true } } }) ∧
    (∀ d : Fin 4, ∃ t, exec (.strobeReturn d) s = .next t ∧
      t.sw.die = upd s.sw.die d.val (fun x => { x with strobeAbs := false }) ∧
      t = { s with sw := { s.sw with die := t.sw.die, ch := t.sw.ch }, free := s.free + 4 }) ∧
    (∀ (slot : Fin 128) pos ma, s.plinth.mode = .run → s.param (P.lswMode (s.lead ch.val)) ≠ 0 →
      ∃ t, exec (.adcSSample ch slot pos ma) s = .next t ∧
        (t.chan ch.val).lastMa = min ma.toNat (fullScale (s.range16 ch.val)) ∧
        (t.chan ch.val).saturated = ((s.chan ch.val).saturated || decide (fullScale (s.range16 ch.val) < ma.toNat)) ∧
        (t.chan ch.val).winSum = (s.chan ch.val).winSum + min ma.toNat (fullScale (s.range16 ch.val)) ∧
        (t.chan ch.val).winN = (s.chan ch.val).winN + 1 ∧
        t.plinth = (if s.slotNoisy slot.val then { s.plinth with quietMiss := satAdd 32 s.plinth.quietMiss 1 }
          else s.plinth) ∧
        t.ctr.eDayJ = upd s.ctr.eDayJ (s.lead ch.val) (fun n => wrapAdd 32 n (((s.chan (s.lead ch.val)).remFj +
          min ma.toNat (fullScale (s.range16 ch.val)) * s.power.vbusMv.toNat * 15625) / 1000000000000000)) ∧
        (∀ j, j ≠ ch.val → j ≠ s.lead ch.val → t.chan j = s.chan j) ∧
        t = { s with plinth := t.plinth, sw := t.sw, ctr := t.ctr }) ∧
    (s.param (P.lswRange ch.val) = 0 → 6400 ≤ (s.chan ch.val).lowRun → ∃ t, exec (.rangeSwitchDown ch) s = .next t ∧
      t.chan ch.val = { s.chan ch.val with range16 := false, hiRun := 0 } ∧
      (∀ j, j ≠ ch.val → t.chan j = s.chan j) ∧ t = { s with sw := t.sw }) ∧
    (s.param (P.lswMode (s.lead ch.val)) ≠ 0 → s.pairOdd ch.val = false → s.paired ch.val = false →
      ∃ t, exec (.measurementWindow ch) s = .next t ∧
        (t.chan ch.val).iMa = (if (s.chan ch.val).winN = 0 then (s.chan ch.val).iMa
          else (s.chan ch.val).winSum / (s.chan ch.val).winN) ∧
        (t.chan ch.val).ionMa = (if (s.chan ch.val).onN = 0 then (s.chan ch.val).ionMa
          else (s.chan ch.val).onSum / (s.chan ch.val).onN) ∧
        (t.chan ch.val).heldVal = decide ((s.chan ch.val).onN = 0) ∧ (t.chan ch.val).burst = false ∧
        (t.chan ch.val).winN = 0 ∧ (t.chan ch.val).onN = 0 ∧
        (∀ j, j ≠ ch.val → t.chan j = s.chan j) ∧ t = { s with sw := t.sw }) ∧
    (s.param (P.lswMode (s.lead ch.val)) ≠ 0 → s.pairOdd ch.val = false → s.paired ch.val = true →
      ∃ t, exec (.measurementWindow ch) s = .next t ∧
        (t.chan ch.val).iMa = ((s.chan ch.val).measured 16 false).iMa +
          ((s.chan (ch.val + 1)).measured 16 false).iMa ∧
        (t.chan ch.val).ionMa = ((s.chan ch.val).measured 16 false).ionMa +
          ((s.chan (ch.val + 1)).measured 16 false).ionMa ∧
        (t.chan (ch.val + 1)).iMa = ((s.chan (ch.val + 1)).measured 16 false).iMa ∧
        (∀ j, j ≠ ch.val → j ≠ ch.val + 1 → t.chan j = s.chan j) ∧ t = { s with sw := t.sw }) ∧
    (∀ ma : Vector Int 16, s.plinth.mode = .doze → s.param (P.lswMode (s.lead ch.val)) ≠ 0 →
      (s.chan ch.val).out = true → s.pairOdd ch.val = false → s.paired ch.val = false →
      ∃ t, exec (.dozeBurst ch ma) s = .next t ∧ (t.chan ch.val).iMa =
          (ma.toList.map fun x => min x.toNat (fullScale (s.range16 ch.val))).sum / 16 ∧
        (t.chan ch.val).ionMa = (t.chan ch.val).iMa ∧ (t.chan ch.val).burst = true ∧
        (t.chan ch.val).heldVal = false ∧
        t.ctr.eDayJ = upd s.ctr.eDayJ ch.val (fun n => wrapAdd 32 n (((s.chan ch.val).remFj +
          (t.chan ch.val).iMa * s.power.vbusMv.toNat * 100000000) / 1000000000000000)) ∧
        (∀ j, j ≠ ch.val → t.chan j = s.chan j) ∧ t = { s with sw := t.sw, ctr := t.ctr })

/-- R263, R264, R266 to R270 and Table 8.5: open load, pair share, wall switches, DIM ramps and restore at start. -/
def Obligations.OpenLoadAndWallSwitchesAct : Prop :=
  ∀ (s : State),
    (∀ ch : Fin 16, s.param (P.lswOlMa ch.val) ≠ 0 → s.olFilter ch.val ≤ (s.chan ch.val).olMs →
      (s.chan ch.val).out = true → s.isOn (P.lswOlAction ch.val) = false →
      ∃ t, exec (.openLoadDetect ch) s = .next t ∧ t.holds (Ev.lswOl ch.val) = true ∧ t = s.withLogs t) ∧
    (∀ ch : Fin 16, s.param (P.lswOlMa ch.val) ≠ 0 → s.olFilter ch.val ≤ (s.chan ch.val).olMs →
      (s.chan ch.val).out = true → s.isOn (P.lswOlAction ch.val) = true →
      ∃ t, exec (.openLoadDetect ch) s = .next t ∧ (t.chan ch.val).demand = .off ∧
        t = { s.withLogs t with sw := t.sw }) ∧
    (∀ ch : Fin 16, s.olFilter ch.val ≤ (s.chan ch.val).olClearMs → ∃ t, exec (.openLoadClear ch) s = .next t ∧
      t.chan ch.val = { s.chan ch.val with olMs := 0 } ∧ (∀ j, j ≠ ch.val → t.chan j = s.chan j) ∧
      t = { s.withLogs t with sw := t.sw }) ∧
    (∀ ch : Fin 16, s.paired (ch.val / 2 * 2) = true → 1000 ≤ (s.chan (ch.val / 2 * 2 + 1)).shareMs →
      ∃ t, exec (.pairShare ch) s = .next t ∧ t.holds (Ev.lswOl (ch.val / 2 * 2 + 1)) = true ∧ t = s.withLogs t) ∧
    (∀ ch : Fin 16, s.paired (ch.val / 2 * 2) = true → (s.chan (ch.val / 2 * 2 + 1)).shareMs < 1000 →
      10000 ≤ (s.chan (ch.val / 2 * 2 + 1)).shareOkMs → ∃ t, exec (.pairShare ch) s = .next t ∧
        (∀ h ∈ t.events.held, h.src = Ev.lswOl (ch.val / 2 * 2 + 1) → h.pulse = false → h.reason ≠ 2) ∧
        t = s.withLogs t) ∧
    (∀ ch : Fin 16, s.paired (ch.val / 2 * 2) = false → exec (.pairShare ch) s = .next s) ∧
    (∀ (g : Fin 8) hi, s.mapperRuns = true → s.param (P.gpioMode g.val) = 2 → s.gpioActive g.val hi = true →
      (s.sw.gpio[g]).level ≠ hi → s.sw.wallQ.length < 16 →
      ∃ t, exec (.gpioDebounceComplete g hi) s = .next t ∧
        t.sw.wallQ = s.sw.wallQ ++ [(s.camyx.arrived, .toggle g.val)] ∧
        (t.sw.gpio[g]).level = hi ∧
        t = { s with sw := t.sw, camyx := { s.camyx with arrived := s.camyx.arrived + 1 } }) ∧
    (∀ (g : Fin 8) hi, s.mapperRuns = true → s.param (P.gpioMode g.val) = 3 → (s.sw.gpio[g]).level ≠ hi →
      16 ≤ s.sw.wallQ.length → ∃ t, exec (.gpioDebounceComplete g hi) s = .next t ∧ t.sw.wallQ = s.sw.wallQ ∧
        t.sw.dropped = wrapAdd 16 s.sw.dropped 1 ∧ t = { s with sw := t.sw }) ∧
    (∀ g : Fin 8, s.param (P.gpioMode g.val) = 4 → (s.sw.gpio[g]).pressed = true → (s.sw.gpio[g]).long = false →
      s.sw.wallQ.length < 16 → ∃ t, exec (.dimHold g) s = .next t ∧ 
        t.sw.wallQ = s.sw.wallQ ++ [(s.camyx.arrived, .dim g.val)] ∧ (t.sw.gpio[g]).long = true ∧
        t = { s with sw := t.sw, camyx := { s.camyx with arrived := s.camyx.arrived + 1 } }) ∧
    (∀ n g rest, s.seqRuns = true → s.firstAtP5 n = true → s.sw.wallQ = (n, .follow g false) :: rest →
      ∃ t, exec .wallActionApply s = .next t ∧
      t.sw.wallQ = rest ∧ (∀ c ∈ s.wallChans g, (t.chan c).demand = .off) ∧
      t = { s.withLogs t with sw := t.sw, plinth := t.plinth, config := t.config }) ∧
    (∀ n g rest, s.seqRuns = true → s.firstAtP5 n = true → s.sw.wallQ = (n, .follow g true) :: rest →
      ∃ t, exec .wallActionApply s = .next t ∧
      t.sw.wallQ = rest ∧ (∀ c ∈ s.wallChans g, (t.chan c).demand = s.onDemand c) ∧
      t = { s.withLogs t with sw := t.sw, plinth := t.plinth, config := t.config }) ∧
    (∀ (g : Fin 8) c d, (s.sw.gpio[g]).ramp = true → (s.sw.gpio[g]).pressed = true → s.wallChans g.val = [c] →
      s.param (P.lswMode c) = 2 → (s.chan c).demand = .pwm d → ∃ t, exec (.dimRampStep g) s = .next t ∧
        (t.chan c).demand = .pwm (dimNext (s.chan c).dimUp d) ∧ t = { s.withLogs t with sw := t.sw }) ∧
    (∀ d : Fin 4, (s.sw.die[d]).supplied = true → ∃ t, exec (.restoreAtStart d) s = .next t ∧
      (∀ j, j < 4 → (t.chan (4 * d.val + j)).demand = s.restoreDemand (4 * d.val + j) ∧
        (t.chan (4 * d.val + j)).bus = false ∧ (t.chan (4 * d.val + j)).shut = true) ∧
      t = { s.withLogs t with sw := t.sw })

/-- R276 to R282: the inrush window, the current limit, a trip inside and outside the window, and the retry. -/
def Obligations.InrushAndTripsAct : Prop :=
  ∀ (s : State) (ch : Fin 16) (c : Nat), s.lead ch.val = c →
    ((s.chan c).inrRearm = true → (s.chan c).out = true → 1000 ≤ (s.chan c).idleMs →
      ∃ t, exec (.livePlugWindow ch) s = .next t ∧ t.chan c = { s.chan c with window := true, idleMs := 0 } ∧
        (∀ j, j ≠ c → t.chan j = s.chan j) ∧ t = { s with sw := t.sw }) ∧
    (∃ t, exec (.inrushWindowClose ch) s = .next t ∧ t.chan c = { s.chan c with window := false } ∧
      (∀ j, j ≠ c → t.chan j = s.chan j) ∧ t = { s with sw := t.sw }) ∧
    (s.inReverse ch.val = false → ∃ t, exec (.currentLimitReached ch) s = .next t ∧
      t.chan c = { s.chan c with
        limiting := (s.chan c).out,
        ilimHeld := if (s.chan c).limiting then (s.chan c).ilimHeld else s.param (P.lswIlim c) } ∧
      (∀ j, j ≠ c → t.chan j = s.chan j) ∧ t = { s with sw := t.sw }) ∧
    (∃ t, exec (.limitTimerReset ch) s = .next t ∧ t.chan c = { s.chan c with limiting := false } ∧
      (∀ j, j ≠ c → t.chan j = s.chan j) ∧ t = { s with sw := t.sw }) ∧
    (∀ hard, s.seqRuns = true → s.inReverse c = false → (s.chan c).limiting = true → (s.chan c).window = true →
      (s.chan c).retries < (s.chan c).inrRetries → ∃ t, exec (.limitTrip ch hard) s = .next t ∧
        (t.chan c).backoff = true ∧ (t.chan c).out = false ∧ (t.chan c).curLatch = (s.chan c).curLatch ∧
        t.ctr = { s.ctr with trips := upd s.ctr.trips c fun n => wrapAdd 32 n 1 } ∧
        t = { s with sw := t.sw, ctr := t.ctr }) ∧
    (∀ hard, s.seqRuns = true → s.inReverse c = false → (s.chan c).limiting = true → (s.chan c).window = false →
      ∃ t, exec (.limitTrip ch hard) s = .next t ∧ (t.chan c).curLatch = true ∧ (t.chan c).out = false ∧
        (t.chan c).window = false ∧ (t.chan c).backoff = false ∧ t.holds (Ev.lswOc c) = true ∧
        t.ctr = { s.ctr with trips := upd s.ctr.trips c fun n => wrapAdd 32 n 1 } ∧
        t = { s.withLogs t with sw := t.sw, ctr := t.ctr }) ∧
    (∀ hard, s.seqRuns = true → s.inReverse c = false → (s.chan c).limiting = true → (s.chan c).window = true →
      (s.chan c).inrRetries ≤ (s.chan c).retries → ∃ t, exec (.limitTrip ch hard) s = .next t ∧
        (t.chan c).curLatch = true ∧ (t.chan c).out = false ∧ t.holds (Ev.lswRt c) = true) ∧
    ((s.chan c).backoff = true →
      (s.onChan c fun h => { h with backoff := false, retries := h.retries + 1 }).wantOn c = true →
      ∃ t, exec (.inrushRetry ch) s = .next t ∧ (t.chan c).out = true ∧ (t.chan c).backoff = false ∧
        (t.chan c).retries = (s.chan c).retries + 1 ∧ (t.chan c).window = (s.chan c).window ∧
        t = { s with sw := t.sw })

/-- R283, R284, R287: thermal shutdown and restart, the die's temperature warning, the active clamp. -/
def Obligations.ThermalAndClampAct : Prop :=
  ∀ (s : State) (ch : Fin 16) (c : Nat), s.lead ch.val = c →
    (∀ x, 170 ≤ x → (s.chan c).thermOff = false → (s.chan c).thermLatch = false → s.seqRuns = true →
      s.inReverse c = false →
      ∃ t, exec (.thermalShutdown ch x) s = .next t ∧ (t.chan c).out = false ∧ (t.chan ch.val).tjC = x ∧
        (t.chan c).thermLatch = (s.isOn (P.lswThMode c) || decide (s.param (P.lswThMaxcyc c) ≤
          ((s.chan c).thermUps.filter fun u => since s.plinth.upMs u < 60000).length)) ∧
        (t.chan c).thermOff = !(t.chan c).thermLatch ∧ t.holds (Ev.lswTh c) = true ∧
        t = { s.withLogs t with sw := t.sw }) ∧
    (∀ x, (s.onChan ch.val fun h => { h with tjC := x }).cool c = true → (s.chan c).thermOff = true →
      ∃ t, exec (.thermalRestart ch x) s = .next t ∧ (t.chan c).thermOff = false ∧ (t.chan ch.val).tjC = x ∧
        (t.chan c).thermLatch = (s.chan c).thermLatch ∧ (t.chan c).window = (s.chan c).window ∧
        t.holdsC (Ev.lswTh c) = false ∧ t = { s.withLogs t with sw := t.sw }) ∧
    (∀ (d : Fin 4) x, ∃ t, exec (.dieTempWarn d x) s = .next t ∧
      t.sw = { s.sw with die := upd s.sw.die d.val fun y => { y with tempC := x } } ∧
      (140 ≤ x → t.holds (Ev.dieWarn d.val) = true) ∧ t = { s.withLogs t with sw := t.sw }) ∧
    (∀ ma us mv, s.seqRuns = true → s.inReverse c = false → clampLimitMj ma * 2000000000 < mv * ma * us →
      ∃ t, exec (.clampEvent ch ma us mv) s = .next t ∧ t.holds (Ev.lswRt c) = true ∧ t = { s.withLogs t with
        ctr := { s.ctr with clamps := upd s.ctr.clamps c fun n => wrapAdd 32 n 1 } }) ∧
    (∀ ma us mv, s.inReverse c = false → mv * ma * us ≤ clampLimitMj ma * 2000000000 →
      exec (.clampEvent ch ma us mv) s = .next
      { s with ctr := { s.ctr with clamps := upd s.ctr.clamps c fun n => wrapAdd 32 n 1 } }) ∧
    (∀ d, s.seqRuns = true → s.inReverse c = false → (s.chan c).demand = .pwm d → (s.chan c).out = true →
      s.isOn (P.lswClampGuard c) = false → ∃ t, exec (.noFreewheel ch) s = .next t ∧ t.holds (Ev.lswRt c) = true ∧
        t = s.withLogs t) ∧
    (∀ d, s.seqRuns = true → s.inReverse c = false → (s.chan c).demand = .pwm d → (s.chan c).out = true →
      s.isOn (P.lswClampGuard c) = true → ∃ t, exec (.noFreewheel ch) s = .next t ∧ (t.chan c).curLatch = true ∧
        (t.chan c).out = false ∧ t.holds (Ev.lswRt c) = true ∧ t = { s.withLogs t with sw := t.sw })

/-- R291 to R293, R296, R301: heartbeats, fences, the self-test, the die's current limit and its supply. -/
def Obligations.DiesAreFencedAndSupplied : Prop :=
  ∀ (s : State) (d : Fin 4),
    (∃ t, exec (.heartbeatLoss d) s = .next t ∧ (t.sw.die[d]).hbAbs = true ∧
      (∀ j, j < 4 → 4 * d.val + j < s.chans → s.isOn (P.lswOrphan (s.lead (4 * d.val + j))) = true →
        (t.chan (4 * d.val + j)).out = false ∧ (t.chan (s.lead (4 * d.val + j))).orphan = true) ∧
      t = { s with sw := t.sw }) ∧
    (∃ t, exec (.heartbeatReturn d) s = .next t ∧ (t.sw.die[d]).hbAbs = false ∧
      (∀ j, j < 4 → (t.chan (4 * d.val + j)).orphan = false) ∧ t = { s.withLogs t with sw := t.sw }) ∧
    (∀ why, s.fence d.val = none → why ≠ .absent → why ≠ .repeated →
      ∃ t, exec (.dieFence d why) s = .next t ∧ (t.fence d.val).isSome = true ∧
        t.ctr.dieFences = upd s.ctr.dieFences d.val (fun _ => satAdd 8 (s.ctr.dieFences[d]) 1) ∧
        (∀ j, j < 4 → (t.chan (4 * d.val + j)).out = false) ∧ t.holds (Ev.dieFence d.val) = true ∧
        t = { s.withLogs t with sw := t.sw, ctr := t.ctr }) ∧
    (s.fence d.val = none → satAdd 8 (s.ctr.dieFences[d]) 1 < 3 → ∃ t, exec (.dieSelfTest d false) s = .next t ∧
      t.fence d.val = some .selftest ∧ (∀ j, j < 4 → (t.chan (4 * d.val + j)).out = false)) ∧
    (s.plinth.seq = .coldBoot → s.fence d.val = some .selftest → ∃ t, exec (.dieSelfTest d true) s = .next t ∧
      t.fence d.val = none ∧ t.holdsC (Ev.dieFence d.val) = false ∧
      t = { s.withLogs t with sw := t.sw, ctr := t.ctr }) ∧
    (s.dieLimitMa d.val < s.dieSumMa d.val → ∃ t, exec (.dieSumWarn d true) s = .next t ∧
      t.holds (Ev.dieWarn d.val) = true ∧ t = s.withLogs t) ∧
    (s.dieSumMa d.val ≤ s.dieLimitMa d.val → ∃ t, exec (.dieSumWarn d false) s = .next t ∧ t = s.withLogs t) ∧
    (∃ t, exec (.dieSupplyLoss d) s = .next t ∧ (t.sw.die[d]).supplied = false ∧
      (∀ j, j < 4 → (t.chan (4 * d.val + j)).out = false ∧ (t.chan (4 * d.val + j)).bus = true ∧
        (t.chan (4 * d.val + j)).thermOff = false ∧ (t.chan (4 * d.val + j)).thermLatch = false ∧
        ((s.chan (4 * d.val + j)).escalated = false → (t.chan (4 * d.val + j)).curLatch = false)) ∧
      t = { s.withLogs t with sw := t.sw }) ∧
    ((s.sw.die[d]).supplied = false → ∃ t, exec (.dieSupplyReturn d) s = .next t ∧
      t.sw = { s.sw with die := upd s.sw.die d.val fun x => { x with supplied := true } } ∧
      t = { s.withLogs t with sw := t.sw })

/-- R307, R308, R312, R313, R315, R321, R324: a firing, lock changes, the edge map, balancing, SYNC and braking. -/
def Obligations.RegulationAndBalancingAct : Prop :=
  ∀ (s : State) (r : Fin 2),
    (∀ dt fb iu vos vb low (u : State) k, (s.rail r.val).st.live = true → (s.rail r.val).braking = false →
      s.running r.val ≠ [] →
      u = ((({ s with power := { s.power with vbusMv := vb } }.onRail r.val fun x => { x with vos := vos }).emulate
        r.val dt vos vb).valleys r.val low) → u.comparator r.val fb iu = true → u.nextPhase r.val = some k →
      ∃ t, exec (.railFiring r dt fb iu vos vb low) s = .next t ∧ (t.rail r.val).vos = vos ∧
        (t.rail r.val).onTime = u.onTime r.val ((s.running r.val).getD k 0) vos vb ∧ 16 ≤ (t.rail r.val).onTime ∧
        (t.phase ((s.running r.val).getD k 0)).onLeft = (t.rail r.val).onTime ∧
        (t.phase ((s.running r.val).getD k 0)).offFor = 0 ∧
        (t.rail r.val).next = (k + 1) % (s.running r.val).length ∧
        (t.rail r.val).fsw = 8000 * s.param (P.armN r.val) ∧ (∀ q : Fin 2, q ≠ r → t.rail q.val = s.rail q.val) ∧
        t = { s with power := { s.power with vbusMv := vb }, arm := t.arm, free := s.free + 1 }) ∧
    (∀ dt fb iu vos vb low (u : State), (s.rail r.val).st.live = true → s.running r.val ≠ [] →
      u = ((({ s with power := { s.power with vbusMv := vb } }.onRail r.val fun x => { x with vos := vos }).emulate
        r.val dt vos vb).valleys r.val low) →
      ((s.rail r.val).braking = true ∨ u.comparator r.val fb iu = false ∨ u.nextPhase r.val = none) →
      exec (.railFiring r dt fb iu vos vb low) s = .next u) ∧
    (∀ dt fb iu vos vb low, ((s.rail r.val).st.live = false ∨ s.running r.val = []) →
      exec (.railFiring r dt fb iu vos vb low) s = .next ({ s with power := { s.power with vbusMv := vb } }.onRail r.val
        fun x => { x with vos := vos })) ∧
    (∀ k l, (s.rail r.val).st.live = true → ∃ t, exec (.lockChange r k l) s = .next t ∧
      t.rail r.val = { s.rail r.val with locked := k, corrLim := l } ∧
      ((s.rail r.val).locked ≠ k → t.holds (Ev.lockChange r.val) = true) ∧
      t = { s.withLogs t with arm := t.arm }) ∧
    (∀ vb : Nat, ∃ t, exec (.quietMapRecompute vb) s = .next t ∧
      t.arm = { s.arm with quiet := min (s.quietSlots vb) 255, mapMv := vb } ∧
      t = { s.withLogs t with power := { s.power with vbusMv := vb }, arm := t.arm }) ∧
    (∀ (i : PhaseMeans) (m : Int), m = ((s.running r.val).foldl (fun a p => a + s.senseMa p (i.uv.toList.getD p 0)) 0) /
        (max (s.running r.val).length 1 : Nat) → ∃ t, exec (.balanceTick r i) s = .next t ∧
      (∀ p : Fin 8, (s.running r.val).contains p.val = true → (t.arm.ph[p]).meanMa = s.senseMa p.val (i.uv[p])) ∧
      (∀ p : Fin 8, (s.running r.val).contains p.val = false → t.arm.ph[p] = s.arm.ph[p]) ∧
      (∀ p : Fin 8, (s.isOn (P.armBalEn r.val) = false ∨ s.seqRuns = false ∨ m < 500) →
        (t.arm.ph[p]).trim = (s.arm.ph[p]).trim) ∧
      (∀ p : Fin 8, (s.running r.val).contains p.val = true → s.isOn (P.armBalEn r.val) = true → s.seqRuns = true →
        500 ≤ m → (t.arm.ph[p]).trim = trimClip (s.trimLimit r.val)
          (trimStep m (s.senseMa p.val (i.uv[p]) - m) (s.arm.ph[p]).trim)) ∧
      (s.olNowMa r.val < (t.railMa r.val).natAbs → (t.rail r.val).olMs = (s.rail r.val).olMs + 1) ∧
      (∀ q : Fin 2, q ≠ r → t.rail q.val = s.rail q.val) ∧
      t = { s with arm := { s.arm with ph := t.arm.ph, rail := t.arm.rail } }.taskEnd 2) ∧
    (∀ p : Fin 8, s.trimLimit (s.railOf p.val) ≤ (s.phase p.val).trim.natAbs →
      ∃ t, exec (.balanceLimit p false) s = .next t ∧ (t.phase p.val).atLimit = true ∧
        t.holds (Ev.balanceLimit (s.railOf p.val)) = true ∧ t = { s.withLogs t with arm := t.arm }) ∧
    (∀ p : Fin 8, (∀ q : Fin 8, s.railOf q.val = s.railOf p.val →
        (s.phase q.val).trim.natAbs < max 1 (s.trimLimit (s.railOf p.val))) → ∃ t, exec (.balanceLimit p true) s =
          .next t ∧
      (∀ q : Fin 8, s.railOf q.val = s.railOf p.val → (t.arm.ph[q]).atLimit = false) ∧
      t.holdsC (Ev.balanceLimit (s.railOf p.val)) = false ∧ t = { s.withLogs t with arm := t.arm }) ∧
    (s.param P.armSyncMode = 1 → s.arm.sync = false → ∃ t, exec .syncAcquire s = .next t ∧
      t = { s.withLogs t with arm := { s.arm with sync := true, glideMs := 6 } }) ∧
    (s.arm.sync = true → ∃ t, exec .syncLoss s = .next t ∧
      t = { s.withLogs t with arm := { s.arm with sync := false, glideMs := 6 } }) ∧
    (s.isOn (P.armBrakeEn r.val) = true → (s.rail r.val).st.live = true → (s.rail r.val).braking = false →
      ∃ t, exec (.brakeStart r) s = .next t ∧ t.rail r.val = { s.rail r.val with braking := true } ∧
        (∀ p : Fin 8, p.val ∈ s.running r.val → (t.phase p.val).onLeft = 0) ∧
        t.ctr = { s.ctr with brakes := upd s.ctr.brakes r.val fun n => wrapAdd 32 n 1 } ∧
        t = { s with arm := t.arm, ctr := t.ctr }) ∧
    (∀ why, ∃ t, exec (.brakeEnd r why) s = .next t ∧ t.rail r.val = { s.rail r.val with braking := false } ∧
      t = { s with arm := t.arm })

/-- R317, R318, R320, R340: PLL lock with its checks, the end of a soft-start and of a soft-stop, and a TRK follower
that falls short. -/
def Obligations.RailsStartAndStop : Prop :=
  ∀ (s : State) (r : Fin 2),
    (∀ chk : PreStart, chk.rail = r → (s.rail r.val).st = .starting → (s.rail r.val).waitLeader = false →
      s.badPhases r.val chk = [] → chk.fbOpen = false → chk.preBias = false → s.enoughPhases r.val = true →
      ∃ t, exec (.pll384Locked chk) s = .next t ∧ t.plinth = { s.plinth with pll := s.pllWanted } ∧
        (s.plinth.mode = .run → t.plinth.pll = true) ∧ (chk.trkHigh = true → s.param (P.armTrackSrc r.val) = 2 →
          t.holds (Ev.trackFault r.val) = true) ∧
        (t.rail r.val).st = .starting ∧
        (∀ p : Fin 8, p.val ∈ s.slots r.val → (s.phase p.val).shed = 0 → (t.phase p.val).running = true)) ∧
    (∀ chk : PreStart, chk.rail = r → (s.rail r.val).st = .starting → (s.rail r.val).waitLeader = false →
      chk.fbOpen = true → ∃ t, exec (.pll384Locked chk) s = .next t ∧ (t.rail r.val).st = .faulted ∧
        (t.rail r.val).reason = 9 ∧ t.holds (Ev.railStop r.val) = true) ∧
    ((s.rail r.val).st = .starting → (s.rail r.val).waitLeader = false → s.running r.val ≠ [] →
      ∃ t, exec (.railUp r) s = .next t ∧ (t.rail r.val).st = .regulating ∧ (t.rail r.val).vref = s.vrefTarget r.val ∧
        t.holds (Ev.railUp r.val) = true ∧ (∀ q : Fin 2, q ≠ r → t.rail q.val = s.rail q.val) ∧
        t = { s.withLogs t with arm := t.arm, camyx := t.camyx, nfc := t.nfc, tab := t.tab }) ∧
    ((s.rail r.val).st = .stopping → (s.rail r.val).stopReason = 0 → ∃ t, exec (.softStopComplete r) s = .next t ∧
      (t.rail r.val).st = .stopped ∧ (t.rail r.val).vref = 0 ∧ (∀ q : Fin 2, q ≠ r → t.rail q.val = s.rail q.val) ∧
      t = { s.withLogs t with
        plinth := { s.plinth with pll := t.plinth.pll }, arm := t.arm, camyx := t.camyx, nfc := t.nfc, tab := t.tab }) ∧
    ((s.rail r.val).st = .stopping → (s.rail r.val).stopReason ≠ 0 → ∃ t, exec (.softStopComplete r) s = .next t ∧
      (t.rail r.val).st = .faulted ∧ (t.rail r.val).reason = (s.rail r.val).stopReason) ∧
    (s.param (P.armTrackSrc r.val) = 2 → (s.rail r.val).st = .starting → ∃ t, exec (.trackFault r) s = .next t ∧
      t.rail r.val = { s.rail r.val with tracking := false } ∧ t.holds (Ev.trackFault r.val) = true ∧
      t = { s.withLogs t with arm := t.arm })

/-- R330, R332 to R334, R336, R345: short-circuit limiting, overload, under-voltage and hiccups, VDRV, with their
restarts. -/
def Obligations.RailLimitsAndRestartsAct : Prop :=
  ∀ (s : State) (r : Fin 2),
    (∀ p : Fin 8, (s.phase p.val).running = true → (s.phase p.val).scAt = none → ∃ t, exec (.scLimit p) s = .next t ∧
      t.phase p.val = { s.phase p.val with
        scAt := some s.plinth.upMs, onLeft := 0, scNow := true, scRun := if (s.phase p.val).scNow then
          (s.phase p.val).scRun else (s.phase p.val).scRun + 1 } ∧
      t.holds (Ev.scTrip (s.railOf p.val)) = true ∧ t = { s.withLogs t with arm := t.arm }) ∧
    (∀ one, (s.rail r.val).st = .regulating → s.param (P.armOlTMs r.val) ≤ (s.rail r.val).olMs →
      ∃ t, exec (.overloadTimeout r one) s = .next t ∧
      (t.rail r.val).st = .stopping ∧ (t.rail r.val).stopReason = (if one then 4 else 3) ∧
      (t.rail r.val).caps.length = (s.rail r.val).caps.length + 1 ∧ t.holds (Ev.overload r.val) = true ∧
      t.ctr = { s.ctr with faults := upd s.ctr.faults r.val fun n => wrapAdd 32 n 1 } ∧
      t = { s.withLogs t with arm := t.arm, ctr := t.ctr }) ∧
    (∀ a, (s.rail r.val).st = .faulted → (s.rail r.val).reason = a → s.shutBegun = false → s.railSupply = true →
      ((a = 3 ∨ a = 4) → s.param (P.armOlRetryS r.val) ≠ 0 → ∃ t, exec (.overloadRetry r) s = .next t ∧
        (t.rail r.val).st = .starting ∧ (t.rail r.val).reason = 0) ∧
      (a = 5 → ∃ t, exec (.hiccupRestart r) s = .next t ∧ (t.rail r.val).st = .starting ∧
        (t.rail r.val).hiccups = (s.rail r.val).hiccups)) ∧
    (s.uvActive r.val = true → ∃ t, exec (.undervolt r true false) s = .next t ∧
      t.holds (Ev.undervolt r.val) = true ∧ t = s.withLogs t) ∧
    (∀ duty, s.uvActive r.val = true →
      min ((s.rail r.val).hiccups + 1) 15 < s.param (P.armHiccupMax r.val) →
      ∃ t, exec (.undervolt r duty true) s = .next t ∧ (t.rail r.val).st = .faulted ∧ (t.rail r.val).reason = 5 ∧
        (t.rail r.val).hiccups = min ((s.rail r.val).hiccups + 1) 15 ∧ t.holds (Ev.undervolt r.val) = true) ∧
    (∀ duty, s.uvActive r.val = true →
      s.param (P.armHiccupMax r.val) ≤ min ((s.rail r.val).hiccups + 1) 15 →
      ∃ t, exec (.undervolt r duty true) s = .next t ∧ (t.rail r.val).st = .faulted ∧ (t.rail r.val).reason = 6 ∧
        t.holds (Ev.railStop r.val) = true) ∧
    (∃ t, exec (.dropoutClear r) s = .next t ∧ t = s.withLogs t) ∧
    ((s.rail r.val).st = .regulating → ∃ t, exec (.hiccupCountClear r) s = .next t ∧
      t.rail r.val = { s.rail r.val with hiccups := 0 } ∧ t = { s.withLogs t with arm := t.arm }) ∧
    (∃ t, exec .vdrvLockout s = .next t ∧ t.arm.vdrvOk = false ∧ t.arm.vdrvDv ≤ 80 ∧
      ((s.rail r.val).st.live = true → (t.rail r.val).st = .faulted ∧ (t.rail r.val).reason = 7)) ∧
    (∃ t, exec .vdrvRelease s = .next t ∧ t.arm.vdrvOk = true ∧ 90 ≤ t.arm.vdrvDv ∧
      ((s.rail r.val).st = .faulted → (s.rail r.val).reason = 7 → s.shutBegun = false → s.busFullHigh = true →
        (t.rail r.val).st = .starting))

/-- R337, R338, R341 to R343, R345, R346: PLL loss and relock, the over-voltage latch, shed phases, the disagreement of
VOSx, and the writing of a fault record. -/
def Obligations.RailFaultsAndRecordsAct : Prop :=
  ∀ (s : State) (r : Fin 2),
    (s.plinth.rc48 = true → ∃ t, exec .pllLoss s = .next t ∧ t.plinth = { s.plinth with pll := false } ∧
      ((s.rail r.val).st.live = true → (t.rail r.val).st = .stopping ∧ (t.rail r.val).stopReason = 8 ∧
        t.holds (Ev.railStop r.val) = true)) ∧
    (s.plinth.rc48 = false → (s.rail r.val).st.live = true → ∃ t, exec .pllLoss s = .next t ∧
      (t.rail r.val).st = .faulted ∧ (t.rail r.val).reason = 8) ∧
    (∃ t, exec .pllRelock s = .next t ∧ t.plinth.pll = s.pllWanted ∧
      ((s.rail r.val).st = .faulted → (s.rail r.val).reason = 8 → s.shutBegun = false → s.railSupply = true →
        (t.rail r.val).st = .starting)) ∧
    (∀ pk, (s.rail r.val).st ≠ .stopped → (s.rail r.val).st ≠ .ovLatched →
      s.param (P.armOvPct r.val) * max (s.vrefTarget r.val) (s.rail r.val).vref ≤ 100 * pk →
        ∃ t, exec (.outOvLatch r pk) s = .next t ∧
      (t.rail r.val).st = .ovLatched ∧ (t.rail r.val).reason = 1 ∧ (t.rail r.val).braking = false ∧
      t.holds (Ev.outOv r.val) = true ∧
      t.ctr = { s.ctr with faults := upd s.ctr.faults r.val fun n => wrapAdd 32 n 1 }) ∧
    (∀ (p : Fin 8) why, (s.phase p.val).running = true → ∃ t, exec (.phaseFailedPath p why) s = .next t ∧
      t.phase p.val = { s.phase p.val with flagged := some why } ∧ t = { s with arm := t.arm }) ∧
    (∀ (p : Fin 8), s.seqRuns = true → (s.phase p.val).flagged = some .gate → s.railOf p.val = r.val →
      ∃ t, exec (.phaseShed p) s = .next t ∧ (t.phase p.val).running = false ∧ (t.phase p.val).shed = 2 ∧
        (t.phase p.val).flagged = none ∧ t.holds (Ev.phaseDegraded r.val) = true) ∧
    ((s.rail r.val).st = .regulating → s.targetMv r.val < 2 * (s.rail r.val).vos →
      ∃ t, exec (.vosMismatch r) s = .next t ∧ (t.rail r.val).st = .stopping ∧ (t.rail r.val).stopReason = 10 ∧
        t.holds (Ev.railStop r.val) = true ∧ t = { s.withLogs t with arm := t.arm, ctr := t.ctr }) ∧
    (∀ b l, s.seqRuns = true → (s.rail r.val).caps = b :: l → s.canReserve .faultRecord (4 * mj) = true →
      ∃ t, exec (.faultRecordWrite r) s = .next t ∧
        t.rail r.val = { s.rail r.val with caps := l, ring := (sealRec b :: (s.rail r.val).ring).take 8 } ∧
        t = ({ s with arm := t.arm }.taskEnd 1).taskEnd 6) ∧
    (∀ b l, s.seqRuns = true → (s.rail r.val).caps = b :: l → s.canReserve .faultRecord (4 * mj) = false →
      ∃ t, exec (.faultRecordWrite r) s = .next t ∧
        t.rail r.val = { s.rail r.val with caps := l, late := (s.rail r.val).late ++ [b] } ∧
        t.holds Ev.resRefused = true ∧ t = { s.withLogs t with arm := t.arm, ctr := t.ctr })

/-- R357 to R361, R378, R379: what the pilot word carries; lock gained by three good words, lost with the carrier or by
three bad ones; a level that rises at once and falls at the second word in a row; and time taken from the pilot. -/
def Obligations.PilotCarriesLevelAndTime : Prop :=
  ∀ s : State,
    (s.pilotOn = true → ∃ t, exec .pilotWordSend s = .next t ∧
      t.line.word.toNat % 4 = max s.line.cmd s.line.droop % 4 ∧ t.line.word.toNat / 4 % 8 = s.plinth.rtcSec % 8 ∧
      wordParity t.line.word = true ∧ t = { s with line := { s.line with word := t.line.word } }) ∧
    (∀ w : BitVec 10, (s.lineReceives = false ∨ s.ident.role = .head ∨ s.follower = true) →
      exec (.pilotWordReceived w) s = .next s) ∧
    (s.pilotOn = false → exec .pilotWordSend s = .next s) ∧
    (s.lineReceives = true → s.ident.role ≠ .head → s.follower = false → ∀ w : BitVec 10,
      (s.line.lock = true → wordParity w = false → ∃ t, exec (.pilotWordReceived w) s = .next t ∧
        t = { s with line := { s.line with
          pilot := true, bad := s.line.bad + 1, fall := none, nibbles := [],
          lastSfn := s.line.lastSfn.map fun x => (x + 1) % 8 } }) ∧
      (s.line.lock = false → wordParity w = true → s.line.good = 2 → (s.line.lastSfn = none ∨
          s.line.lastSfn = some ((w.toNat / 4 + 7) % 8)) →
        ∃ t, exec (.pilotWordReceived w) s = .next t ∧ t.line.lock = true ∧ t.line.bad = 0 ∧
          t.line.lastSfn = some (w.toNat / 4 % 8)) ∧
      (s.line.lock = false → wordParity w = true → s.line.good = 0 → ∃ t, exec (.pilotWordReceived w) s = .next t ∧
        t = { s with line := { s.line with pilot := true, good := 1, lastSfn := some (w.toNat / 4 % 8) } }) ∧
      (s.line.lock = true → wordParity w = true → s.line.lastSfn = none →
        (s.line.level < w.toNat % 4 → ∃ t, exec (.pilotWordReceived w) s = .next t ∧ t.line.level = w.toNat % 4) ∧
        (w.toNat % 4 < s.line.level → ∃ t, exec (.pilotWordReceived w) s = .next t ∧
          (s.line.fall = some (w.toNat % 4) → t.line.level = w.toNat % 4) ∧
          (s.line.fall = none → t.line.level = s.line.level ∧ t.line.fall = some (w.toNat % 4))))) ∧
    (∀ byWords, s.line.lock = true → (byWords = true → 3 ≤ s.line.bad) → ∃ t, exec (.pilotLoss byWords) s = .next t ∧
      t.line.lock = false ∧ t.line.nibbles = [] ∧ t.line.level = s.line.level ∧
      (∀ c : Fin 16, (t.sw.ch[c]).shift = 0) ∧ t.holds Ev.pilotLock = true) ∧
    (∀ x, s.line.applyT = some x → s.line.lock = true → ∃ t, exec .timeApply s = .next t ∧ t.line.applyT = none ∧
      (s.plinth.timeValid = false → t.plinth.rtcSec = x % 2 ^ 32 ∧ t.plinth.rtcSub = 0 ∧ t.plinth.timeValid = true) ∧
      (s.plinth.timeValid = true → s.plinth.rtcSub = 0 → (x = s.plinth.rtcSec + 3 ∨ x + 3 = s.plinth.rtcSec) →
        t.plinth.rtcSec = x % 2 ^ 32 ∧ t.holds Ev.timeStep = true) ∧
      (s.plinth.timeValid = true → s.plinth.rtcSub < 32768 → x = s.plinth.rtcSec + 1 → t.plinth = { s.plinth with
        slew := 100000 - (s.plinth.rtcSub * 100000 / 32768 : Nat) } ∧ t.ledger = s.ledger))

/-- R355, R356, R361 to R364, R366, R370, R377: the backoff of a superframe; an exchange of the HEAD; frames received
and counted; the reply window, and access frames. -/
def Obligations.FramesFollowTheSuperframe : Prop :=
  ∀ s : State,
    (∀ n, s.seqRuns = true → s.line.backoff = some n → ∃ t, exec .superframeStart s = .next t ∧
      t = { s with line := { s.line with
        exch := 0, used := 0, slotMs := if s.line.lock then 20 else s.line.slotMs,
        backoff := some (n - 1) } }.taskEnd 4) ∧
    (s.seqRuns = true → s.line.backoff = none → s.wantsJoin = true → s.line.joinSent = false → s.line.conflict = false →
      ∃ t n, exec .superframeStart s = .next t ∧ n < 4 ∧
        t = { s with
          line := { s.line with
            exch := 0, used := 0, slotMs := if s.line.lock then 20 else s.line.slotMs,
            backoff := some n },
          free := s.free + 1 }.taskEnd 4) ∧
    (∀ left (c : Cast) rest (x : List Byte × Bool) (n : Nat), s.pilotOn = true → s.seqRuns = true → s.line.exch < 4 →
      s.line.nodes = [] → s.line.joinAcks = [] → s.line.castQ = c :: rest → (∀ d ∈ s.line.castQ, d.ptype ≠ 2) →
      x = c.piece s.castMode s.laneCount (min left (44 - s.line.used)) →
      n = slotsOf s.castMode s.laneCount (17 + x.1.length) → n ≤ min left (44 - s.line.used) →
      (x.1 ≠ [] ∨ x.2 = true) →
      ∃ t b, exec (.headExchange left) s = .next t ∧
        b = frameBody 1 (s.param P.lineFeederId) c.addr 0 s.line.fseq false none (c.frag % 16 + flag x.2 7) c.ptype
          [0, 0, 0] x.1 ∧
        t = { s with
          line := { s.line with
            txOut := pushMax 4 s.line.txOut { lanes := s.activeLanes, mode := s.castMode, body := b },
            txMs := 20 * slotsOf s.castMode s.laneCount b.length, exch := s.line.exch + 1, used := s.line.used + n,
            slotMs := 0, fseq := wrapAdd 16 s.line.fseq 1, castQ := (c.after x).toList ++ rest },
          ctr := { s.ctr with lineTx := wrapAdd 32 s.ctr.lineTx 1 } }.taskEnd 4) ∧
    (∀ left, (s.pilotOn = false ∨ s.seqRuns = false ∨ 4 ≤ s.line.exch) → exec (.headExchange left) s = .next s) ∧
    (∀ d bs q, s.lineReceives = false → exec (.lineFrameReceived d bs q) s = .next s) ∧
    (∀ (d : Byte) bs q, s.lineReceives = true → (descMode d.toNat = none ∨ s.seqRuns = false) →
      exec (.lineFrameReceived d bs q) s = .next { s with line := { s.line with rxMs := 2 } }) ∧
    (∀ (d : Byte) bs q, s.lineReceives = true → (descMode d.toNat).isSome = true → s.seqRuns = true →
      (crcOk bs = false ∨ fieldAt bs 1 2 ≠ s.param P.lineFeederId) →
      ∃ t, exec (.lineFrameReceived d bs q) s = .next t ∧
        t = { s with line := { s.line with rxMs := 2 }, ctr := { s.ctr with
          lineCrc := wrapAdd 32 s.ctr.lineCrc 1 } }.taskEnd 4) ∧
    (∀ (d : Byte) bs q, s.lineReceives = true → (descMode d.toNat).isSome = true → s.seqRuns = true →
      crcOk bs = true → fieldAt bs 1 2 = s.param P.lineFeederId → fieldAt bs 0 1 % 8 = 4 →
      ∃ t, exec (.lineFrameReceived d bs q) s = .next t ∧ t.ctr = { s.ctr with lineRx := wrapAdd 32 s.ctr.lineRx 1 } ∧
        (s.isHead = true → ∀ n ∈ t.line.nodes, n.addr = fieldAt bs 3 1 → n.alert = true) ∧
        (∀ l : Fin 4, t.line.snr[l] = if s.activeLanes.getLsbD l.val then min q 255 else s.line.snr[l]) ∧
        t = { s with ctr := t.ctr, line := { s.line with
          rxMs := 2, snr := t.line.snr, nodes := t.line.nodes } }.taskEnd 4) ∧
    (∀ rlen (m : Fin 3), s.isHead = false → s.seqRuns = true → (s.line.joined = false ∨ s.line.lock = false) →
      ∃ t, exec (.replyWindow rlen m) s = .next t ∧ t = { s with line := { s.line with grantAt := s.plinth.upMs } }) ∧
    (∀ rlen (m : Fin 3), (s.isHead = true ∨ s.seqRuns = false) → exec (.replyWindow rlen m) s = .next s) ∧
    (∀ rlen, s.isHead = false → s.seqRuns = true → s.line.joined = true → s.mayBurst → s.line.tx = none →
      slotsOf .robust s.laneCount 14 ≤ rlen → ∃ t b, exec (.replyWindow rlen 2) s = .next t ∧
        b = frameBody 2 (s.param P.lineFeederId) 0 (s.param P.lineAddr) s.line.fseq false s.line.rxSeq 0 0 [] [] ∧
        t = { s with
          line := { s.line with
            mode := .robust, grantAt := s.plinth.upMs, alertDue := [],
            txOut := pushMax 4 s.line.txOut { lanes := s.activeLanes, mode := .robust, body := b },
            txMs := 20 * slotsOf .robust s.laneCount b.length, fseq := wrapAdd 16 s.line.fseq 1 },
          events := { s.events with alert := 0 },
          ctr := { s.ctr with lineTx := wrapAdd 32 s.ctr.lineTx 1 } }.taskEnd 4) ∧
    (s.line.backoff = some 0 → s.seqRuns = true → s.mayBurst → s.line.joined = false → s.wantsJoin = true →
      ∃ t b, exec .accessFrameSend s = .next t ∧
        b = accessBody 3 (s.param P.lineFeederId) (s.param P.lineAddr) s.lineUid ∧
        t = { s with
          line := { s.line with
            backoff := none, joinSent := true,
            txOut := pushMax 4 s.line.txOut { lanes := s.activeLanes, mode := .diversity, body := b },
            txMs := 20 * slotsOf .diversity s.laneCount b.length },
          ctr := { s.ctr with lineTx := wrapAdd 32 s.ctr.lineTx 1 } }) ∧
    (∀ g rest, s.line.backoff = some 0 → s.seqRuns = true → s.mayBurst → s.line.joined = true →
      s.line.alertDue = g :: rest → ∃ t b, exec .accessFrameSend s = .next t ∧
        b = accessBody 4 (s.param P.lineFeederId) (s.param P.lineAddr) (toLe 1 g) ∧
        t = { s with
          line := { s.line with
            backoff := none, alertDue := rest,
            txOut := pushMax 4 s.line.txOut { lanes := s.activeLanes, mode := .diversity, body := b },
            txMs := 20 * slotsOf .diversity s.laneCount b.length },
          ctr := { s.ctr with lineTx := wrapAdd 32 s.ctr.lineTx 1 } }) ∧
    (s.line.backoff = some 0 → s.seqRuns = true → s.line.lock = true → s.txFree = true → s.plinth.mode = .run →
      s.power.path = .onSto → s.harvesting = false → s.line.joined = false → s.wantsJoin = true →
      s.canReserve .lineTxDark (4 * slotsOf .diversity s.laneCount
        (accessBody 3 (s.param P.lineFeederId) (s.param P.lineAddr) s.lineUid).length * mj) = false →
      ∃ t, exec .accessFrameSend s = .next t ∧ t.line.txOut = s.line.txOut ∧ t.line.joinSent = true ∧
        t.holds Ev.resRefused = true) ∧
    (∀ g : Fin 16, s.line.joined = true → s.events.alert.getLsbD g.val = true →
      ∃ t, exec (.alertTrigger g) s = .next t ∧ t.line = { s.line with alertDue := s.line.alertDue ++ [g.val] } ∧
        t.events.alert.getLsbD g.val = false ∧
        t = { s with line := t.line, events := { s.events with alert := t.events.alert } })

/-- R362, R365, R368, R373 to R375: a JOIN accepted or refused, its retry, partial packets, lanes, and a node that is
lost or counts itself unjoined. -/
def Obligations.NodesJoinAndLeave : Prop :=
  ∀ s : State,
    (∀ (d : Byte) bs, s.isHead = true → s.lineReceives = true → s.seqRuns = true →
      (descMode d.toNat).isSome = true → crcOk bs = true → fieldAt bs 1 2 = s.param P.lineFeederId →
        fieldAt bs 0 1 % 8 = 3 →
      1 ≤ fieldAt bs 3 1 → fieldAt bs 3 1 ≤ 250 →
      (∀ n ∈ s.line.nodes, n.addr = fieldAt bs 3 1 → n.uid = (bs.drop 4).take 8 ∨
          s.param P.lineNodeLostS * 1000 ≤ since s.plinth.upMs n.heardAt) →
      ∃ t, exec (.joinReceived d bs) s = .next t ∧
        t.line.nodes = (s.line.nodes.filter fun n => n.addr ≠ fieldAt bs 3 1) ++
          [newNode (fieldAt bs 3 1) ((bs.drop 4).take 8) s.plinth.upMs] ∧
        t.line.joinAcks = s.line.joinAcks ++ [(bs.drop 4).take 8 ++ toLe 1 (fieldAt bs 3 1) ++ toLe 1 0] ∧
        t.holds Ev.nodeChange = true) ∧
    (∀ (d : Byte) bs n, s.isHead = true → s.lineReceives = true → s.seqRuns = true →
      (descMode d.toNat).isSome = true → crcOk bs = true → fieldAt bs 1 2 = s.param P.lineFeederId →
        fieldAt bs 0 1 % 8 = 3 →
      1 ≤ fieldAt bs 3 1 → fieldAt bs 3 1 ≤ 250 → s.node? (fieldAt bs 3 1) = some n → n.uid ≠ (bs.drop 4).take 8 →
      since s.plinth.upMs n.heardAt < s.param P.lineNodeLostS * 1000 →
      ∃ t, exec (.joinReceived d bs) s = .next t ∧ t.line.nodes = s.line.nodes ∧
        t.line.joinAcks = s.line.joinAcks ++ [(bs.drop 4).take 8 ++ toLe 1 (fieldAt bs 3 1) ++ toLe 1 1] ∧
        t.holds Ev.addrConflict = true) ∧
    (s.line.joinSent = true → s.line.joined = false → ∃ t n, exec .joinRetry s = .next t ∧
      n < 2 ^ (min (s.line.joinTry + 1) 4 + 2) ∧
      t = { s with line := { s.line with joinSent := false, joinTry := min (s.line.joinTry + 1) 4, backoff := some n }
                   free := s.free + 1 }) ∧
    (∀ a, (s.isHead = false → ∃ t, exec (.reassemblyTimeout a) s = .next t ∧
        t = { s with line := { s.line with rx := none, rxCast := none } }) ∧
      (s.isHead = true → ∃ t, exec (.reassemblyTimeout a) s = .next t ∧
        (∀ n ∈ t.line.nodes, n.addr = a → n.rx = none) ∧
        (∀ n ∈ s.line.nodes, n.addr ≠ a → n ∈ t.line.nodes) ∧
          t = { s with line := { s.line with nodes := t.line.nodes } })) ∧
    (∀ l : Fin 4, s.isHead = true → s.line.lanes.getLsbD l.val = true →
      s.line.lanes &&& ~~~(BitVec.ofNat 4 (2 ^ l.val)) ≠ 0 → ∃ t, exec (.laneDrop l false) s = .next t ∧
        (∀ k : Fin 4, t.line.lanes.getLsbD k.val = (s.line.lanes.getLsbD k.val && k != l)) ∧
        t.holds Ev.laneDrop = true ∧ t = { s.withLogs t with line := { s.line with lanes := t.line.lanes } }) ∧
    (∀ l : Fin 4, s.line.lanes = BitVec.ofNat 4 (2 ^ l.val) → ∃ t, exec (.laneDrop l false) s = .next t ∧ t = s) ∧
    (∀ a n, s.node? a = some n → s.param P.lineNodeLostS * 1000 ≤ since s.plinth.upMs n.heardAt →
      ∃ t, exec (.nodeLost a) s = .next t ∧ t.line.nodes = s.line.nodes.filter (fun n => n.addr ≠ a) ∧
        t.node? a = none ∧ t.holds Ev.nodeChange = true) ∧
    (s.line.joined = true → s.param P.lineNodeLostS * 1000 ≤ since s.plinth.upMs s.line.grantAt →
      ∃ t, exec .nodeUnjoin s = .next t ∧
        t = { s with line := { s.line with 
          joined := false, joinSent := false, joinTry := 0, backoff := none, tx := none, rx := none } })

/-- R378 to R381, R383 to R385: the level in effect, the SHED inhibit it asks for, droop, the pickup delay, and the
allowances with their day. -/
def Obligations.LevelsAndAllowancesAct : Prop :=
  ∀ s : State,
    ((s.line.lock = false → s.tab.leadLost = false → ∃ t, exec .pilotHoldExpiry s = .next t ∧ t.line.level = 0 ∧
        t.line.eff = t.levelOf ∧ t.tab = s.tab) ∧
      (s.line.lock = true → s.tab.leadLost = true →
        s.param P.linePilotHoldS * 1000 ≤ since s.plinth.upMs s.tab.leadAt → ∃ t, exec .pilotHoldExpiry s = .next t ∧
          t.tab.level = 0 ∧
        t.line.eff = t.levelOf ∧ t.line.level = s.line.level)) ∧
    (∀ x, s.line.cmdUntil = some x → since s.plinth.upMs x < 2 ^ 31 → s.levelFree = true →
      ∃ t, exec .shedHoldExpiry s = .next t ∧
      t.line.cmd = 0 ∧ t.line.cmdUntil = none ∧ t.line.eff = t.levelOf ∧
      (t.line.eff ≠ s.line.eff → t.holds Ev.shedChange = true) ∧
        (t.line.eff ≠ s.line.eff → ∀ c ∈ List.range s.chans, (t.chan c).shed =
        (decide (1 ≤ t.line.eff) && decide (s.param (P.lineShedFrom (t.line.eff - 1)) ≤ s.param (P.lswShedClass c))))) ∧
    (∀ (l : Fin 4) (v : Int), s.line.droop < l.val → v < (s.droopMv l.val : Int) → s.levelFree = true →
      ∃ t, exec (.droopRise l v) s = .next t ∧ t.line.droop = l.val ∧ t.power = { s.power with vbusMv := v } ∧
        t.holds Ev.droopShed = true ∧ t.line.eff = t.levelOf ∧
        (t.line.eff ≠ s.line.eff → ∀ c ∈ List.range s.chans, (t.chan c).shed =
          (decide (1 ≤ t.line.eff) && decide (s.param (P.lineShedFrom (t.line.eff - 1)) ≤ s.param (P.lswShedClass c))) ∧
          ((t.chan c).shed = true → (s.chan c).shed = false → (t.chan c).pickAt = none ∧ (t.chan c).window = false))) ∧
    (∀ v : Int, s.levelFree = true → 0 < s.line.droop →
      ((s.droopMv s.line.droop + s.param P.lineDroopRelMv : Nat) : Int) < v →
      ∃ t, exec (.droopFall v) s = .next t ∧ t.line.droop = s.line.droop - 1 ∧ t.line.eff = t.levelOf ∧
        (s.line.droop = 1 → t.holdsC Ev.droopShed = false) ∧ t.power = { s.power with vbusMv := v }) ∧
    (∀ (c : Fin 16) x, (s.chan c.val).pickAt = some x → (s.chan c.val).inhibited = false →
      ∃ t, exec (.pickupDelayExpiry c) s = .next t ∧ (t.chan c.val).pickAt = none ∧
        (∀ d : Fin 16, (t.chan d.val).demand = (s.chan d.val).demand) ∧ t = { s with sw := t.sw }) ∧
    (∀ k : Fin 8, s.classHit k.val = true → s.line.hit.getLsbD k.val = false →
      ∃ t, exec (.allowanceReached k) s = .next t ∧ t.line = { s.line with hit := t.line.hit } ∧
        (∀ j : Fin 8, t.line.hit.getLsbD j.val = (s.line.hit.getLsbD j.val || j == k)) ∧
        t.holds Ev.allowance = true ∧
        (∀ c ∈ List.range s.chans, s.param (P.lswShedClass c) = k.val → (t.chan c).allow = true)) ∧
    (∃ t, exec .allowanceDayStart s = .next t ∧ t.ctr = { s.ctr with eDayJ := Vector.replicate 16 0 } ∧
      t.line.dayUp = s.plinth.upMs ∧ (s.plinth.timeValid = true → t.line.dayTime = some s.plinth.rtcSec) ∧
      (∀ k : Fin 8, t.classJ k.val = 0))

/-- R388, R415: the transmitter that stops on a fault of its coupling and is tried again; two heads on one feeder. -/
def Obligations.TransmitterAndHeadsYield : Prop :=
  ∀ s : State,
    (∀ short, ∃ t, exec (.txFault short) s = .next t ∧ t.holds Ev.txFault = true ∧
      (s.line.txMs = 0 → t.ledger = s.ledger) ∧ t.txFree = false ∧ t.pilotOn = false ∧ t.pad .lnTx = .hiZ ∧
      t = { s.withLogs t with line := { s.line with txFault := true, txMs := 0 }, ledger := { s.ledger with
        res := t.ledger.res } }) ∧
    (∃ t, exec (.txFaultRetry true) s = .next t ∧ t.holdsC Ev.txFault = false ∧
      t = { s.withLogs t with line := { s.line with txFault := false } }) ∧
    (∃ t, exec (.txFaultRetry false) s = .next t ∧ t = s) ∧
    (∀ heard, s.isHead = true → s.line.listening = true → s.holds Ev.headClash = false →
      ∃ t, exec (.headStartupListenEnd heard) s = .next t ∧
      t.line = { s.line with
        listening := false, generating := !heard, stoodDown := heard,
        nodes := if heard then [] else s.line.nodes, joinAcks := if heard then [] else s.line.joinAcks } ∧
      t = { s with
        line := t.line, plinth := { s.plinth with tb8 := t.tb8Source, rc32Trim := t.plinth.rc32Trim },
        arm := { s.arm with glideMs := t.arm.glideMs } }) ∧
    (s.isHead = true → s.line.generating = true → ∃ t, exec .headClash s = .next t ∧
      t.holds Ev.headClash = true ∧ t.pilotOn = false ∧ (s.line.txMs = 0 → t.ledger = s.ledger) ∧
      t = { s.withLogs t with
        plinth := { s.plinth with tb8 := t.tb8Source, rc32Trim := t.plinth.rc32Trim },
        arm := { s.arm with glideMs := t.arm.glideMs }, ledger := { s.ledger with res := t.ledger.res },
        line := { s.line with generating := false, listening := true, nodes := [], joinAcks := [], txMs := 0 } }) ∧
    (∀ heard, s.isHead = true → s.line.listening = true → s.holds Ev.headClash = true →
      ∃ t, exec (.headClashListenEnd heard) s = .next t ∧ t.holdsC Ev.headClash = false ∧
      t = { s.withLogs t with
        plinth := { s.plinth with tb8 := t.tb8Source, rc32Trim := t.plinth.rc32Trim },
        arm := { s.arm with glideMs := t.arm.glideMs },
        line := { s.line with
          listening := false, generating := !heard, stoodDown := heard, clashByte := (s.line.clashByte + 1) % 8,
          nodes := if heard then [] else s.line.nodes, joinAcks := if heard then [] else s.line.joinAcks } }) ∧
    (s.isHead = true → s.line.stoodDown = true → ∃ t, exec (.stoodDownCheck true) s = .next t ∧
      t = { s with
        plinth := { s.plinth with tb8 := t.tb8Source, rc32Trim := t.plinth.rc32Trim },
        arm := { s.arm with glideMs := t.arm.glideMs },
        line := { s.line with listening := false, stoodDown := false, generating := true } })

/-- R396, R397, R399, R401, R402, R404, R405, R408 to R410, R413: the cycle, the frames received and counted, and the
gang shares that start and stop at a cycle. -/
def Obligations.LinkFramesActOnTheGang : Prop :=
  ∀ s : State,
    (s.linkHears = true → s.plinth.mode = .run → s.tab.lead = true → s.busCarries = true →
      ∃ t, exec .tabCycleStart s = .next t ∧ t.tab.cyc = (s.tab.cyc + 1) % 1000 ∧ t.tab.drive = true ∧
      t.tab.framesOut ≠ [] ∧ t.tab.members = s.memberMask ∧
      t.tab.qualified = qualifies (s.param P.tabIndex) s.memberMask s.tab.prevSet ∧
      (∀ r : Fin 2, t.tab.setCa[r] = s.gangSet r.val) ∧
      (∀ m : Fin 8, t.tab.member[m] = s.tab.member[m].map fun x => { x with missed := x.missed + 1 })) ∧
    ((s.linkHears = false ∨ s.plinth.mode ≠ .run ∨ (s.tab.lead = true ∧ s.busCarries = false) ∨
        (s.tab.lead = false ∧ (s.tab.inTab = false ∨ s.tab.tsync = false))) →
      exec .tabCycleStart s = .next { s with tab := { s.tab with drive := false, framesOut := [] } }) ∧
    (∀ u : State, s.linkHears = true → s.plinth.mode = .run → s.tab.lead = false → s.tab.inTab = true →
      s.tab.tsync = true →
      u = { s with tab := { s.tab with cyc := (s.tab.cyc + 1) % 1000, framesOut := [] } } →
      (s.tab.acked = true → exec .tabCycleStart s = .next
        ({ u with tab := { u.tab with framesOut := [u.memberFrame] } }.taskEnd 4)) ∧
      (s.tab.acked = false → u.tab.cyc % 50 = 49 → s.tab.joinWait = 0 → exec .tabCycleStart s = .next
        ({ u with tab := { u.tab with
          framesOut := [tabFrame (toLe 1 (s.param P.tabIndex + 32) ++ s.tabRecord)],
          joinWait := fieldAt s.ident.uid 0 1 % 8 + 1 } }.taskEnd 4))) ∧
    (∀ bs : List Byte, s.linkHears = true → crcOk bs = false →
      exec (.leadFrameReceived bs) s = .next { s with tab := { s.tab with crcErr := wrapAdd 32 s.tab.crcErr 1 } } ∧
      exec (.memberFrameReceived bs) s = .next { s with tab := { s.tab with crcErr := wrapAdd 32 s.tab.crcErr 1 } } ∧
      exec (.bulkFrameReceived bs) s = .next { s with tab := { s.tab with crcErr := wrapAdd 32 s.tab.crcErr 1 } } ∧
      exec (.joinFrameReceived bs) s = .next { s with tab := { s.tab with crcErr := wrapAdd 32 s.tab.crcErr 1 } }) ∧
    (∀ bs : List Byte, s.linkHears = false → exec (.leadFrameReceived bs) s = .next s ∧
      exec (.memberFrameReceived bs) s = .next s ∧ exec (.bulkFrameReceived bs) s = .next s ∧
      exec (.joinFrameReceived bs) s = .next s) ∧
    (∀ bs : List Byte, s.linkHears = true → s.tab.lead = false → bs.length = 26 → crcOk bs = true →
      fieldAt bs 0 1 / 8 = 1 →
      ∃ t, exec (.leadFrameReceived bs) s = .next t ∧ t.tab.inTab = true ∧ t.tab.lead = false ∧
        t.tab.leadLost = (s.busCarries && !s.tab.tsync) ∧ t.tab.leadIdx = fieldAt bs 0 1 % 8 ∧
          t.tab.cyc = fieldAt bs 1 2 % 1024 ∧
        t.tab.level = fieldAt bs 8 1 % 4 ∧ t.tab.allow = BitVec.ofNat 8 (fieldAt bs 9 1) ∧
        t.tab.members = BitVec.ofNat 8 (fieldAt bs 10 1) ∧ t.tab.qualified = bitAt (fieldAt bs 7 1) 5 ∧
        (∀ r : Fin 2, t.tab.rstate[r] = fieldAt bs 12 1 / 8 ^ r.val % 8) ∧
        (∀ r : Fin 2, s.carries r.val = true → s.tab.aside = false → s.tab.rstate[r] ≠ 1 → t.tab.rstate[r] = 1 →
          t.tab.acked = true →
          t.tab.startPend[r] = true) ∧ t.line.eff = t.levelOf ∧ t.plinth.tb8 = t.tb8Source) ∧
    (∀ bs x, s.linkHears = true → s.tab.lead = true → bs.length = 12 → crcOk bs = true → fieldAt bs 0 1 / 8 = 2 →
      s.member? (fieldAt bs 0 1 % 8) = some x → ∃ t, exec (.memberFrameReceived bs) s = .next t ∧
        t.member? (fieldAt bs 0 1 % 8) = some (x.take bs (s.tab.cyc % 20)) ∧
        (x.take bs (s.tab.cyc % 20)).mstate = BitVec.ofNat 8 (fieldAt bs 1 1) ∧
        (x.take bs (s.tab.cyc % 20)).phrun = BitVec.ofNat 8 (fieldAt bs 2 1) ∧
        (x.take bs (s.tab.cyc % 20)).ia = toInt 16 (fieldAt bs 4 2) ∧
        (x.take bs (s.tab.cyc % 20)).ib = toInt 16 (fieldAt bs 6 2) ∧ (x.take bs (s.tab.cyc % 20)).missed = 0) ∧
    (∀ bs, s.linkHears = true → s.tab.lead = false → bs.length = 12 → crcOk bs = true → fieldAt bs 0 1 / 8 = 2 →
      ∃ t, exec (.memberFrameReceived bs) s = .next t ∧
        t.tab.peers = upd s.tab.peers (fieldAt bs 0 1 % 8) (fun _ => fieldAt bs 2 1) ∧
        t.tab.member = s.tab.member) ∧
    (∀ bs : List Byte, s.linkHears = true → crcOk bs = true → fieldAt bs 0 1 / 8 = 3 →
      (fieldAt bs 1 1 % 8 ≠ s.param P.tabIndex → ∃ t, exec (.bulkFrameReceived bs) s = .next t ∧ t = s) ∧
      (fieldAt bs 1 1 % 8 = s.param P.tabIndex → bitAt (fieldAt bs 2 1) 6 = false →
        ∃ t, exec (.bulkFrameReceived bs) s = .next t ∧ t = { s with tab := { s.tab with
          bulkIn := (if bitAt (fieldAt bs 2 1) 5 then [] else s.tab.bulkIn) ++
            (bs.drop 5).take (fieldAt bs 3 2) } }) ∧
      (fieldAt bs 1 1 % 8 = s.param P.tabIndex → bitAt (fieldAt bs 2 1) 5 = true → bitAt (fieldAt bs 2 1) 6 = true →
        s.tab.lead = false → s.tab.inTab = true → fieldAt bs 0 1 % 8 = s.tab.leadIdx →
        ((bs.drop 5).take (fieldAt bs 3 2)).take 9 = toLe 1 5 ++ s.ident.uid →
        fieldAt ((bs.drop 5).take (fieldAt bs 3 2)) 9 1 = 0 → s.ident.uid.length = 8 →
        ∃ t, exec (.bulkFrameReceived bs) s = .next t ∧ t.holdsC Ev.setAside = false ∧
          t = { s.withLogs t with tab := { s.tab with
            bulkIn := [], acked := true, aside := false, adopting := false, asideReason := 0 } })) ∧
    (∀ bs : List Byte, s.linkHears = true → s.tab.lead = true → s.shutBegun = false → bs.length = 43 → crcOk bs = true →
      fieldAt bs 0 1 / 8 = 4 → s.member? (fieldAt bs 32 1 % 8) = none → fieldAt bs 32 1 % 8 ≠ s.param P.tabIndex →
      ∃ t code, exec (.joinFrameReceived bs) s = .next t ∧ code = s.entryCode (recOf ((bs.drop 1).take 40)) ∧
        t.member? (fieldAt bs 32 1 % 8) = some (newMember (recOf ((bs.drop 1).take 40)) code) ∧
        (code = 2 ∨ t.tab.bulkOut = s.tab.bulkOut ++ [(fieldAt bs 32 1 % 8, toLe 1 5 ++
          ((bs.drop 1).take 40).take 8 ++ toLe 1 (if code = 0 then 0 else 1 + 16 * code))]) ∧
        t.tab.members = t.memberMask ∧
        (code ≠ 0 ∨ (t.holds Ev.memberUp = true ∧ t.holdsC Ev.memberLost = false))) ∧
    (∀ r : Fin 2, s.tab.leadLost = false → s.carries r.val = true → ∃ t, exec (.gangShareStart r) s = .next t ∧
      t.tab.startPend[r] = false ∧ t.tab.stopPend[r] = false ∧
      (s.tab.stopPend[r] = true → (s.rail r.val).st.live = true →
        (t.rail r.val).st = .stopping ∧ (t.rail r.val).stopReason = 0) ∧
      (s.tab.stopPend[r] = false → s.tab.startPend[r] = true → (s.mayRestart r.val = true ∨ s.mayStart r.val = true) →
        (t.rail r.val).st = .starting))

/-- R394, R395, R403, R416: election, the loss of the lead's readback, TSYNC and the link fault. -/
def Obligations.LeadIsElectedAndTimed : Prop :=
  ∀ s : State,
    (s.linkHears = true → s.tab.lead = false → s.busCarries = true →
      (s.tab.inTab = false ∨ 100 ≤ since s.plinth.upMs s.tab.leadAt) → ∃ t, exec .electionStart s = .next t ∧
      t.line.eff = t.levelOf ∧ t = { s.withLogs t with
        tab := { s.tab with electing := true, leadLost := s.tab.inTab }, sw := t.sw,
        line := { s.line with eff := t.line.eff } }) ∧
    (s.linkHears = true → s.tab.electing = true → s.param P.tabLeadPrio ≠ 0 → ∃ t, exec .electionListenEnd s = .next t ∧
      t.tab.lead = true ∧ t.tab.inTab = true ∧ t.tab.electing = false ∧ t.tab.leadIdx = s.param P.tabIndex ∧
      t.tab.members = 0 ∧ t.tab.qualified = qualifies (s.param P.tabIndex) 0 s.tab.prevSet ∧
      t.holds Ev.leadChange = true ∧ t.line.eff = t.levelOf ∧ t.plinth.tb8 = t.tb8Source ∧
      t.line.generating = (s.ident.role == .head && (s.tab.inTab && s.tab.leadState.getLsbD 5)) ∧
      t.line.listening = (s.ident.role == .head && !(s.tab.inTab && s.tab.leadState.getLsbD 5))) ∧
    (s.tab.electing = true → s.param P.tabLeadPrio = 0 → ∃ t, exec .electionListenEnd s = .next t ∧ t = s) ∧
    (s.tab.lead = true → s.tab.readFails = 1 → s.tab.qualified = false → ∃ t, exec .readbackFailure s = .next t ∧
      t.tab = { s.tab with
        lead := false, electing := true, drive := false, readFails := 0, readFailed := true, framesOut := [] } ∧
      t.line.lock = false ∧
      t.plinth.tb8 = t.tb8Source) ∧
    (s.tab.lead = true → s.tab.readFails = 7 → s.tab.qualified = true → ∃ t, exec .readbackFailure s = .next t ∧
      t.holds Ev.linkFault = true ∧
      t = { s.withLogs t with tab := { s.tab with readFails := 8, readFailed := true } }) ∧
    (s.isOn P.tabEn = true → s.tab.lead = false → s.tab.tsync = false → ∃ t, exec .tsyncLock s = .next t ∧
      t.tab = { s.tab with tsync := true, leadLost := if s.tab.inTab then
        s.busCarries && decide (10 ≤ since s.plinth.upMs s.tab.leadAt) else s.tab.leadLost } ∧
          t.plinth.tb8 = t.tb8Source ∧
      (s.tab.inTab = true → s.plinth.mode ≠ .field → t.plinth.tb8 = .tsync)) ∧
    (s.tab.tsync = true → ∃ t, exec .tsyncLoss s = .next t ∧
      t.tab = { s.tab with tsync := false, leadLost := if s.tab.inTab && !s.tab.lead then
        s.busCarries else s.tab.leadLost } ∧ t.plinth.tb8 = t.tb8Source ∧
      t.plinth.tb8 ≠ .tsync) ∧
    (s.tab.lead = true → s.tab.drive = true → ∃ t, exec .tsyncContention s = .next t ∧ t.holds Ev.linkFault = true ∧
      t = s.withLogs t) ∧
    (s.linkHears = true → ∃ t, exec (.linkFault false) s = .next t ∧ t.holds Ev.linkFault = true ∧ t = s.withLogs t) ∧
    (s.linkHears = true → ∃ t, exec (.linkFault true) s = .next t ∧ t.holdsC Ev.linkFault = false ∧
      t = s.withLogs t)

/-- R412 to R414: a member that falls silent, is lost and returns; the loss of the lead; records that disagree. -/
def Obligations.MembersAreLostAndReturn : Prop :=
  ∀ (s : State) (m : Fin 8),
    (∀ x, s.tab.lead = true → s.tab.member[m] = some x → 3 ≤ x.missed → x.silentAt = none →
      ∃ t, exec (.memberSilent m) s = .next t ∧
        t.tab.member[m] = some { x with silentAt := some s.plinth.upMs, fresh := Vector.replicate 20 none } ∧
        (∀ k : Fin 8, k ≠ m → t.tab.member[k] = s.tab.member[k]) ∧
        t = { s with tab := { s.tab with member := t.tab.member } }) ∧
    (∀ x u, s.tab.lead = true → s.tab.member[m] = some x → x.silentAt = some u → x.lost = false →
      s.param P.tabLostT ≤ since s.plinth.upMs u → ∃ t, exec (.memberLost m) s = .next t ∧
        t.tab.member[m] = some { x with lost := true } ∧ t.tab.members.getLsbD m.val = false ∧
        t.tab.qualified = qualifies (s.param P.tabIndex) t.tab.members s.tab.prevSet ∧
        t.holds Ev.memberLost = true ∧ t.line.eff = t.levelOf ∧ t = { s.withLogs t with
          tab := t.tab, arm := { s.arm with glideMs := t.arm.glideMs, quiet := t.arm.quiet, mapMv := t.arm.mapMv },
          sw := t.sw, line := { s.line with eff := t.line.eff } }) ∧
    (s.tab.inTab = true → s.busCarries = true → (s.tab.lead = false ∨ s.tab.qualified = false) →
      s.param P.tabLostT ≤ since s.plinth.upMs s.tab.leadAt → ∃ t, exec .leadLostTimeout s = .next t ∧
        (∀ r : Fin 2, s.carries r.val = true → (s.rail r.val).st.live = true → (t.rail r.val).st = .stopping) ∧
        t = { s with arm := { s.arm with rail := t.arm.rail } }) ∧
    (∀ x u w, s.tab.lead = true → s.tab.member[m] = some x → x.silentAt = some u → x.lost = false →
      since s.plinth.upMs u < s.param P.tabLostT → recWords x.fresh 0 20 = some w →
      recWords x.record 0 8 = some (w.take 8) → ∃ t, exec (.memberReturn m) s = .next t ∧
        t.tab.member[m] = some { x with silentAt := none, missed := 0, record := x.fresh } ∧
        t.holds Ev.memberUp = true ∧ t = { s.withLogs t with
          tab := t.tab, arm := { s.arm with glideMs := t.arm.glideMs, quiet := t.arm.quiet, mapMv := t.arm.mapMv } }) ∧
    (∀ x u w, s.tab.lead = true → s.tab.member[m] = some x → x.silentAt = some u → x.lost = true →
      recWords x.fresh 0 20 = some w → 
      ∃ t, exec (.memberReturn m) s = .next t ∧ t.tab.member[m] = some { x with
          silentAt := none, missed := 0, lost := false, record := x.fresh, aside := s.entryCode x.fresh } ∧
        (s.entryCode x.fresh ≠ 0 ∨ (t.holds Ev.memberUp = true ∧ t.holdsC Ev.memberLost = false)) ∧
          t = { s.withLogs t with
          tab := t.tab, arm := { s.arm with glideMs := t.arm.glideMs, quiet := t.arm.quiet, mapMv := t.arm.mapMv } }) ∧
    (∀ x, s.tab.lead = true → s.tab.member[m] = some x → x.lost = false → s.recordFault x.record ≠ 0 →
      ∃ t, exec (.disagreementCheck m) s = .next t ∧
        t.tab.member[m] = some { x with aside := s.recordFault x.record } ∧ t.tab.members.getLsbD m.val = false ∧
        t = { s.withLogs t with
          tab := t.tab, arm := { s.arm with glideMs := t.arm.glideMs, quiet := t.arm.quiet, mapMv := t.arm.mapMv } }) ∧
    (∀ run cfg, s.tab.lead = false → s.tab.inTab = true → m.val = s.param P.tabIndex →
      recWords s.tab.leadRec 4 4 = some run → recWords s.tab.leadRec 8 4 = some cfg → s.recordFault s.tab.leadRec = 0 →
      run ≠ s.ownWords 4 4 → s.isOn P.tabAdopt = true → (s.tab.aside = false ∨ s.tab.asideReason ≠ 4) →
      ∃ t, exec (.disagreementCheck m) s = .next t ∧
        t = { s with
          tab := { s.tab with adopting := true, fwMix := s.otherFw s.tab.leadRec },
          config := { s.config with staged := [], maqGen := wrapAdd 16 s.config.maqGen 1 } }) ∧
    (∀ run cfg, s.tab.lead = false → s.tab.inTab = true → m.val = s.param P.tabIndex →
      recWords s.tab.leadRec 4 4 = some run → recWords s.tab.leadRec 8 4 = some cfg →
      s.recordFault s.tab.leadRec ≠ 0 → s.tab.aside = false → ∃ t, exec (.disagreementCheck m) s = .next t ∧
        t.tab.aside = true ∧ t.tab.asideReason = s.recordFault s.tab.leadRec ∧ t.holds Ev.setAside = true ∧
        (∀ r : Fin 2, s.carries r.val = true → (s.rail r.val).st.live = true → (t.rail r.val).st = .stopping) ∧
        t.sw = s.sw)

/-- R446, R448, R450, R451: the oldest capture written to the FIFO, the oldest entry dropped and counted when it is
full; the acknowledgement of a pulse that is not queued; the end of a pin's minimum assertion. -/
def Obligations.FifoAndPinsAct : Prop :=
  ∀ s : State,
    (∀ c rest, s.events.caps = c :: rest → s.events.fifo.length < 256 → ∃ t, exec .fifoWrite s = .next t ∧
      t = { s with events := { s.events with caps := rest, eseq := wrapAdd 16 s.events.eseq 1, fifo :=
        s.events.fifo ++ [({ cap := c, dropped := false, eseq := s.events.eseq } : FifoEntry)] } }.taskEnd 1) ∧
    (∀ c rest, s.events.caps = c :: rest → s.events.fifo.length = 256 → ∃ t, exec .fifoWrite s = .next t ∧
      t.events.fifo = s.events.fifo.drop 1 ++ [{ cap := c, dropped := true, eseq := s.events.eseq }] ∧
      t.events.lost = satAdd 32 s.events.lost 1 ∧ t.events.eseq = wrapAdd 16 s.events.eseq 1 ∧
      t.holds Ev.evtOverflow = true ∧ t = (s.withLogs t).taskEnd 1) ∧
    (s.events.caps = [] → ∃ t, exec .fifoWrite s = .next t ∧ t = s.taskEnd 1) ∧
    (∀ g b : Fin 16, bitAt (s.param (P.evtQG g.val)) b.val = false → ∃ t, exec (.pulseAckTimeout g b) s = .next t ∧
      (∀ h ∈ t.events.held, h.pulse = true → h.src.grp = g.val → h.src.bit = b.val → s.events.hasEntry h = true) ∧
      (∀ h ∈ s.events.held, (h.pulse = false ∨ h.src.grp ≠ g.val ∨ h.src.bit ≠ b.val) → h ∈ t.events.held) ∧
      t = { s with events := { s.events with held := t.events.held } }) ∧
    (∀ g b : Fin 16, bitAt (s.param (P.evtQG g.val)) b.val = true →
      ∃ t, exec (.pulseAckTimeout g b) s = .next t ∧ t = s) ∧
    (∀ p : Fin 2, ∃ t, exec (.evtPinMinHoldExpiry p) s = .next t ∧
      (∀ q : Fin 2, t.events.hold.getLsbD q.val = (s.events.hold.getLsbD q.val && q != p)) ∧
      t = { s with events := { s.events with hold := t.events.hold } })

/-- R453 to R457, R459: admission to the Patina RAM by tokens, records that take none, the SUMMARY of what was refused,
and the flush to NVM. -/
def Obligations.PatinaAdmitsAndFlushes : Prop :=
  ∀ s : State,
    (∀ c rest, s.seqRuns = true → s.patina.caps = c :: rest → c.exempt = false → s.patina.ram.length < 64 →
      0 < s.patina.tokens → ∃ t, exec .patinaCapture s = .next t ∧
        t = { s with
          ctr := { s.ctr with pseq := wrapAdd 32 s.ctr.pseq 1 },
          patina := { s.patina with caps := rest, tokens := s.patina.tokens - 1, ram := s.patina.ram ++
            [({
               pseq := s.ctr.pseq, up := c.up, time := c.time, pinned := c.pinned, byShutdown := false,
               pinRefused := false, released := false, body := c.body } : PatRec)] } }.taskEnd 1) ∧
    (∀ c rest, s.seqRuns = true → s.patina.caps = c :: rest → c.exempt = true → s.patina.ram.length < 64 →
      ∃ t, exec .patinaCapture s = .next t ∧ t.patina.tokens = s.patina.tokens ∧
        t.patina.ram.length = s.patina.ram.length + 1 ∧ t.patina.flushReq = (s.patina.flushReq || c.pinned) ∧
        t = { s with ctr := { s.ctr with pseq := wrapAdd 32 s.ctr.pseq 1 }, patina := t.patina }.taskEnd 1) ∧
    (∀ c rest, s.seqRuns = true → s.patina.caps = c :: rest → c.exempt = false → s.patina.tokens = 0 →
      ∃ t, exec .patinaCapture s = .next t ∧ t.patina.ram = s.patina.ram ∧
        t.ctr = { s.ctr with suppressed := satAdd 32 s.ctr.suppressed 1 } ∧ t.patina.refused.isSome = true ∧
        t.holds Ev.patinaSuppress = true ∧ t = { s.withLogs t with ctr := t.ctr }.taskEnd 1) ∧
    (s.patina.refused = none → ∃ t, exec .tokenGain s = .next t ∧
      t = { s with patina := { s.patina with tokens := min 64 (s.patina.tokens + 1) } }) ∧
    (∀ n g f l, s.patina.refused = some (n, g, f, l) → s.patina.ram.length < 64 → ∃ t, exec .tokenGain s = .next t ∧
      t.patina.refused = none ∧ t.patina.tokens = min 64 (s.patina.tokens + 1) - 1 ∧
      t.patina.ram.length = s.patina.ram.length + 1 ∧ t.ctr = { s.ctr with pseq := wrapAdd 32 s.ctr.pseq 1 } ∧
      t.holdsC Ev.patinaSuppress = false) ∧
    (s.mayFlush = true → s.flushDue = true → s.canReserve .patinaFlush (6 * mj) = true →
      (∀ r ∈ s.patina.ram, r.pinned = false) → s.patina.ring.length + s.patina.ram.length ≤ 4096 →
      ∃ t, exec (.patinaFlush true) s = .next t ∧ t.patina.ram = [] ∧ t.patina.ring = s.patina.ring ++ s.patina.ram ∧
        t.patina.pins = s.patina.pins ∧ t.patina.flushReq = false ∧ t.patina.lastFlush = s.plinth.upMs ∧
        t.nvm = s.ctr ∧ t.ledger = { s.ledger with
          res := dropJob .patinaFlush s.ledger.res, waiting := dropJob .patinaFlush s.ledger.waiting,
          fresh := dropJob .patinaFlush s.ledger.fresh } ∧
        t = { s.withLogs t with nvm := t.nvm, ledger := t.ledger }.taskEnd 6) ∧
    (s.mayFlush = true → s.flushDue = true → s.canReserve .patinaFlush (6 * mj) = true →
      ∃ t, exec (.patinaFlush false) s = .next t ∧
      t.patina.ram = s.patina.ram ∧ t.nvm = s.nvm ∧ t.holds Ev.nvmFault = true ∧
      t = { s.withLogs t with ledger := t.ledger }.taskEnd 6) ∧
    (s.mayFlush = true → s.flushDue = true → s.flushHeld = false →
      (s.ledger.waiting.any fun e => e.1 == .patinaFlush) = false → s.canReserve .patinaFlush (6 * mj) = false →
      ∀ ok, ∃ t, exec (.patinaFlush ok) s = .next t ∧ t.patina.ram = s.patina.ram ∧ t.nvm = s.nvm ∧
        t.ledger.waiting = s.ledger.waiting ++ [(.patinaFlush, 6 * mj)] ∧ t.holds Ev.resRefused = true)

/-- R460, R462, R463: the trace samples, is triggered and stops; a wear index and its step never fall, and a step that
rises is reported. -/
def Obligations.TraceAndWearAct : Prop :=
  ∀ s : State,
    (s.plinth.mode = .run → s.trace.st = .armed → s.trace.buf.length < 4096 → ∃ t, exec .traceSample s = .next t ∧
      t.trace.buf = s.trace.buf ++ [{
        up := s.plinth.upMs, v0 := s.traceValue 0, v1 := s.traceValue 1,
        v2 := s.traceValue 2, v3 := s.traceValue 3 }] ∧ t.trace.st = .armed ∧ t.trace.paused = false ∧
      t = { s with trace := t.trace }) ∧
    (s.trace.st = .triggered → s.trace.left = 0 → ∃ t, exec .traceSample s = .next t ∧ t = s) ∧
    (s.trace.st = .armed → s.trace.seen = true → ∃ t, exec .traceTrigger s = .next t ∧
      t = { s with trace := { s.trace with 
        st := .triggered, trig := s.trace.buf.length, left := (100 - s.trace.prePct) * 4096 / 100 } }) ∧
    (s.trace.st = .triggered → s.trace.left = 0 → ∃ t, exec .traceDone s = .next t ∧ t.trace.st = .complete ∧
      t.trace.buf = s.trace.buf ∧ t.holds Ev.traceDone = true ∧ t = s.withLogs t) ∧
    (∀ (d : Fin 4) (k x : Int), s.seqRuns = true → k < 5 → ∃ t, exec (.wearUpdate (.die d k x)) s = .next t ∧ t = s) ∧
    (∀ (d : Fin 4) (k x : Int), s.seqRuns = true → 5 ≤ k → ∃ t, exec (.wearUpdate (.die d k x)) s = .next t ∧
      t.ctr.wearDie[d] = (s.ctr.wearDie[d]).rise ((s.ctr.wearDie[d]).micro +
        scalePow (k.toNat ^ 5) (x - 125) 20 / 1000) ((s.ctr.wearDie[d]).driver + 1) ∧
      (s.ctr.wearDie[d]).micro ≤ (t.ctr.wearDie[d]).micro ∧ (s.ctr.wearDie[d]).step ≤ (t.ctr.wearDie[d]).step ∧
      ((s.ctr.wearDie[d]).step < (t.ctr.wearDie[d]).step → t.holds Ev.wearStep = true ∧
        t.holds (Ev.dieWarn d.val) = true) ∧
      (∀ e : Fin 4, e ≠ d → t.ctr.wearDie[e] = s.ctr.wearDie[e]) ∧ t = { s.withLogs t with ctr := t.ctr }) ∧
    (∀ (p : Fin 8) (n : Nat), s.seqRuns = true → ∃ t, exec (.wearUpdate (.limited p n)) s = .next t ∧
      t.ctr.wearPh[p] = (s.ctr.wearPh[p]).rise ((s.ctr.wearPh[p]).micro + 10000 * n) ((s.ctr.wearPh[p]).driver + n) ∧
      t = { s.withLogs t with ctr := { s.ctr with wearPh := t.ctr.wearPh } }) ∧
    (∀ n : Nat, s.seqRuns = true → ∃ t, exec (.wearUpdate (.nvm n)) s = .next t ∧
      t.ctr = { s.ctr with wearNvm := s.ctr.wearNvm.rise (n * 10000000) n } ∧
      (s.ctr.wearNvm.step < t.ctr.wearNvm.step → t.holds Ev.wearStep = true) ∧
      t = { s.withLogs t with ctr := t.ctr })

/-- R151 to R153, R155, R157, Table 5.11: a sequencer reset with its cause, what it discards and what goes on through
it; the watchdog's count and its fallback; the failure of RC48. -/
def Obligations.SequencerResetsLeaveTheRestRunning : Prop :=
  ∀ s : State, s.plinth.seq ≠ .off →
    (∃ t, exec .coreLockup s = .next t ∧ AfterSeqReset s t 4) ∧
    (∃ t, exec .vcoreBrownout s = .next t ∧ AfterSeqReset s t 5) ∧
    (s.seqRuns = true → s.sec.fwActiveB = s.sec.fwRunningB → ∃ t, exec .vcoreBrownout s = .next t ∧
      t.plinth.seq = .warmRestart) ∧
    (s.sec.fwActiveB ≠ s.sec.fwRunningB → ∃ t, exec .vcoreBrownout s = .next t ∧ t.plinth.seq = .coldBoot ∧
      t.life.st = .boot) ∧
    (s.seqRuns = true → s.plinth.mode ≠ .doze → s.plinth.wdtMs = 0 → s.sec.fwActiveB = s.sec.fwRunningB →
      s.sec.trial = false → s.plinth.wdtAt = none →
      1 < s.param P.sysWdtFallback → ∃ t, exec .watchdogExpiry s = .next t ∧ t.plinth.cause = 3 ∧
        t.plinth.seq = .warmRestart ∧ t.plinth.wdtRun = 1 ∧ t.plinth.wdtAt = some s.plinth.upMs ∧
        t.sec.fallbackReq = s.sec.fallbackReq ∧ t.ctr = { s.ctr with wdtCount := satAdd 16 s.ctr.wdtCount 1 } ∧
        t.holds Ev.wdtReset = true ∧ t.sw = s.sw ∧ t.arm = s.arm) ∧
    ((s.plinth.mode = .doze ∨ s.plinth.wdtMs ≠ 0) → exec .watchdogExpiry s = .next s) ∧
    (∀ u, s.seqRuns = true → s.plinth.mode ≠ .doze → s.plinth.wdtMs = 0 → s.plinth.wdtAt = some u →
      since s.plinth.upMs u < 600000 →
      s.param P.sysWdtFallback ≤ s.plinth.wdtRun + 1 → ∃ t, exec .watchdogExpiry s = .next t ∧ t.plinth.cause = 3 ∧
        t.plinth.seq = .coldBoot ∧ t.life.st = .boot ∧ t.sec.fallbackReq = true ∧ t.plinth.wdtRun = 0 ∧
        t.ctr = { s.ctr with wdtCount := satAdd 16 s.ctr.wdtCount 1 } ∧ t.sw = s.sw ∧ t.arm = s.arm) ∧
    (s.plinth.rc48 = true → ∃ t, exec .rc48Failure s = .next t ∧ t.plinth.cause = 6 ∧ t.plinth.rc48 = false ∧
      t.holds Ev.clkFail = true ∧ t.sw = s.sw ∧ t.arm = s.arm ∧ t.power = s.power ∧ t.ctr = s.ctr)

/-- R5, R26, R152, R154, R157, Table 5.10, R468: a device reset, its end, and the power-on reset of the Plinth. -/
def Obligations.DeviceAndPowerOnResetsAct : Prop :=
  ∀ (s : State) (straps : Straps),
    (s.plinthOn = true → ∃ t, exec .rstNAssert s = .next t ∧ t.plinth.cause = 1 ∧ t.plinth.seq = .off ∧
      t.plinth.rstLow = true ∧ t.plinth.prevUp = s.plinth.upMs ∧
      t.config = { s.config with staged := [], armed := none, armedBy := none, maqGen := 1 } ∧
      t.tab = { Tab.initial with prevSet := s.tab.prevSet } ∧
      (∀ r : Fin 2, t.arm.rail[r] = (s.arm.rail[r]).reset) ∧ t.sw.ch = s.sw.ch ∧ t.sw.die = s.sw.die ∧
      (∀ n : Fin 16, t.pad (.out n) = s.pad (.out n) ∧ t.pad (.gpio n) = .input (.down 100) ∧
        t.pad (.evt n) = .released) ∧
      t.pad .sync = .input (.down 100) ∧ t.pad .lnTx = .hiZ ∧ t.pad .lnRef = .off ∧ t.pad .tabP = .off ∧
      t.pad .u0Tx = .hiZ ∧ t.pad .sdo = .hiZ ∧ t.pad .hold = .off ∧
      t.power = s.power ∧ t.ctr = s.ctr ∧ t.nvm = s.nvm ∧ t.patina.ring = s.patina.ring ∧
      t.patina.pins = s.patina.pins) ∧
    (s.plinthOn = false → ∃ t, exec .rstNAssert s = .next t ∧
      t = { s with plinth := { s.plinth with rstLow := true } }) ∧
    (s.plinth.rstLow = true → s.plinthOn = true → s.plinth.testHeld = false → s.life.st ≠ .plinthStart →
      ∃ t, exec (.rstNRelease straps) s = .next t ∧ t.plinth.rstLow = false ∧ t.plinth.seq = .coldBoot ∧
        t.life.st = .boot ∧ t.ident.i2cAddr = 0x4C + (resistorStrap straps.u0deMv).1 ∧
        t.ident.roleStrap = (roleStrap straps).1 ∧ t.sw = s.sw ∧ t.power = s.power) ∧
    (s.plinthOn = true → s.plinth.rc48 = false → s.plinth.seq ≠ .off → s.plinth.rstLow = false →
      s.plinth.testHeld = false → ∃ t, exec .rc48RestartTimeout s = .next t ∧ t.plinth.cause = 8 ∧
        t.plinth.seq = .coldBoot ∧ t.life.st = .boot ∧ t.plinth.rc48 = true ∧ t.sw.ch = s.sw.ch ∧
        t.power = s.power ∧ t.ctr = s.ctr) ∧
    (s.power.path = .none → s.plinth.rstLow = false → straps.test = false →
      ∃ t, exec (.plinthPowerOnReset .bus straps) s = .next t ∧
      t.power.path = .onBus ∧ t.plinth.cause = 0 ∧ t.plinth.upMs = 0 ∧ t.plinth.seq = .coldBoot ∧ t.life.st = .boot ∧
      t.life.prev = .plinthStart ∧ t.life.carried = true ∧ t.ctr = s.nvm ∧ t.nvm = s.nvm ∧
      t.config.bankA = s.config.bankA ∧ t.config.bankB = s.config.bankB ∧
      t.sec = { s.sec with fallbackReq := false, fwOpen := false } ∧ t.patina.ring = s.patina.ring ∧
      t.patina.pins = s.patina.pins ∧ (∀ r : Fin 2, (t.arm.rail[r]).ring = (s.arm.rail[r]).ring) ∧
      t.pending = s.pending ∧ t.free = s.free) ∧
    (s.power.path = .none → 1000 ≤ s.power.stoMv → straps.test = false →
      ∃ t, exec (.plinthPowerOnReset .sto straps) s = .next t ∧ t.power.path = .onSto ∧ t.plinth.cause = 0 ∧
        t.plinth.seq = .off ∧ t.life.st = .plinthStart ∧ t.ctr = s.nvm) ∧
    (s.power.path = .none → straps.test = true → ∃ t, exec (.plinthPowerOnReset .bus straps) s = .next t ∧
      t.plinth.testHeld = true ∧ t.plinth.cause = 2 ∧ t.plinth.seq = .off) ∧
    (∀ src, s.mayPowerOn src = false → ∃ t, exec (.plinthPowerOnReset src straps) s = .next t ∧ t = s)

/-- R153, R154, R440, R441, Table 16.2 N4 and N5: a cold boot of the bank in use from a first start on the bus, of the
other bank where that one fails, and of neither; the end of a warm restart. -/
def Obligations.BootsEndInFirmwareOrRecovery : Prop :=
  ∀ (s : State) (chk : BootCheck),
    (s.plinth.seq = .coldBoot → s.life.prev = .plinthStart → s.power.path = .onBus → s.power.busQ = true →
      s.camyx.ops = [] → s.nfc.held = none → s.ctr.decomMark = false → s.romPasses chk s.sec.fwActiveB = true →
      s.sec.fallbackReq = false → (s.sec.trial = true → s.plinth.cause ≠ 3 ∧ s.plinth.cause ≠ 4) →
      ∃ t, exec (.coldBootComplete chk) s = .next t ∧ t.plinth.seq = .running ∧ t.plinth.mode = .run ∧
        t.life.st = .pickup ∧ t.sw.retained = true ∧ t.sec.fwRunningB = s.sec.fwActiveB ∧
        t.sec.fwActiveB = s.sec.fwActiveB ∧ t.plinth.wakes = [] ∧ t.ledger.fwStop = false) ∧
    (s.plinth.seq = .coldBoot → s.romPasses chk s.sec.fwActiveB = false →
      s.romPasses chk (!s.sec.fwActiveB) = true → s.acceptable s.sec.inactive = true → s.camyx.ops = [] →
      s.nfc.held = none → ∃ t, exec (.coldBootComplete chk) s = .next t ∧ t.sec.fwActiveB = !s.sec.fwActiveB ∧
        t.sec.fwRunningB = !s.sec.fwActiveB ∧ t.sec.fallbackRan = true ∧ t.sec.trial = false) ∧
    (s.plinth.seq = .coldBoot → s.romPasses chk s.sec.fwActiveB = false → s.romPasses chk (!s.sec.fwActiveB) = false →
      ∃ t, exec (.coldBootComplete chk) s = .next t ∧ t.plinth.seq = .recovery ∧ t.line.generating = false ∧
        t.sw = s.sw ∧ (∀ r : Fin 2, (t.rail r.val).st ≠ .starting ∧ (t.rail r.val).st ≠ .regulating) ∧
        t.config = s.config) ∧
    (s.plinth.seq ≠ .coldBoot → ∃ t, exec (.coldBootComplete chk) s = .next t ∧ t = s) ∧
    (s.plinth.seq = .warmRestart → s.life.st = .running → s.life.step ≠ 5 → s.power.busQ = true →
      s.power.path = .onBus → s.camyx.ops = [] → s.nfc.held = none → s.ctr.decomMark = false →
      ∃ t, exec .warmRestartComplete s = .next t ∧ t.plinth.seq = .running ∧ t.plinth.wakes = [] ∧
        t.plinth.mode = (if s.plinth.mode = .doze then .run else s.plinth.mode) ∧ t.life.st = .running ∧
        t.ledger.fwStop = false ∧ t.config.inForce = s.config.inForce ∧ t.sec.fallbackReq = false)

/-- R131, R132, R137, R138, R141, R143: XO32, its failure and its return; the end of RUN; housekeeping runs; wakes. -/
def Obligations.ClocksModesAndWakesAct : Prop :=
  ∀ s : State,
    (s.xoPowered = true → ∃ t, exec .xtalFail s = .next t ∧ t.plinth.xo = false ∧ t.plinth.xtalFail = true ∧
      t.plinth.tb8 = t.tb8Source ∧ t.plinth.tb8 ≠ .xo32 ∧ t.holds Ev.xtalFail = true ∧
      t = { s.withLogs t with plinth := t.plinth, arm := { s.arm with glideMs := t.arm.glideMs } }) ∧
    (s.xoPowered = true → s.plinth.xtalFail = true → ∃ t, exec .xtalRetry s = .next t ∧
      t = { s with plinth := { s.plinth with xo := true } }) ∧
    (s.plinth.xo = true → s.plinth.xtalFail = true → ∃ t, exec .xtalFailClear s = .next t ∧
      t.plinth.xtalFail = false ∧ t.plinth.xo = true ∧ t.plinth.rc32Trim = true ∧ t.plinth.tb8 = t.tb8Source ∧
      t.holdsC Ev.xtalFail = false) ∧
    (s.xoPowered = true → ∃ t, exec .xo32Started s = .next t ∧ t.plinth.xo = true ∧ t.plinth.rc32Trim = true ∧
      t.plinth.tb8 = t.tb8Source) ∧
    (s.plinth.mode = .run → s.seqRuns = true → s.workReady = false → s.active = false →
      (s.power.path = .onBus → ∃ t, exec .runLingerExpiry s = .next t ∧ t.plinth.mode = .doze ∧
        t.plinth.seq = .running ∧ t.sw = s.sw ∧ t.power = s.power ∧ t.life = s.life) ∧
      (s.power.path = .onSto → ∃ t, exec .runLingerExpiry s = .next t ∧ t.plinth.mode = .plinth ∧
        t.plinth.seq = .off ∧ t.plinth.rc48 = false ∧ t.trace.st = .idle ∧
        (s.line.lock = true ∨ t.sw = s.sw) ∧ t.power = s.power ∧
        t.life = s.life)) ∧
    (s.active = true → ∃ t, exec .runLingerExpiry s = .next t ∧ t = s) ∧
    (s.rests = true → s.plinth.seq = .off → s.plinth.rstLow = false → s.plinth.testHeld = false →
      s.camyx.ops = [] → ∃ t, exec .housekeepingRun s = .next t ∧ t.plinth.mode = .run ∧ t.plinth.seq = .running ∧
        t.plinth.hk = true ∧ t.plinth.wakes = [] ∧ t.life = s.life) ∧
    (s.plinth.hk = true → { s with plinth := { s.plinth with hk := false } }.holdsRun = false → s.power.path = .onSto →
      ∃ t, exec .housekeepingLimit s = .next t ∧
      t.plinth.mode = .plinth ∧ t.plinth.seq = .off ∧ t.plinth.hk = false) ∧
    (∀ w, s.wakeOn w = false → w ≠ .rtcRun → ∃ t, exec (.wakeSource w) s = .next t ∧ t = s) ∧
    (s.plinth.seq = .warmRestart → s.wakeOn .gpioEdge = true → ∃ t, exec (.wakeSource .gpioEdge) s = .next t ∧
      t.plinth.wakes.contains .gpioEdge = true ∧ t = { s with plinth := { s.plinth with wakes := t.plinth.wakes } }) ∧
    (s.rests = true → s.plinth.seq = .off → s.plinth.rstLow = false → s.plinth.testHeld = false →
      ∃ t, exec (.wakeSource .nfcField) s = .next t ∧ t.plinth.mode = .run ∧ t.plinth.seq = .running ∧
        t.plinth.wakes = []) ∧
    (s.plinth.mode = .doze → s.plinth.seq = .running → s.wakeOn .hostByte = true → s.power.vhostOn = true →
      bitAt (s.param P.sysPortEn) 0 = true →
      ∃ t, exec (.wakeSource .hostByte) s = .next t ∧ t.plinth.mode = .run ∧ t.plinth.wakes = [])

/-- R474 to R478, Tables 16.4 and 16.5: steps 2 to 5 of the shutdown. -/
def Obligations.ShutdownStepsAct : Prop :=
  ∀ s : State, s.seqRuns = true →
    (s.life.st = .shut1 → s.railsStopped = true → s.config.armed = none → ∃ t, exec .shutdownStep2 s = .next t ∧
      t.life = { s.life with st := .shut2 } ∧ (∀ c : Fin 16, (t.chan c.val).demand = (s.chan c.val).demand) ∧
      (∀ c : Fin 16, s.param (P.lswShedClass c.val) ≤ 7 → (t.chan c.val).shut = true ∧
        (s.power.gndOpen = false → s.inReset = false → s.lead c.val = c.val → (t.chan c.val).out = false)) ∧
      t = { s with life := t.life, sw := t.sw }) ∧
    (s.life.st = .shut1 → s.railsStopped = false → ∃ t, exec .shutdownStep2 s = .next t ∧ t = s) ∧
    (s.life.st = .shut2 → s.camyx.ops.any Op.holdsShut = true → ∃ t, exec .shutdownStep3 s = .next t ∧
      t = { s with life := { s.life with st := .shut3 } }) ∧
    ((s.life.st = .shut2 ∨ s.life.st = .shut3) → s.camyx.ops.any Op.holdsShut = false →
      ∃ t, exec .shutdownStep3 s = .next t ∧ t.life = { s.life with st := .shut4, commit := s.commitKind } ∧
        (∀ o ∈ t.camyx.ops, o.kind = .shelf → o.pnr = true) ∧
        t = { s with life := t.life, camyx := { s.camyx with ops := t.camyx.ops } }) ∧
    (s.life.st = .shut4 → s.life.commit = .full → s.life.again = false → ∃ t, exec .shutdownCommit s = .next t ∧
      t.life = { s.life with st := .shut5 } ∧ t.patina.ram = [] ∧ t.nvm = t.ctr ∧
      t.sw = { s.sw with saved := some s.demands } ∧
      (∀ r : Fin 2, (t.arm.rail[r]).late = [] ∧ (t.arm.rail[r]).caps = [] ∧ (t.arm.rail[r]).st = (s.arm.rail[r]).st)) ∧
    (s.life.st = .shut4 → s.life.commit = .none → ∃ t, exec .shutdownCommit s = .next t ∧
      t.life = { s.life with st := .shut5 } ∧ t.nvm = s.nvm ∧ t.sw = s.sw ∧ t.arm = s.arm ∧
      t.patina.ring = s.patina.ring ∧ t.patina.pins = s.patina.pins) ∧
    (s.life.st = .shut5 → s.life.shelfPend = false → s.camyx.resetOwed = none → s.plinth.mode ≠ .field →
      (s.life.restart = false → ∃ t, exec .plinthEntry s = .next t ∧ t.life.st = .down ∧ t.plinth.mode = .plinth ∧
        t.plinth.seq = .off ∧ (s.line.lock = true ∨ t.sw = s.sw) ∧ t.nvm = s.nvm) ∧
      (s.life.restart = true → ∃ t, exec .plinthEntry s = .next t ∧ t.life.st = .pickup ∧ t.plinth.mode = .run ∧
        t.life.restart = false ∧ t.life.railsUp = false))

/-- R480, R482, R485, R488: the pickups of a restart, the count of restarts, and the essential commit of a long
darkness. -/
def Obligations.PickupsBringTheLoadBack : Prop :=
  ∀ s : State,
    (s.life.st = .pickup → s.seqRuns = true → s.life.railsUp = false → ∃ t, exec .railPickup s = .next t ∧
      t.life = { s.life with railsUp := true } ∧
      (∀ r : Fin 2, s.autostarts r.val = true → s.ganged r.val = false →
        (s.mayStart r.val = true → (t.rail r.val).st = .starting) ∧
        (s.railSupply = false → (t.rail r.val).autoPend = true ∧ (t.rail r.val).st = .stopped)) ∧
      t.sw = s.sw ∧ t.power = s.power) ∧
    (∀ r : Fin 2, (s.rail r.val).autoPend = true → s.mayStart r.val = true →
      ∃ t, exec (.autostartPending r) s = .next t ∧ (t.rail r.val).st = .starting ∧
        (t.rail r.val).autoPend = false ∧ (s.plinth.mode = .doze ∨ t = { s.withLogs t with arm := t.arm })) ∧
    (∀ c : Fin 16, s.power.busQ = true → s.seqRuns = true → s.life.st = .pickup → (s.chan c.val).shut = true →
      ∃ t, exec (.channelPickup c) s = .next t ∧ (t.chan c.val).shut = false ∧
        (∀ d : Fin 16, (t.chan d.val).demand = (s.chan d.val).demand) ∧
        (s.life.railsUp = true → s.life.shelfPend = false → (∀ d ∈ List.range s.chans, d ≠ c.val →
          (s.chan d).shut = false) →
          t.life.st = .running) ∧
        t = { s with sw := t.sw, life := t.life }) ∧
    (∀ c : Fin 16, s.shutBegun = true → ∃ t, exec (.channelPickup c) s = .next t ∧ t = s) ∧
    (s.busCarries = true → ∃ t, exec .clpRetryReset s = .next t ∧
      t = { s with life := { s.life with retry := 0 } }) ∧
    (∀ mv, s.life.st = .down → s.power.path = .onSto → mv ≤ s.param P.pwrStoFloorMv + 100 →
      ∃ t, exec (.floorEssentialCommit mv) s = .next t ∧ t.nvm = t.ctr ∧ t.sw = s.sw ∧ t.life = s.life ∧
        (∀ r ∈ t.patina.ram, r.pinned = false))

/-- R489 to R492: SHELF on storage, its entry, the ways out of it and back, and the steps of DECOMMISSION. -/
def Obligations.ShelfAndDecommissionAct : Prop :=
  ∀ (s : State) (straps : Straps),
    (s.life.st = .shelfPending → s.life.shelfPend = true → s.power.path = .onSto → s.power.busQ = false →
      ∃ t, exec .shelfShutdownStart s = .next t ∧ t.life.st = .shut1 ∧ t.life.own = true ∧ t.life.shelfPend = true ∧
        t.sw.ch = s.sw.ch ∧ t.power = s.power) ∧
    (s.life.st = .shelfPending → s.power.busQ = true → ∃ t, exec .shelfShutdownStart s = .next t ∧ t = s) ∧
    (s.life.st = .shut5 → s.life.shelfPend = true → ∃ t, exec .shelfEntry s = .next t ∧ t.power.path = .shelf ∧
      t.plinth.mode = .shelf ∧ t.plinth.seq = .off ∧ t.power.vhostOn = false ∧ t.plinth.xo = false ∧
      t.harvest.csc = false ∧ t.harvest.teg.running = false ∧ t.nvm = s.nvm ∧ t.ctr = s.ctr) ∧
    (s.power.path = .shelf → s.param P.sysShelfWakeD ≠ 0 → straps.test = false →
      ∃ t, exec (.shelfTimer straps) s = .next t ∧ t.ctr = s.nvm ∧ t.life.shelfExit = some .shelfTimer ∧
        (105 * s.keepEff ≤ 100 * s.eOfMv s.power.stoMv → t.power.path = .onSto ∧
          (s.plinth.rstLow = true ∨ t.life.st = .plinthStart)) ∧
        (100 * s.eOfMv s.power.stoMv < 105 * s.keepEff → t.power.path = .onBak ∧
          (s.plinth.rstLow = true ∨ t.plinth.seq = .coldBoot))) ∧
    (s.power.path = .shelf → s.param P.sysShelfWakeD = 0 → ∃ t, exec (.shelfTimer straps) s = .next t ∧ t = s) ∧
    (s.shelfAgain = true → s.life.st = .running → s.plinthOn = true → ∃ t, exec .shelfReentry s = .next t ∧
      t.life.st = .shut1 ∧ t.life.shelfPend = true ∧ t.life.own = true ∧ t.nvm = s.nvm) ∧
    (s.power.busQ = true → ∃ t, exec .shelfMarkerClear s = .next t ∧
      t = { s with ctr := { s.ctr with shelfMark := false }, nvm := { s.nvm with shelfMark := false } }) ∧
    (s.life.st = .decommissioning → s.life.step = 2 → s.seqRuns = true →
      ∃ t, exec .decommissionOutputs s = .next t ∧ t.life = { s.life with step := 3 } ∧
        (∀ c ∈ List.range s.chans, (t.chan c).demand = .off) ∧
        (∀ r : Fin 2, (t.rail r.val).st ≠ .starting ∧ (t.rail r.val).st ≠ .regulating ∧ (t.rail r.val).st ≠ .faulted ∧
          (t.rail r.val).autoPend = false) ∧ t.config = s.config ∧ t.sec = s.sec) ∧
    (s.life.st = .decommissioning → s.life.step = 3 → s.seqRuns = true → s.railsStopped = true →
      ∃ t, exec .decommissionErase s = .next t ∧ t.life = { s.life with step := 4 } ∧
        t.config = { s.config with bankA := none, bankB := none } ∧
        (∀ k : Fin 10, t.sec.copyA.slots[k] = none ∧ t.sec.copyB.slots[k] = none) ∧
        (∀ b : Fin 168, t.ledger.cal.bins[b] = 0 ∧ t.ledger.nvmCal.bins[b] = 0) ∧ t.sw.saved = none ∧
        (∀ c : Fin 16, (t.sw.ch[c]).demand = .off) ∧ t.patina = s.patina ∧ t.nvm = s.nvm) ∧
    (s.life.st = .decommissioning → s.life.step = 4 → s.seqRuns = true → s.camyx.ops = [] →
      s.camyx.resetOwed = none → ∃ t, exec .decommissionReset s = .next t ∧ t.plinth.cause = 7 ∧ t.life.step = 5 ∧
        t.ctr = { s.ctr with decomMark := false } ∧ t.nvm = { s.nvm with decomMark := false } ∧
        t.config = { s.config with staged := [], maqGen := 1 } ∧
        (t.plinth.seq = .warmRestart ∨ t.plinth.seq = .coldBoot))

/-- R91: an abandoned cycle is counted, the sixteenth in a row on a channel raises MPPT_STARVED, and the next completed
cycle of that channel clears it. -/
def Obligations.AbandonedCyclesStarveTheTracker : Prop :=
  ∀ (s : State) (c : HarvestCh), (s.tracker c).running = true →
    (∃ t, exec (.trackerSkip c) s = .next t ∧ t.ctr = { s.ctr with poSkips := wrapAdd 32 s.ctr.poSkips 1 } ∧
      (t.tracker c).skips = (s.tracker c).skips + 1 ∧
      (16 ≤ (t.tracker c).skips → ∃ h ∈ t.events.held, h.src = Ev.mpptStarved ∧ h.detail = hrvDetail c) ∧
      ((t.tracker c).skips < 16 → t.events = s.events) ∧
      t = { s.withLogs t with harvest := t.harvest, ctr := t.ctr }) ∧
    (∀ uw, s.hrvHolds c = false → s.rxBusy = false → ∃ t, exec (.trackerPeriod c uw) s = .next t ∧
      (t.tracker c).skips = 0 ∧
      (∀ h ∈ t.events.held, h.src = Ev.mpptStarved → h.pulse = false → h.detail ≠ hrvDetail c) ∧
      (∀ h ∈ s.events.held, (h.src ≠ Ev.mpptStarved ∨ h.pulse = true ∨ h.detail ≠ hrvDetail c) →
        h ∈ t.events.held) ∧ t = { s.withLogs t with harvest := t.harvest })

/-- R284: a die sensor at 140 °C raises WARN TEMP for its die, below 130 °C it clears, and no output changes. -/
def Obligations.DieTemperatureWarns : Prop :=
  ∀ (s : State) (d : Fin 4) (x : Int), ∃ t, exec (.dieTempWarn d x) s = .next t ∧
    (140 ≤ x → ∃ h ∈ t.events.held, h.src = Ev.dieWarn d.val ∧ h.reason = 1) ∧
    (x < 130 → ∀ h ∈ t.events.held, h.src = Ev.dieWarn d.val → h.pulse = false → h.reason ≠ 1) ∧
    (130 ≤ x → x < 140 → t.events = s.events) ∧ t.sw.ch = s.sw.ch ∧
    (∀ h ∈ s.events.held, h.src ≠ Ev.dieWarn d.val → h ∈ t.events.held)

/-- R342: VOSx and FBx disagree for 1 ms on a regulating rail above half of its target; the rail soft-stops into state 5
with reason VOS, and RAIL_STOP is raised. Below half of the target nothing happens. -/
def Obligations.OutputSenseMismatchStopsTheRail : Prop :=
  ∀ (s : State) (r : Fin 2), (s.rail r.val).st = .regulating →
    (s.targetMv r.val < 2 * (s.rail r.val).vos → ∃ t u, exec (.vosMismatch r) s = .next t ∧
      (t.rail r.val).st = .stopping ∧ t.holds (Ev.railStop r.val) = true ∧ exec (.softStopComplete r) t = .next u ∧
      (u.rail r.val).st = .faulted ∧ (u.rail r.val).reason = 10 ∧ (∀ p : Fin 8, s.railOf p.val = r.val →
        (u.phase p.val).running = false)) ∧
    (2 * (s.rail r.val).vos ≤ s.targetMv r.val → exec (.vosMismatch r) s = .next s)

/-- R347: FAULT_READ returns a record whose MAGIC and CRC pass and answers STATE for any other; a record marked cleared
stands in its place with FLAGS bit 1 set and its CRC computed anew. -/
def Obligations.FaultRecordsAreCheckedAndMarked : Prop :=
  (∀ (s : State) (rq : Request) (w : Waiting), s.Ready 0x29 rq w →
    (∀ b, (s.rail (fieldAt w.body 0 1)).ring[fieldAt w.body 1 1]? = some b →
      exec (.faultRead rq) s = .next ((if recordOk b then (s.taken w).respond w .ok b
        else (s.taken w).respond w .state []).done w)) ∧
    ((s.rail (fieldAt w.body 0 1)).ring[fieldAt w.body 1 1]? = none →
      exec (.faultRead rq) s = .next (((s.taken w).respond w .state []).done w))) ∧
  (∀ (x : Rail) (i : Nat) (b : List Byte), x.ring[i]? = some b → recordOk b = true → ovRecord b = true →
    ∃ m, x.clearRecord.ring[i]? = some m ∧ recordOk m = true ∧ bitAt (fieldAt m 15 1) 1 = true ∧
      m.take 15 = b.take 15 ∧ (m.drop 16).take 44 = (b.drop 16).take 44) ∧
  (∀ (x : Rail) (i : Nat) (b : List Byte), x.ring[i]? = some b → ovRecord b = false →
    x.clearRecord.ring[i]? = some b)

/-- The command at the front of the queue is executed on the state with the rest of the queue. -/
def Obligations.StepRunsTheFrontCommand : Prop :=
  ∀ (c : Instr) (q : List Instr) (s : State), step { s with pending := c :: q } = exec c { s with pending := q }

/-- The model's choice (log 3): on an empty queue one step is one system tick of 1 ms. SYS_UPTIME_MS counts it modulo 2
^ 32 (R465), the RTC its 32.768 parts of 1/32,768 s, with the remainder in billionths of a part (R134, log 10), nothing
without a supply for the Plinth. -/
def Obligations.IdleStepIsOneTick : Prop :=
  ∀ s : State, s.pending = [] →
    (s.plinthOn = false → step s = .next s) ∧
    (s.plinthOn = true → ∃ t, step s = .next t ∧ t.plinth.upMs = (s.plinth.upMs + 1) % 2 ^ 32 ∧
      (s.plinth.slew = 0 → s.rtcPpb = 0 → s.plinth.rtcRem < 1000000000000 → s.plinth.rtcSub + 33 < 32768 →
        t.plinth.rtcSec = s.plinth.rtcSec % 2 ^ 32 ∧
        1000000000000 * t.plinth.rtcSub + t.plinth.rtcRem =
          1000000000000 * s.plinth.rtcSub + s.plinth.rtcRem + 32768000000000) ∧
      (s.plinth.slew = 0 → s.rtcPpb = 0 → 32736 ≤ s.plinth.rtcSub → s.plinth.rtcSub < 32768 →
        s.plinth.rtcRem < 1000000000000 → t.plinth.rtcSec = (s.plinth.rtcSec + 1) % 2 ^ 32 ∧
        1000000000000 * (t.plinth.rtcSub + 32768) + t.plinth.rtcRem =
          1000000000000 * s.plinth.rtcSub + s.plinth.rtcRem + 32768000000000) ∧
      (s.seqRuns = true → s.plinth.mode = .run → t.plinth.wdtMs = s.plinth.wdtMs - 1) ∧
      (s.plinth.mode ≠ .doze → s.tab.inTab = false → t.sw = s.sw ∧ t.tab = s.tab ∧ t.config = s.config ∧
        t.ledger = { s.ledger with res := t.ledger.res } ∧ t.ctr = s.ctr ∧ t.life = s.life ∧ t.events = s.events) ∧
      t.pending = [])

/-- The bounds of the clocks and the logs (R134, R135, R465, Table 15.1) are kept by every step from every state that
meets them. -/
def Obligations.EveryStepKeepsTheBounds : Prop :=
  ∀ s t : State, s.bounded → step s = .next t → t.bounded

/-- The state after reset meets the bounds of the clocks and the logs. -/
def Obligations.ResetIsWithinTheBounds : Prop := State.reset.bounded

/-- Every command completes from every state, and none changes the queue behind it or what is fixed in the chip: the
variant, the UID, the claim key and the attestation key. -/
def Obligations.CommandsLeaveQueueAndIdentity : Prop :=
  ∀ (c : Instr) (s : State), ∃ t, exec c s = .next t ∧ t.pending = s.pending ∧ t.ident.qb = s.ident.qb ∧
    t.ident.uid = s.ident.uid ∧ t.ident.claimKey = s.ident.claimKey ∧ t.ident.attKey = s.ident.attKey ∧
    t.ident.attCert = s.ident.attCert

/-- What a Plinth power-on reset leaves (R29, R130, R134, R152, Tables 5.10, 10.4, 15.1, 16.1): every output off with
its demand OFF, every rail stopped, no event, no session, time not set, uptime 0. That the device is a GP4890-QA in HOME
role with factory contents, started on STO, is the model's choice (log 4). -/
def Obligations.ResetLeavesThePowerOnState : Prop :=
  (∀ c, (State.reset.chan c).out = false ∧ (State.reset.chan c).demand = .off) ∧
    (∀ r, (State.reset.rail r).st = .stopped) ∧ (∀ p, (State.reset.phase p).running = false) ∧
    State.reset.events.fifo = [] ∧ State.reset.events.held = [] ∧ State.reset.plinth.timeValid = false ∧
    State.reset.plinth.upMs = 0 ∧ State.reset.plinth.cause = 0 ∧ State.reset.stamp = 0xFFFFFFFF ∧
    State.reset.life.st = .plinthStart ∧ State.reset.plinth.seq = .off ∧ State.reset.line.joined = false ∧
    State.reset.tab.inTab = false ∧ (∀ t, (State.reset.port t).est = none ∧ (State.reset.port t).replies = []) ∧
    State.reset.config.staged = [] ∧ State.reset.pending = [] ∧
    (∀ id, State.reset.param id = defaultOf State.reset.ident.role State.reset.ident.sto id)
end

