-- ==== Sys2Proof/Laws/Keep.lean ====
section
/-! SUPPORT. What every shared operation of the model keeps: the queue of commands, the identity of the chip, and, where
they hold before, the bounds of `State.clockBounded` and `State.logsBounded`. One lemma per operation; a meaning is then
walked through by the same steps. -/

namespace Sys2Proof.Machine

/-- A state with the queue `Q`, with what is fixed of the identity `K`, and, where `B` is asked for, with its clocks and
logs within their bounds. -/
structure Kept (B : Prop) (Q : List Instr) (K : Ident) (s : State) : Prop where
  qb : s.ident.qb = K.qb
  uid : s.ident.uid = K.uid
  ck : s.ident.claimKey = K.claimKey
  ap : s.ident.attKey = K.attKey
  ac : s.ident.attCert = K.attCert
  up : B → s.plinth.upMs < 2 ^ 32
  sec : B → s.plinth.rtcSec < 2 ^ 32
  sub : B → s.plinth.rtcSub < 32768
  fifo : B → s.events.fifo.length ≤ 256
  ram : B → s.patina.ram.length ≤ 64
  tok : B → s.patina.tokens ≤ 64
  pend : s.pending = Q

variable {B : Prop} {Q : List Instr} {K : Ident}

/-- A record update that leaves alone everything that `Kept` speaks of. -/
theorem Kept.of {e : State} {id pl po ha le co ca nf se sw ar li ta ev pa tr ct nv lf fr pe}
    (h1 : id.uid = e.ident.uid) (h2 : id.qb = e.ident.qb) (h3 : id.claimKey = e.ident.claimKey)
    (h4 : id.attKey = e.ident.attKey) (h5 : id.attCert = e.ident.attCert) (h6 : pl.upMs = e.plinth.upMs)
    (h7 : pl.rtcSec = e.plinth.rtcSec) (h8 : pl.rtcSub = e.plinth.rtcSub) (h9 : ev.fifo = e.events.fifo)
    (h10 : pa.ram = e.patina.ram) (h11 : pa.tokens = e.patina.tokens) (h12 : pe = e.pending) (h : Kept B Q K e) :
    Kept B Q K (State.mk id pl po ha le co ca nf se sw ar li ta ev pa tr ct nv lf fr pe) :=
  ⟨h2.trans h.qb, h1.trans h.uid, h3.trans h.ck, h4.trans h.ap, h5.trans h.ac, h6 ▸ h.up, h7 ▸ h.sec, h8 ▸ h.sub,
    h9 ▸ h.fifo, h10 ▸ h.ram, h11 ▸ h.tok, h12.trans h.pend⟩

/-- The same of an update given by its blocks. -/
theorem Kept.same {e x : State} (h : Kept B Q K e) (h1 : x.ident = e.ident) (h2 : x.plinth.upMs = e.plinth.upMs)
    (h3 : x.plinth.rtcSec = e.plinth.rtcSec) (h4 : x.plinth.rtcSub = e.plinth.rtcSub)
    (h5 : x.events.fifo = e.events.fifo) (h6 : x.patina.ram = e.patina.ram)
    (h7 : x.patina.tokens = e.patina.tokens) (h8 : x.pending = e.pending) : Kept B Q K x :=
  ⟨h1 ▸ h.qb, h1 ▸ h.uid, h1 ▸ h.ck, h1 ▸ h.ap, h1 ▸ h.ac, h2 ▸ h.up, h3 ▸ h.sec, h4 ▸ h.sub, h5 ▸ h.fifo, h6 ▸ h.ram,
    h7 ▸ h.tok, h8.trans h.pend⟩

theorem Kept.ite {c : Prop} [Decidable c] {a b : State} (ha : Kept B Q K a) (hb : Kept B Q K b) :
    Kept B Q K (if c then a else b) := by split <;> assumption

theorem Kept.foldl {α : Type} {f : State → α → State} (l : List α) {s : State} (h : Kept B Q K s)
    (hf : ∀ s x, Kept B Q K s → Kept B Q K (f s x)) : Kept B Q K (l.foldl f s) := by
  induction l generalizing s with
  | nil => exact h
  | cons x l ih => exact ih (hf _ _ h)

/-- A capture that leaves the FIFO for its pulse does not touch the FIFO. -/
theorem leave_fifo (e : Events) (c : Capture) : (e.leave c).fifo = e.fifo := by
  unfold Events.leave; dsimp only; split
  · rfl
  split <;> rfl

/-- `Kept` of the state in an answer that carries more. -/
def Kept1 {β : Type} (B : Prop) (Q : List Instr) (K : Ident) (x : State × β) : Prop := Kept B Q K x.1

def Kept2 {β : Type} (B : Prop) (Q : List Instr) (K : Ident) (x : β × State) : Prop := Kept B Q K x.2

theorem Kept1.mk {β : Type} {a : State} {b : β} (h : Kept B Q K a) : Kept1 B Q K (a, b) := h

theorem Kept2.mk {β : Type} {a : State} {b : β} (h : Kept B Q K a) : Kept2 B Q K (b, a) := h

theorem Kept.of_fst {β : Type} {x : State × β} {a : State} {b : β} (e : x = (a, b)) (h : Kept1 B Q K x) :
    Kept B Q K a := by rw [e] at h; exact h

theorem Kept.of_snd {β : Type} {x : β × State} {a : State} {b : β} (e : x = (b, a)) (h : Kept2 B Q K x) :
    Kept B Q K a := by rw [e] at h; exact h

theorem Kept1.ite {β : Type} {c : Prop} [Decidable c] {x y : State × β} (ha : Kept1 B Q K x) (hb : Kept1 B Q K y) :
    Kept1 B Q K (if c then x else y) := by split <;> assumption

theorem Kept2.ite {β : Type} {c : Prop} [Decidable c] {x y : β × State} (ha : Kept2 B Q K x) (hb : Kept2 B Q K y) :
    Kept2 B Q K (if c then x else y) := by split <;> assumption

theorem onChan_kept (s : State) (c : Nat) (f : Chan → Chan) (h : Kept B Q K s) :
    Kept B Q K (State.onChan s c f) := by
  unfold State.onChan
  repeat' first
    | intro _
    | with_reducible first | assumption
    | with_reducible
        refine Kept.of (e := ?_) ?_ ?_ ?_ ?_ ?_ ?_ ?_ ?_ ?_ ?_ ?_ ?_ ?_
        rotate_left; iterate 12 exact rfl

theorem onRail_kept (s : State) (r : Nat) (f : Rail → Rail) (h : Kept B Q K s) :
    Kept B Q K (State.onRail s r f) := by
  unfold State.onRail
  repeat' first
    | intro _
    | with_reducible first | assumption
    | with_reducible
        refine Kept.of (e := ?_) ?_ ?_ ?_ ?_ ?_ ?_ ?_ ?_ ?_ ?_ ?_ ?_ ?_
        rotate_left; iterate 12 exact rfl

theorem onPhase_kept (s : State) (p : Nat) (f : Phase → Phase) (h : Kept B Q K s) :
    Kept B Q K (State.onPhase s p f) := by
  unfold State.onPhase
  repeat' first
    | intro _
    | with_reducible first | assumption
    | with_reducible
        refine Kept.of (e := ?_) ?_ ?_ ?_ ?_ ?_ ?_ ?_ ?_ ?_ ?_ ?_ ?_ ?_
        rotate_left; iterate 12 exact rfl

theorem onPort_kept (s : State) (t : Transport) (f : Port → Port) (h : Kept B Q K s) :
    Kept B Q K (State.onPort s t f) := by
  unfold State.onPort
  repeat' first
    | intro _
    | with_reducible first | assumption
    | with_reducible
        refine Kept.of (e := ?_) ?_ ?_ ?_ ?_ ?_ ?_ ?_ ?_ ?_ ?_ ?_ ?_ ?_
        rotate_left; iterate 12 exact rfl

theorem draw_kept (s : State) (h : Kept B Q K s) :
    Kept B Q K (State.draw s) := by
  unfold State.draw
  repeat' first
    | intro _
    | with_reducible first | assumption
    | with_reducible
        refine Kept.of (e := ?_) ?_ ?_ ?_ ?_ ?_ ?_ ?_ ?_ ?_ ?_ ?_ ?_ ?_
        rotate_left; iterate 12 exact rfl

theorem logRec_kept (s : State) (pinned : Bool) (g : Nat) (b : PatBody) (h : Kept B Q K s) :
    Kept B Q K (State.logRec s pinned g b) := by
  unfold State.logRec
  repeat' first
    | intro _
    | with_reducible first | assumption
    | with_reducible
        refine Kept.of (e := ?_) ?_ ?_ ?_ ?_ ?_ ?_ ?_ ?_ ?_ ?_ ?_ ?_ ?_
        rotate_left; iterate 12 exact rfl

theorem raiseAs_kept (s : State) (src : Src) (pulse : Bool) (reason detail : Nat) (pinned : Bool) (h : Kept B Q K s) :
    Kept B Q K (State.raiseAs s src pulse reason detail pinned) := by
  unfold State.raiseAs
  repeat' first
    | intro _
    | with_reducible first | assumption | apply Kept.ite | apply logRec_kept
    | with_reducible
        refine Kept.of (e := ?_) ?_ ?_ ?_ ?_ ?_ ?_ ?_ ?_ ?_ ?_ ?_ ?_ ?_
        rotate_left; iterate 12 exact rfl
    | dsimp only
    | split

theorem raiseC_kept (s : State) (src : Src) (reason : Nat) (detail : Nat) (h : Kept B Q K s) :
    Kept B Q K (State.raiseC s src reason detail) := by
  unfold State.raiseC
  repeat' first
    | intro _
    | with_reducible first | assumption | apply raiseAs_kept
    | with_reducible
        refine Kept.of (e := ?_) ?_ ?_ ?_ ?_ ?_ ?_ ?_ ?_ ?_ ?_ ?_ ?_ ?_
        rotate_left; iterate 12 exact rfl

theorem raisePinC_kept (s : State) (src : Src) (reason : Nat) (detail : Nat) (h : Kept B Q K s) :
    Kept B Q K (State.raisePinC s src reason detail) := by
  unfold State.raisePinC
  repeat' first
    | intro _
    | with_reducible first | assumption | apply raiseAs_kept
    | with_reducible
        refine Kept.of (e := ?_) ?_ ?_ ?_ ?_ ?_ ?_ ?_ ?_ ?_ ?_ ?_ ?_ ?_
        rotate_left; iterate 12 exact rfl

theorem raiseP_kept (s : State) (src : Src) (reason : Nat) (detail : Nat) (h : Kept B Q K s) :
    Kept B Q K (State.raiseP s src reason detail) := by
  unfold State.raiseP
  repeat' first
    | intro _
    | with_reducible first | assumption | apply raiseAs_kept
    | with_reducible
        refine Kept.of (e := ?_) ?_ ?_ ?_ ?_ ?_ ?_ ?_ ?_ ?_ ?_ ?_ ?_ ?_
        rotate_left; iterate 12 exact rfl

theorem raisePinP_kept (s : State) (src : Src) (reason : Nat) (detail : Nat) (h : Kept B Q K s) :
    Kept B Q K (State.raisePinP s src reason detail) := by
  unfold State.raisePinP
  repeat' first
    | intro _
    | with_reducible first | assumption | apply raiseAs_kept
    | with_reducible
        refine Kept.of (e := ?_) ?_ ?_ ?_ ?_ ?_ ?_ ?_ ?_ ?_ ?_ ?_ ?_ ?_
        rotate_left; iterate 12 exact rfl

theorem raiseOnce_kept (s : State) (src : Src) (reason : Nat) (detail : Nat) (h : Kept B Q K s) :
    Kept B Q K (State.raiseOnce s src reason detail) := by
  unfold State.raiseOnce
  repeat' first
    | intro _
    | with_reducible first | assumption | apply Kept.ite | apply raiseC_kept
    | dsimp only
    | split
    | with_reducible
        refine Kept.of (e := ?_) ?_ ?_ ?_ ?_ ?_ ?_ ?_ ?_ ?_ ?_ ?_ ?_ ?_
        rotate_left; iterate 12 exact rfl

theorem clearIf_kept (s : State) (src : Src) (p : Held → Bool) (h : Kept B Q K s) :
    Kept B Q K (State.clearIf s src p) := by
  unfold State.clearIf
  repeat' first
    | intro _
    | with_reducible first | assumption | apply Kept.ite
    | dsimp only
    | split
    | with_reducible
        refine Kept.of (e := ?_) ?_ ?_ ?_ ?_ ?_ ?_ ?_ ?_ ?_ ?_ ?_ ?_ ?_
        rotate_left; iterate 12 exact rfl

theorem clearE_kept (s : State) (src : Src) (h : Kept B Q K s) :
    Kept B Q K (State.clearE s src) := by
  unfold State.clearE
  repeat' first
    | intro _
    | with_reducible first | assumption | apply clearIf_kept
    | with_reducible
        refine Kept.of (e := ?_) ?_ ?_ ?_ ?_ ?_ ?_ ?_ ?_ ?_ ?_ ?_ ?_ ?_
        rotate_left; iterate 12 exact rfl

theorem clearR_kept (s : State) (src : Src) (reason : Nat) (h : Kept B Q K s) :
    Kept B Q K (State.clearR s src reason) := by
  unfold State.clearR
  repeat' first
    | intro _
    | with_reducible first | assumption | apply clearIf_kept
    | with_reducible
        refine Kept.of (e := ?_) ?_ ?_ ?_ ?_ ?_ ?_ ?_ ?_ ?_ ?_ ?_ ?_ ?_
        rotate_left; iterate 12 exact rfl

theorem clearD_kept (s : State) (src : Src) (detail : Nat) (h : Kept B Q K s) :
    Kept B Q K (State.clearD s src detail) := by
  unfold State.clearD
  repeat' first
    | intro _
    | with_reducible first | assumption | apply clearIf_kept
    | with_reducible
        refine Kept.of (e := ?_) ?_ ?_ ?_ ?_ ?_ ?_ ?_ ?_ ?_ ?_ ?_ ?_ ?_
        rotate_left; iterate 12 exact rfl

theorem setC_kept (s : State) (src : Src) (on : Bool) (reason : Nat) (detail : Nat) (h : Kept B Q K s) :
    Kept B Q K (State.setC s src on reason detail) := by
  unfold State.setC
  repeat' first
    | intro _
    | with_reducible first | assumption | apply Kept.ite | apply raiseOnce_kept | apply clearIf_kept
    | dsimp only
    | split
    | with_reducible
        refine Kept.of (e := ?_) ?_ ?_ ?_ ?_ ?_ ?_ ?_ ?_ ?_ ?_ ?_ ?_ ?_
        rotate_left; iterate 12 exact rfl

theorem latch_kept (s : State) (c : Nat) (b : Bool) (h : Kept B Q K s) :
    Kept B Q K (State.latch s c b) := by
  unfold State.latch
  repeat' first
    | intro _
    | with_reducible first | assumption | apply Kept.ite | apply onChan_kept | apply Kept.foldl
    | dsimp only
    | split
    | with_reducible
        refine Kept.of (e := ?_) ?_ ?_ ?_ ?_ ?_ ?_ ?_ ?_ ?_ ?_ ?_ ?_ ?_
        rotate_left; iterate 12 exact rfl

theorem openWindow_kept (s : State) (c : Nat) (h : Kept B Q K s) :
    Kept B Q K (State.openWindow s c) := by
  unfold State.openWindow
  repeat' first
    | intro _
    | with_reducible first | assumption | apply onChan_kept
    | dsimp only
    | split
    | with_reducible
        refine Kept.of (e := ?_) ?_ ?_ ?_ ?_ ?_ ?_ ?_ ?_ ?_ ?_ ?_ ?_ ?_
        rotate_left; iterate 12 exact rfl

theorem refresh_kept (s : State) (c : Nat) (fresh : Bool) (h : Kept B Q K s) :
    Kept B Q K (State.refresh s c fresh) := by
  unfold State.refresh
  repeat' first
    | intro _
    | with_reducible first | assumption | apply Kept.ite | apply latch_kept | apply openWindow_kept
    | dsimp only
    | split
    | with_reducible
        refine Kept.of (e := ?_) ?_ ?_ ?_ ?_ ?_ ?_ ?_ ?_ ?_ ?_ ?_ ?_ ?_
        rotate_left; iterate 12 exact rfl

theorem hardOff_kept (s : State) (c : Nat) (h : Kept B Q K s) :
    Kept B Q K (State.hardOff s c) := by
  unfold State.hardOff
  repeat' first
    | intro _
    | with_reducible first | assumption | apply latch_kept
    | with_reducible
        refine Kept.of (e := ?_) ?_ ?_ ?_ ?_ ?_ ?_ ?_ ?_ ?_ ?_ ?_ ?_ ?_
        rotate_left; iterate 12 exact rfl

theorem endRamps_kept (s : State) (c : Nat) (h : Kept B Q K s) :
    Kept B Q K (State.endRamps s c) := by
  unfold State.endRamps
  repeat' first
    | intro _
    | with_reducible first | assumption | apply Kept.ite
    | dsimp only
    | split
    | with_reducible
        refine Kept.of (e := ?_) ?_ ?_ ?_ ?_ ?_ ?_ ?_ ?_ ?_ ?_ ?_ ?_ ?_
        rotate_left; iterate 12 exact rfl

theorem dieRaise_kept (s : State) (src : Src) (pulse : Bool) (reason : Nat) (pin : Bool) (h : Kept B Q K s) :
    Kept B Q K (State.dieRaise s src pulse reason pin) := by
  unfold State.dieRaise
  repeat' first
    | intro _
    | with_reducible first | assumption | apply Kept.ite | apply raiseAs_kept
    | dsimp only
    | split
    | with_reducible
        refine Kept.of (e := ?_) ?_ ?_ ?_ ?_ ?_ ?_ ?_ ?_ ?_ ?_ ?_ ?_ ?_
        rotate_left; iterate 12 exact rfl

theorem countTrip_kept (s : State) (c : Nat) (h : Kept B Q K s) :
    Kept B Q K (State.countTrip s c) := by
  unfold State.countTrip
  repeat' first
    | intro _
    | with_reducible first | assumption | apply Kept.ite
    | dsimp only
    | split
    | with_reducible
        refine Kept.of (e := ?_) ?_ ?_ ?_ ?_ ?_ ?_ ?_ ?_ ?_ ?_ ?_ ?_ ?_
        rotate_left; iterate 12 exact rfl

theorem countLatch_kept (s : State) (c : Nat) (h : Kept B Q K s) :
    Kept B Q K (State.countLatch s c) := by
  unfold State.countLatch
  repeat' first
    | intro _
    | with_reducible first | assumption | apply Kept.ite | apply onChan_kept | apply raiseAs_kept
    | dsimp only
    | split
    | with_reducible
        refine Kept.of (e := ?_) ?_ ?_ ?_ ?_ ?_ ?_ ?_ ?_ ?_ ?_ ?_ ?_ ?_
        rotate_left; iterate 12 exact rfl

theorem enterLatch_kept (s : State) (c : Nat) (src : Src) (reason : Nat) (h : Kept B Q K s) :
    Kept B Q K (State.enterLatch s c src reason) := by
  unfold State.enterLatch
  repeat' first
    | intro _
    | with_reducible first | assumption | apply Kept.ite | apply onChan_kept | apply hardOff_kept
    | with_reducible first | apply dieRaise_kept | apply countLatch_kept
    | dsimp only
    | split
    | with_reducible
        refine Kept.of (e := ?_) ?_ ?_ ?_ ?_ ?_ ?_ ?_ ?_ ?_ ?_ ?_ ?_ ?_
        rotate_left; iterate 12 exact rfl

theorem clearLatch_kept (s : State) (c : Nat) (h : Kept B Q K s) :
    Kept B Q K (State.clearLatch s c) := by
  unfold State.clearLatch
  repeat' first
    | intro _
    | with_reducible first | assumption | apply Kept.ite | apply onChan_kept | apply clearIf_kept
    | with_reducible first | apply clearE_kept | apply clearR_kept
    | dsimp only
    | split
    | with_reducible
        refine Kept.of (e := ?_) ?_ ?_ ?_ ?_ ?_ ?_ ?_ ?_ ?_ ?_ ?_ ?_ ?_
        rotate_left; iterate 12 exact rfl

theorem clearAllLatches_kept (s : State) (c : Nat) (h : Kept B Q K s) :
    Kept B Q K (State.clearAllLatches s c) := by
  unfold State.clearAllLatches
  repeat' first
    | intro _
    | with_reducible first | assumption | apply Kept.ite | apply onChan_kept | apply clearIf_kept
    | with_reducible first | apply clearE_kept | apply clearR_kept
    | dsimp only
    | split
    | with_reducible
        refine Kept.of (e := ?_) ?_ ?_ ?_ ?_ ?_ ?_ ?_ ?_ ?_ ?_ ?_ ?_ ?_
        rotate_left; iterate 12 exact rfl

theorem cancelInrush_kept (s : State) (c : Nat) (h : Kept B Q K s) :
    Kept B Q K (State.cancelInrush s c) := by
  unfold State.cancelInrush
  repeat' first
    | intro _
    | with_reducible first | assumption | apply onChan_kept
    | with_reducible
        refine Kept.of (e := ?_) ?_ ?_ ?_ ?_ ?_ ?_ ?_ ?_ ?_ ?_ ?_ ?_ ?_
        rotate_left; iterate 12 exact rfl

theorem setDemand_kept (s : State) (c : Nat) (d : Demand) (h : Kept B Q K s) :
    Kept B Q K (State.setDemand s c d) := by
  unfold State.setDemand
  repeat' first
    | intro _
    | with_reducible first | assumption | apply Kept.ite | apply onChan_kept | apply clearE_kept
    | with_reducible first | apply refresh_kept | apply endRamps_kept | apply clearLatch_kept
    | with_reducible first | apply cancelInrush_kept
    | dsimp only
    | split
    | with_reducible
        refine Kept.of (e := ?_) ?_ ?_ ?_ ?_ ?_ ?_ ?_ ?_ ?_ ?_ ?_ ?_ ?_
        rotate_left; iterate 12 exact rfl

theorem fitDemands_kept (s : State) (h : Kept B Q K s) :
    Kept B Q K (State.fitDemands s) := by
  unfold State.fitDemands
  repeat' first
    | intro _
    | with_reducible first | assumption | apply Kept.ite | apply setDemand_kept | apply Kept.foldl
    | dsimp only
    | split
    | with_reducible
        refine Kept.of (e := ?_) ?_ ?_ ?_ ?_ ?_ ?_ ?_ ?_ ?_ ?_ ?_ ?_ ?_
        rotate_left; iterate 12 exact rfl

theorem startStagger_kept (s : State) (cs : List Nat) (h : Kept B Q K s) :
    Kept B Q K (State.startStagger s cs) := by
  unfold State.startStagger
  repeat' first
    | intro _
    | with_reducible first | assumption | apply Kept.ite | apply refresh_kept | apply Kept.foldl
    | dsimp only
    | split
    | with_reducible
        refine Kept.of (e := ?_) ?_ ?_ ?_ ?_ ?_ ?_ ?_ ?_ ?_ ?_ ?_ ?_ ?_
        rotate_left; iterate 12 exact rfl

theorem startCalm_kept (s : State) (cs : List Nat) (h : Kept B Q K s) :
    Kept B Q K (State.startCalm s cs) := by
  unfold State.startCalm
  repeat' first
    | intro _
    | with_reducible first | assumption | apply Kept.ite | apply refresh_kept | apply Kept.foldl
    | dsimp only
    | split
    | with_reducible
        refine Kept.of (e := ?_) ?_ ?_ ?_ ?_ ?_ ?_ ?_ ?_ ?_ ?_ ?_ ?_ ?_
        rotate_left; iterate 12 exact rfl

theorem staggerNext_kept (s : State) (h : Kept B Q K s) :
    Kept B Q K (State.staggerNext s) := by
  unfold State.staggerNext
  repeat' first
    | intro _
    | with_reducible first | assumption | apply refresh_kept
    | dsimp only
    | split
    | with_reducible
        refine Kept.of (e := ?_) ?_ ?_ ?_ ?_ ?_ ?_ ?_ ?_ ?_ ?_ ?_ ?_ ?_
        rotate_left; iterate 12 exact rfl

theorem inhibit_kept (s : State) (c : Nat) (f : Chan → Chan) (h : Kept B Q K s) :
    Kept B Q K (State.inhibit s c f) := by
  unfold State.inhibit
  repeat' first
    | intro _
    | with_reducible first | assumption | apply onChan_kept | apply refresh_kept | apply cancelInrush_kept
    | with_reducible
        refine Kept.of (e := ?_) ?_ ?_ ?_ ?_ ?_ ?_ ?_ ?_ ?_ ?_ ?_ ?_ ?_
        rotate_left; iterate 12 exact rfl

theorem uninhibit_kept (s : State) (c : Nat) (f : Chan → Chan) (h : Kept B Q K s) :
    Kept B Q K (State.uninhibit s c f) := by
  unfold State.uninhibit
  repeat' first
    | intro _
    | with_reducible first | assumption | apply Kept.ite | apply onChan_kept
    | dsimp only
    | split
    | with_reducible
        refine Kept.of (e := ?_) ?_ ?_ ?_ ?_ ?_ ?_ ?_ ?_ ?_ ?_ ?_ ?_ ?_
        rotate_left; iterate 12 exact rfl

theorem applyShed_kept (s : State) (h : Kept B Q K s) :
    Kept B Q K (State.applyShed s) := by
  unfold State.applyShed
  repeat' first
    | intro _
    | with_reducible first | assumption | apply Kept.ite | apply inhibit_kept | apply uninhibit_kept
    | with_reducible first | apply Kept.foldl
    | dsimp only
    | split
    | with_reducible
        refine Kept.of (e := ?_) ?_ ?_ ?_ ?_ ?_ ?_ ?_ ?_ ?_ ?_ ?_ ?_ ?_
        rotate_left; iterate 12 exact rfl

theorem relevel_kept (s : State) (h : Kept B Q K s) :
    Kept B Q K (State.relevel s) := by
  unfold State.relevel
  repeat' first
    | intro _
    | with_reducible first | assumption | apply Kept.ite | apply raiseP_kept | apply applyShed_kept
    | dsimp only
    | split
    | with_reducible
        refine Kept.of (e := ?_) ?_ ?_ ?_ ?_ ?_ ?_ ?_ ?_ ?_ ?_ ?_ ?_ ?_
        rotate_left; iterate 12 exact rfl

theorem applyAllowance_kept (s : State) (k : Nat) (h : Kept B Q K s) :
    Kept B Q K (State.applyAllowance s k) := by
  unfold State.applyAllowance
  repeat' first
    | intro _
    | with_reducible first | assumption | apply Kept.ite | apply raiseC_kept | apply clearE_kept
    | with_reducible first | apply inhibit_kept | apply uninhibit_kept | apply Kept.foldl
    | dsimp only
    | split
    | with_reducible
        refine Kept.of (e := ?_) ?_ ?_ ?_ ?_ ?_ ?_ ?_ ?_ ?_ ?_ ?_ ?_ ?_
        rotate_left; iterate 12 exact rfl

theorem applyAllowances_kept (s : State) (h : Kept B Q K s) :
    Kept B Q K (State.applyAllowances s) := by
  unfold State.applyAllowances
  repeat' first
    | intro _
    | with_reducible first | assumption | apply applyAllowance_kept | apply Kept.foldl
    | with_reducible
        refine Kept.of (e := ?_) ?_ ?_ ?_ ?_ ?_ ?_ ?_ ?_ ?_ ?_ ?_ ?_ ?_
        rotate_left; iterate 12 exact rfl

theorem fenceDie_kept (s : State) (d : Nat) (why : FenceReason) (h : Kept B Q K s) :
    Kept B Q K (State.fenceDie s d why) := by
  unfold State.fenceDie
  repeat' first
    | intro _
    | with_reducible first | assumption | apply Kept.ite | apply raisePinC_kept | apply hardOff_kept
    | with_reducible first | apply Kept.foldl
    | dsimp only
    | split
    | with_reducible
        refine Kept.of (e := ?_) ?_ ?_ ?_ ?_ ?_ ?_ ?_ ?_ ?_ ?_ ?_ ?_ ?_
        rotate_left; iterate 12 exact rfl

theorem liftFence_kept (s : State) (d : Nat) (h : Kept B Q K s) :
    Kept B Q K (State.liftFence s d) := by
  unfold State.liftFence
  repeat' first
    | intro _
    | with_reducible first | assumption | apply clearE_kept | apply startStagger_kept
    | dsimp only
    | split
    | with_reducible
        refine Kept.of (e := ?_) ?_ ?_ ?_ ?_ ?_ ?_ ?_ ?_ ?_ ?_ ?_ ?_ ?_
        rotate_left; iterate 12 exact rfl

theorem dumpEnd_kept (s : State) (h : Kept B Q K s) :
    Kept B Q K (State.dumpEnd s) := by
  unfold State.dumpEnd
  repeat' first
    | intro _
    | with_reducible first | assumption | apply Kept.ite | apply onChan_kept | apply refresh_kept | apply Kept.foldl
    | dsimp only
    | split
    | with_reducible
        refine Kept.of (e := ?_) ?_ ?_ ?_ ?_ ?_ ?_ ?_ ?_ ?_ ?_ ?_ ?_ ?_
        rotate_left; iterate 12 exact rfl

theorem reverseHold_kept (s : State) (vbusMv : Int) (h : Kept B Q K s) :
    Kept B Q K (State.reverseHold s vbusMv) := by
  unfold State.reverseHold
  repeat' first
    | intro _
    | with_reducible first | assumption
    | with_reducible
        refine Kept.of (e := ?_) ?_ ?_ ?_ ?_ ?_ ?_ ?_ ?_ ?_ ?_ ?_ ?_ ?_
        rotate_left; iterate 12 exact rfl

theorem loseLatches_kept (s : State) (c : Nat) (h : Kept B Q K s) :
    Kept B Q K (State.loseLatches s c) := by
  unfold State.loseLatches
  repeat' first
    | intro _
    | with_reducible first | assumption | apply onChan_kept | apply clearE_kept | apply latch_kept
    | with_reducible first | apply clearLatch_kept
    | with_reducible
        refine Kept.of (e := ?_) ?_ ?_ ?_ ?_ ?_ ?_ ?_ ?_ ?_ ?_ ?_ ?_ ?_
        rotate_left; iterate 12 exact rfl

theorem dieDown_kept (s : State) (d : Nat) (h : Kept B Q K s) :
    Kept B Q K (State.dieDown s d) := by
  unfold State.dieDown
  repeat' first
    | intro _
    | with_reducible first | assumption | apply cancelInrush_kept | apply loseLatches_kept | apply Kept.foldl
    | with_reducible
        refine Kept.of (e := ?_) ?_ ?_ ?_ ?_ ?_ ?_ ?_ ?_ ?_ ?_ ?_ ?_ ?_
        rotate_left; iterate 12 exact rfl

theorem restoreChan_kept (s : State) (c : Nat) (h : Kept B Q K s) :
    Kept B Q K (State.restoreChan s c) := by
  unfold State.restoreChan
  repeat' first
    | intro _
    | with_reducible first | assumption | apply Kept.ite | apply onChan_kept | apply clearE_kept
    | with_reducible first | apply refresh_kept
    | dsimp only
    | split
    | with_reducible
        refine Kept.of (e := ?_) ?_ ?_ ?_ ?_ ?_ ?_ ?_ ?_ ?_ ?_ ?_ ?_ ?_
        rotate_left; iterate 12 exact rfl

theorem restoreDie_kept (s : State) (d : Nat) (h : Kept B Q K s) :
    Kept B Q K (State.restoreDie s d) := by
  unfold State.restoreDie
  repeat' first
    | intro _
    | with_reducible first | assumption | apply Kept.ite | apply restoreChan_kept | apply Kept.foldl
    | dsimp only
    | split
    | with_reducible
        refine Kept.of (e := ?_) ?_ ?_ ?_ ?_ ?_ ?_ ?_ ?_ ?_ ?_ ?_ ?_ ?_
        rotate_left; iterate 12 exact rfl

theorem dieUp_kept (s : State) (d : Nat) (h : Kept B Q K s) :
    Kept B Q K (State.dieUp s d) := by
  unfold State.dieUp
  repeat' first
    | intro _
    | with_reducible first | assumption | apply Kept.ite | apply raiseP_kept | apply Kept.foldl
    | dsimp only
    | split
    | with_reducible
        refine Kept.of (e := ?_) ?_ ?_ ?_ ?_ ?_ ?_ ?_ ?_ ?_ ?_ ?_ ?_ ?_
        rotate_left; iterate 12 exact rfl

theorem flushDies_kept (s : State) (h : Kept B Q K s) :
    Kept B Q K (State.flushDies s) := by
  unfold State.flushDies
  repeat' first
    | intro _
    | with_reducible first | assumption | apply Kept.ite | apply raiseAs_kept | apply clearE_kept
    | with_reducible first | apply countLatch_kept | apply Kept.foldl
    | dsimp only
    | split
    | with_reducible
        refine Kept.of (e := ?_) ?_ ?_ ?_ ?_ ?_ ?_ ?_ ?_ ?_ ?_ ?_ ?_ ?_
        rotate_left; iterate 12 exact rfl

theorem hold_kept (s : State) (j : Job) (r : Nat) (h : Kept B Q K s) :
    Kept B Q K (State.hold s j r) := by
  unfold State.hold
  repeat' first
    | intro _
    | with_reducible first | assumption
    | with_reducible
        refine Kept.of (e := ?_) ?_ ?_ ?_ ?_ ?_ ?_ ?_ ?_ ?_ ?_ ?_ ?_ ?_
        rotate_left; iterate 12 exact rfl

theorem refuse_kept (s : State) (j : Job) (h : Kept B Q K s) :
    Kept B Q K (State.refuse s j) := by
  unfold State.refuse
  repeat' first
    | intro _
    | with_reducible first | assumption | apply raiseP_kept
    | with_reducible
        refine Kept.of (e := ?_) ?_ ?_ ?_ ?_ ?_ ?_ ?_ ?_ ?_ ?_ ?_ ?_ ?_
        rotate_left; iterate 12 exact rfl

theorem release_kept (s : State) (j : Job) (h : Kept B Q K s) :
    Kept B Q K (State.release s j) := by
  unfold State.release
  repeat' first
    | intro _
    | with_reducible first | assumption
    | with_reducible
        refine Kept.of (e := ?_) ?_ ?_ ?_ ?_ ?_ ?_ ?_ ?_ ?_ ?_ ?_ ?_ ?_
        rotate_left; iterate 12 exact rfl

theorem releaseOf_kept (s : State) (j : Job) (r : Nat) (h : Kept B Q K s) :
    Kept B Q K (State.releaseOf s j r) := by
  unfold State.releaseOf
  repeat' first
    | intro _
    | with_reducible first | assumption
    | with_reducible
        refine Kept.of (e := ?_) ?_ ?_ ?_ ?_ ?_ ?_ ?_ ?_ ?_ ?_ ?_ ?_ ?_
        rotate_left; iterate 12 exact rfl

theorem unwait_kept (s : State) (j : Job) (r : Nat) (h : Kept B Q K s) :
    Kept B Q K (State.unwait s j r) := by
  unfold State.unwait
  repeat' first
    | intro _
    | with_reducible first | assumption | apply Kept.ite
    | dsimp only
    | split
    | with_reducible
        refine Kept.of (e := ?_) ?_ ?_ ?_ ?_ ?_ ?_ ?_ ?_ ?_ ?_ ?_ ?_ ?_
        rotate_left; iterate 12 exact rfl

theorem request_kept (s : State) (j : Job) (r : Nat) (h : Kept B Q K s) :
    Kept B Q K (State.request s j r) := by
  unfold State.request
  repeat' first
    | intro _
    | with_reducible first | assumption | apply Kept.ite | apply hold_kept
    | dsimp only
    | split
    | with_reducible
        refine Kept.of (e := ?_) ?_ ?_ ?_ ?_ ?_ ?_ ?_ ?_ ?_ ?_ ?_ ?_ ?_
        rotate_left; iterate 12 exact rfl

theorem evalRequest_kept (s : State) (e : Job × Nat) (new : Bool) (h : Kept B Q K s) :
    Kept B Q K (State.evalRequest s e new) := by
  unfold State.evalRequest
  repeat' first
    | intro _
    | with_reducible first | assumption | apply Kept.ite | apply hold_kept | apply refuse_kept
    | dsimp only
    | split
    | with_reducible
        refine Kept.of (e := ?_) ?_ ?_ ?_ ?_ ?_ ?_ ?_ ?_ ?_ ?_ ?_ ?_ ?_
        rotate_left; iterate 12 exact rfl

theorem regrant_kept (s : State) (h : Kept B Q K s) :
    Kept B Q K (State.regrant s) := by
  unfold State.regrant
  repeat' first
    | intro _
    | with_reducible first | assumption | apply Kept.ite | apply evalRequest_kept | apply Kept.foldl
    | dsimp only
    | split
    | with_reducible
        refine Kept.of (e := ?_) ?_ ?_ ?_ ?_ ?_ ?_ ?_ ?_ ?_ ?_ ?_ ?_ ?_
        rotate_left; iterate 12 exact rfl

theorem drivePins_kept (s : State) (sprig bunch fc : Bool) (h : Kept B Q K s) :
    Kept B Q K (State.drivePins s sprig bunch fc) := by
  unfold State.drivePins
  repeat' first
    | intro _
    | with_reducible first | assumption | apply Kept.ite | apply raiseP_kept
    | dsimp only
    | split
    | with_reducible
        refine Kept.of (e := ?_) ?_ ?_ ?_ ?_ ?_ ?_ ?_ ?_ ?_ ?_ ?_ ?_ ?_
        rotate_left; iterate 12 exact rfl

theorem pinsLow_kept (s : State) (h : Kept B Q K s) :
    Kept B Q K (State.pinsLow s) := by
  unfold State.pinsLow
  repeat' first
    | intro _
    | with_reducible first | assumption | apply drivePins_kept
    | with_reducible
        refine Kept.of (e := ?_) ?_ ?_ ?_ ?_ ?_ ?_ ?_ ?_ ?_ ?_ ?_ ?_ ?_
        rotate_left; iterate 12 exact rfl

theorem afterBus_kept (s : State) (h : Kept B Q K s) :
    Kept B Q K (State.afterBus s) := by
  unfold State.afterBus
  repeat' first
    | intro _
    | with_reducible first | assumption | apply Kept.ite | apply hold_kept | apply drivePins_kept
    | dsimp only
    | split
    | with_reducible
        refine Kept.of (e := ?_) ?_ ?_ ?_ ?_ ?_ ?_ ?_ ?_ ?_ ?_ ?_ ?_ ?_
        rotate_left; iterate 12 exact rfl

theorem evalPins_kept (s : State) (h : Kept B Q K s) :
    Kept B Q K (State.evalPins s) := by
  unfold State.evalPins
  repeat' first
    | intro _
    | with_reducible first | assumption | apply Kept.ite | apply hold_kept | apply drivePins_kept
    | with_reducible first | apply pinsLow_kept | apply afterBus_kept
    | dsimp only
    | split
    | with_reducible
        refine Kept.of (e := ?_) ?_ ?_ ?_ ?_ ?_ ?_ ?_ ?_ ?_ ?_ ?_ ?_ ?_
        rotate_left; iterate 12 exact rfl

theorem busPins_kept (s : State) (h : Kept B Q K s) :
    Kept B Q K (State.busPins s) := by
  unfold State.busPins
  repeat' first
    | intro _
    | with_reducible first | assumption | apply Kept.ite | apply evalPins_kept
    | dsimp only
    | split
    | with_reducible
        refine Kept.of (e := ?_) ?_ ?_ ?_ ?_ ?_ ?_ ?_ ?_ ?_ ?_ ?_ ?_ ?_
        rotate_left; iterate 12 exact rfl

theorem unreachEval_kept (s : State) (h : Kept B Q K s) :
    Kept B Q K (State.unreachEval s) := by
  unfold State.unreachEval
  repeat' first
    | intro _
    | with_reducible first | assumption | apply Kept.ite | apply raiseC_kept | apply clearE_kept | apply Kept.foldl
    | dsimp only
    | split
    | with_reducible
        refine Kept.of (e := ?_) ?_ ?_ ?_ ?_ ?_ ?_ ?_ ?_ ?_ ?_ ?_ ?_ ?_
        rotate_left; iterate 12 exact rfl

theorem evalLedger_kept (s : State) (h : Kept B Q K s) :
    Kept B Q K (State.evalLedger s) := by
  unfold State.evalLedger
  repeat' first
    | intro _
    | with_reducible first | assumption | apply evalPins_kept | apply unreachEval_kept
    | with_reducible
        refine Kept.of (e := ?_) ?_ ?_ ?_ ?_ ?_ ?_ ?_ ?_ ?_ ?_ ?_ ?_ ?_
        rotate_left; iterate 12 exact rfl

theorem tb8Eval_kept (s : State) (h : Kept B Q K s) :
    Kept B Q K (State.tb8Eval s) := by
  unfold State.tb8Eval
  repeat' first
    | intro _
    | with_reducible first | assumption | apply Kept.ite
    | dsimp only
    | split
    | with_reducible
        refine Kept.of (e := ?_) ?_ ?_ ?_ ?_ ?_ ?_ ?_ ?_ ?_ ?_ ?_ ?_ ?_
        rotate_left; iterate 12 exact rfl

theorem loseLock_kept (s : State) (h : Kept B Q K s) :
    Kept B Q K (State.loseLock s) := by
  unfold State.loseLock
  repeat' first
    | intro _
    | with_reducible first | assumption | apply Kept.ite | apply raiseP_kept | apply relevel_kept
    | with_reducible first | apply tb8Eval_kept
    | dsimp only
    | split
    | with_reducible
        refine Kept.of (e := ?_) ?_ ?_ ?_ ?_ ?_ ?_ ?_ ?_ ?_ ?_ ?_ ?_ ?_
        rotate_left; iterate 12 exact rfl

theorem pllEval_kept (s : State) (h : Kept B Q K s) :
    Kept B Q K (State.pllEval s) := by
  unfold State.pllEval
  repeat' first
    | intro _
    | with_reducible first | assumption
    | with_reducible
        refine Kept.of (e := ?_) ?_ ?_ ?_ ?_ ?_ ?_ ?_ ?_ ?_ ?_ ?_ ?_ ?_
        rotate_left; iterate 12 exact rfl

theorem toMode_kept (s : State) (m : Mode) (h : Kept B Q K s) :
    Kept B Q K (State.toMode s m) := by
  unfold State.toMode
  repeat' first
    | intro _
    | with_reducible first | assumption | apply Kept.ite | apply tb8Eval_kept | apply loseLock_kept
    | with_reducible first | apply pllEval_kept
    | dsimp only
    | split
    | with_reducible
        refine Kept.of (e := ?_) ?_ ?_ ?_ ?_ ?_ ?_ ?_ ?_ ?_ ?_ ?_ ?_ ?_
        rotate_left; iterate 12 exact rfl

theorem wdtService_kept (s : State) (h : Kept B Q K s) :
    Kept B Q K (State.wdtService s) := by
  unfold State.wdtService
  repeat' first
    | intro _
    | with_reducible first | assumption
    | with_reducible
        refine Kept.of (e := ?_) ?_ ?_ ?_ ?_ ?_ ?_ ?_ ?_ ?_ ?_ ?_ ?_ ?_
        rotate_left; iterate 12 exact rfl

theorem taskEnd_kept (s : State) (level : Nat) (h : Kept B Q K s) :
    Kept B Q K (State.taskEnd s level) := by
  unfold State.taskEnd
  repeat' first
    | intro _
    | with_reducible first | assumption | apply Kept.ite | apply wdtService_kept
    | dsimp only
    | split
    | with_reducible
        refine Kept.of (e := ?_) ?_ ?_ ?_ ?_ ?_ ?_ ?_ ?_ ?_ ?_ ?_ ?_ ?_
        rotate_left; iterate 12 exact rfl

theorem wakeSeq_kept (s : State) (h : Kept B Q K s) :
    Kept B Q K (State.wakeSeq s) := by
  unfold State.wakeSeq
  repeat' first
    | intro _
    | with_reducible first | assumption | apply Kept.ite | apply flushDies_kept | apply wdtService_kept
    | dsimp only
    | split
    | with_reducible
        refine Kept.of (e := ?_) ?_ ?_ ?_ ?_ ?_ ?_ ?_ ?_ ?_ ?_ ?_ ?_ ?_
        rotate_left; iterate 12 exact rfl

theorem toRun_kept (s : State) (h : Kept B Q K s) :
    Kept B Q K (State.toRun s) := by
  unfold State.toRun
  repeat' first
    | intro _
    | with_reducible first | assumption | apply Kept.ite | apply toMode_kept | apply wakeSeq_kept
    | dsimp only
    | split
    | with_reducible
        refine Kept.of (e := ?_) ?_ ?_ ?_ ?_ ?_ ?_ ?_ ?_ ?_ ?_ ?_ ?_ ?_
        rotate_left; iterate 12 exact rfl

theorem needRun_kept (s : State) (h : Kept B Q K s) :
    Kept B Q K (State.needRun s) := by
  unfold State.needRun
  repeat' first
    | intro _
    | with_reducible first | assumption | apply Kept.ite | apply toRun_kept
    | dsimp only
    | split
    | with_reducible
        refine Kept.of (e := ?_) ?_ ?_ ?_ ?_ ?_ ?_ ?_ ?_ ?_ ?_ ?_ ?_ ?_
        rotate_left; iterate 12 exact rfl

theorem gangOrder_kept (s : State) (r code : Nat) (h : Kept B Q K s) :
    Kept B Q K (State.gangOrder s r code) := by
  unfold State.gangOrder
  repeat' first
    | intro _
    | with_reducible first | assumption | apply Kept.ite
    | dsimp only
    | split
    | with_reducible
        refine Kept.of (e := ?_) ?_ ?_ ?_ ?_ ?_ ?_ ?_ ?_ ?_ ?_ ?_ ?_ ?_
        rotate_left; iterate 12 exact rfl

theorem remap_kept (s : State) (h : Kept B Q K s) :
    Kept B Q K (State.remap s) := by
  unfold State.remap
  repeat' first
    | intro _
    | with_reducible first | assumption | apply setC_kept | apply Kept.foldl
    | with_reducible
        refine Kept.of (e := ?_) ?_ ?_ ?_ ?_ ?_ ?_ ?_ ?_ ?_ ?_ ?_ ?_ ?_
        rotate_left; iterate 12 exact rfl

theorem capture_kept (s : State) (r cause phases detail : Nat) (h : Kept B Q K s) :
    Kept B Q K (State.capture s r cause phases detail) := by
  unfold State.capture
  repeat' first
    | intro _
    | with_reducible first | assumption | apply onRail_kept
    | with_reducible
        refine Kept.of (e := ?_) ?_ ?_ ?_ ?_ ?_ ?_ ?_ ?_ ?_ ?_ ?_ ?_ ?_
        rotate_left; iterate 12 exact rfl

theorem phasesOff_kept (s : State) (r : Nat) (h : Kept B Q K s) :
    Kept B Q K (State.phasesOff s r) := by
  unfold State.phasesOff
  repeat' first
    | intro _
    | with_reducible first | assumption | apply Kept.ite | apply onRail_kept
    | dsimp only
    | split
    | with_reducible
        refine Kept.of (e := ?_) ?_ ?_ ?_ ?_ ?_ ?_ ?_ ?_ ?_ ?_ ?_ ?_ ?_
        rotate_left; iterate 12 exact rfl

theorem shedPhase_kept (s : State) (r p code : Nat) (h : Kept B Q K s) :
    Kept B Q K (State.shedPhase s r p code) := by
  unfold State.shedPhase
  repeat' first
    | intro _
    | with_reducible first | assumption | apply onPhase_kept | apply raiseC_kept | apply capture_kept
    | with_reducible
        refine Kept.of (e := ?_) ?_ ?_ ?_ ?_ ?_ ?_ ?_ ?_ ?_ ?_ ?_ ?_ ?_
        rotate_left; iterate 12 exact rfl

theorem unshed_kept (s : State) (r : Nat) (h : Kept B Q K s) :
    Kept B Q K (State.unshed s r) := by
  unfold State.unshed
  repeat' first
    | intro _
    | with_reducible first | assumption | apply Kept.ite | apply clearIf_kept
    | dsimp only
    | split
    | with_reducible
        refine Kept.of (e := ?_) ?_ ?_ ?_ ?_ ?_ ?_ ?_ ?_ ?_ ?_ ?_ ?_ ?_
        rotate_left; iterate 12 exact rfl

theorem leaveFault_kept (s : State) (r : Nat) (h : Kept B Q K s) :
    Kept B Q K (State.leaveFault s r) := by
  unfold State.leaveFault
  repeat' first
    | intro _
    | with_reducible first | assumption | apply clearIf_kept | apply clearE_kept
    | dsimp only
    | split
    | with_reducible
        refine Kept.of (e := ?_) ?_ ?_ ?_ ?_ ?_ ?_ ?_ ?_ ?_ ?_ ?_ ?_ ?_
        rotate_left; iterate 12 exact rfl

theorem startOne_kept (s : State) (r : Nat) (h : Kept B Q K s) :
    Kept B Q K (State.startOne s r) := by
  unfold State.startOne
  repeat' first
    | intro _
    | with_reducible first | assumption | apply Kept.ite | apply onRail_kept | apply needRun_kept
    | with_reducible first | apply unshed_kept
    | dsimp only
    | split
    | with_reducible
        refine Kept.of (e := ?_) ?_ ?_ ?_ ?_ ?_ ?_ ?_ ?_ ?_ ?_ ?_ ?_ ?_
        rotate_left; iterate 12 exact rfl

theorem startRail_kept (s : State) (r : Nat) (h : Kept B Q K s) :
    Kept B Q K (State.startRail s r) := by
  unfold State.startRail
  repeat' first
    | intro _
    | with_reducible first | assumption | apply Kept.ite | apply onRail_kept | apply startOne_kept
    | dsimp only
    | split
    | with_reducible
        refine Kept.of (e := ?_) ?_ ?_ ?_ ?_ ?_ ?_ ?_ ?_ ?_ ?_ ?_ ?_ ?_
        rotate_left; iterate 12 exact rfl

theorem restartShare_kept (s : State) (r : Nat) (h : Kept B Q K s) :
    Kept B Q K (State.restartShare s r) := by
  unfold State.restartShare
  repeat' first
    | intro _
    | with_reducible first | assumption | apply onRail_kept | apply leaveFault_kept | apply startRail_kept
    | with_reducible
        refine Kept.of (e := ?_) ?_ ?_ ?_ ?_ ?_ ?_ ?_ ?_ ?_ ?_ ?_ ?_ ?_
        rotate_left; iterate 12 exact rfl

theorem restartRail_kept (s : State) (r : Nat) (h : Kept B Q K s) :
    Kept B Q K (State.restartRail s r) := by
  unfold State.restartRail
  repeat' first
    | intro _
    | with_reducible first | assumption | apply Kept.ite | apply gangOrder_kept | apply restartShare_kept
    | dsimp only
    | split
    | with_reducible
        refine Kept.of (e := ?_) ?_ ?_ ?_ ?_ ?_ ?_ ?_ ?_ ?_ ?_ ?_ ?_ ?_
        rotate_left; iterate 12 exact rfl

theorem restartAll_kept (s : State) (reason : Nat) (h : Kept B Q K s) :
    Kept B Q K (State.restartAll s reason) := by
  unfold State.restartAll
  repeat' first
    | intro _
    | with_reducible first | assumption | apply Kept.ite | apply restartRail_kept | apply Kept.foldl
    | dsimp only
    | split
    | with_reducible
        refine Kept.of (e := ?_) ?_ ?_ ?_ ?_ ?_ ?_ ?_ ?_ ?_ ?_ ?_ ?_ ?_
        rotate_left; iterate 12 exact rfl

theorem stopOne_kept (s : State) (r why : Nat) (track : Bool) (h : Kept B Q K s) :
    Kept B Q K (State.stopOne s r why track) := by
  unfold State.stopOne
  repeat' first
    | intro _
    | with_reducible first | assumption | apply Kept.ite | apply onRail_kept
    | dsimp only
    | split
    | with_reducible
        refine Kept.of (e := ?_) ?_ ?_ ?_ ?_ ?_ ?_ ?_ ?_ ?_ ?_ ?_ ?_ ?_
        rotate_left; iterate 12 exact rfl

theorem stopFollower_kept (s : State) (f : Nat) (track : Bool) (h : Kept B Q K s) :
    Kept B Q K (State.stopFollower s f track) := by
  unfold State.stopFollower
  repeat' first
    | intro _
    | with_reducible first | assumption | apply Kept.ite | apply stopOne_kept
    | dsimp only
    | split
    | with_reducible
        refine Kept.of (e := ?_) ?_ ?_ ?_ ?_ ?_ ?_ ?_ ?_ ?_ ?_ ?_ ?_ ?_
        rotate_left; iterate 12 exact rfl

theorem softStop_kept (s : State) (r why : Nat) (h : Kept B Q K s) :
    Kept B Q K (State.softStop s r why) := by
  unfold State.softStop
  repeat' first
    | intro _
    | with_reducible first | assumption | apply Kept.ite | apply stopOne_kept | apply stopFollower_kept
    | dsimp only
    | split
    | with_reducible
        refine Kept.of (e := ?_) ?_ ?_ ?_ ?_ ?_ ?_ ?_ ?_ ?_ ?_ ?_ ?_ ?_
        rotate_left; iterate 12 exact rfl

theorem leaderFault_kept (s : State) (r : Nat) (h : Kept B Q K s) :
    Kept B Q K (State.leaderFault s r) := by
  unfold State.leaderFault
  repeat' first
    | intro _
    | with_reducible first | assumption | apply Kept.ite | apply raiseP_kept | apply stopFollower_kept
    | dsimp only
    | split
    | with_reducible
        refine Kept.of (e := ?_) ?_ ?_ ?_ ?_ ?_ ?_ ?_ ?_ ?_ ?_ ?_ ?_ ?_
        rotate_left; iterate 12 exact rfl

theorem faultNow_kept (s : State) (r reason : Nat) (h : Kept B Q K s) :
    Kept B Q K (State.faultNow s r reason) := by
  unfold State.faultNow
  repeat' first
    | intro _
    | with_reducible first | assumption | apply onRail_kept | apply pllEval_kept | apply remap_kept
    | with_reducible first | apply phasesOff_kept | apply leaderFault_kept
    | with_reducible
        refine Kept.of (e := ?_) ?_ ?_ ?_ ?_ ?_ ?_ ?_ ?_ ?_ ?_ ?_ ?_ ?_
        rotate_left; iterate 12 exact rfl

theorem railStop_kept (s : State) (r reason detail : Nat) (h : Kept B Q K s) :
    Kept B Q K (State.railStop s r reason detail) := by
  unfold State.railStop
  repeat' first
    | intro _
    | with_reducible first | assumption | apply raiseC_kept | apply capture_kept | apply faultNow_kept
    | with_reducible
        refine Kept.of (e := ?_) ?_ ?_ ?_ ?_ ?_ ?_ ?_ ?_ ?_ ?_ ?_ ?_ ?_
        rotate_left; iterate 12 exact rfl

theorem softFault_kept (s : State) (r reason detail : Nat) (h : Kept B Q K s) :
    Kept B Q K (State.softFault s r reason detail) := by
  unfold State.softFault
  repeat' first
    | intro _
    | with_reducible first | assumption | apply capture_kept | apply stopOne_kept | apply leaderFault_kept
    | with_reducible
        refine Kept.of (e := ?_) ?_ ?_ ?_ ?_ ?_ ?_ ?_ ?_ ?_ ?_ ?_ ?_ ?_
        rotate_left; iterate 12 exact rfl

theorem hiccup_kept (s : State) (r why : Nat) (h : Kept B Q K s) :
    Kept B Q K (State.hiccup s r why) := by
  unfold State.hiccup
  repeat' first
    | intro _
    | with_reducible first | assumption | apply Kept.ite | apply onRail_kept | apply faultNow_kept
    | with_reducible first | apply railStop_kept
    | dsimp only
    | split
    | with_reducible
        refine Kept.of (e := ?_) ?_ ?_ ?_ ?_ ?_ ?_ ?_ ?_ ?_ ?_ ?_ ?_ ?_
        rotate_left; iterate 12 exact rfl

theorem stopDone_kept (s : State) (r : Nat) (h : Kept B Q K s) :
    Kept B Q K (State.stopDone s r) := by
  unfold State.stopDone
  repeat' first
    | intro _
    | with_reducible first | assumption | apply Kept.ite | apply onRail_kept | apply pllEval_kept | apply remap_kept
    | with_reducible first | apply phasesOff_kept
    | dsimp only
    | split
    | with_reducible
        refine Kept.of (e := ?_) ?_ ?_ ?_ ?_ ?_ ?_ ?_ ?_ ?_ ?_ ?_ ?_ ?_
        rotate_left; iterate 12 exact rfl

theorem uncapture_kept (s : State) (r : Nat) (h : Kept B Q K s) :
    Kept B Q K (State.uncapture s r) := by
  unfold State.uncapture
  repeat' first
    | intro _
    | with_reducible first | assumption | apply onRail_kept
    | with_reducible
        refine Kept.of (e := ?_) ?_ ?_ ?_ ?_ ?_ ?_ ?_ ?_ ?_ ?_ ?_ ?_ ?_
        rotate_left; iterate 12 exact rfl

theorem ovLatch_kept (s : State) (r peak : Nat) (h : Kept B Q K s) :
    Kept B Q K (State.ovLatch s r peak) := by
  unfold State.ovLatch
  repeat' first
    | intro _
    | with_reducible first | assumption | apply Kept.ite | apply onRail_kept | apply raisePinC_kept
    | with_reducible first | apply pllEval_kept | apply remap_kept | apply capture_kept | apply phasesOff_kept
    | with_reducible first | apply leaveFault_kept | apply leaderFault_kept | apply uncapture_kept
    | dsimp only
    | split
    | with_reducible
        refine Kept.of (e := ?_) ?_ ?_ ?_ ?_ ?_ ?_ ?_ ?_ ?_ ?_ ?_ ?_ ?_
        rotate_left; iterate 12 exact rfl

theorem syncChange_kept (s : State) (on : Bool) (h : Kept B Q K s) :
    Kept B Q K (State.syncChange s on) := by
  unfold State.syncChange
  repeat' first
    | intro _
    | with_reducible first | assumption | apply Kept.ite | apply raiseP_kept | apply Kept.foldl
    | dsimp only
    | split
    | with_reducible
        refine Kept.of (e := ?_) ?_ ?_ ?_ ?_ ?_ ?_ ?_ ?_ ?_ ?_ ?_ ?_ ?_
        rotate_left; iterate 12 exact rfl

theorem syncEval_kept (s : State) (h : Kept B Q K s) :
    Kept B Q K (State.syncEval s) := by
  unfold State.syncEval
  repeat' first
    | intro _
    | with_reducible first | assumption | apply Kept.ite | apply syncChange_kept
    | dsimp only
    | split
    | with_reducible
        refine Kept.of (e := ?_) ?_ ?_ ?_ ?_ ?_ ?_ ?_ ?_ ?_ ?_ ?_ ?_ ?_
        rotate_left; iterate 12 exact rfl

theorem rampRails_kept (s : State) (h : Kept B Q K s) :
    Kept B Q K (State.rampRails s) := by
  unfold State.rampRails
  repeat' first
    | intro _
    | with_reducible first | assumption | apply Kept.ite | apply draw_kept
    | dsimp only
    | split
    | with_reducible
        refine Kept.of (e := ?_) ?_ ?_ ?_ ?_ ?_ ?_ ?_ ?_ ?_ ?_ ?_ ?_ ?_
        rotate_left; iterate 12 exact rfl

theorem toIdle_kept (s : State) (r : Nat) (h : Kept B Q K s) :
    Kept B Q K (State.toIdle s r) := by
  unfold State.toIdle
  repeat' first
    | intro _
    | with_reducible first | assumption | apply Kept.ite | apply onRail_kept | apply pllEval_kept
    | with_reducible first | apply leaveFault_kept
    | dsimp only
    | split
    | with_reducible
        refine Kept.of (e := ?_) ?_ ?_ ?_ ?_ ?_ ?_ ?_ ?_ ?_ ?_ ?_ ?_ ?_
        rotate_left; iterate 12 exact rfl

theorem clearOv_kept (s : State) (r : Nat) (h : Kept B Q K s) :
    Kept B Q K (State.clearOv s r) := by
  unfold State.clearOv
  repeat' first
    | intro _
    | with_reducible first | assumption | apply onRail_kept | apply clearE_kept
    | with_reducible
        refine Kept.of (e := ?_) ?_ ?_ ?_ ?_ ?_ ?_ ?_ ?_ ?_ ?_ ?_ ?_ ?_
        rotate_left; iterate 12 exact rfl

theorem stage_kept (s : State) (vs : Vals) (h : Kept B Q K s) :
    Kept B Q K (State.stage s vs) := by
  unfold State.stage
  repeat' first
    | intro _
    | with_reducible first | assumption | apply Kept.foldl
    | with_reducible
        refine Kept.of (e := ?_) ?_ ?_ ?_ ?_ ?_ ?_ ?_ ?_ ?_ ?_ ?_ ?_ ?_
        rotate_left; iterate 12 exact rfl

theorem restage_kept (s : State) (vs : Vals) (h : Kept B Q K s) :
    Kept B Q K (State.restage s vs) := by
  unfold State.restage
  repeat' first
    | intro _
    | with_reducible first | assumption
    | with_reducible
        refine Kept.of (e := ?_) ?_ ?_ ?_ ?_ ?_ ?_ ?_ ?_ ?_ ?_ ?_ ?_ ?_
        rotate_left; iterate 12 exact rfl

theorem armCommit_kept (s : State) (by_ : Option (Transport × Nat)) (h : Kept B Q K s) :
    Kept B Q K (State.armCommit s by_) := by
  unfold State.armCommit
  repeat' first
    | intro _
    | with_reducible first | assumption | apply Kept.ite | apply Kept.foldl
    | dsimp only
    | split
    | with_reducible
        refine Kept.of (e := ?_) ?_ ?_ ?_ ?_ ?_ ?_ ?_ ?_ ?_ ?_ ?_ ?_ ?_
        rotate_left; iterate 12 exact rfl

theorem writeBank_kept (s : State) (vals : Vals) (h : Kept B Q K s) :
    Kept B Q K (State.writeBank s vals) := by
  unfold State.writeBank
  repeat' first
    | intro _
    | with_reducible first | assumption | apply Kept.ite | apply clearE_kept | apply clearR_kept | apply clearD_kept
    | dsimp only
    | split
    | with_reducible
        refine Kept.of (e := ?_) ?_ ?_ ?_ ?_ ?_ ?_ ?_ ?_ ?_ ?_ ?_ ?_ ?_
        rotate_left; iterate 12 exact rfl

theorem spoilBank_kept (s : State) (h : Kept B Q K s) :
    Kept B Q K (State.spoilBank s) := by
  unfold State.spoilBank
  repeat' first
    | intro _
    | with_reducible first | assumption | apply Kept.ite
    | dsimp only
    | split
    | with_reducible
        refine Kept.of (e := ?_) ?_ ?_ ?_ ?_ ?_ ?_ ?_ ?_ ?_ ?_ ?_ ?_ ?_
        rotate_left; iterate 12 exact rfl

theorem nfcReserve_kept (s : State) (h : Kept B Q K s) :
    Kept B Q K (State.nfcReserve s) := by
  unfold State.nfcReserve
  repeat' first
    | intro _
    | with_reducible first | assumption | apply Kept.ite | apply hold_kept | apply refuse_kept
    | dsimp only
    | split
    | with_reducible
        refine Kept.of (e := ?_) ?_ ?_ ?_ ?_ ?_ ?_ ?_ ?_ ?_ ?_ ?_ ?_ ?_
        rotate_left; iterate 12 exact rfl

theorem nfcRegrant_kept (s : State) (h : Kept B Q K s) :
    Kept B Q K (State.nfcRegrant s) := by
  unfold State.nfcRegrant
  repeat' first
    | intro _
    | with_reducible first | assumption | apply Kept.ite | apply hold_kept
    | dsimp only
    | split
    | with_reducible
        refine Kept.of (e := ?_) ?_ ?_ ?_ ?_ ?_ ?_ ?_ ?_ ?_ ?_ ?_ ?_ ?_
        rotate_left; iterate 12 exact rfl

theorem fifoEmptied_kept (s : State) (h : Kept B Q K s) :
    Kept B Q K (State.fifoEmptied s) := by
  unfold State.fifoEmptied
  repeat' first
    | intro _
    | with_reducible first | assumption | apply Kept.ite | apply clearE_kept
    | dsimp only
    | split
    | with_reducible
        refine Kept.of (e := ?_) ?_ ?_ ?_ ?_ ?_ ?_ ?_ ?_ ?_ ?_ ?_ ?_ ?_
        rotate_left; iterate 12 exact rfl

theorem fifoDrop_spec (n : Nat) (s : State) (h : Kept B Q K s) : Kept B Q K (State.fifoDrop s n) ∧
    (State.fifoDrop s n).events.fifo.length = s.events.fifo.length - n := by
  induction n generalizing s with
  | zero => exact ⟨h, rfl⟩
  | succ n ih =>
    unfold State.fifoDrop
    split
    · rename_i e rest he
      have hl := h.fifo
      rw [he] at hl
      have hf : ({ s.events with fifo := rest }.leave e.cap).fifo = rest := leave_fifo _ _
      have := ih { s with events := { s.events with fifo := rest }.leave e.cap }
        ⟨h.qb, h.uid, h.ck, h.ap, h.ac, h.up, h.sec, h.sub, fun hB => by
          have := hl hB
          simp only [hf]; simp only [List.length_cons] at this; omega, h.ram, h.tok, h.pend⟩
      refine ⟨this.1, this.2.trans ?_⟩
      simp only [hf, he, List.length_cons]
      omega
    · rename_i he
      exact ⟨h, by simp [he]⟩
theorem fifoDrop_kept (s : State) (n : Nat) (h : Kept B Q K s) : Kept B Q K (State.fifoDrop s n) :=
    (fifoDrop_spec n s h).1

theorem keepRec_kept (s : State) (c : PatCap) (h : Kept B Q K s) (hr : B → s.patina.ram.length < 64) : Kept B Q K
    (State.keepRec s c) :=
  ⟨h.qb, h.uid, h.ck, h.ap, h.ac, h.up, h.sec, h.sub, h.fifo, fun hB => by have := hr hB; simp [State.keepRec]; omega, h.tok, h.pend⟩

theorem refuseRec_kept (s : State) (c : PatCap) (h : Kept B Q K s) :
    Kept B Q K (State.refuseRec s c) := by
  unfold State.refuseRec
  repeat' first
    | intro _
    | with_reducible first | assumption | apply Kept.ite | apply raiseC_kept
    | dsimp only
    | split
    | with_reducible
        refine Kept.of (e := ?_) ?_ ?_ ?_ ?_ ?_ ?_ ?_ ?_ ?_ ?_ ?_ ?_ ?_
        rotate_left; iterate 12 exact rfl

theorem dropUnpinned_length (l : List PatRec) : (dropUnpinned l).length ≤ l.length ∧
    ((l.any fun r => !r.pinned) = true → (dropUnpinned l).length < l.length) := by
  induction l with
  | nil => simp [dropUnpinned]
  | cons r l ih =>
    unfold dropUnpinned
    split
    · rename_i hp
      simp only [List.length_cons, List.any_cons, hp]
      refine ⟨by omega, fun h => ?_⟩
      have := ih.2 (by simpa using h)
      omega
    · simp
theorem admitRec_kept (s : State) (c : PatCap) (h : Kept B Q K s) : Kept B Q K (State.admitRec s c) := by
  have hr := h.ram
  unfold State.admitRec
  dsimp only
  split
  · split
    · rename_i _ hf
      simp at hf
      exact keepRec_kept s c h fun _ => hf
    split
    · rename_i ha
      have hd := dropUnpinned_length s.patina.ram
      have := hd.2 ha
      refine keepRec_kept _ c ⟨h.qb, h.uid, h.ck, h.ap, h.ac, h.up, h.sec, h.sub, h.fifo, fun hB => ?_, h.tok, h.pend⟩ fun hB => ?_
      · have := hr hB; show (dropUnpinned s.patina.ram).length ≤ 64; omega
      · have := hr hB; show (dropUnpinned s.patina.ram).length < 64; omega
    · have h1 := refuseRec_kept s c h
      exact ⟨h1.qb, h1.uid, h1.ck, h1.ap, h1.ac, h1.up, h1.sec, h1.sub, h1.fifo, h1.ram, h1.tok, h1.pend⟩
  split
  · exact refuseRec_kept s c h
  · rename_i hf
    simp at hf
    have ht := h.tok
    refine keepRec_kept _ c ⟨h.qb, h.uid, h.ck, h.ap, h.ac, h.up, h.sec, h.sub, h.fifo, h.ram, fun hB => ?_, h.pend⟩ fun _ => hf.1
    have := ht hB; show s.patina.tokens - 1 ≤ 64; omega

theorem admitAll_kept (s : State) (h : Kept B Q K s) :
    Kept B Q K (State.admitAll s) := by
  unfold State.admitAll
  repeat' first
    | intro _
    | with_reducible first | assumption | apply admitRec_kept | apply Kept.foldl
    | with_reducible
        refine Kept.of (e := ?_) ?_ ?_ ?_ ?_ ?_ ?_ ?_ ?_ ?_ ?_ ?_ ?_ ?_
        rotate_left; iterate 12 exact rfl

theorem toRing_ram (p : Patina) (r : PatRec) : (p.toRing r).ram = p.ram := rfl
theorem toRing_tokens (p : Patina) (r : PatRec) : (p.toRing r).tokens = p.tokens := rfl
theorem writeRec_kept (s : State) (r : PatRec) (h : Kept B Q K s) : Kept B Q K (State.writeRec s r) := by
  have ring : ∀ x, Kept B Q K { s with patina := s.patina.toRing x } := fun x =>
    Kept.of rfl rfl rfl rfl rfl rfl rfl rfl rfl (toRing_ram _ _) (toRing_tokens _ _) rfl h
  have pins : ∀ p t, Kept B Q K { s with patina := { s.patina with pins := p, pinTimes := t } } := fun p t =>
    h.same rfl rfl rfl rfl rfl rfl rfl rfl
  unfold State.writeRec
  extract_lets up times A put
  have hput : ∀ p, Kept B Q K (put p) := fun p => pins _ _
  clear_value put times
  split
  · exact ring _
  split
  · exact ring _
  split
  · exact hput _
  split
  · exact hput _
  split
  · exact ring _
  · exact raiseC_kept _ _ _ _ (ring _)

theorem writeCounters_kept (s : State) (h : Kept B Q K s) :
    Kept B Q K (State.writeCounters s) := by
  unfold State.writeCounters
  repeat' first
    | intro _
    | with_reducible first | assumption
    | with_reducible
        refine Kept.of (e := ?_) ?_ ?_ ?_ ?_ ?_ ?_ ?_ ?_ ?_ ?_ ?_ ?_ ?_
        rotate_left; iterate 12 exact rfl

theorem releasePins_kept (s : State) (pseq : Nat) (h : Kept B Q K s) :
    Kept B Q K (State.releasePins s pseq) := by
  unfold State.releasePins
  repeat' first
    | intro _
    | with_reducible first | assumption | apply Kept.ite | apply clearE_kept
    | dsimp only
    | split
    | with_reducible
        refine Kept.of (e := ?_) ?_ ?_ ?_ ?_ ?_ ?_ ?_ ?_ ?_ ?_ ?_ ?_ ?_
        rotate_left; iterate 12 exact rfl

theorem stepRise_kept (s : State) (kind unit : Nat) (old new : Wear) (driver : Nat) (temp : Int) (h : Kept B Q K s) :
    Kept B Q K (State.stepRise s kind unit old new driver temp) := by
  unfold State.stepRise
  repeat' first
    | intro _
    | with_reducible first | assumption | apply Kept.ite | apply logRec_kept | apply raiseP_kept
    | dsimp only
    | split
    | with_reducible
        refine Kept.of (e := ?_) ?_ ?_ ?_ ?_ ?_ ?_ ?_ ?_ ?_ ?_ ?_ ?_ ?_
        rotate_left; iterate 12 exact rfl

theorem onOps_kept (s : State) (f : List Op → List Op) (h : Kept B Q K s) :
    Kept B Q K (State.onOps s f) := by
  unfold State.onOps
  repeat' first
    | intro _
    | with_reducible first | assumption
    | with_reducible
        refine Kept.of (e := ?_) ?_ ?_ ?_ ?_ ?_ ?_ ?_ ?_ ?_ ?_ ?_ ?_ ?_
        rotate_left; iterate 12 exact rfl

theorem handOver_kept (s : State) (l : List Nat) (h : Kept B Q K s) : Kept B Q K (State.handOver s l) := by
  unfold State.handOver
  split
  · exact h
  · refine fifoEmptied_kept _ (Kept.foldl _ h fun x q hx => ?_)
    dsimp only
    split
    · refine ⟨hx.qb, hx.uid, hx.ck, hx.ap, hx.ac, hx.up, hx.sec, hx.sub, fun hB => ?_, hx.ram, hx.tok, hx.pend⟩
      simp only [leave_fifo]
      exact Nat.le_trans (List.length_erase_le) (hx.fifo hB)
    · exact hx

theorem deliver_kept (s : State) (t : Transport) (r : Reply) (h : Kept B Q K s) :
    Kept B Q K (State.deliver s t r) := by
  unfold State.deliver
  repeat' first
    | intro _
    | with_reducible first | assumption | apply Kept.ite | apply onPort_kept | apply raiseOnce_kept
    | with_reducible first | apply handOver_kept
    | dsimp only
    | split
    | with_reducible
        refine Kept.of (e := ?_) ?_ ?_ ?_ ?_ ?_ ?_ ?_ ?_ ?_ ?_ ?_ ?_ ?_
        rotate_left; iterate 12 exact rfl

theorem answer_kept (s : State) (t : Transport) (r : Reply) (h : Kept B Q K s) :
    Kept B Q K (State.answer s t r) := by
  unfold State.answer
  repeat' first
    | intro _
    | with_reducible first | assumption | apply Kept.ite | apply onPort_kept | apply deliver_kept
    | dsimp only
    | split
    | with_reducible
        refine Kept.of (e := ?_) ?_ ?_ ?_ ?_ ?_ ?_ ?_ ?_ ?_ ?_ ?_ ?_ ?_
        rotate_left; iterate 12 exact rfl

theorem respondWith_kept (s : State) (w : Waiting) (st : Status) (data : List Byte) (drops : List Nat)
    (h : Kept B Q K s) :
    Kept B Q K (State.respondWith s w st data drops) := by
  unfold State.respondWith
  repeat' first
    | intro _
    | with_reducible first | assumption | apply Kept.ite | apply answer_kept
    | dsimp only
    | split
    | with_reducible
        refine Kept.of (e := ?_) ?_ ?_ ?_ ?_ ?_ ?_ ?_ ?_ ?_ ?_ ?_ ?_ ?_
        rotate_left; iterate 12 exact rfl

theorem respond_kept (s : State) (w : Waiting) (st : Status) (data : List Byte) (h : Kept B Q K s) :
    Kept B Q K (State.respond s w st data) := by
  unfold State.respond
  repeat' first
    | intro _
    | with_reducible first | assumption | apply respondWith_kept
    | with_reducible
        refine Kept.of (e := ?_) ?_ ?_ ?_ ?_ ?_ ?_ ?_ ?_ ?_ ?_ ?_ ?_ ?_
        rotate_left; iterate 12 exact rfl

theorem begin__kept (s : State) (w : Waiting) (pnr : Bool) (wait : Wait) (k : OpKind) (h : Kept B Q K s) :
    Kept B Q K (State.begin_ s w pnr wait k) := by
  unfold State.begin_
  repeat' first
    | intro _
    | with_reducible first | assumption | apply Kept.ite | apply onOps_kept
    | dsimp only
    | split
    | with_reducible
        refine Kept.of (e := ?_) ?_ ?_ ?_ ?_ ?_ ?_ ?_ ?_ ?_ ?_ ?_ ?_ ?_
        rotate_left; iterate 12 exact rfl

theorem finish_kept (s : State) (o : Op) (st : Status) (data : List Byte) (h : Kept B Q K s) :
    Kept B Q K (State.finish s o st data) := by
  unfold State.finish
  repeat' first
    | intro _
    | with_reducible first | assumption | apply Kept.ite | apply onOps_kept | apply answer_kept
    | dsimp only
    | split
    | with_reducible
        refine Kept.of (e := ?_) ?_ ?_ ?_ ?_ ?_ ?_ ?_ ?_ ?_ ?_ ?_ ?_ ?_
        rotate_left; iterate 12 exact rfl

theorem dropSession_kept (s : State) (t : Transport) (x : Session) (reason : Nat) (h : Kept B Q K s) :
    Kept B Q K (State.dropSession s t x reason) := by
  unfold State.dropSession
  repeat' first
    | intro _
    | with_reducible first | assumption | apply Kept.ite | apply onPort_kept | apply raiseP_kept
    | with_reducible first | apply release_kept | apply onOps_kept
    | dsimp only
    | split
    | with_reducible
        refine Kept.of (e := ?_) ?_ ?_ ?_ ?_ ?_ ?_ ?_ ?_ ?_ ?_ ?_ ?_ ?_
        rotate_left; iterate 12 exact rfl

theorem endSession_kept (s : State) (t : Transport) (reason : Nat) (h : Kept B Q K s) :
    Kept B Q K (State.endSession s t reason) := by
  unfold State.endSession
  repeat' first
    | intro _
    | with_reducible first | assumption | apply onPort_kept | apply dropSession_kept
    | dsimp only
    | split
    | with_reducible
        refine Kept.of (e := ?_) ?_ ?_ ?_ ?_ ?_ ?_ ?_ ?_ ?_ ?_ ?_ ?_ ?_
        rotate_left; iterate 12 exact rfl

theorem establish_kept (s : State) (t : Transport) (x : Session) (h : Kept B Q K s) :
    Kept B Q K (State.establish s t x) := by
  unfold State.establish
  repeat' first
    | intro _
    | with_reducible first | assumption | apply Kept.ite | apply onPort_kept | apply raiseP_kept
    | with_reducible first | apply dropSession_kept
    | dsimp only
    | split
    | with_reducible
        refine Kept.of (e := ?_) ?_ ?_ ?_ ?_ ?_ ?_ ?_ ?_ ?_ ?_ ?_ ?_ ?_
        rotate_left; iterate 12 exact rfl

theorem keyChanged_kept (s : State) (role slot : Nat) (h : Kept B Q K s) :
    Kept B Q K (State.keyChanged s role slot) := by
  unfold State.keyChanged
  repeat' first
    | intro _
    | with_reducible first | assumption | apply Kept.ite | apply onPort_kept | apply endSession_kept
    | with_reducible first | apply Kept.foldl
    | dsimp only
    | split
    | with_reducible
        refine Kept.of (e := ?_) ?_ ?_ ?_ ?_ ?_ ?_ ?_ ?_ ?_ ?_ ?_ ?_ ?_
        rotate_left; iterate 12 exact rfl

theorem claimsEnd_kept (s : State) (h : Kept B Q K s) :
    Kept B Q K (State.claimsEnd s) := by
  unfold State.claimsEnd
  repeat' first
    | intro _
    | with_reducible first | assumption | apply Kept.ite | apply onPort_kept | apply endSession_kept
    | with_reducible first | apply Kept.foldl
    | dsimp only
    | split
    | with_reducible
        refine Kept.of (e := ?_) ?_ ?_ ?_ ?_ ?_ ?_ ?_ ?_ ?_ ?_ ?_ ?_ ?_
        rotate_left; iterate 12 exact rfl

theorem lineCheck_kept (s : State) (w : Waiting) (h : Kept B Q K s) :
    Kept1 B Q K (State.lineCheck s w) := by
  unfold State.lineCheck
  repeat' first
    | intro _
    | with_reducible first | assumption | apply Kept.ite | apply respond_kept | apply Kept1.ite | apply Kept2.ite
    | dsimp only
    | split
    | with_reducible apply Kept1.mk
    | with_reducible
        refine Kept.of (e := ?_) ?_ ?_ ?_ ?_ ?_ ?_ ?_ ?_ ?_ ?_ ?_ ?_ ?_
        rotate_left; iterate 12 exact rfl

theorem lineCheck_kept_pr (s : State) (w : Waiting) (h : Kept B Q K s) :
    Kept B Q K (State.lineCheck s w).1 := lineCheck_kept s w h

theorem fresh_kept (s : State) (w : Waiting) (x : Session) (h : Kept B Q K s) :
    Kept1 B Q K (State.fresh s w x) := by
  unfold State.fresh
  repeat' first
    | intro _
    | with_reducible first | assumption | apply Kept.ite | apply onPort_kept | apply raiseP_kept
    | with_reducible first | apply deliver_kept | apply respond_kept | apply endSession_kept | apply Kept1.ite
    | with_reducible first | apply Kept2.ite
    | dsimp only
    | split
    | with_reducible apply Kept1.mk
    | with_reducible
        refine Kept.of (e := ?_) ?_ ?_ ?_ ?_ ?_ ?_ ?_ ?_ ?_ ?_ ?_ ?_ ?_
        rotate_left; iterate 12 exact rfl

theorem fresh_kept_pr (s : State) (w : Waiting) (x : Session) (h : Kept B Q K s) :
    Kept B Q K (State.fresh s w x).1 := fresh_kept s w x h

theorem authorize_kept (s : State) (w : Waiting) (who : Signer) (h : Kept B Q K s) :
    Kept1 B Q K (State.authorize s w who) := by
  unfold State.authorize
  repeat' first
    | intro _
    | with_reducible first | assumption | apply Kept.ite | apply onPort_kept | apply raiseP_kept
    | with_reducible first | apply respond_kept | apply establish_kept | apply lineCheck_kept
    | with_reducible first | apply lineCheck_kept_pr | apply fresh_kept | apply fresh_kept_pr | apply Kept1.ite
    | with_reducible first | apply Kept2.ite | refine Kept.of_fst (by assumption) ?_
    | with_reducible first | refine Kept.of_snd (by assumption) ?_
    | dsimp only
    | split
    | with_reducible apply Kept1.mk
    | with_reducible
        refine Kept.of (e := ?_) ?_ ?_ ?_ ?_ ?_ ?_ ?_ ?_ ?_ ?_ ?_ ?_ ?_
        rotate_left; iterate 12 exact rfl

theorem authorize_kept_pr (s : State) (w : Waiting) (who : Signer) (h : Kept B Q K s) :
    Kept B Q K (State.authorize s w who).1 := authorize_kept s w who h

theorem admitRest_kept (s : State) (w : Waiting) (run : Option Parts) (h : Kept B Q K s) :
    Kept1 B Q K (State.admitRest s w run) := by
  unfold State.admitRest
  repeat' first
    | intro _
    | with_reducible first | assumption | apply Kept.ite | apply onPort_kept | apply raiseP_kept | apply answer_kept
    | with_reducible first | apply respond_kept | apply Kept1.ite | apply Kept2.ite
    | dsimp only
    | split
    | with_reducible apply Kept1.mk
    | with_reducible
        refine Kept.of (e := ?_) ?_ ?_ ?_ ?_ ?_ ?_ ?_ ?_ ?_ ?_ ?_ ?_ ?_
        rotate_left; iterate 12 exact rfl

theorem admitRest_kept_pr (s : State) (w : Waiting) (run : Option Parts) (h : Kept B Q K s) :
    Kept B Q K (State.admitRest s w run).1 := admitRest_kept s w run h

theorem admit__kept (s : State) (w : Waiting) (h : Kept B Q K s) :
    Kept1 B Q K (State.admit_ s w) := by
  unfold State.admit_
  repeat' first
    | intro _
    | with_reducible first | assumption | apply Kept.ite | apply onPort_kept | apply respond_kept
    | with_reducible first | apply admitRest_kept | apply admitRest_kept_pr | apply Kept1.ite | apply Kept2.ite
    | with_reducible first | refine Kept.of_fst (by assumption) ?_ | refine Kept.of_snd (by assumption) ?_
    | dsimp only
    | split
    | with_reducible apply Kept1.mk
    | with_reducible
        refine Kept.of (e := ?_) ?_ ?_ ?_ ?_ ?_ ?_ ?_ ?_ ?_ ?_ ?_ ?_ ?_
        rotate_left; iterate 12 exact rfl

theorem admit__kept_pr (s : State) (w : Waiting) (h : Kept B Q K s) :
    Kept B Q K (State.admit_ s w).1 := admit__kept s w h

theorem arrive_kept (s : State) (opc : Nat) (rq : Request) (h : Kept B Q K s) :
    Kept1 B Q K (State.arrive s opc rq) := by
  unfold State.arrive
  repeat' first
    | intro _
    | with_reducible first | assumption | apply Kept.ite | apply respond_kept | apply authorize_kept
    | with_reducible first | apply authorize_kept_pr | apply admit__kept | apply admit__kept_pr | apply Kept1.ite
    | with_reducible first | apply Kept2.ite | refine Kept.of_fst (by assumption) ?_
    | with_reducible first | refine Kept.of_snd (by assumption) ?_
    | dsimp only
    | split
    | with_reducible apply Kept1.mk
    | with_reducible
        refine Kept.of (e := ?_) ?_ ?_ ?_ ?_ ?_ ?_ ?_ ?_ ?_ ?_ ?_ ?_ ?_
        rotate_left; iterate 12 exact rfl

theorem arrive_kept_pr (s : State) (opc : Nat) (rq : Request) (h : Kept B Q K s) :
    Kept B Q K (State.arrive s opc rq).1 := arrive_kept s opc rq h

theorem enqueue_kept (s : State) (w : Waiting) (h : Kept B Q K s) :
    Kept B Q K (State.enqueue s w) := by
  unfold State.enqueue
  repeat' first
    | intro _
    | with_reducible first | assumption | apply onPort_kept | apply needRun_kept
    | with_reducible
        refine Kept.of (e := ?_) ?_ ?_ ?_ ?_ ?_ ?_ ?_ ?_ ?_ ?_ ?_ ?_ ?_
        rotate_left; iterate 12 exact rfl

theorem receive_kept (s : State) (opc : Nat) (rq : Request) (h : Kept B Q K s) :
    Kept B Q K (State.receive s opc rq) := by
  unfold State.receive
  repeat' first
    | intro _
    | with_reducible first | assumption | apply arrive_kept | apply arrive_kept_pr | apply enqueue_kept
    | with_reducible first | refine Kept.of_fst (by assumption) ?_ | refine Kept.of_snd (by assumption) ?_
    | dsimp only
    | split
    | with_reducible
        refine Kept.of (e := ?_) ?_ ?_ ?_ ?_ ?_ ?_ ?_ ?_ ?_ ?_ ?_ ?_ ?_
        rotate_left; iterate 12 exact rfl

theorem frameError_kept (s : State) (h : Kept B Q K s) :
    Kept B Q K (State.frameError s) := by
  unfold State.frameError
  repeat' first
    | intro _
    | with_reducible first | assumption | apply raiseP_kept
    | with_reducible
        refine Kept.of (e := ?_) ?_ ?_ ?_ ?_ ?_ ?_ ?_ ?_ ?_ ?_ ?_ ?_ ?_
        rotate_left; iterate 12 exact rfl

theorem linePacket_kept (s : State) (src dst : Nat) (pkt : List Byte) (h : Kept B Q K s) :
    Kept B Q K (State.linePacket s src dst pkt) := by
  unfold State.linePacket
  repeat' first
    | intro _
    | with_reducible first | assumption | apply Kept.ite | apply receive_kept | apply frameError_kept
    | dsimp only
    | split
    | with_reducible
        refine Kept.of (e := ?_) ?_ ?_ ?_ ?_ ?_ ?_ ?_ ?_ ?_ ?_ ?_ ?_ ?_
        rotate_left; iterate 12 exact rfl

theorem toGateway_kept (s : State) (f : List Byte) (h : Kept B Q K s) :
    Kept B Q K (State.toGateway s f) := by
  unfold State.toGateway
  repeat' first
    | intro _
    | with_reducible first | assumption
    | with_reducible
        refine Kept.of (e := ?_) ?_ ?_ ?_ ?_ ?_ ?_ ?_ ?_ ?_ ?_ ?_ ?_ ?_
        rotate_left; iterate 12 exact rfl

theorem notify_kept (s : State) (report : List Byte) (h : Kept B Q K s) :
    Kept B Q K (State.notify s report) := by
  unfold State.notify
  repeat' first
    | intro _
    | with_reducible first | assumption | apply Kept.ite | apply toGateway_kept
    | dsimp only
    | split
    | with_reducible
        refine Kept.of (e := ?_) ?_ ?_ ?_ ?_ ?_ ?_ ?_ ?_ ?_ ?_ ?_ ?_ ?_
        rotate_left; iterate 12 exact rfl

theorem bridgeReply_kept (s : State) (addr : Nat) (pkt : List Byte) (h : Kept B Q K s) :
    Kept B Q K (State.bridgeReply s addr pkt) := by
  unfold State.bridgeReply
  repeat' first
    | intro _
    | with_reducible first | assumption | apply Kept.ite | apply toGateway_kept
    | dsimp only
    | split
    | with_reducible
        refine Kept.of (e := ?_) ?_ ?_ ?_ ?_ ?_ ?_ ?_ ?_ ?_ ?_ ?_ ?_ ?_
        rotate_left; iterate 12 exact rfl

theorem ownLinePkt_kept (s : State) (dst opc : Nat) (params : List Byte) (h : Kept B Q K s) :
    Kept2 B Q K (State.ownLinePkt s dst opc params) := by
  unfold State.ownLinePkt
  repeat' first
    | intro _
    | with_reducible first | assumption | apply Kept.ite | apply raiseP_kept | apply Kept1.ite | apply Kept2.ite
    | dsimp only
    | split
    | with_reducible apply Kept2.mk
    | with_reducible
        refine Kept.of (e := ?_) ?_ ?_ ?_ ?_ ?_ ?_ ?_ ?_ ?_ ?_ ?_ ?_ ?_
        rotate_left; iterate 12 exact rfl

theorem ownLinePkt_kept_pr (s : State) (dst opc : Nat) (params : List Byte) (h : Kept B Q K s) :
    Kept B Q K (State.ownLinePkt s dst opc params).2 := ownLinePkt_kept s dst opc params h

theorem sendLine_kept (s : State) (dst opc : Nat) (params : List Byte) (times : Nat) (h : Kept B Q K s) :
    Kept B Q K (State.sendLine s dst opc params times) := by
  unfold State.sendLine
  repeat' first
    | intro _
    | with_reducible first | assumption | apply ownLinePkt_kept | apply ownLinePkt_kept_pr
    | with_reducible first | refine Kept.of_fst (by assumption) ?_ | refine Kept.of_snd (by assumption) ?_
    | dsimp only
    | split
    | with_reducible
        refine Kept.of (e := ?_) ?_ ?_ ?_ ?_ ?_ ?_ ?_ ?_ ?_ ?_ ?_ ?_ ?_
        rotate_left; iterate 12 exact rfl

theorem tabImage_kept (s : State) (b : List Byte) (h : Kept B Q K s) :
    Kept1 B Q K (State.tabImage s b) := by
  unfold State.tabImage
  repeat' first
    | intro _
    | with_reducible first | assumption | apply restage_kept | apply armCommit_kept | apply Kept1.ite
    | with_reducible first | apply Kept2.ite
    | dsimp only
    | split
    | with_reducible apply Kept1.mk
    | with_reducible
        refine Kept.of (e := ?_) ?_ ?_ ?_ ?_ ?_ ?_ ?_ ?_ ?_ ?_ ?_ ?_ ?_
        rotate_left; iterate 12 exact rfl

theorem tabImage_kept_pr (s : State) (b : List Byte) (h : Kept B Q K s) :
    Kept B Q K (State.tabImage s b).1 := tabImage_kept s b h

theorem tabRequest_kept (s : State) (body : List Byte) (h : Kept B Q K s) :
    Kept B Q K (State.tabRequest s body) := by
  unfold State.tabRequest
  repeat' first
    | intro _
    | with_reducible first | assumption | apply Kept.ite | apply respond_kept | apply enqueue_kept
    | dsimp only
    | split
    | with_reducible
        refine Kept.of (e := ?_) ?_ ?_ ?_ ?_ ?_ ?_ ?_ ?_ ?_ ?_ ?_ ?_ ?_
        rotate_left; iterate 12 exact rfl

theorem tabReply_kept (s : State) (src : Nat) (body : List Byte) (h : Kept B Q K s) :
    Kept B Q K (State.tabReply s src body) := by
  unfold State.tabReply
  repeat' first
    | intro _
    | with_reducible first | assumption | apply finish_kept
    | dsimp only
    | split
    | with_reducible
        refine Kept.of (e := ?_) ?_ ?_ ?_ ?_ ?_ ?_ ?_ ?_ ?_ ?_ ?_ ?_ ?_
        rotate_left; iterate 12 exact rfl

theorem settle_kept (s : State) (h : Kept B Q K s) :
    Kept B Q K (State.settle s) := by
  unfold State.settle
  repeat' first
    | intro _
    | with_reducible first | assumption | apply finish_kept | apply Kept.foldl
    | dsimp only
    | split
    | with_reducible
        refine Kept.of (e := ?_) ?_ ?_ ?_ ?_ ?_ ?_ ?_ ?_ ?_ ?_ ?_ ?_ ?_
        rotate_left; iterate 12 exact rfl

theorem emulate_kept (s : State) (r dt vosMv vbusMv : Nat) (h : Kept B Q K s) :
    Kept B Q K (State.emulate s r dt vosMv vbusMv) := by
  unfold State.emulate
  repeat' first
    | intro _
    | with_reducible first | assumption | apply Kept.ite | apply onRail_kept | apply onPhase_kept | apply Kept.foldl
    | dsimp only
    | split
    | with_reducible
        refine Kept.of (e := ?_) ?_ ?_ ?_ ?_ ?_ ?_ ?_ ?_ ?_ ?_ ?_ ?_ ?_
        rotate_left; iterate 12 exact rfl

theorem valleys_kept (s : State) (r : Nat) (low : BitVec 8) (h : Kept B Q K s) :
    Kept B Q K (State.valleys s r low) := by
  unfold State.valleys
  repeat' first
    | intro _
    | with_reducible first | assumption | apply Kept.ite | apply onPhase_kept | apply Kept.foldl
    | dsimp only
    | split
    | with_reducible
        refine Kept.of (e := ?_) ?_ ?_ ?_ ?_ ?_ ?_ ?_ ?_ ?_ ?_ ?_ ?_ ?_
        rotate_left; iterate 12 exact rfl

theorem fire_kept (s : State) (r dt fbUv : Nat) (integUv : Int) (vosMv vbusMv : Nat) (low : BitVec 8)
    (h : Kept B Q K s) :
    Kept B Q K (State.fire s r dt fbUv integUv vosMv vbusMv low) := by
  unfold State.fire
  repeat' first
    | intro _
    | with_reducible first | assumption | apply Kept.ite | apply onRail_kept | apply onPhase_kept | apply draw_kept
    | with_reducible first | apply emulate_kept | apply valleys_kept
    | dsimp only
    | split
    | with_reducible
        refine Kept.of (e := ?_) ?_ ?_ ?_ ?_ ?_ ?_ ?_ ?_ ?_ ?_ ?_ ?_ ?_
        rotate_left; iterate 12 exact rfl

theorem balance_kept (s : State) (r : Nat) (i : PhaseMeans) (h : Kept B Q K s) :
    Kept B Q K (State.balance s r i) := by
  unfold State.balance
  repeat' first
    | intro _
    | with_reducible first | assumption | apply Kept.ite | apply Kept.foldl
    | dsimp only
    | split
    | with_reducible
        refine Kept.of (e := ?_) ?_ ?_ ?_ ?_ ?_ ?_ ?_ ?_ ?_ ?_ ?_ ?_ ?_
        rotate_left; iterate 12 exact rfl

theorem overloadMs_kept (s : State) (r : Nat) (h : Kept B Q K s) :
    Kept B Q K (State.overloadMs s r) := by
  unfold State.overloadMs
  repeat' first
    | intro _
    | with_reducible first | assumption | apply Kept.ite | apply onRail_kept
    | dsimp only
    | split
    | with_reducible
        refine Kept.of (e := ?_) ?_ ?_ ?_ ?_ ?_ ?_ ?_ ?_ ?_ ?_ ?_ ?_ ?_
        rotate_left; iterate 12 exact rfl

theorem preStart_kept (s : State) (chk : PreStart) (h : Kept B Q K s) :
    Kept B Q K (State.preStart s chk) := by
  unfold State.preStart
  repeat' first
    | intro _
    | with_reducible first | assumption | apply Kept.ite | apply onRail_kept | apply raiseP_kept | apply remap_kept
    | with_reducible first | apply shedPhase_kept | apply railStop_kept | apply Kept.foldl
    | dsimp only
    | split
    | with_reducible
        refine Kept.of (e := ?_) ?_ ?_ ?_ ?_ ?_ ?_ ?_ ?_ ?_ ?_ ?_ ?_ ?_
        rotate_left; iterate 12 exact rfl

theorem reachTarget_kept (s : State) (r : Nat) (h : Kept B Q K s) :
    Kept B Q K (State.reachTarget s r) := by
  unfold State.reachTarget
  repeat' first
    | intro _
    | with_reducible first | assumption | apply Kept.ite | apply onRail_kept | apply raiseP_kept
    | dsimp only
    | split
    | with_reducible
        refine Kept.of (e := ?_) ?_ ?_ ?_ ?_ ?_ ?_ ?_ ?_ ?_ ?_ ?_ ?_ ?_
        rotate_left; iterate 12 exact rfl

theorem sendFrame_kept (s : State) (m : LinkMode) (b : List Byte) (h : Kept B Q K s) :
    Kept B Q K (State.sendFrame s m b) := by
  unfold State.sendFrame
  repeat' first
    | intro _
    | with_reducible first | assumption
    | with_reducible
        refine Kept.of (e := ?_) ?_ ?_ ?_ ?_ ?_ ?_ ?_ ?_ ?_ ?_ ?_ ?_ ?_
        rotate_left; iterate 12 exact rfl

theorem endBurst_kept (s : State) (h : Kept B Q K s) :
    Kept B Q K (State.endBurst s) := by
  unfold State.endBurst
  repeat' first
    | intro _
    | with_reducible first | assumption | apply Kept.ite | apply release_kept
    | dsimp only
    | split
    | with_reducible
        refine Kept.of (e := ?_) ?_ ?_ ?_ ?_ ?_ ?_ ?_ ?_ ?_ ?_ ?_ ?_ ?_
        rotate_left; iterate 12 exact rfl

theorem nextFseq_kept (s : State) (h : Kept B Q K s) :
    Kept B Q K (State.nextFseq s) := by
  unfold State.nextFseq
  repeat' first
    | intro _
    | with_reducible first | assumption
    | with_reducible
        refine Kept.of (e := ?_) ?_ ?_ ?_ ?_ ?_ ?_ ?_ ?_ ?_ ?_ ?_ ?_ ?_
        rotate_left; iterate 12 exact rfl

theorem carrierHeard_kept (s : State) (h : Kept B Q K s) :
    Kept B Q K (State.carrierHeard s) := by
  unfold State.carrierHeard
  repeat' first
    | intro _
    | with_reducible first | assumption
    | with_reducible
        refine Kept.of (e := ?_) ?_ ?_ ?_ ?_ ?_ ?_ ?_ ?_ ?_ ?_ ?_ ?_ ?_
        rotate_left; iterate 12 exact rfl

theorem nodeBurst_kept (s : State) (m : LinkMode) (b : List Byte) (h : Kept B Q K s) :
    Kept B Q K (State.nodeBurst s m b) := by
  unfold State.nodeBurst
  repeat' first
    | intro _
    | with_reducible first | assumption | apply Kept.ite | apply hold_kept | apply refuse_kept
    | with_reducible first | apply sendFrame_kept
    | dsimp only
    | split
    | with_reducible
        refine Kept.of (e := ?_) ?_ ?_ ?_ ?_ ?_ ?_ ?_ ?_ ?_ ?_ ?_ ?_ ?_
        rotate_left; iterate 12 exact rfl

theorem realignAll_kept (s : State) (h : Kept B Q K s) :
    Kept B Q K (State.realignAll s) := by
  unfold State.realignAll
  repeat' first
    | intro _
    | with_reducible first | assumption | apply Kept.ite | apply onChan_kept | apply draw_kept | apply Kept.foldl
    | dsimp only
    | split
    | with_reducible
        refine Kept.of (e := ?_) ?_ ?_ ?_ ?_ ?_ ?_ ?_ ?_ ?_ ?_ ?_ ?_ ?_
        rotate_left; iterate 12 exact rfl

theorem trimRtc_kept (s : State) (h : Kept B Q K s) :
    Kept B Q K (State.trimRtc s) := by
  unfold State.trimRtc
  repeat' first
    | intro _
    | with_reducible first | assumption | apply Kept.ite | apply draw_kept
    | dsimp only
    | split
    | with_reducible
        refine Kept.of (e := ?_) ?_ ?_ ?_ ?_ ?_ ?_ ?_ ?_ ?_ ?_ ?_ ?_ ?_
        rotate_left; iterate 12 exact rfl

theorem gainLock_kept (s : State) (h : Kept B Q K s) :
    Kept B Q K (State.gainLock s) := by
  unfold State.gainLock
  repeat' first
    | intro _
    | with_reducible first | assumption | apply raiseP_kept | apply relevel_kept | apply tb8Eval_kept
    | with_reducible first | apply realignAll_kept
    | with_reducible
        refine Kept.of (e := ?_) ?_ ?_ ?_ ?_ ?_ ?_ ?_ ?_ ?_ ?_ ?_ ?_ ?_
        rotate_left; iterate 12 exact rfl

theorem clearDay_kept (s : State) (h : Kept B Q K s) :
    Kept B Q K (State.clearDay s) := by
  unfold State.clearDay
  repeat' first
    | intro _
    | with_reducible first | assumption | apply Kept.ite | apply applyAllowances_kept
    | dsimp only
    | split
    | with_reducible
        refine Kept.of (e := ?_) ?_ ?_ ?_ ?_ ?_ ?_ ?_ ?_ ?_ ?_ ?_ ?_ ?_
        rotate_left; iterate 12 exact rfl

theorem dayCheck_kept (s : State) (h : Kept B Q K s) :
    Kept B Q K (State.dayCheck s) := by
  unfold State.dayCheck
  repeat' first
    | intro _
    | with_reducible first | assumption | apply Kept.ite | apply clearDay_kept
    | dsimp only
    | split
    | with_reducible
        refine Kept.of (e := ?_) ?_ ?_ ?_ ?_ ?_ ?_ ?_ ?_ ?_ ?_ ?_ ?_ ?_
        rotate_left; iterate 12 exact rfl

theorem Kept.clk {e : State} {pl : Plinth} {le : Ledger} (h : Kept B Q K e) (hu : pl.upMs = e.plinth.upMs)
    (hs : B → pl.rtcSec < 2 ^ 32) (hb : B → pl.rtcSub < 32768) : Kept B Q K { e with plinth := pl, ledger := le } :=
  ⟨h.qb, h.uid, h.ck, h.ap, h.ac, hu ▸ h.up, hs, hb, h.fifo, h.ram, h.tok, h.pend⟩
theorem setTime_kept (s : State) (t : Nat) (h : Kept B Q K s) : Kept B Q K (State.setTime s t) := by
  unfold State.setTime
  apply dayCheck_kept
  exact h.clk rfl (fun _ => Nat.mod_lt _ (by decide)) fun _ => show (0 : Nat) < 32768 by decide

theorem onNode_kept (s : State) (a : Nat) (f : Node → Node) (h : Kept B Q K s) :
    Kept B Q K (State.onNode s a f) := by
  unfold State.onNode
  repeat' first
    | intro _
    | with_reducible first | assumption | apply Kept.ite
    | dsimp only
    | split
    | with_reducible
        refine Kept.of (e := ?_) ?_ ?_ ?_ ?_ ?_ ?_ ?_ ?_ ?_ ?_ ?_ ?_ ?_
        rotate_left; iterate 12 exact rfl

theorem setMode_kept (s : State) (a : Nat) (m : LinkMode) (h : Kept B Q K s) :
    Kept B Q K (State.setMode s a m) := by
  unfold State.setMode
  repeat' first
    | intro _
    | with_reducible first | assumption | apply Kept.ite | apply raiseP_kept | apply onNode_kept
    | dsimp only
    | split
    | with_reducible
        refine Kept.of (e := ?_) ?_ ?_ ?_ ?_ ?_ ?_ ?_ ?_ ?_ ?_ ?_ ?_ ?_
        rotate_left; iterate 12 exact rfl

theorem shelfUndone_kept (s : State) (h : Kept B Q K s) :
    Kept B Q K (State.shelfUndone s) := by
  unfold State.shelfUndone
  repeat' first
    | intro _
    | with_reducible first | assumption | apply Kept.ite
    | dsimp only
    | split
    | with_reducible
        refine Kept.of (e := ?_) ?_ ?_ ?_ ?_ ?_ ?_ ?_ ?_ ?_ ?_ ?_ ?_ ?_
        rotate_left; iterate 12 exact rfl

theorem rollBack_kept (device : Bool) (s : State) (o : Op) (h : Kept B Q K s) :
    Kept B Q K (State.rollBack device s o) := by
  unfold State.rollBack
  repeat' first
    | intro _
    | with_reducible first | assumption | apply Kept.ite | apply spoilBank_kept | apply shelfUndone_kept
    | dsimp only
    | split
    | with_reducible
        refine Kept.of (e := ?_) ?_ ?_ ?_ ?_ ?_ ?_ ?_ ?_ ?_ ?_ ?_ ?_ ?_
        rotate_left; iterate 12 exact rfl

theorem dropPorts_kept (s : State) (device : Bool) (h : Kept B Q K s) :
    Kept B Q K (State.dropPorts s device) := by
  unfold State.dropPorts
  repeat' first
    | intro _
    | with_reducible first | assumption | apply clearE_kept | apply endSession_kept | apply rollBack_kept
    | with_reducible first | apply Kept.foldl
    | with_reducible
        refine Kept.of (e := ?_) ?_ ?_ ?_ ?_ ?_ ?_ ?_ ?_ ?_ ?_ ?_ ?_ ?_
        rotate_left; iterate 12 exact rfl

theorem coldNext_kept (s : State) (h : Kept B Q K s) :
    Kept B Q K (State.coldNext s) := by
  unfold State.coldNext
  repeat' first
    | intro _
    | with_reducible first | assumption | apply Kept.ite
    | dsimp only
    | split
    | with_reducible
        refine Kept.of (e := ?_) ?_ ?_ ?_ ?_ ?_ ?_ ?_ ?_ ?_ ?_ ?_ ?_ ?_
        rotate_left; iterate 12 exact rfl

theorem seqReset_kept (s : State) (cause : Nat) (h : Kept B Q K s) :
    Kept B Q K (State.seqReset s cause) := by
  unfold State.seqReset
  repeat' first
    | intro _
    | with_reducible first | assumption | apply Kept.ite | apply fresh_kept | apply fresh_kept_pr
    | with_reducible first | apply dropPorts_kept | apply coldNext_kept | refine Kept.of_fst (by assumption) ?_
    | with_reducible first | refine Kept.of_snd (by assumption) ?_
    | dsimp only
    | split
    | with_reducible
        refine Kept.of (e := ?_) ?_ ?_ ?_ ?_ ?_ ?_ ?_ ?_ ?_ ?_ ?_ ?_ ?_
        rotate_left; iterate 12 exact rfl

theorem stallReset_kept (s : State) (cause : Nat) (h : Kept B Q K s) :
    Kept B Q K (State.stallReset s cause) := by
  unfold State.stallReset
  repeat' first
    | intro _
    | with_reducible first | assumption | apply Kept.ite | apply coldNext_kept | apply seqReset_kept
    | dsimp only
    | split
    | with_reducible
        refine Kept.of (e := ?_) ?_ ?_ ?_ ?_ ?_ ?_ ?_ ?_ ?_ ?_ ?_ ?_ ?_
        rotate_left; iterate 12 exact rfl

theorem resetClears_kept (s : State) (h : Kept B Q K s) :
    Kept B Q K (State.resetClears s) := by
  unfold State.resetClears
  repeat' first
    | intro _
    | with_reducible first | assumption | apply clearE_kept | apply Kept.foldl
    | with_reducible
        refine Kept.of (e := ?_) ?_ ?_ ?_ ?_ ?_ ?_ ?_ ?_ ?_ ?_ ?_ ?_ ?_
        rotate_left; iterate 12 exact rfl

theorem devReset_kept (s : State) (cause : Nat) (h : Kept B Q K s) :
    Kept B Q K (State.devReset s cause) := by
  unfold State.devReset
  repeat' first
    | intro _
    | with_reducible first | assumption | apply tb8Eval_kept | apply fresh_kept | apply fresh_kept_pr
    | with_reducible first | apply dropPorts_kept | apply resetClears_kept | refine Kept.of_fst (by assumption) ?_
    | with_reducible first | refine Kept.of_snd (by assumption) ?_
    | with_reducible
        refine Kept.of (e := ?_) ?_ ?_ ?_ ?_ ?_ ?_ ?_ ?_ ?_ ?_ ?_ ?_ ?_
        rotate_left; iterate 12 exact rfl

theorem sampleStraps_kept (s : State) (p : Straps) (sdo : Bool) (h : Kept B Q K s) :
    Kept B Q K (State.sampleStraps s p sdo) := by
  unfold State.sampleStraps
  repeat' first
    | intro _
    | with_reducible first | assumption | apply Kept.ite | apply setC_kept
    | dsimp only
    | split
    | with_reducible
        refine Kept.of (e := ?_) ?_ ?_ ?_ ?_ ?_ ?_ ?_ ?_ ?_ ?_ ?_ ?_ ?_
        rotate_left; iterate 12 exact rfl

theorem bootRecord_kept (s : State) (pinned : Bool) (h : Kept B Q K s) :
    Kept B Q K (State.bootRecord s pinned) := by
  unfold State.bootRecord
  repeat' first
    | intro _
    | with_reducible first | assumption | apply Kept.ite | apply logRec_kept
    | dsimp only
    | split
    | with_reducible
        refine Kept.of (e := ?_) ?_ ?_ ?_ ?_ ?_ ?_ ?_ ?_ ?_ ?_ ?_ ?_ ?_
        rotate_left; iterate 12 exact rfl

theorem regulate_kept (s : State) (h : Kept B Q K s) :
    Kept B Q K (State.regulate s) := by
  unfold State.regulate
  repeat' first
    | intro _
    | with_reducible first | assumption | apply Kept.ite
    | dsimp only
    | split
    | with_reducible
        refine Kept.of (e := ?_) ?_ ?_ ?_ ?_ ?_ ?_ ?_ ?_ ?_ ?_ ?_ ?_ ?_
        rotate_left; iterate 12 exact rfl

theorem run_kept (s : State) (w : Waiting) (opc : Nat) (body : State → Waiting → State)
    (hbody : ∀ y0 y1, Kept B Q K y0 → Kept B Q K (body y0 y1)) (h : Kept B Q K s) :
    Kept B Q K (State.run s w opc body) := by
  unfold State.run
  repeat' first
    | intro _
    | with_reducible first | assumption | apply Kept.ite | apply taskEnd_kept | apply respond_kept | apply hbody
    | dsimp only
    | split
    | with_reducible
        refine Kept.of (e := ?_) ?_ ?_ ?_ ?_ ?_ ?_ ?_ ?_ ?_ ?_ ?_ ?_ ?_
        rotate_left; iterate 12 exact rfl

theorem serve_kept (s : State) (opc : Nat) (rq : Request) (own : List Byte → Bool) (body : State → Waiting → State)
    (hbody : ∀ y0 y1, Kept B Q K y0 → Kept B Q K (body y0 y1)) (h : Kept B Q K s) :
    Kept B Q K (State.serve s opc rq own body) := by
  unfold State.serve
  repeat' first
    | intro _
    | with_reducible first | assumption | apply Kept.ite | apply onPort_kept | apply arrive_kept
    | with_reducible first | apply arrive_kept_pr | apply enqueue_kept | apply run_kept | apply hbody
    | with_reducible first | refine Kept.of_fst (by assumption) ?_ | refine Kept.of_snd (by assumption) ?_
    | dsimp only
    | split
    | with_reducible
        refine Kept.of (e := ?_) ?_ ?_ ?_ ?_ ?_ ?_ ?_ ?_ ?_ ?_ ?_ ?_ ?_
        rotate_left; iterate 12 exact rfl

theorem onOp_kept (s : State) (o : Op) (f : Op → Op) (h : Kept B Q K s) :
    Kept B Q K (State.onOp s o f) := by
  unfold State.onOp
  repeat' first
    | intro _
    | with_reducible first | assumption | apply Kept.ite | apply onOps_kept
    | dsimp only
    | split
    | with_reducible
        refine Kept.of (e := ?_) ?_ ?_ ?_ ?_ ?_ ?_ ?_ ?_ ?_ ?_ ?_ ?_ ?_
        rotate_left; iterate 12 exact rfl

theorem decomNext_kept (s : State) (o : Op) (h : Kept B Q K s) :
    Kept B Q K (State.decomNext s o) := by
  unfold State.decomNext
  repeat' first
    | intro _
    | with_reducible first | assumption | apply Kept.ite | apply request_kept | apply onOp_kept
    | dsimp only
    | split
    | with_reducible
        refine Kept.of (e := ?_) ?_ ?_ ?_ ?_ ?_ ?_ ?_ ?_ ?_ ?_ ?_ ?_ ?_
        rotate_left; iterate 12 exact rfl

theorem keyEraseNow_kept (s : State) (o : Op) (role slot : Nat) (h : Kept B Q K s) :
    Kept B Q K (State.keyEraseNow s o role slot) := by
  unfold State.keyEraseNow
  repeat' first
    | intro _
    | with_reducible first | assumption | apply Kept.ite | apply raiseP_kept | apply releaseOf_kept
    | with_reducible first | apply finish_kept | apply keyChanged_kept
    | dsimp only
    | split
    | with_reducible
        refine Kept.of (e := ?_) ?_ ?_ ?_ ?_ ?_ ?_ ?_ ?_ ?_ ?_ ?_ ?_ ?_
        rotate_left; iterate 12 exact rfl

theorem startOp_kept (s : State) (o : Op) (h : Kept B Q K s) :
    Kept B Q K (State.startOp s o) := by
  unfold State.startOp
  repeat' first
    | intro _
    | with_reducible first | assumption | apply Kept.ite | apply releaseOf_kept | apply finish_kept
    | with_reducible first | apply onOp_kept | apply decomNext_kept | apply keyEraseNow_kept
    | dsimp only
    | split
    | with_reducible
        refine Kept.of (e := ?_) ?_ ?_ ?_ ?_ ?_ ?_ ?_ ?_ ?_ ?_ ?_ ?_ ?_
        rotate_left; iterate 12 exact rfl

theorem resumeOps_kept (s : State) (h : Kept B Q K s) :
    Kept B Q K (State.resumeOps s) := by
  unfold State.resumeOps
  repeat' first
    | intro _
    | with_reducible first | assumption | apply Kept.ite | apply startOp_kept | apply Kept.foldl
    | dsimp only
    | split
    | with_reducible
        refine Kept.of (e := ?_) ?_ ?_ ?_ ?_ ?_ ?_ ?_ ?_ ?_ ?_ ?_ ?_ ?_
        rotate_left; iterate 12 exact rfl

theorem reserveOp_kept (s : State) (w : Waiting) (j : Job) (r : Nat) (k : OpKind) (h : Kept B Q K s) :
    Kept B Q K (State.reserveOp s w j r k) := by
  unfold State.reserveOp
  repeat' first
    | intro _
    | with_reducible first | assumption | apply request_kept | apply begin__kept | apply resumeOps_kept
    | with_reducible
        refine Kept.of (e := ?_) ?_ ?_ ?_ ?_ ?_ ?_ ?_ ?_ ?_ ?_ ?_ ?_ ?_
        rotate_left; iterate 12 exact rfl

theorem cancelOp_kept (s : State) (o : Op) (h : Kept B Q K s) :
    Kept B Q K (State.cancelOp s o) := by
  unfold State.cancelOp
  repeat' first
    | intro _
    | with_reducible first | assumption | apply Kept.ite | apply releaseOf_kept | apply unwait_kept
    | dsimp only
    | split
    | with_reducible
        refine Kept.of (e := ?_) ?_ ?_ ?_ ?_ ?_ ?_ ?_ ?_ ?_ ?_ ?_ ?_ ?_
        rotate_left; iterate 12 exact rfl

theorem energyOut_kept (s : State) (o : Op) (h : Kept B Q K s) :
    Kept B Q K (State.energyOut s o) := by
  unfold State.energyOut
  repeat' first
    | intro _
    | with_reducible first | assumption | apply Kept.ite | apply finish_kept | apply cancelOp_kept
    | dsimp only
    | split
    | with_reducible
        refine Kept.of (e := ?_) ?_ ?_ ?_ ?_ ?_ ?_ ?_ ?_ ?_ ?_ ?_ ?_ ?_
        rotate_left; iterate 12 exact rfl

theorem selfSave_kept (s : State) (h : Kept B Q K s) :
    Kept B Q K (State.selfSave s) := by
  unfold State.selfSave
  repeat' first
    | intro _
    | with_reducible first | assumption | apply Kept.ite | apply request_kept | apply onOps_kept
    | with_reducible first | apply resumeOps_kept
    | dsimp only
    | split
    | with_reducible
        refine Kept.of (e := ?_) ?_ ?_ ?_ ?_ ?_ ?_ ?_ ?_ ?_ ?_ ?_ ?_ ?_
        rotate_left; iterate 12 exact rfl

theorem forward_kept (s : State) (w : Waiting) (m opc : Nat) (body : List Byte) (h : Kept B Q K s) :
    Kept B Q K (State.forward s w m opc body) := by
  unfold State.forward
  repeat' first
    | intro _
    | with_reducible first | assumption | apply Kept.ite | apply respond_kept | apply begin__kept
    | dsimp only
    | split
    | with_reducible
        refine Kept.of (e := ?_) ?_ ?_ ?_ ?_ ?_ ?_ ?_ ?_ ?_ ?_ ?_ ?_ ?_
        rotate_left; iterate 12 exact rfl

theorem clearGroup_kept (s : State) (c : Nat) (h : Kept B Q K s) :
    Kept B Q K (State.clearGroup s c) := by
  unfold State.clearGroup
  repeat' first
    | intro _
    | with_reducible first | assumption | apply clearLatch_kept | apply Kept.foldl
    | with_reducible
        refine Kept.of (e := ?_) ?_ ?_ ?_ ?_ ?_ ?_ ?_ ?_ ?_ ?_ ?_ ?_ ?_
        rotate_left; iterate 12 exact rfl

theorem turnOn_kept (s : State) (cs : List Nat) (d : Nat → Demand) (h : Kept B Q K s) :
    Kept B Q K (State.turnOn s cs d) := by
  unfold State.turnOn
  repeat' first
    | intro _
    | with_reducible first | assumption | apply setDemand_kept | apply startStagger_kept | apply clearGroup_kept
    | with_reducible first | apply Kept.foldl
    | with_reducible
        refine Kept.of (e := ?_) ?_ ?_ ?_ ?_ ?_ ?_ ?_ ?_ ?_ ?_ ?_ ?_ ?_
        rotate_left; iterate 12 exact rfl

theorem turnOff_kept (s : State) (cs : List Nat) (h : Kept B Q K s) :
    Kept B Q K (State.turnOff s cs) := by
  unfold State.turnOff
  repeat' first
    | intro _
    | with_reducible first | assumption | apply setDemand_kept | apply Kept.foldl
    | with_reducible
        refine Kept.of (e := ?_) ?_ ?_ ?_ ?_ ?_ ?_ ?_ ?_ ?_ ?_ ?_ ?_ ?_
        rotate_left; iterate 12 exact rfl

theorem cmdChSet_kept (s : State) (w : Waiting) (h : Kept B Q K s) :
    Kept B Q K (State.cmdChSet s w) := by
  unfold State.cmdChSet
  repeat' first
    | intro _
    | with_reducible first | assumption | apply Kept.ite | apply respond_kept | apply begin__kept
    | with_reducible first | apply settle_kept | apply forward_kept | apply turnOn_kept | apply turnOff_kept
    | dsimp only
    | split
    | with_reducible
        refine Kept.of (e := ?_) ?_ ?_ ?_ ?_ ?_ ?_ ?_ ?_ ?_ ?_ ?_ ?_ ?_
        rotate_left; iterate 12 exact rfl

theorem clearMask_kept (s : State) (mask : Nat) (h : Kept B Q K s) :
    Kept B Q K (State.clearMask s mask) := by
  unfold State.clearMask
  repeat' first
    | intro _
    | with_reducible first | assumption | apply clearAllLatches_kept | apply startCalm_kept | apply Kept.foldl
    | with_reducible
        refine Kept.of (e := ?_) ?_ ?_ ?_ ?_ ?_ ?_ ?_ ?_ ?_ ?_ ?_ ?_ ?_
        rotate_left; iterate 12 exact rfl

theorem cmdChClear_kept (s : State) (w : Waiting) (h : Kept B Q K s) :
    Kept B Q K (State.cmdChClear s w) := by
  unfold State.cmdChClear
  repeat' first
    | intro _
    | with_reducible first | assumption | apply Kept.ite | apply respond_kept | apply begin__kept
    | with_reducible first | apply settle_kept | apply forward_kept | apply clearMask_kept
    | dsimp only
    | split
    | with_reducible
        refine Kept.of (e := ?_) ?_ ?_ ?_ ?_ ?_ ?_ ?_ ?_ ?_ ?_ ?_ ?_ ?_
        rotate_left; iterate 12 exact rfl

theorem cmdRailStop_kept (s : State) (w : Waiting) (h : Kept B Q K s) :
    Kept B Q K (State.cmdRailStop s w) := by
  unfold State.cmdRailStop
  repeat' first
    | intro _
    | with_reducible first | assumption | apply Kept.ite | apply gangOrder_kept | apply softStop_kept
    | with_reducible first | apply toIdle_kept | apply respond_kept | apply settle_kept
    | dsimp only
    | split
    | with_reducible
        refine Kept.of (e := ?_) ?_ ?_ ?_ ?_ ?_ ?_ ?_ ?_ ?_ ?_ ?_ ?_ ?_
        rotate_left; iterate 12 exact rfl

theorem cmdRailStart_kept (s : State) (w : Waiting) (h : Kept B Q K s) :
    Kept B Q K (State.cmdRailStart s w) := by
  unfold State.cmdRailStart
  repeat' first
    | intro _
    | with_reducible first | assumption | apply Kept.ite | apply onRail_kept | apply gangOrder_kept
    | with_reducible first | apply startRail_kept | apply respond_kept | apply begin__kept | apply settle_kept
    | dsimp only
    | split
    | with_reducible
        refine Kept.of (e := ?_) ?_ ?_ ?_ ?_ ?_ ?_ ?_ ?_ ?_ ?_ ?_ ?_ ?_
        rotate_left; iterate 12 exact rfl

theorem cmdRailClear_kept (s : State) (w : Waiting) (h : Kept B Q K s) :
    Kept B Q K (State.cmdRailClear s w) := by
  unfold State.cmdRailClear
  repeat' first
    | intro _
    | with_reducible first | assumption | apply Kept.ite | apply gangOrder_kept | apply clearOv_kept
    | with_reducible first | apply respond_kept
    | dsimp only
    | split
    | with_reducible
        refine Kept.of (e := ?_) ?_ ?_ ?_ ?_ ?_ ?_ ?_ ?_ ?_ ?_ ?_ ?_ ?_
        rotate_left; iterate 12 exact rfl

theorem cmdFaultRead_kept (s : State) (w : Waiting) (h : Kept B Q K s) :
    Kept B Q K (State.cmdFaultRead s w) := by
  unfold State.cmdFaultRead
  repeat' first
    | intro _
    | with_reducible first | assumption | apply Kept.ite | apply respond_kept
    | dsimp only
    | split
    | with_reducible
        refine Kept.of (e := ?_) ?_ ?_ ?_ ?_ ?_ ?_ ?_ ?_ ?_ ?_ ?_ ?_ ?_
        rotate_left; iterate 12 exact rfl

theorem setLevel_kept (s : State) (level hold : Nat) (h : Kept B Q K s) :
    Kept B Q K (State.setLevel s level hold) := by
  unfold State.setLevel
  repeat' first
    | intro _
    | with_reducible first | assumption | apply Kept.ite | apply relevel_kept | apply hold_kept
    | dsimp only
    | split
    | with_reducible
        refine Kept.of (e := ?_) ?_ ?_ ?_ ?_ ?_ ?_ ?_ ?_ ?_ ?_ ?_ ?_ ?_
        rotate_left; iterate 12 exact rfl

theorem cmdShedSet_kept (s : State) (w : Waiting) (h : Kept B Q K s) :
    Kept B Q K (State.cmdShedSet s w) := by
  unfold State.cmdShedSet
  repeat' first
    | intro _
    | with_reducible first | assumption | apply Kept.ite | apply hold_kept | apply respond_kept
    | with_reducible first | apply setLevel_kept
    | dsimp only
    | split
    | with_reducible
        refine Kept.of (e := ?_) ?_ ?_ ?_ ?_ ?_ ?_ ?_ ?_ ?_ ?_ ?_ ?_ ?_
        rotate_left; iterate 12 exact rfl

theorem setAllowance_kept (s : State) (cls wh : Nat) (h : Kept B Q K s) :
    Kept B Q K (State.setAllowance s cls wh) := by
  unfold State.setAllowance
  repeat' first
    | intro _
    | with_reducible first | assumption | apply Kept.ite | apply applyAllowance_kept | apply sendLine_kept
    | dsimp only
    | split
    | with_reducible
        refine Kept.of (e := ?_) ?_ ?_ ?_ ?_ ?_ ?_ ?_ ?_ ?_ ?_ ?_ ?_ ?_
        rotate_left; iterate 12 exact rfl

theorem cmdAllowanceSet_kept (s : State) (w : Waiting) (h : Kept B Q K s) :
    Kept B Q K (State.cmdAllowanceSet s w) := by
  unfold State.cmdAllowanceSet
  repeat' first
    | intro _
    | with_reducible first | assumption | apply Kept.ite | apply respond_kept | apply setAllowance_kept
    | dsimp only
    | split
    | with_reducible
        refine Kept.of (e := ?_) ?_ ?_ ?_ ?_ ?_ ?_ ?_ ?_ ?_ ?_ ?_ ?_ ?_
        rotate_left; iterate 12 exact rfl

theorem applyLate_kept (s : State) (h : Kept B Q K s) :
    Kept B Q K (State.applyLate s) := by
  unfold State.applyLate
  repeat' first
    | intro _
    | with_reducible first | assumption | apply hold_kept | apply clearMask_kept | apply setLevel_kept
    | with_reducible first | apply setAllowance_kept | apply Kept.foldl
    | dsimp only
    | split
    | with_reducible
        refine Kept.of (e := ?_) ?_ ?_ ?_ ?_ ?_ ?_ ?_ ?_ ?_ ?_ ?_ ?_ ?_
        rotate_left; iterate 12 exact rfl

theorem leFold_lt : ∀ l : List Byte, ofLe l < 256 ^ l.length
  | [] => by simp [ofLe]
  | b :: l => by
    have h1 := leFold_lt l
    have h2 := b.isLt
    simp only [ofLe, List.length_cons, Nat.pow_succ]
    omega
theorem fieldAt_two (l : List Byte) (o : Nat) : fieldAt l o 2 < 65536 := by
  have h := leFold_lt ((l.drop o).take 2)
  have : ((l.drop o).take 2).length ≤ 2 := List.length_take_le 2 _
  calc fieldAt l o 2 = ofLe ((l.drop o).take 2) := rfl
    _ < 256 ^ ((l.drop o).take 2).length := h
    _ ≤ 256 ^ 2 := Nat.pow_le_pow_right (by decide) this
theorem cmdTimeSet_kept (s : State) (w : Waiting) (h : Kept B Q K s) : Kept B Q K (State.cmdTimeSet s w) := by
  unfold State.cmdTimeSet
  apply respond_kept
  have h1 := setTime_kept s (fieldAt w.body 0 4) h
  refine ⟨h1.qb, h1.uid, h1.ck, h1.ap, h1.ac, h1.up, h1.sec, fun _ => ?_, h1.fifo, h1.ram, h1.tok, h1.pend⟩
  have := fieldAt_two w.body 4
  show fieldAt w.body 4 2 / 2 < 32768
  omega

theorem vhostEval_kept (s : State) (h : Kept B Q K s) :
    Kept B Q K (State.vhostEval s) := by
  unfold State.vhostEval
  repeat' first
    | intro _
    | with_reducible first | assumption | apply Kept.ite
    | dsimp only
    | split
    | with_reducible
        refine Kept.of (e := ?_) ?_ ?_ ?_ ?_ ?_ ?_ ?_ ?_ ?_ ?_ ?_ ?_ ?_
        rotate_left; iterate 12 exact rfl

theorem bootBegin_kept (s : State) (h : Kept B Q K s) :
    Kept B Q K (State.bootBegin s) := by
  unfold State.bootBegin
  repeat' first
    | intro _
    | with_reducible first | assumption | apply Kept.ite | apply toMode_kept | apply coldNext_kept | apply run_kept
    | dsimp only
    | split
    | with_reducible
        refine Kept.of (e := ?_) ?_ ?_ ?_ ?_ ?_ ?_ ?_ ?_ ?_ ?_ ?_ ?_ ?_
        rotate_left; iterate 12 exact rfl

theorem modeOnMake_kept (s : State) (t : Source) (h : Kept B Q K s) :
    Kept B Q K (State.modeOnMake s t) := by
  unfold State.modeOnMake
  repeat' first
    | intro _
    | with_reducible first | assumption | apply Kept.ite | apply toMode_kept | apply wakeSeq_kept | apply toRun_kept
    | with_reducible first | apply bootBegin_kept
    | dsimp only
    | split
    | with_reducible
        refine Kept.of (e := ?_) ?_ ?_ ?_ ?_ ?_ ?_ ?_ ?_ ?_ ?_ ?_ ?_ ?_
        rotate_left; iterate 12 exact rfl

theorem setQualified_kept (s : State) (x : Source) (b : Bool) (h : Kept B Q K s) :
    Kept B Q K (State.setQualified s x b) := by
  unfold State.setQualified
  repeat' first
    | intro _
    | with_reducible first | assumption
    | dsimp only
    | split
    | with_reducible
        refine Kept.of (e := ?_) ?_ ?_ ?_ ?_ ?_ ?_ ?_ ?_ ?_ ?_ ?_ ?_ ?_
        rotate_left; iterate 12 exact rfl

theorem bakDrawn_kept (s : State) (h : Kept B Q K s) :
    Kept B Q K (State.bakDrawn s) := by
  unfold State.bakDrawn
  repeat' first
    | intro _
    | with_reducible first | assumption | apply Kept.ite | apply draw_kept
    | dsimp only
    | split
    | with_reducible
        refine Kept.of (e := ?_) ?_ ?_ ?_ ?_ ?_ ?_ ?_ ?_ ?_ ?_ ?_ ?_ ?_
        rotate_left; iterate 12 exact rfl

theorem handover_kept (s : State) (t : Option Source) (h : Kept B Q K s) :
    Kept B Q K (State.handover s t) := by
  unfold State.handover
  repeat' first
    | intro _
    | with_reducible first | assumption | apply bakDrawn_kept
    | with_reducible
        refine Kept.of (e := ?_) ?_ ?_ ?_ ?_ ?_ ?_ ?_ ?_ ?_ ?_ ?_ ?_ ?_
        rotate_left; iterate 12 exact rfl

theorem downgrade_kept (s : State) (x : Source) (h : Kept B Q K s) :
    Kept B Q K (State.downgrade s x) := by
  unfold State.downgrade
  repeat' first
    | intro _
    | with_reducible first | assumption | apply handover_kept
    | with_reducible
        refine Kept.of (e := ?_) ?_ ?_ ?_ ?_ ?_ ?_ ?_ ?_ ?_ ?_ ?_ ?_ ?_
        rotate_left; iterate 12 exact rfl

theorem disqualify_kept (s : State) (x : Source) (h : Kept B Q K s) :
    Kept B Q K (State.disqualify s x) := by
  unfold State.disqualify
  repeat' first
    | intro _
    | with_reducible first | assumption | apply Kept.ite | apply setQualified_kept | apply downgrade_kept
    | dsimp only
    | split
    | with_reducible
        refine Kept.of (e := ?_) ?_ ?_ ?_ ?_ ?_ ?_ ?_ ?_ ?_ ?_ ?_ ?_ ?_
        rotate_left; iterate 12 exact rfl

theorem upgrade_kept (s : State) (h : Kept B Q K s) :
    Kept B Q K (State.upgrade s) := by
  unfold State.upgrade
  repeat' first
    | intro _
    | with_reducible first | assumption | apply Kept.ite | apply handover_kept
    | dsimp only
    | split
    | with_reducible
        refine Kept.of (e := ?_) ?_ ?_ ?_ ?_ ?_ ?_ ?_ ?_ ?_ ?_ ?_ ?_ ?_
        rotate_left; iterate 12 exact rfl

theorem qualify_kept (s : State) (x : Source) (h : Kept B Q K s) :
    Kept B Q K (State.qualify s x) := by
  unfold State.qualify
  repeat' first
    | intro _
    | with_reducible first | assumption | apply Kept.ite | apply setQualified_kept | apply handover_kept
    | with_reducible first | apply upgrade_kept
    | dsimp only
    | split
    | with_reducible
        refine Kept.of (e := ?_) ?_ ?_ ?_ ?_ ?_ ?_ ?_ ?_ ?_ ?_ ?_ ?_ ?_
        rotate_left; iterate 12 exact rfl

theorem recheck_kept (s : State) (t : Source) (h : Kept B Q K s) :
    Kept B Q K (State.recheck s t) := by
  unfold State.recheck
  repeat' first
    | intro _
    | with_reducible first | assumption | apply Kept.ite | apply downgrade_kept
    | dsimp only
    | split
    | with_reducible
        refine Kept.of (e := ?_) ?_ ?_ ?_ ?_ ?_ ?_ ?_ ?_ ?_ ?_ ?_ ?_ ?_
        rotate_left; iterate 12 exact rfl

theorem nfcAfterMake_kept (s : State) (t : Source) (h : Kept B Q K s) :
    Kept B Q K (State.nfcAfterMake s t) := by
  unfold State.nfcAfterMake
  repeat' first
    | intro _
    | with_reducible first | assumption | apply Kept.ite | apply nfcReserve_kept
    | dsimp only
    | split
    | with_reducible
        refine Kept.of (e := ?_) ?_ ?_ ?_ ?_ ?_ ?_ ?_ ?_ ?_ ?_ ?_ ?_ ?_
        rotate_left; iterate 12 exact rfl

theorem make_kept (s : State) (t : Source) (h : Kept B Q K s) :
    Kept B Q K (State.make s t) := by
  unfold State.make
  repeat' first
    | intro _
    | with_reducible first | assumption | apply Kept.ite | apply regrant_kept | apply evalPins_kept
    | with_reducible first | apply tb8Eval_kept | apply resumeOps_kept | apply applyLate_kept | apply vhostEval_kept
    | with_reducible first | apply modeOnMake_kept | apply recheck_kept | apply nfcAfterMake_kept
    | dsimp only
    | split
    | with_reducible
        refine Kept.of (e := ?_) ?_ ?_ ?_ ?_ ?_ ?_ ?_ ?_ ?_ ?_ ?_ ?_ ?_
        rotate_left; iterate 12 exact rfl

theorem setSto_kept (s : State) (mv : Nat) (h : Kept B Q K s) :
    Kept B Q K (State.setSto s mv) := by
  unfold State.setSto
  repeat' first
    | intro _
    | with_reducible first | assumption | apply Kept.ite | apply clearR_kept | apply regulate_kept
    | dsimp only
    | split
    | with_reducible
        refine Kept.of (e := ?_) ?_ ?_ ?_ ?_ ?_ ?_ ?_ ?_ ?_ ?_ ?_ ?_ ?_
        rotate_left; iterate 12 exact rfl

theorem shutAnswers_kept (s : State) (h : Kept B Q K s) :
    Kept B Q K (State.shutAnswers s) := by
  unfold State.shutAnswers
  repeat' first
    | intro _
    | with_reducible first | assumption | apply Kept.ite | apply finish_kept | apply cancelOp_kept
    | with_reducible first | apply Kept.foldl
    | dsimp only
    | split
    | with_reducible
        refine Kept.of (e := ?_) ?_ ?_ ?_ ?_ ?_ ?_ ?_ ?_ ?_ ?_ ?_ ?_ ?_
        rotate_left; iterate 12 exact rfl

theorem shutdownBegin_kept (s : State) (h : Kept B Q K s) :
    Kept B Q K (State.shutdownBegin s) := by
  unfold State.shutdownBegin
  repeat' first
    | intro _
    | with_reducible first | assumption | apply Kept.ite | apply onRail_kept | apply softStop_kept
    | with_reducible first | apply toIdle_kept | apply shutAnswers_kept | apply Kept.foldl
    | dsimp only
    | split
    | with_reducible
        refine Kept.of (e := ?_) ?_ ?_ ?_ ?_ ?_ ?_ ?_ ?_ ?_ ?_ ?_ ?_ ?_
        rotate_left; iterate 12 exact rfl

theorem restartBegin_kept (s : State) (h : Kept B Q K s) :
    Kept B Q K (State.restartBegin s) := by
  unfold State.restartBegin
  repeat' first
    | intro _
    | with_reducible first | assumption | apply Kept.ite | apply clearE_kept | apply tb8Eval_kept | apply toRun_kept
    | dsimp only
    | split
    | with_reducible
        refine Kept.of (e := ?_) ?_ ?_ ?_ ?_ ?_ ?_ ?_ ?_ ?_ ?_ ?_ ?_ ?_
        rotate_left; iterate 12 exact rfl

theorem busReturns_kept (s : State) (h : Kept B Q K s) :
    Kept B Q K (State.busReturns s) := by
  unfold State.busReturns
  repeat' first
    | intro _
    | with_reducible first | assumption | apply Kept.ite | apply restartBegin_kept
    | dsimp only
    | split
    | with_reducible
        refine Kept.of (e := ?_) ?_ ?_ ?_ ?_ ?_ ?_ ?_ ?_ ?_ ?_ ?_ ?_ ?_
        rotate_left; iterate 12 exact rfl

theorem restartSupplies_kept (s : State) (h : Kept B Q K s) :
    Kept B Q K (State.restartSupplies s) := by
  unfold State.restartSupplies
  repeat' first
    | intro _
    | with_reducible first | assumption | apply Kept.ite | apply inhibit_kept | apply restoreDie_kept
    | with_reducible first | apply dieUp_kept | apply Kept.foldl
    | dsimp only
    | split
    | with_reducible
        refine Kept.of (e := ?_) ?_ ?_ ?_ ?_ ?_ ?_ ?_ ?_ ?_ ?_ ?_ ?_ ?_
        rotate_left; iterate 12 exact rfl

theorem onMember_kept (s : State) (m : Nat) (f : Member → Member) (h : Kept B Q K s) :
    Kept B Q K (State.onMember s m f) := by
  unfold State.onMember
  repeat' first
    | intro _
    | with_reducible first | assumption
    | with_reducible
        refine Kept.of (e := ?_) ?_ ?_ ?_ ?_ ?_ ?_ ?_ ?_ ?_ ?_ ?_ ?_ ?_
        rotate_left; iterate 12 exact rfl

theorem leadWatch_kept (s : State) (h : Kept B Q K s) :
    Kept B Q K (State.leadWatch s) := by
  unfold State.leadWatch
  repeat' first
    | intro _
    | with_reducible first | assumption | apply Kept.ite | apply relevel_kept
    | dsimp only
    | split
    | with_reducible
        refine Kept.of (e := ?_) ?_ ?_ ?_ ?_ ?_ ?_ ?_ ?_ ?_ ?_ ?_ ?_ ?_
        rotate_left; iterate 12 exact rfl

theorem respace_kept (s : State) (was : Vector Nat 2) (h : Kept B Q K s) :
    Kept B Q K (State.respace s was) := by
  unfold State.respace
  repeat' first
    | intro _
    | with_reducible first | assumption | apply Kept.ite | apply remap_kept
    | dsimp only
    | split
    | with_reducible
        refine Kept.of (e := ?_) ?_ ?_ ?_ ?_ ?_ ?_ ?_ ?_ ?_ ?_ ?_ ?_ ?_
        rotate_left; iterate 12 exact rfl

theorem regang_kept (s : State) (h : Kept B Q K s) :
    Kept B Q K (State.regang s) := by
  unfold State.regang
  repeat' first
    | intro _
    | with_reducible first | assumption | apply Kept.ite
    | dsimp only
    | split
    | with_reducible
        refine Kept.of (e := ?_) ?_ ?_ ?_ ?_ ?_ ?_ ?_ ?_ ?_ ?_ ?_ ?_ ?_
        rotate_left; iterate 12 exact rfl

theorem stopShares_kept (s : State) (h : Kept B Q K s) :
    Kept B Q K (State.stopShares s) := by
  unfold State.stopShares
  repeat' first
    | intro _
    | with_reducible first | assumption | apply Kept.ite | apply softStop_kept | apply Kept.foldl
    | dsimp only
    | split
    | with_reducible
        refine Kept.of (e := ?_) ?_ ?_ ?_ ?_ ?_ ?_ ?_ ?_ ?_ ?_ ?_ ?_ ?_
        rotate_left; iterate 12 exact rfl

theorem bulkOrder_kept (s : State) (h : Kept B Q K s) :
    Kept B Q K (State.bulkOrder s) := by
  unfold State.bulkOrder
  repeat' first
    | intro _
    | with_reducible first | assumption | apply Kept.ite
    | dsimp only
    | split
    | with_reducible
        refine Kept.of (e := ?_) ?_ ?_ ?_ ?_ ?_ ?_ ?_ ?_ ?_ ?_ ?_ ?_ ?_
        rotate_left; iterate 12 exact rfl

theorem sendBulk_kept (s : State) (h : Kept B Q K s) :
    Kept B Q K (State.sendBulk s) := by
  unfold State.sendBulk
  repeat' first
    | intro _
    | with_reducible first | assumption | apply Kept.ite
    | dsimp only
    | split
    | with_reducible
        refine Kept.of (e := ?_) ?_ ?_ ?_ ?_ ?_ ?_ ?_ ?_ ?_ ?_ ?_ ?_ ?_
        rotate_left; iterate 12 exact rfl

theorem gangPublish_kept (s : State) (h : Kept B Q K s) :
    Kept B Q K (State.gangPublish s) := by
  unfold State.gangPublish
  repeat' first
    | intro _
    | with_reducible first | assumption | apply Kept.ite
    | dsimp only
    | split
    | with_reducible
        refine Kept.of (e := ?_) ?_ ?_ ?_ ?_ ?_ ?_ ?_ ?_ ?_ ?_ ?_ ?_ ?_
        rotate_left; iterate 12 exact rfl

theorem gangTrim_kept (s : State) (r : Nat) (set : Int) (h : Kept B Q K s) :
    Kept B Q K (State.gangTrim s r set) := by
  unfold State.gangTrim
  repeat' first
    | intro _
    | with_reducible first | assumption | apply Kept.ite
    | dsimp only
    | split
    | with_reducible
        refine Kept.of (e := ?_) ?_ ?_ ?_ ?_ ?_ ?_ ?_ ?_ ?_ ?_ ?_ ?_ ?_
        rotate_left; iterate 12 exact rfl

theorem leadCycle_kept (s : State) (h : Kept B Q K s) :
    Kept B Q K (State.leadCycle s) := by
  unfold State.leadCycle
  repeat' first
    | intro _
    | with_reducible first | assumption | apply Kept.ite | apply relevel_kept | apply settle_kept
    | with_reducible first | apply respace_kept | apply regang_kept | apply bulkOrder_kept | apply sendBulk_kept
    | with_reducible first | apply gangPublish_kept | apply gangTrim_kept | apply Kept.foldl
    | dsimp only
    | split
    | with_reducible
        refine Kept.of (e := ?_) ?_ ?_ ?_ ?_ ?_ ?_ ?_ ?_ ?_ ?_ ?_ ?_ ?_
        rotate_left; iterate 12 exact rfl

theorem linkQuiet_kept (s : State) (h : Kept B Q K s) :
    Kept B Q K (State.linkQuiet s) := by
  unfold State.linkQuiet
  repeat' first
    | intro _
    | with_reducible first | assumption
    | with_reducible
        refine Kept.of (e := ?_) ?_ ?_ ?_ ?_ ?_ ?_ ?_ ?_ ?_ ?_ ?_ ?_ ?_
        rotate_left; iterate 12 exact rfl

theorem memberCycle_kept (s : State) (h : Kept B Q K s) :
    Kept B Q K (State.memberCycle s) := by
  unfold State.memberCycle
  repeat' first
    | intro _
    | with_reducible first | assumption | apply Kept.ite
    | dsimp only
    | split
    | with_reducible
        refine Kept.of (e := ?_) ?_ ?_ ?_ ?_ ?_ ?_ ?_ ?_ ?_ ?_ ?_ ?_ ?_
        rotate_left; iterate 12 exact rfl

theorem leadTime_kept (s : State) (t cyc : Nat) (h : Kept B Q K s) : Kept B Q K (State.leadTime s t cyc) := by
  have key : ∀ x : State, Kept B Q K x → Kept B Q K { x.setTime t with plinth := { (x.setTime t).plinth with rtcSub := cyc * 32768 / 1000 % 32768 } } := by
    intro x hx
    have h1 := setTime_kept x t hx
    exact h1.clk rfl h1.sec fun _ => Nat.mod_lt _ (by decide)
  unfold State.leadTime
  dsimp only
  split
  · exact h
  split
  · refine key _ ?_
    exact h.same rfl rfl rfl rfl rfl rfl rfl rfl
  split
  · split
    · apply raiseP_kept
      refine key _ ?_
      exact h.same rfl rfl rfl rfl rfl rfl rfl rfl
    · exact h.same rfl rfl rfl rfl rfl rfl rfl rfl
  · exact h.same rfl rfl rfl rfl rfl rfl rfl rfl

theorem gangRail_kept (s : State) (r old new reason : Nat) (h : Kept B Q K s) :
    Kept B Q K (State.gangRail s r old new reason) := by
  unfold State.gangRail
  repeat' first
    | intro _
    | with_reducible first | assumption | apply Kept.ite | apply railStop_kept | apply softFault_kept
    | with_reducible first | apply ovLatch_kept | apply toIdle_kept | apply clearOv_kept
    | dsimp only
    | split
    | with_reducible
        refine Kept.of (e := ?_) ?_ ?_ ?_ ?_ ?_ ?_ ?_ ?_ ?_ ?_ ?_ ?_ ?_
        rotate_left; iterate 12 exact rfl

theorem gangFollow_kept (s : State) (r set vref : Nat) (h : Kept B Q K s) :
    Kept B Q K (State.gangFollow s r set vref) := by
  unfold State.gangFollow
  repeat' first
    | intro _
    | with_reducible first | assumption | apply Kept.ite | apply onRail_kept | apply gangTrim_kept
    | dsimp only
    | split
    | with_reducible
        refine Kept.of (e := ?_) ?_ ?_ ?_ ?_ ?_ ?_ ?_ ?_ ?_ ?_ ?_ ?_ ?_
        rotate_left; iterate 12 exact rfl

theorem giveUpLead_kept (s : State) (h : Kept B Q K s) :
    Kept B Q K (State.giveUpLead s) := by
  unfold State.giveUpLead
  repeat' first
    | intro _
    | with_reducible first | assumption | apply loseLock_kept | apply finish_kept | apply forward_kept
    | with_reducible first | apply Kept.foldl
    | dsimp only
    | split
    | with_reducible
        refine Kept.of (e := ?_) ?_ ?_ ?_ ?_ ?_ ?_ ?_ ?_ ?_ ?_ ?_ ?_ ?_
        rotate_left; iterate 12 exact rfl

theorem noteLead_kept (s : State) (b : List Byte) (h : Kept B Q K s) :
    Kept B Q K (State.noteLead s b) := by
  unfold State.noteLead
  repeat' first
    | intro _
    | with_reducible first | assumption | apply Kept.ite
    | dsimp only
    | split
    | with_reducible
        refine Kept.of (e := ?_) ?_ ?_ ?_ ?_ ?_ ?_ ?_ ?_ ?_ ?_ ?_ ?_ ?_
        rotate_left; iterate 12 exact rfl

theorem bulkWindow_kept (s : State) (b : List Byte) (h : Kept B Q K s) :
    Kept B Q K (State.bulkWindow s b) := by
  unfold State.bulkWindow
  repeat' first
    | intro _
    | with_reducible first | assumption | apply Kept.ite | apply sendBulk_kept
    | dsimp only
    | split
    | with_reducible
        refine Kept.of (e := ?_) ?_ ?_ ?_ ?_ ?_ ?_ ?_ ?_ ?_ ?_ ?_ ?_ ?_
        rotate_left; iterate 12 exact rfl

theorem takeLead_kept (s : State) (b : List Byte) (h : Kept B Q K s) :
    Kept B Q K (State.takeLead s b) := by
  unfold State.takeLead
  repeat' first
    | intro _
    | with_reducible first | assumption | apply Kept.ite | apply raiseP_kept | apply relevel_kept
    | with_reducible first | apply applyAllowances_kept | apply tb8Eval_kept | apply leadWatch_kept
    | with_reducible first | apply respace_kept | apply stopShares_kept | apply leadTime_kept | apply gangRail_kept
    | with_reducible first | apply gangFollow_kept | apply giveUpLead_kept | apply noteLead_kept
    | with_reducible first | apply bulkWindow_kept | apply Kept.foldl
    | dsimp only
    | split
    | with_reducible
        refine Kept.of (e := ?_) ?_ ?_ ?_ ?_ ?_ ?_ ?_ ?_ ?_ ?_ ?_ ?_ ?_
        rotate_left; iterate 12 exact rfl

theorem shareFault_kept (s : State) (r why : Nat) (h : Kept B Q K s) :
    Kept B Q K (State.shareFault s r why) := by
  unfold State.shareFault
  repeat' first
    | intro _
    | with_reducible first | assumption | apply Kept.ite | apply gangRail_kept
    | dsimp only
    | split
    | with_reducible
        refine Kept.of (e := ?_) ?_ ?_ ?_ ?_ ?_ ?_ ?_ ?_ ?_ ?_ ?_ ?_ ?_
        rotate_left; iterate 12 exact rfl

theorem takeMember_kept (s : State) (b : List Byte) (h : Kept B Q K s) :
    Kept B Q K (State.takeMember s b) := by
  unfold State.takeMember
  repeat' first
    | intro _
    | with_reducible first | assumption | apply Kept.ite | apply relevel_kept | apply onMember_kept
    | with_reducible first | apply respace_kept | apply regang_kept | apply shareFault_kept | apply Kept.foldl
    | dsimp only
    | split
    | with_reducible
        refine Kept.of (e := ?_) ?_ ?_ ?_ ?_ ?_ ?_ ?_ ?_ ?_ ?_ ?_ ?_ ?_
        rotate_left; iterate 12 exact rfl

theorem setAside_kept (s : State) (reason : Nat) (h : Kept B Q K s) :
    Kept B Q K (State.setAside s reason) := by
  unfold State.setAside
  repeat' first
    | intro _
    | with_reducible first | assumption | apply Kept.ite | apply raiseC_kept | apply clearE_kept
    | with_reducible first | apply stopShares_kept
    | dsimp only
    | split
    | with_reducible
        refine Kept.of (e := ?_) ?_ ?_ ?_ ?_ ?_ ?_ ?_ ?_ ?_ ?_ ?_ ?_ ?_
        rotate_left; iterate 12 exact rfl

theorem admitMember_kept (s : State) (h : Kept B Q K s) :
    Kept B Q K (State.admitMember s) := by
  unfold State.admitMember
  repeat' first
    | intro _
    | with_reducible first | assumption | apply clearE_kept | apply setAside_kept
    | with_reducible
        refine Kept.of (e := ?_) ?_ ?_ ?_ ?_ ?_ ?_ ?_ ?_ ?_ ?_ ?_ ?_ ?_
        rotate_left; iterate 12 exact rfl

theorem beginAdopt_kept (s : State) (h : Kept B Q K s) :
    Kept B Q K (State.beginAdopt s) := by
  unfold State.beginAdopt
  repeat' first
    | intro _
    | with_reducible first | assumption | apply Kept.ite | apply setAside_kept
    | dsimp only
    | split
    | with_reducible
        refine Kept.of (e := ?_) ?_ ?_ ?_ ?_ ?_ ?_ ?_ ?_ ?_ ?_ ?_ ?_ ?_
        rotate_left; iterate 12 exact rfl

theorem takeImage_kept (s : State) (body : List Byte) (h : Kept B Q K s) :
    Kept B Q K (State.takeImage s body) := by
  unfold State.takeImage
  repeat' first
    | intro _
    | with_reducible first | assumption | apply Kept.ite | apply raiseP_kept | apply tabImage_kept
    | with_reducible first | apply tabImage_kept_pr | apply setAside_kept | apply admitMember_kept
    | with_reducible first | refine Kept.of_fst (by assumption) ?_ | refine Kept.of_snd (by assumption) ?_
    | dsimp only
    | split
    | with_reducible
        refine Kept.of (e := ?_) ?_ ?_ ?_ ?_ ?_ ?_ ?_ ?_ ?_ ?_ ?_ ?_ ?_
        rotate_left; iterate 12 exact rfl

theorem takeJoinAck_kept (s : State) (body : List Byte) (h : Kept B Q K s) :
    Kept B Q K (State.takeJoinAck s body) := by
  unfold State.takeJoinAck
  repeat' first
    | intro _
    | with_reducible first | assumption | apply Kept.ite | apply setAside_kept | apply admitMember_kept
    | with_reducible first | apply beginAdopt_kept
    | dsimp only
    | split
    | with_reducible
        refine Kept.of (e := ?_) ?_ ?_ ?_ ?_ ?_ ?_ ?_ ?_ ?_ ?_ ?_ ?_ ?_
        rotate_left; iterate 12 exact rfl

theorem transfer_kept (s : State) (src : Nat) (b : List Byte) (h : Kept B Q K s) :
    Kept B Q K (State.transfer s src b) := by
  unfold State.transfer
  repeat' first
    | intro _
    | with_reducible first | assumption | apply Kept.ite | apply applyAllowances_kept | apply tabRequest_kept
    | with_reducible first | apply tabReply_kept | apply onMember_kept | apply takeImage_kept
    | with_reducible first | apply takeJoinAck_kept
    | dsimp only
    | split
    | with_reducible
        refine Kept.of (e := ?_) ?_ ?_ ?_ ?_ ?_ ?_ ?_ ?_ ?_ ?_ ?_ ?_ ?_
        rotate_left; iterate 12 exact rfl

theorem sendImage_kept (s : State) (m : Nat) (h : Kept B Q K s) :
    Kept B Q K (State.sendImage s m) := by
  unfold State.sendImage
  repeat' first
    | intro _
    | with_reducible first | assumption | apply Kept.ite
    | dsimp only
    | split
    | with_reducible
        refine Kept.of (e := ?_) ?_ ?_ ?_ ?_ ?_ ?_ ?_ ?_ ?_ ?_ ?_ ?_ ?_
        rotate_left; iterate 12 exact rfl

theorem memberJoins_kept (s : State) (m : Nat) (h : Kept B Q K s) :
    Kept B Q K (State.memberJoins s m) := by
  unfold State.memberJoins
  repeat' first
    | intro _
    | with_reducible first | assumption | apply raiseP_kept | apply clearE_kept
    | with_reducible
        refine Kept.of (e := ?_) ?_ ?_ ?_ ?_ ?_ ?_ ?_ ?_ ?_ ?_ ?_ ?_ ?_
        rotate_left; iterate 12 exact rfl

theorem enter_kept (s : State) (m : Nat) (x : Member) (h : Kept B Q K s) :
    Kept B Q K (State.enter s m x) := by
  unfold State.enter
  repeat' first
    | intro _
    | with_reducible first | assumption | apply Kept.ite | apply respace_kept | apply regang_kept
    | with_reducible first | apply sendImage_kept | apply memberJoins_kept
    | dsimp only
    | split
    | with_reducible
        refine Kept.of (e := ?_) ?_ ?_ ?_ ?_ ?_ ?_ ?_ ?_ ?_ ?_ ?_ ?_ ?_
        rotate_left; iterate 12 exact rfl

theorem checkMember_kept (s : State) (m : Nat) (h : Kept B Q K s) :
    Kept B Q K (State.checkMember s m) := by
  unfold State.checkMember
  repeat' first
    | intro _
    | with_reducible first | assumption | apply Kept.ite | apply onMember_kept | apply respace_kept
    | with_reducible first | apply regang_kept | apply sendImage_kept | apply memberJoins_kept
    | dsimp only
    | split
    | with_reducible
        refine Kept.of (e := ?_) ?_ ?_ ?_ ?_ ?_ ?_ ?_ ?_ ?_ ?_ ?_ ?_ ?_
        rotate_left; iterate 12 exact rfl

theorem checkSelf_kept (s : State) (h : Kept B Q K s) :
    Kept B Q K (State.checkSelf s) := by
  unfold State.checkSelf
  repeat' first
    | intro _
    | with_reducible first | assumption | apply Kept.ite | apply run_kept | apply selfSave_kept
    | with_reducible first | apply setAside_kept | apply admitMember_kept | apply beginAdopt_kept
    | dsimp only
    | split
    | with_reducible
        refine Kept.of (e := ?_) ?_ ?_ ?_ ?_ ?_ ?_ ?_ ?_ ?_ ?_ ?_ ?_ ?_
        rotate_left; iterate 12 exact rfl

theorem joinFrame_kept (s : State) (b : List Byte) (h : Kept B Q K s) :
    Kept B Q K (State.joinFrame s b) := by
  unfold State.joinFrame
  repeat' first
    | intro _
    | with_reducible first | assumption | apply Kept.ite | apply enter_kept
    | dsimp only
    | split
    | with_reducible
        refine Kept.of (e := ?_) ?_ ?_ ?_ ?_ ?_ ?_ ?_ ?_ ?_ ?_ ?_ ?_ ?_
        rotate_left; iterate 12 exact rfl

theorem becomeLead_kept (s : State) (h : Kept B Q K s) :
    Kept B Q K (State.becomeLead s) := by
  unfold State.becomeLead
  repeat' first
    | intro _
    | with_reducible first | assumption | apply raiseP_kept | apply clearE_kept | apply relevel_kept
    | with_reducible first | apply tb8Eval_kept | apply respace_kept | apply regang_kept | apply setAside_kept
    | with_reducible
        refine Kept.of (e := ?_) ?_ ?_ ?_ ?_ ?_ ?_ ?_ ?_ ?_ ?_ ?_ ?_ ?_
        rotate_left; iterate 12 exact rfl

theorem fcClear_kept (s : State) (h : Kept B Q K s) :
    Kept B Q K (State.fcClear s) := by
  unfold State.fcClear
  repeat' first
    | intro _
    | with_reducible first | assumption | apply clearE_kept
    | with_reducible
        refine Kept.of (e := ?_) ?_ ?_ ?_ ?_ ?_ ?_ ?_ ?_ ?_ ?_ ?_ ?_ ?_
        rotate_left; iterate 12 exact rfl

theorem phReset_kept (s : State) (mask : Nat) (h : Kept B Q K s) :
    Kept B Q K (State.phReset s mask) := by
  unfold State.phReset
  repeat' first
    | intro _
    | with_reducible first | assumption | apply Kept.ite
    | dsimp only
    | split
    | with_reducible
        refine Kept.of (e := ?_) ?_ ?_ ?_ ?_ ?_ ?_ ?_ ?_ ?_ ?_ ?_ ?_ ?_
        rotate_left; iterate 12 exact rfl

theorem stoReset_kept (s : State) (h : Kept B Q K s) :
    Kept B Q K (State.stoReset s) := by
  unfold State.stoReset
  repeat' first
    | intro _
    | with_reducible first | assumption
    | with_reducible
        refine Kept.of (e := ?_) ?_ ?_ ?_ ?_ ?_ ?_ ?_ ?_ ?_ ?_ ?_ ?_ ?_
        rotate_left; iterate 12 exact rfl

theorem lineRejoin_kept (s : State) (h : Kept B Q K s) :
    Kept B Q K (State.lineRejoin s) := by
  unfold State.lineRejoin
  repeat' first
    | intro _
    | with_reducible first | assumption | apply clearE_kept
    | with_reducible
        refine Kept.of (e := ?_) ?_ ?_ ?_ ?_ ?_ ?_ ?_ ?_ ?_ ?_ ?_ ?_ ?_
        rotate_left; iterate 12 exact rfl

theorem leaveTab_kept (s : State) (h : Kept B Q K s) :
    Kept B Q K (State.leaveTab s) := by
  unfold State.leaveTab
  repeat' first
    | intro _
    | with_reducible first | assumption | apply clearE_kept | apply relevel_kept | apply tb8Eval_kept
    | with_reducible first | apply finish_kept | apply forward_kept | apply stopShares_kept | apply setAside_kept
    | with_reducible first | apply Kept.foldl
    | dsimp only
    | split
    | with_reducible
        refine Kept.of (e := ?_) ?_ ?_ ?_ ?_ ?_ ?_ ?_ ?_ ?_ ?_ ?_ ?_ ?_
        rotate_left; iterate 12 exact rfl

theorem hrvStops_kept (s : State) (h : Kept B Q K s) :
    Kept B Q K (State.hrvStops s) := by
  unfold State.hrvStops
  repeat' first
    | intro _
    | with_reducible first | assumption | apply Kept.ite
    | dsimp only
    | split
    | with_reducible
        refine Kept.of (e := ?_) ?_ ?_ ?_ ?_ ?_ ?_ ?_ ?_ ?_ ?_ ?_ ?_ ?_
        rotate_left; iterate 12 exact rfl

theorem stageRearm_kept (s : State) (teg vib pv : Bool) (h : Kept B Q K s) :
    Kept B Q K (State.stageRearm s teg vib pv) := by
  unfold State.stageRearm
  repeat' first
    | intro _
    | with_reducible first | assumption | apply Kept.ite | apply clearR_kept
    | dsimp only
    | split
    | with_reducible
        refine Kept.of (e := ?_) ?_ ?_ ?_ ?_ ?_ ?_ ?_ ?_ ?_ ?_ ?_ ?_ ?_
        rotate_left; iterate 12 exact rfl

theorem hrvBegins_kept (s : State) (teg vib pv : Bool) (h : Kept B Q K s) :
    Kept B Q K (State.hrvBegins s teg vib pv) := by
  unfold State.hrvBegins
  repeat' first
    | intro _
    | with_reducible first | assumption | apply Kept.ite
    | dsimp only
    | split
    | with_reducible
        refine Kept.of (e := ?_) ?_ ?_ ?_ ?_ ?_ ?_ ?_ ?_ ?_ ?_ ?_ ?_ ?_
        rotate_left; iterate 12 exact rfl

theorem vhostRearm_kept (s : State) (h : Kept B Q K s) :
    Kept B Q K (State.vhostRearm s) := by
  unfold State.vhostRearm
  repeat' first
    | intro _
    | with_reducible first | assumption | apply clearE_kept
    | with_reducible
        refine Kept.of (e := ?_) ?_ ?_ ?_ ?_ ?_ ?_ ?_ ?_ ?_ ?_ ?_ ?_ ?_
        rotate_left; iterate 12 exact rfl

theorem prechargeRearm_kept (s : State) (h : Kept B Q K s) :
    Kept B Q K (State.prechargeRearm s) := by
  unfold State.prechargeRearm
  repeat' first
    | intro _
    | with_reducible first | assumption | apply clearR_kept
    | with_reducible
        refine Kept.of (e := ?_) ?_ ?_ ?_ ?_ ?_ ?_ ?_ ?_ ?_ ?_ ?_ ?_ ?_
        rotate_left; iterate 12 exact rfl

theorem writeEffects_kept (s old : State) (vs : Vals) (h : Kept B Q K s) : Kept B Q K
    (State.writeEffects s old vs) := by
  have ctr : ∀ (x : State) l, Kept B Q K x → Kept B Q K { x with ctr := l } := fun x l h =>
    h.same rfl rfl rfl rfl rfl rfl rfl rfl
  have cfg : ∀ (x : State) l, Kept B Q K x → Kept B Q K { x with config := l } := fun x l h =>
    h.same rfl rfl rfl rfl rfl rfl rfl rfl
  unfold State.writeEffects
  extract_lets wrote changed s1 s2 s3 s4 s5 s6 s7 begins s8 A s9 s10 s11
  have h1 : Kept B Q K s1 := Kept.ite (fcClear_kept _ h) h
  have h2 : Kept B Q K s2 := Kept.ite (releasePins_kept _ _ h1) h1
  have h3 : Kept B Q K s3 := Kept.ite (phReset_kept _ _ h2) h2
  have h4 : Kept B Q K s4 := Kept.ite (stoReset_kept _ h3) h3
  have h5 : Kept B Q K s5 := Kept.ite (vhostRearm_kept _ h4) h4
  have h6 : Kept B Q K s6 := Kept.ite (prechargeRearm_kept _ h5) h5
  have h7 : Kept B Q K s7 := Kept.ite (stageRearm_kept _ _ _ _ h6) h6
  have h8 : Kept B Q K s8 := hrvBegins_kept _ _ _ _ h7
  have h9 : Kept B Q K s9 := Kept.ite (ctr _ _ h8) h8
  have h10 : Kept B Q K s10 := Kept.ite (lineRejoin_kept _ h9) h9
  have h11 : Kept B Q K s11 := Kept.ite (leaveTab_kept _ h10) h10
  exact Kept.ite (cfg _ _ h11) h11

theorem powerEnables_kept (s : State) (h : Kept B Q K s) :
    Kept B Q K (State.powerEnables s) := by
  unfold State.powerEnables
  repeat' first
    | intro _
    | with_reducible first | assumption | apply Kept.ite | apply disqualify_kept | apply qualify_kept
    | dsimp only
    | split
    | with_reducible
        refine Kept.of (e := ?_) ?_ ?_ ?_ ?_ ?_ ?_ ?_ ?_ ?_ ?_ ?_ ?_ ?_
        rotate_left; iterate 12 exact rfl

theorem refreshAll_kept (s : State) (h : Kept B Q K s) :
    Kept B Q K (State.refreshAll s) := by
  unfold State.refreshAll
  repeat' first
    | intro _
    | with_reducible first | assumption | apply refresh_kept | apply Kept.foldl
    | with_reducible
        refine Kept.of (e := ?_) ?_ ?_ ?_ ?_ ?_ ?_ ?_ ?_ ?_ ?_ ?_ ?_ ?_
        rotate_left; iterate 12 exact rfl

theorem reevaluate_kept (s : State) (h : Kept B Q K s) :
    Kept B Q K (State.reevaluate s) := by
  unfold State.reevaluate
  repeat' first
    | intro _
    | with_reducible first | assumption | apply fitDemands_kept | apply applyShed_kept | apply relevel_kept
    | with_reducible first | apply applyAllowances_kept | apply evalLedger_kept | apply tb8Eval_kept
    | with_reducible first | apply remap_kept | apply syncEval_kept | apply vhostEval_kept | apply hrvStops_kept
    | with_reducible first | apply powerEnables_kept | apply refreshAll_kept
    | with_reducible
        refine Kept.of (e := ?_) ?_ ?_ ?_ ?_ ?_ ?_ ?_ ?_ ?_ ?_ ?_ ?_ ?_
        rotate_left; iterate 12 exact rfl

theorem transferNow_kept (s : State) (vs : Vals) (h : Kept B Q K s) :
    Kept B Q K (State.transferNow s vs) := by
  unfold State.transferNow
  repeat' first
    | intro _
    | with_reducible first | assumption | apply writeEffects_kept | apply reevaluate_kept
    | with_reducible
        refine Kept.of (e := ?_) ?_ ?_ ?_ ?_ ?_ ?_ ?_ ?_ ?_ ?_ ?_ ?_ ?_
        rotate_left; iterate 12 exact rfl

theorem raiseAfresh_kept (s : State) (was : List Held) (h : Kept B Q K s) :
    Kept B Q K (State.raiseAfresh s was) := by
  unfold State.raiseAfresh
  repeat' first
    | intro _
    | with_reducible first | assumption | apply Kept.ite | apply raiseC_kept | apply Kept.foldl
    | dsimp only
    | split
    | with_reducible
        refine Kept.of (e := ?_) ?_ ?_ ?_ ?_ ?_ ?_ ?_ ?_ ?_ ?_ ?_ ?_ ?_
        rotate_left; iterate 12 exact rfl

theorem powerOnReset_kept (s : State) (src : Source) (p : Straps) (h : Kept B Q K s) : Kept B Q K
    (State.powerOnReset s src p) := by
  have hu := Kept.foldl s.camyx.ops h fun x o hx => rollBack_kept true x o hx
  unfold State.powerOnReset
  generalize List.foldl (State.rollBack true) s s.camyx.ops = u at hu
  dsimp only
  apply raiseAfresh_kept
  apply sampleStraps_kept
  exact ⟨hu.qb, hu.uid, hu.ck, hu.ap, hu.ac, fun _ => show (0 : Nat) < 2 ^ 32 by decide,
    fun _ => show (0 : Nat) < 2 ^ 32 by decide, fun _ => show (0 : Nat) < 32768 by decide,
    fun _ => show (0 : Nat) ≤ 256 by decide, fun _ => show (0 : Nat) ≤ 64 by decide,
    fun _ => show (64 : Nat) ≤ 64 by decide, hu.pend⟩

theorem plinthStarts_kept (s : State) (src : Source) (h : Kept B Q K s) :
    Kept B Q K (State.plinthStarts s src) := by
  unfold State.plinthStarts
  repeat' first
    | intro _
    | with_reducible first | assumption | apply toMode_kept | apply bootBegin_kept
    | dsimp only
    | split
    | with_reducible
        refine Kept.of (e := ?_) ?_ ?_ ?_ ?_ ?_ ?_ ?_ ?_ ?_ ?_ ?_ ?_ ?_
        rotate_left; iterate 12 exact rfl

theorem takeFound_kept (s : State) (t : Transport) (ended : Bool) (l : List Found) (h : Kept B Q K s) :
    Kept B Q K (State.takeFound s t ended l) := by
  unfold State.takeFound
  repeat' first
    | intro _
    | with_reducible first | assumption | apply Kept.ite | apply raiseP_kept | apply receive_kept
    | with_reducible first | apply frameError_kept | apply Kept.foldl
    | dsimp only
    | split
    | with_reducible
        refine Kept.of (e := ?_) ?_ ?_ ?_ ?_ ?_ ?_ ?_ ?_ ?_ ?_ ?_ ?_ ?_
        rotate_left; iterate 12 exact rfl

theorem portWrite_kept (s : State) (t : Transport) (bytes : List Byte) (h : Kept B Q K s) :
    Kept B Q K (State.portWrite s t bytes) := by
  unfold State.portWrite
  repeat' first
    | intro _
    | with_reducible first | assumption | apply Kept.ite | apply raiseP_kept | apply takeFound_kept
    | dsimp only
    | split
    | with_reducible
        refine Kept.of (e := ?_) ?_ ?_ ?_ ?_ ?_ ?_ ?_ ?_ ?_ ?_ ?_ ?_ ?_
        rotate_left; iterate 12 exact rfl

theorem consume_kept (s : State) (t : Transport) (r : Reply) (rest : Option Reply) (h : Kept B Q K s) :
    Kept B Q K (State.consume s t r rest) := by
  unfold State.consume
  repeat' first
    | intro _
    | with_reducible first | assumption | apply Kept.ite | apply onPort_kept | apply clearD_kept
    | with_reducible first | apply handOver_kept
    | dsimp only
    | split
    | with_reducible
        refine Kept.of (e := ?_) ?_ ?_ ?_ ?_ ?_ ?_ ?_ ?_ ?_ ?_ ?_ ?_ ?_
        rotate_left; iterate 12 exact rfl

theorem portRead_kept (s : State) (t : Transport) (n : Nat) (h : Kept B Q K s) :
    Kept B Q K (State.portRead s t n) := by
  unfold State.portRead
  repeat' first
    | intro _
    | with_reducible first | assumption | apply Kept.ite | apply onPort_kept | apply consume_kept
    | dsimp only
    | split
    | with_reducible
        refine Kept.of (e := ?_) ?_ ?_ ?_ ?_ ?_ ?_ ?_ ?_ ?_ ?_ ?_ ?_ ?_
        rotate_left; iterate 12 exact rfl

theorem uartSend_kept (s : State) (t : Transport) (f : List Byte) (h : Kept B Q K s) :
    Kept B Q K (State.uartSend s t f) := by
  unfold State.uartSend
  repeat' first
    | intro _
    | with_reducible first | assumption | apply onPort_kept
    | with_reducible
        refine Kept.of (e := ?_) ?_ ?_ ?_ ?_ ?_ ?_ ?_ ?_ ?_ ?_ ?_ ?_ ?_
        rotate_left; iterate 12 exact rfl

theorem bridgeRefuse_kept (s : State) (addr : Nat) (pkt : List Byte) (st : Status) (h : Kept B Q K s) :
    Kept B Q K (State.bridgeRefuse s addr pkt st) := by
  unfold State.bridgeRefuse
  repeat' first
    | intro _
    | with_reducible first | assumption | apply Kept.ite | apply raiseP_kept | apply toGateway_kept
    | dsimp only
    | split
    | with_reducible
        refine Kept.of (e := ?_) ?_ ?_ ?_ ?_ ?_ ?_ ?_ ?_ ?_ ?_ ?_ ?_ ?_
        rotate_left; iterate 12 exact rfl

theorem bridgeIn_kept (s : State) (addr : Nat) (pkt : List Byte) (h : Kept B Q K s) :
    Kept B Q K (State.bridgeIn s addr pkt) := by
  unfold State.bridgeIn
  repeat' first
    | intro _
    | with_reducible first | assumption | apply Kept.ite | apply raiseP_kept | apply bridgeRefuse_kept
    | dsimp only
    | split
    | with_reducible
        refine Kept.of (e := ?_) ?_ ?_ ?_ ?_ ?_ ?_ ?_ ?_ ?_ ?_ ?_ ?_ ?_
        rotate_left; iterate 12 exact rfl

theorem apduSw_kept (s : State) (hi lo : Byte) (h : Kept B Q K s) :
    Kept B Q K (State.apduSw s hi lo) := by
  unfold State.apduSw
  repeat' first
    | intro _
    | with_reducible first | assumption
    | with_reducible
        refine Kept.of (e := ?_) ?_ ?_ ?_ ?_ ?_ ?_ ?_ ?_ ?_ ?_ ?_ ?_ ?_
        rotate_left; iterate 12 exact rfl

theorem apdu_kept (s : State) (b : List Byte) (h : Kept B Q K s) :
    Kept B Q K (State.apdu s b) := by
  unfold State.apdu
  repeat' first
    | intro _
    | with_reducible first | assumption | apply Kept.ite | apply receive_kept | apply apduSw_kept
    | dsimp only
    | split
    | with_reducible
        refine Kept.of (e := ?_) ?_ ?_ ?_ ?_ ?_ ?_ ?_ ?_ ?_ ?_ ?_ ?_ ?_
        rotate_left; iterate 12 exact rfl

theorem sendWtx_kept (s : State) (h : Kept B Q K s) :
    Kept B Q K (State.sendWtx s) := by
  unfold State.sendWtx
  repeat' first
    | intro _
    | with_reducible first | assumption
    | with_reducible
        refine Kept.of (e := ?_) ?_ ?_ ?_ ?_ ?_ ?_ ?_ ?_ ?_ ?_ ?_ ?_ ?_
        rotate_left; iterate 12 exact rfl

theorem cmdWriteParam_kept (s : State) (w : Waiting) (h : Kept B Q K s) :
    Kept B Q K (State.cmdWriteParam s w) := by
  unfold State.cmdWriteParam
  repeat' first
    | intro _
    | with_reducible first | assumption | apply stage_kept | apply respond_kept
    | dsimp only
    | split
    | with_reducible
        refine Kept.of (e := ?_) ?_ ?_ ?_ ?_ ?_ ?_ ?_ ?_ ?_ ?_ ?_ ?_ ?_
        rotate_left; iterate 12 exact rfl

theorem cmdCommit_kept (s : State) (w : Waiting) (h : Kept B Q K s) :
    Kept B Q K (State.cmdCommit s w) := by
  unfold State.cmdCommit
  repeat' first
    | intro _
    | with_reducible first | assumption | apply armCommit_kept | apply respond_kept
    | dsimp only
    | split
    | with_reducible
        refine Kept.of (e := ?_) ?_ ?_ ?_ ?_ ?_ ?_ ?_ ?_ ?_ ?_ ?_ ?_ ?_
        rotate_left; iterate 12 exact rfl

theorem cmdRevert_kept (s : State) (w : Waiting) (h : Kept B Q K s) :
    Kept B Q K (State.cmdRevert s w) := by
  unfold State.cmdRevert
  repeat' first
    | intro _
    | with_reducible first | assumption | apply restage_kept | apply respond_kept
    | dsimp only
    | split
    | with_reducible
        refine Kept.of (e := ?_) ?_ ?_ ?_ ?_ ?_ ?_ ?_ ?_ ?_ ?_ ?_ ?_ ?_
        rotate_left; iterate 12 exact rfl

theorem saveStart_kept (s : State) (w : Waiting) (armed : Bool) (image : Option Nat) (h : Kept B Q K s) :
    Kept B Q K (State.saveStart s w armed image) := by
  unfold State.saveStart
  repeat' first
    | intro _
    | with_reducible first | assumption | apply Kept.ite | apply request_kept | apply respond_kept
    | with_reducible first | apply begin__kept | apply resumeOps_kept
    | dsimp only
    | split
    | with_reducible
        refine Kept.of (e := ?_) ?_ ?_ ?_ ?_ ?_ ?_ ?_ ?_ ?_ ?_ ?_ ?_ ?_
        rotate_left; iterate 12 exact rfl

theorem saveDone_kept (s : State) (o : Op) (image : Bool) (applied : Nat) (snap : Vals) (ok : Bool)
    (h : Kept B Q K s) :
    Kept B Q K (State.saveDone s o image applied snap ok) := by
  unfold State.saveDone
  repeat' first
    | intro _
    | with_reducible first | assumption | apply Kept.ite | apply releaseOf_kept | apply writeBank_kept
    | with_reducible first | apply spoilBank_kept | apply finish_kept
    | dsimp only
    | split
    | with_reducible
        refine Kept.of (e := ?_) ?_ ?_ ?_ ?_ ?_ ?_ ?_ ?_ ?_ ?_ ?_ ?_ ?_
        rotate_left; iterate 12 exact rfl

theorem cmdSave_kept (s : State) (w : Waiting) (h : Kept B Q K s) :
    Kept B Q K (State.cmdSave s w) := by
  unfold State.cmdSave
  repeat' first
    | intro _
    | with_reducible first | assumption | apply Kept.ite | apply armCommit_kept | apply respond_kept
    | with_reducible first | apply saveStart_kept
    | dsimp only
    | split
    | with_reducible
        refine Kept.of (e := ?_) ?_ ?_ ?_ ?_ ?_ ?_ ?_ ?_ ?_ ?_ ?_ ?_ ?_
        rotate_left; iterate 12 exact rfl

theorem cmdImageExport_kept (s : State) (w : Waiting) (h : Kept B Q K s) :
    Kept B Q K (State.cmdImageExport s w) := by
  unfold State.cmdImageExport
  repeat' first
    | intro _
    | with_reducible first | assumption | apply respond_kept
    | dsimp only
    | split
    | with_reducible
        refine Kept.of (e := ?_) ?_ ?_ ?_ ?_ ?_ ?_ ?_ ?_ ?_ ?_ ?_ ?_ ?_
        rotate_left; iterate 12 exact rfl

theorem cmdImageImport_kept (s : State) (w : Waiting) (h : Kept B Q K s) :
    Kept B Q K (State.cmdImageImport s w) := by
  unfold State.cmdImageImport
  repeat' first
    | intro _
    | with_reducible first | assumption | apply Kept.ite | apply stage_kept | apply armCommit_kept
    | with_reducible first | apply respond_kept | apply saveStart_kept
    | dsimp only
    | split
    | with_reducible
        refine Kept.of (e := ?_) ?_ ?_ ?_ ?_ ?_ ?_ ?_ ?_ ?_ ?_ ?_ ?_ ?_
        rotate_left; iterate 12 exact rfl

theorem keyWriteOpen_kept (s : State) (w : Waiting) (role slot : Nat) (key kcv : List Byte) (h : Kept B Q K s) :
    Kept B Q K (State.keyWriteOpen s w role slot key kcv) := by
  unfold State.keyWriteOpen
  repeat' first
    | intro _
    | with_reducible first | assumption | apply Kept.ite | apply respond_kept | apply begin__kept
    | with_reducible first | apply reserveOp_kept
    | dsimp only
    | split
    | with_reducible
        refine Kept.of (e := ?_) ?_ ?_ ?_ ?_ ?_ ?_ ?_ ?_ ?_ ?_ ?_ ?_ ?_
        rotate_left; iterate 12 exact rfl

theorem cmdKeyWrite_kept (s : State) (w : Waiting) (h : Kept B Q K s) :
    Kept B Q K (State.cmdKeyWrite s w) := by
  unfold State.cmdKeyWrite
  repeat' first
    | intro _
    | with_reducible first | assumption | apply respond_kept | apply keyWriteOpen_kept
    | dsimp only
    | split
    | with_reducible
        refine Kept.of (e := ?_) ?_ ?_ ?_ ?_ ?_ ?_ ?_ ?_ ?_ ?_ ?_ ?_ ?_
        rotate_left; iterate 12 exact rfl

theorem keyFirst_kept (s : State) (o : Op) (role slot : Nat) (key : List Byte) (funded : Bool) (h : Kept B Q K s) :
    Kept B Q K (State.keyFirst s o role slot key funded) := by
  unfold State.keyFirst
  repeat' first
    | intro _
    | with_reducible first | assumption | apply onOp_kept
    | with_reducible
        refine Kept.of (e := ?_) ?_ ?_ ?_ ?_ ?_ ?_ ?_ ?_ ?_ ?_ ?_ ?_ ?_
        rotate_left; iterate 12 exact rfl

theorem keyRelease_kept (s : State) (funded : Bool) (h : Kept B Q K s) :
    Kept B Q K (State.keyRelease s funded) := by
  unfold State.keyRelease
  repeat' first
    | intro _
    | with_reducible first | assumption | apply Kept.ite | apply releaseOf_kept
    | dsimp only
    | split
    | with_reducible
        refine Kept.of (e := ?_) ?_ ?_ ?_ ?_ ?_ ?_ ?_ ?_ ?_ ?_ ?_ ?_ ?_
        rotate_left; iterate 12 exact rfl

theorem keySecond_kept (s : State) (o : Op) (role slot : Nat) (funded : Bool) (h : Kept B Q K s) :
    Kept B Q K (State.keySecond s o role slot funded) := by
  unfold State.keySecond
  repeat' first
    | intro _
    | with_reducible first | assumption | apply Kept.ite | apply raiseP_kept | apply raisePinP_kept
    | with_reducible first | apply finish_kept | apply keyChanged_kept | apply claimsEnd_kept
    | with_reducible first | apply keyRelease_kept
    | dsimp only
    | split
    | with_reducible
        refine Kept.of (e := ?_) ?_ ?_ ?_ ?_ ?_ ?_ ?_ ?_ ?_ ?_ ?_ ?_ ?_
        rotate_left; iterate 12 exact rfl

theorem keyDone_kept (s : State) (o : Op) (role slot : Nat) (key : List Byte) (funded second ok : Bool)
    (h : Kept B Q K s) :
    Kept B Q K (State.keyDone s o role slot key funded second ok) := by
  unfold State.keyDone
  repeat' first
    | intro _
    | with_reducible first | assumption | apply Kept.ite | apply finish_kept | apply keyFirst_kept
    | with_reducible first | apply keyRelease_kept | apply keySecond_kept
    | dsimp only
    | split
    | with_reducible
        refine Kept.of (e := ?_) ?_ ?_ ?_ ?_ ?_ ?_ ?_ ?_ ?_ ?_ ?_ ?_ ?_
        rotate_left; iterate 12 exact rfl

theorem cmdKeyErase_kept (s : State) (w : Waiting) (h : Kept B Q K s) :
    Kept B Q K (State.cmdKeyErase s w) := by
  unfold State.cmdKeyErase
  repeat' first
    | intro _
    | with_reducible first | assumption | apply Kept.ite | apply respond_kept | apply reserveOp_kept
    | dsimp only
    | split
    | with_reducible
        refine Kept.of (e := ?_) ?_ ?_ ?_ ?_ ?_ ?_ ?_ ?_ ?_ ?_ ?_ ?_ ?_
        rotate_left; iterate 12 exact rfl

theorem cmdAttest_kept (s : State) (w : Waiting) (h : Kept B Q K s) :
    Kept B Q K (State.cmdAttest s w) := by
  unfold State.cmdAttest
  repeat' first
    | intro _
    | with_reducible first | assumption | apply draw_kept | apply respond_kept
    | with_reducible
        refine Kept.of (e := ?_) ?_ ?_ ?_ ?_ ?_ ?_ ?_ ?_ ?_ ?_ ?_ ?_ ?_
        rotate_left; iterate 12 exact rfl

theorem cmdFwBegin_kept (s : State) (w : Waiting) (h : Kept B Q K s) :
    Kept B Q K (State.cmdFwBegin s w) := by
  unfold State.cmdFwBegin
  repeat' first
    | intro _
    | with_reducible first | assumption | apply Kept.ite | apply respond_kept | apply reserveOp_kept
    | dsimp only
    | split
    | with_reducible
        refine Kept.of (e := ?_) ?_ ?_ ?_ ?_ ?_ ?_ ?_ ?_ ?_ ?_ ?_ ?_ ?_
        rotate_left; iterate 12 exact rfl

theorem fwBegun_kept (s : State) (o : Op) (size version : Nat) (ok : Bool) (h : Kept B Q K s) :
    Kept B Q K (State.fwBegun s o size version ok) := by
  unfold State.fwBegun
  repeat' first
    | intro _
    | with_reducible first | assumption | apply Kept.ite | apply releaseOf_kept | apply finish_kept
    | dsimp only
    | split
    | with_reducible
        refine Kept.of (e := ?_) ?_ ?_ ?_ ?_ ?_ ?_ ?_ ?_ ?_ ?_ ?_ ?_ ?_
        rotate_left; iterate 12 exact rfl

theorem cmdFwBlock_kept (s : State) (w : Waiting) (h : Kept B Q K s) :
    Kept B Q K (State.cmdFwBlock s w) := by
  unfold State.cmdFwBlock
  repeat' first
    | intro _
    | with_reducible first | assumption | apply Kept.ite | apply respond_kept | apply reserveOp_kept
    | dsimp only
    | split
    | with_reducible
        refine Kept.of (e := ?_) ?_ ?_ ?_ ?_ ?_ ?_ ?_ ?_ ?_ ?_ ?_ ?_ ?_
        rotate_left; iterate 12 exact rfl

theorem fwBlockDone_kept (s : State) (o : Op) (off : Nat) (data : List Byte) (ok : Bool) (h : Kept B Q K s) :
    Kept B Q K (State.fwBlockDone s o off data ok) := by
  unfold State.fwBlockDone
  repeat' first
    | intro _
    | with_reducible first | assumption | apply Kept.ite | apply releaseOf_kept | apply finish_kept
    | dsimp only
    | split
    | with_reducible
        refine Kept.of (e := ?_) ?_ ?_ ?_ ?_ ?_ ?_ ?_ ?_ ?_ ?_ ?_ ?_ ?_
        rotate_left; iterate 12 exact rfl

theorem cmdFwActivate_kept (s : State) (w : Waiting) (h : Kept B Q K s) :
    Kept B Q K (State.cmdFwActivate s w) := by
  unfold State.cmdFwActivate
  repeat' first
    | intro _
    | with_reducible first | assumption | apply Kept.ite | apply raiseC_kept | apply respond_kept
    | dsimp only
    | split
    | with_reducible
        refine Kept.of (e := ?_) ?_ ?_ ?_ ?_ ?_ ?_ ?_ ?_ ?_ ?_ ?_ ?_ ?_
        rotate_left; iterate 12 exact rfl

theorem cmdDebugUnlock_kept (s : State) (w : Waiting) (h : Kept B Q K s) :
    Kept B Q K (State.cmdDebugUnlock s w) := by
  unfold State.cmdDebugUnlock
  repeat' first
    | intro _
    | with_reducible first | assumption | apply respond_kept
    | with_reducible
        refine Kept.of (e := ?_) ?_ ?_ ?_ ?_ ?_ ?_ ?_ ?_ ?_ ?_ ?_ ?_ ?_
        rotate_left; iterate 12 exact rfl

theorem cmdReset_kept (s : State) (w : Waiting) (h : Kept B Q K s) :
    Kept B Q K (State.cmdReset s w) := by
  unfold State.cmdReset
  repeat' first
    | intro _
    | with_reducible first | assumption | apply respond_kept
    | with_reducible
        refine Kept.of (e := ?_) ?_ ?_ ?_ ?_ ?_ ?_ ?_ ?_ ?_ ?_ ?_ ?_ ?_
        rotate_left; iterate 12 exact rfl

theorem cmdShelf_kept (s : State) (w : Waiting) (h : Kept B Q K s) :
    Kept B Q K (State.cmdShelf s w) := by
  unfold State.cmdShelf
  repeat' first
    | intro _
    | with_reducible first | assumption | apply Kept.ite | apply respond_kept | apply begin__kept
    | dsimp only
    | split
    | with_reducible
        refine Kept.of (e := ?_) ?_ ?_ ?_ ?_ ?_ ?_ ?_ ?_ ?_ ?_ ?_ ?_ ?_
        rotate_left; iterate 12 exact rfl

theorem cmdDecommission_kept (s : State) (w : Waiting) (h : Kept B Q K s) :
    Kept B Q K (State.cmdDecommission s w) := by
  unfold State.cmdDecommission
  repeat' first
    | intro _
    | with_reducible first | assumption | apply Kept.ite | apply respond_kept | apply reserveOp_kept
    | dsimp only
    | split
    | with_reducible
        refine Kept.of (e := ?_) ?_ ?_ ?_ ?_ ?_ ?_ ?_ ?_ ?_ ?_ ?_ ?_ ?_
        rotate_left; iterate 12 exact rfl

theorem nvmDone_kept (s : State) (o : Op) (ok : Bool) (h : Kept B Q K s) :
    Kept B Q K (State.nvmDone s o ok) := by
  unfold State.nvmDone
  repeat' first
    | intro _
    | with_reducible first | assumption | apply saveDone_kept | apply keyDone_kept | apply fwBegun_kept
    | with_reducible first | apply fwBlockDone_kept
    | dsimp only
    | split
    | with_reducible
        refine Kept.of (e := ?_) ?_ ?_ ?_ ?_ ?_ ?_ ?_ ?_ ?_ ?_ ?_ ?_ ?_
        rotate_left; iterate 12 exact rfl

theorem confirm_kept (s : State) (h : Kept B Q K s) :
    Kept B Q K (State.confirm s) := by
  unfold State.confirm
  repeat' first
    | intro _
    | with_reducible first | assumption | apply raiseP_kept | apply clearE_kept
    | dsimp only
    | split
    | with_reducible
        refine Kept.of (e := ?_) ?_ ?_ ?_ ?_ ?_ ?_ ?_ ?_ ?_ ?_ ?_ ?_ ?_
        rotate_left; iterate 12 exact rfl

theorem nfcRelease_kept (s : State) (h : Kept B Q K s) :
    Kept B Q K (State.nfcRelease s) := by
  unfold State.nfcRelease
  repeat' first
    | intro _
    | with_reducible first | assumption | apply Kept.ite | apply release_kept
    | dsimp only
    | split
    | with_reducible
        refine Kept.of (e := ?_) ?_ ?_ ?_ ?_ ?_ ?_ ?_ ?_ ?_ ?_ ?_ ?_ ?_
        rotate_left; iterate 12 exact rfl

theorem nfcOut_kept (s : State) (b : List Byte) (h : Kept B Q K s) :
    Kept B Q K (State.nfcOut s b) := by
  unfold State.nfcOut
  repeat' first
    | intro _
    | with_reducible first | assumption
    | with_reducible
        refine Kept.of (e := ?_) ?_ ?_ ?_ ?_ ?_ ?_ ?_ ?_ ?_ ?_ ?_ ?_ ?_
        rotate_left; iterate 12 exact rfl

theorem protoErr_kept (s : State) (h : Kept B Q K s) :
    Kept B Q K (State.protoErr s) := by
  unfold State.protoErr
  repeat' first
    | intro _
    | with_reducible first | assumption | apply Kept.ite | apply raiseP_kept
    | dsimp only
    | split
    | with_reducible
        refine Kept.of (e := ?_) ?_ ?_ ?_ ?_ ?_ ?_ ?_ ?_ ?_ ?_ ?_ ?_ ?_
        rotate_left; iterate 12 exact rfl

theorem nfcId_kept (s : State) (h : Kept B Q K s) :
    Kept B Q K (State.nfcId s) := by
  unfold State.nfcId
  repeat' first
    | intro _
    | with_reducible first | assumption | apply Kept.ite
    | dsimp only
    | split
    | with_reducible
        refine Kept.of (e := ?_) ?_ ?_ ?_ ?_ ?_ ?_ ?_ ?_ ?_ ?_ ?_ ?_ ?_
        rotate_left; iterate 12 exact rfl

theorem selectFile_kept (s : State) (f : Nat) (h : Kept B Q K s) :
    Kept B Q K (State.selectFile s f) := by
  unfold State.selectFile
  repeat' first
    | intro _
    | with_reducible first | assumption | apply Kept.ite
    | dsimp only
    | split
    | with_reducible
        refine Kept.of (e := ?_) ?_ ?_ ?_ ?_ ?_ ?_ ?_ ?_ ?_ ?_ ?_ ?_ ?_
        rotate_left; iterate 12 exact rfl

theorem nfcSessionEnd_kept (s : State) (h : Kept B Q K s) :
    Kept B Q K (State.nfcSessionEnd s) := by
  unfold State.nfcSessionEnd
  repeat' first
    | intro _
    | with_reducible first | assumption | apply onPort_kept | apply endSession_kept | apply apdu_kept
    | with_reducible first | apply nfcRelease_kept
    | with_reducible
        refine Kept.of (e := ?_) ?_ ?_ ?_ ?_ ?_ ?_ ?_ ?_ ?_ ?_ ?_ ?_ ?_
        rotate_left; iterate 12 exact rfl

theorem selectApdu_kept (s : State) (b : List Byte) (h : Kept B Q K s) :
    Kept B Q K (State.selectApdu s b) := by
  unfold State.selectApdu
  repeat' first
    | intro _
    | with_reducible first | assumption | apply Kept.ite | apply apduSw_kept | apply selectFile_kept
    | with_reducible first | apply nfcSessionEnd_kept
    | dsimp only
    | split
    | with_reducible
        refine Kept.of (e := ?_) ?_ ?_ ?_ ?_ ?_ ?_ ?_ ?_ ?_ ?_ ?_ ?_ ?_
        rotate_left; iterate 12 exact rfl

theorem readFile_kept (s : State) (off len : Nat) (h : Kept B Q K s) :
    Kept B Q K (State.readFile s off len) := by
  unfold State.readFile
  repeat' first
    | intro _
    | with_reducible first | assumption | apply Kept.ite | apply raiseP_kept | apply apduSw_kept | apply nfcOut_kept
    | dsimp only
    | split
    | with_reducible
        refine Kept.of (e := ?_) ?_ ?_ ?_ ?_ ?_ ?_ ?_ ?_ ?_ ?_ ?_ ?_ ?_
        rotate_left; iterate 12 exact rfl

theorem holdApdu_kept (s : State) (b : List Byte) (h : Kept B Q K s) :
    Kept B Q K (State.holdApdu s b) := by
  unfold State.holdApdu
  repeat' first
    | intro _
    | with_reducible first | assumption | apply sendWtx_kept
    | with_reducible
        refine Kept.of (e := ?_) ?_ ?_ ?_ ?_ ?_ ?_ ?_ ?_ ?_ ?_ ?_ ?_ ?_
        rotate_left; iterate 12 exact rfl

theorem heldAny_kept (s : State) (h : Kept B Q K s) :
    Kept B Q K (State.heldAny s) := by
  unfold State.heldAny
  repeat' first
    | intro _
    | with_reducible first | assumption | apply Kept.ite | apply apduSw_kept | apply apdu_kept
    | with_reducible first | apply selectApdu_kept | apply readFile_kept
    | dsimp only
    | split
    | with_reducible
        refine Kept.of (e := ?_) ?_ ?_ ?_ ?_ ?_ ?_ ?_ ?_ ?_ ?_ ?_ ?_ ?_
        rotate_left; iterate 12 exact rfl

theorem setVbus_kept (s : State) (mv : Int) (h : Kept B Q K s) :
    Kept B Q K (State.setVbus s mv) := by
  unfold State.setVbus
  repeat' first
    | intro _
    | with_reducible first | assumption
    | with_reducible
        refine Kept.of (e := ?_) ?_ ?_ ?_ ?_ ?_ ?_ ?_ ?_ ?_ ?_ ?_ ?_ ?_
        rotate_left; iterate 12 exact rfl

theorem loseBus_kept (s : State) (h : Kept B Q K s) :
    Kept B Q K (State.loseBus s) := by
  unfold State.loseBus
  repeat' first
    | intro _
    | with_reducible first | assumption | apply clearE_kept | apply disqualify_kept
    | with_reducible
        refine Kept.of (e := ?_) ?_ ?_ ?_ ?_ ?_ ?_ ?_ ?_ ?_ ?_ ?_ ?_ ?_
        rotate_left; iterate 12 exact rfl

theorem gainBus_kept (s : State) (h : Kept B Q K s) :
    Kept B Q K (State.gainBus s) := by
  unfold State.gainBus
  repeat' first
    | intro _
    | with_reducible first | assumption | apply Kept.ite | apply raiseOnce_kept | apply clearE_kept
    | with_reducible first | apply tb8Eval_kept | apply toRun_kept | apply qualify_kept | apply busReturns_kept
    | dsimp only
    | split
    | with_reducible
        refine Kept.of (e := ?_) ?_ ?_ ?_ ?_ ?_ ?_ ?_ ?_ ?_ ?_ ?_ ?_ ?_
        rotate_left; iterate 12 exact rfl

theorem vinOv_kept (s : State) (r : Nat) (h : Kept B Q K s) :
    Kept B Q K (State.vinOv s r) := by
  unfold State.vinOv
  repeat' first
    | intro _
    | with_reducible first | assumption | apply Kept.ite | apply raiseC_kept | apply capture_kept
    | with_reducible first | apply faultNow_kept | apply stopDone_kept
    | dsimp only
    | split
    | with_reducible
        refine Kept.of (e := ?_) ?_ ?_ ?_ ?_ ?_ ?_ ?_ ?_ ?_ ?_ ?_ ?_ ?_
        rotate_left; iterate 12 exact rfl

theorem supplyOff_kept (s : State) (p : Path) (m : Mode) (h : Kept B Q K s) :
    Kept B Q K (State.supplyOff s p m) := by
  unfold State.supplyOff
  repeat' first
    | intro _
    | with_reducible first | assumption | apply pinsLow_kept | apply toMode_kept | apply devReset_kept
    | with_reducible
        refine Kept.of (e := ?_) ?_ ?_ ?_ ?_ ?_ ?_ ?_ ?_ ?_ ?_ ?_ ?_ ?_
        rotate_left; iterate 12 exact rfl

theorem stoLost_kept (s : State) (reason : Nat) (h : Kept B Q K s) :
    Kept B Q K (State.stoLost s reason) := by
  unfold State.stoLost
  repeat' first
    | intro _
    | with_reducible first | assumption | apply raiseOnce_kept | apply evalPins_kept | apply vhostEval_kept
    | with_reducible first | apply disqualify_kept
    | with_reducible
        refine Kept.of (e := ?_) ?_ ?_ ?_ ?_ ?_ ?_ ?_ ?_ ?_ ?_ ?_ ?_ ?_
        rotate_left; iterate 12 exact rfl

theorem fallback_kept (s : State) (h : Kept B Q K s) :
    Kept B Q K (State.fallback s) := by
  unfold State.fallback
  repeat' first
    | intro _
    | with_reducible first | assumption | apply Kept.ite | apply raisePinP_kept | apply clearE_kept
    | dsimp only
    | split
    | with_reducible
        refine Kept.of (e := ?_) ?_ ?_ ?_ ?_ ?_ ?_ ?_ ?_ ?_ ?_ ?_ ?_ ?_
        rotate_left; iterate 12 exact rfl

theorem chooseFw_kept (s : State) (chk : BootCheck) (h : Kept B Q K s) :
    Kept1 B Q K (State.chooseFw s chk) := by
  unfold State.chooseFw
  repeat' first
    | intro _
    | with_reducible first | assumption | apply Kept.ite | apply fallback_kept | apply Kept1.ite | apply Kept2.ite
    | dsimp only
    | split
    | with_reducible apply Kept1.mk
    | with_reducible
        refine Kept.of (e := ?_) ?_ ?_ ?_ ?_ ?_ ?_ ?_ ?_ ?_ ?_ ?_ ?_ ?_
        rotate_left; iterate 12 exact rfl

theorem chooseFw_kept_pr (s : State) (chk : BootCheck) (h : Kept B Q K s) :
    Kept B Q K (State.chooseFw s chk).1 := chooseFw_kept s chk h

theorem enterRecovery_kept (s : State) (h : Kept B Q K s) :
    Kept B Q K (State.enterRecovery s) := by
  unfold State.enterRecovery
  repeat' first
    | intro _
    | with_reducible first | assumption | apply tb8Eval_kept | apply softStop_kept | apply toIdle_kept
    | with_reducible first | apply vhostEval_kept | apply Kept.foldl
    | with_reducible
        refine Kept.of (e := ?_) ?_ ?_ ?_ ?_ ?_ ?_ ?_ ?_ ?_ ?_ ?_ ?_ ?_
        rotate_left; iterate 12 exact rfl

theorem countersLost_kept (s : State) (h : Kept B Q K s) :
    Kept B Q K (State.countersLost s) := by
  unfold State.countersLost
  repeat' first
    | intro _
    | with_reducible first | assumption | apply raiseOnce_kept | apply Kept.foldl
    | with_reducible
        refine Kept.of (e := ?_) ?_ ?_ ?_ ?_ ?_ ?_ ?_ ?_ ?_ ?_ ?_ ?_ ?_
        rotate_left; iterate 12 exact rfl

theorem checkBank_kept (s : State) (chk : BootCheck) (n : Nat) (h : Kept B Q K s) :
    Kept B Q K (State.checkBank s chk n) := by
  unfold State.checkBank
  repeat' first
    | intro _
    | with_reducible first | assumption | apply Kept.ite | apply raiseOnce_kept
    | dsimp only
    | split
    | with_reducible
        refine Kept.of (e := ?_) ?_ ?_ ?_ ?_ ?_ ?_ ?_ ?_ ?_ ?_ ?_ ?_ ?_
        rotate_left; iterate 12 exact rfl

theorem checkBanks_kept (s : State) (chk : BootCheck) (h : Kept B Q K s) :
    Kept B Q K (State.checkBanks s chk) := by
  unfold State.checkBanks
  repeat' first
    | intro _
    | with_reducible first | assumption | apply Kept.ite | apply raiseOnce_kept | apply checkBank_kept
    | dsimp only
    | split
    | with_reducible
        refine Kept.of (e := ?_) ?_ ?_ ?_ ?_ ?_ ?_ ?_ ?_ ?_ ?_ ?_ ?_ ?_
        rotate_left; iterate 12 exact rfl

theorem loadConfig_kept (s : State) (straps : Bool) (h : Kept B Q K s) :
    Kept B Q K (State.loadConfig s straps) := by
  unfold State.loadConfig
  repeat' first
    | intro _
    | with_reducible first | assumption | apply Kept.ite | apply raiseOnce_kept | apply setC_kept
    | dsimp only
    | split
    | with_reducible
        refine Kept.of (e := ?_) ?_ ?_ ?_ ?_ ?_ ?_ ?_ ?_ ?_ ?_ ?_ ?_ ?_
        rotate_left; iterate 12 exact rfl

theorem bootDies_kept (s : State) (chk : BootCheck) (device : Bool) (h : Kept B Q K s) :
    Kept B Q K (State.bootDies s chk device) := by
  unfold State.bootDies
  repeat' first
    | intro _
    | with_reducible first | assumption | apply Kept.ite | apply onChan_kept | apply fenceDie_kept
    | with_reducible first | apply liftFence_kept | apply Kept.foldl
    | dsimp only
    | split
    | with_reducible
        refine Kept.of (e := ?_) ?_ ?_ ?_ ?_ ?_ ?_ ?_ ?_ ?_ ?_ ?_ ?_ ?_
        rotate_left; iterate 12 exact rfl

theorem porDemands_kept (s : State) (h : Kept B Q K s) :
    Kept B Q K (State.porDemands s) := by
  unfold State.porDemands
  repeat' first
    | intro _
    | with_reducible first | assumption | apply Kept.ite | apply onChan_kept | apply Kept.foldl
    | dsimp only
    | split
    | with_reducible
        refine Kept.of (e := ?_) ?_ ?_ ?_ ?_ ?_ ?_ ?_ ?_ ?_ ?_ ?_ ?_ ?_
        rotate_left; iterate 12 exact rfl

theorem adoptDemands_kept (s : State) (h : Kept B Q K s) :
    Kept B Q K (State.adoptDemands s) := by
  unfold State.adoptDemands
  repeat' first
    | intro _
    | with_reducible first | assumption | apply Kept.ite | apply onChan_kept | apply setDemand_kept
    | with_reducible first | apply fitDemands_kept | apply Kept.foldl
    | dsimp only
    | split
    | with_reducible
        refine Kept.of (e := ?_) ?_ ?_ ?_ ?_ ?_ ?_ ?_ ?_ ?_ ?_ ?_ ?_ ?_
        rotate_left; iterate 12 exact rfl

theorem ledgerRestart_kept (s : State) (h : Kept B Q K s) :
    Kept B Q K (State.ledgerRestart s) := by
  unfold State.ledgerRestart
  repeat' first
    | intro _
    | with_reducible first | assumption | apply regrant_kept | apply evalLedger_kept
    | with_reducible
        refine Kept.of (e := ?_) ?_ ?_ ?_ ?_ ?_ ?_ ?_ ?_ ?_ ?_ ?_ ?_ ?_
        rotate_left; iterate 12 exact rfl

theorem resumeKept_kept (s : State) (h : Kept B Q K s) :
    Kept B Q K (State.resumeKept s) := by
  unfold State.resumeKept
  repeat' first
    | intro _
    | with_reducible first | assumption | apply Kept.ite | apply request_kept | apply onOp_kept | apply Kept.foldl
    | dsimp only
    | split
    | with_reducible
        refine Kept.of (e := ?_) ?_ ?_ ?_ ?_ ?_ ?_ ?_ ?_ ?_ ?_ ?_ ?_ ?_
        rotate_left; iterate 12 exact rfl

theorem deferredLoss_kept (s : State) (h : Kept B Q K s) :
    Kept B Q K (State.deferredLoss s) := by
  unfold State.deferredLoss
  repeat' first
    | intro _
    | with_reducible first | assumption | apply Kept.ite | apply toRun_kept | apply shutdownBegin_kept
    | dsimp only
    | split
    | with_reducible
        refine Kept.of (e := ?_) ?_ ?_ ?_ ?_ ?_ ?_ ?_ ?_ ?_ ?_ ?_ ?_ ?_
        rotate_left; iterate 12 exact rfl

theorem resumeShut_kept (s : State) (h : Kept B Q K s) :
    Kept B Q K (State.resumeShut s) := by
  unfold State.resumeShut
  repeat' first
    | intro _
    | with_reducible first | assumption | apply Kept.ite | apply shutdownBegin_kept | apply restartBegin_kept
    | dsimp only
    | split
    | with_reducible
        refine Kept.of (e := ?_) ?_ ?_ ?_ ?_ ?_ ?_ ?_ ?_ ?_ ?_ ?_ ?_ ?_
        rotate_left; iterate 12 exact rfl

theorem toPlinth_kept (s : State) (h : Kept B Q K s) :
    Kept B Q K (State.toPlinth s) := by
  unfold State.toPlinth
  repeat' first
    | intro _
    | with_reducible first | assumption | apply toMode_kept
    | with_reducible
        refine Kept.of (e := ?_) ?_ ?_ ?_ ?_ ?_ ?_ ?_ ?_ ?_ ?_ ?_ ?_ ?_
        rotate_left; iterate 12 exact rfl

theorem firstSettle_kept (s : State) (h : Kept B Q K s) :
    Kept B Q K (State.firstSettle s) := by
  unfold State.firstSettle
  repeat' first
    | intro _
    | with_reducible first | assumption | apply Kept.ite | apply restartBegin_kept | apply restartSupplies_kept
    | with_reducible first | apply toPlinth_kept
    | dsimp only
    | split
    | with_reducible
        refine Kept.of (e := ?_) ?_ ?_ ?_ ?_ ?_ ?_ ?_ ?_ ?_ ?_ ?_ ?_ ?_
        rotate_left; iterate 12 exact rfl

theorem laterSettle_kept (s : State) (device : Bool) (h : Kept B Q K s) :
    Kept B Q K (State.laterSettle s device) := by
  unfold State.laterSettle
  repeat' first
    | intro _
    | with_reducible first | assumption | apply Kept.ite | apply restartBegin_kept | apply resumeShut_kept
    | dsimp only
    | split
    | with_reducible
        refine Kept.of (e := ?_) ?_ ?_ ?_ ?_ ?_ ?_ ?_ ?_ ?_ ?_ ?_ ?_ ?_
        rotate_left; iterate 12 exact rfl

theorem roenoUp_kept (s : State) (pinned : Bool) (h : Kept B Q K s) :
    Kept B Q K (State.roenoUp s pinned) := by
  unfold State.roenoUp
  repeat' first
    | intro _
    | with_reducible first | assumption | apply flushDies_kept | apply wdtService_kept | apply bootRecord_kept
    | with_reducible first | apply resumeOps_kept | apply ledgerRestart_kept
    | with_reducible
        refine Kept.of (e := ?_) ?_ ?_ ?_ ?_ ?_ ?_ ?_ ?_ ?_ ?_ ?_ ?_ ?_
        rotate_left; iterate 12 exact rfl

theorem onTracker_kept (s : State) (c : HarvestCh) (f : Tracker → Tracker) (h : Kept B Q K s) :
    Kept B Q K (State.onTracker s c f) := by
  unfold State.onTracker
  repeat' first
    | intro _
    | with_reducible first | assumption
    | dsimp only
    | split
    | with_reducible
        refine Kept.of (e := ?_) ?_ ?_ ?_ ?_ ?_ ?_ ?_ ?_ ?_ ?_ ?_ ?_ ?_
        rotate_left; iterate 12 exact rfl

theorem hrvStart_kept (s : State) (c : HarvestCh) (voc : Nat) (h : Kept B Q K s) :
    Kept B Q K (State.hrvStart s c voc) := by
  unfold State.hrvStart
  repeat' first
    | intro _
    | with_reducible first | assumption | apply regulate_kept | apply onTracker_kept
    | with_reducible
        refine Kept.of (e := ?_) ?_ ?_ ?_ ?_ ?_ ?_ ?_ ?_ ?_ ?_ ?_ ?_ ?_
        rotate_left; iterate 12 exact rfl

theorem hrvStop_kept (s : State) (c : HarvestCh) (h : Kept B Q K s) :
    Kept B Q K (State.hrvStop s c) := by
  unfold State.hrvStop
  repeat' first
    | intro _
    | with_reducible first | assumption | apply onTracker_kept
    | with_reducible
        refine Kept.of (e := ?_) ?_ ?_ ?_ ?_ ?_ ?_ ?_ ?_ ?_ ?_ ?_ ?_ ?_
        rotate_left; iterate 12 exact rfl

theorem cscSample_kept (s : State) (p : PassiveIn) (h : Kept B Q K s) :
    Kept B Q K (State.cscSample s p) := by
  unfold State.cscSample
  repeat' first
    | intro _
    | with_reducible first | assumption | apply Kept.ite
    | dsimp only
    | split
    | with_reducible
        refine Kept.of (e := ?_) ?_ ?_ ?_ ?_ ?_ ?_ ?_ ?_ ?_ ?_ ?_ ?_ ?_
        rotate_left; iterate 12 exact rfl

theorem takeOver_kept (s : State) (c : HarvestCh) (voc point : Nat) (h : Kept B Q K s) :
    Kept B Q K (State.takeOver s c voc point) := by
  unfold State.takeOver
  repeat' first
    | intro _
    | with_reducible first | assumption | apply Kept.ite | apply onTracker_kept | apply hrvStart_kept
    | dsimp only
    | split
    | with_reducible
        refine Kept.of (e := ?_) ?_ ?_ ?_ ?_ ?_ ?_ ?_ ?_ ?_ ?_ ?_ ?_ ?_
        rotate_left; iterate 12 exact rfl

theorem startFromSto_kept (s : State) (delivering : BitVec 4) (straps : Straps) (h : Kept B Q K s) :
    Kept B Q K (State.startFromSto s delivering straps) := by
  unfold State.startFromSto
  repeat' first
    | intro _
    | with_reducible first | assumption | apply Kept.ite | apply raiseP_kept | apply powerOnReset_kept
    | with_reducible first | apply takeOver_kept
    | dsimp only
    | split
    | with_reducible
        refine Kept.of (e := ?_) ?_ ?_ ?_ ?_ ?_ ?_ ?_ ?_ ?_ ?_ ?_ ?_ ?_
        rotate_left; iterate 12 exact rfl

theorem perturb_kept (s : State) (c : HarvestCh) (meanUw : Nat) (h : Kept B Q K s) :
    Kept B Q K (State.perturb s c meanUw) := by
  unfold State.perturb
  repeat' first
    | intro _
    | with_reducible first | assumption | apply Kept.ite | apply regulate_kept | apply onTracker_kept
    | dsimp only
    | split
    | with_reducible
        refine Kept.of (e := ?_) ?_ ?_ ?_ ?_ ?_ ?_ ?_ ?_ ?_ ?_ ?_ ?_ ?_
        rotate_left; iterate 12 exact rfl

theorem limitHrv_kept (s : State) (c : HarvestCh) (h : Kept B Q K s) :
    Kept B Q K (State.limitHrv s c) := by
  unfold State.limitHrv
  repeat' first
    | intro _
    | with_reducible first | assumption | apply Kept.ite | apply raiseOnce_kept | apply regulate_kept
    | with_reducible first | apply onTracker_kept
    | dsimp only
    | split
    | with_reducible
        refine Kept.of (e := ?_) ?_ ?_ ?_ ?_ ?_ ?_ ?_ ?_ ?_ ?_ ?_ ?_ ?_
        rotate_left; iterate 12 exact rfl

theorem resample_kept (s : State) (c : HarvestCh) (vocUv : Nat) (carrier : Bool) (h : Kept B Q K s) :
    Kept B Q K (State.resample s c vocUv carrier) := by
  unfold State.resample
  repeat' first
    | intro _
    | with_reducible first | assumption | apply Kept.ite | apply onTracker_kept
    | dsimp only
    | split
    | with_reducible
        refine Kept.of (e := ?_) ?_ ?_ ?_ ?_ ?_ ?_ ?_ ?_ ?_ ?_ ?_ ?_ ?_
        rotate_left; iterate 12 exact rfl

theorem setVhb_kept (s : State) (mv : Nat) (h : Kept B Q K s) :
    Kept B Q K (State.setVhb s mv) := by
  unfold State.setVhb
  repeat' first
    | intro _
    | with_reducible first | assumption
    | with_reducible
        refine Kept.of (e := ?_) ?_ ?_ ?_ ?_ ?_ ?_ ?_ ?_ ?_ ?_ ?_ ?_ ?_
        rotate_left; iterate 12 exact rfl

theorem stagesStop_kept (s : State) (vib : Bool) (h : Kept B Q K s) :
    Kept B Q K (State.stagesStop s vib) := by
  unfold State.stagesStop
  repeat' first
    | intro _
    | with_reducible first | assumption | apply Kept.ite
    | dsimp only
    | split
    | with_reducible
        refine Kept.of (e := ?_) ?_ ?_ ?_ ?_ ?_ ?_ ?_ ?_ ?_ ?_ ?_ ?_ ?_
        rotate_left; iterate 12 exact rfl

theorem hrvAgain_kept (s : State) (c : HarvestCh) (h : Kept B Q K s) :
    Kept B Q K (State.hrvAgain s c) := by
  unfold State.hrvAgain
  repeat' first
    | intro _
    | with_reducible first | assumption | apply Kept.ite | apply hrvStart_kept
    | dsimp only
    | split
    | with_reducible
        refine Kept.of (e := ?_) ?_ ?_ ?_ ?_ ?_ ?_ ?_ ?_ ?_ ?_ ?_ ?_ ?_
        rotate_left; iterate 12 exact rfl

theorem powerOn_kept (s : State) (src : Source) (straps : Straps) (h : Kept B Q K s) :
    Kept B Q K (State.powerOn s src straps) := by
  unfold State.powerOn
  repeat' first
    | intro _
    | with_reducible first | assumption | apply Kept.ite | apply powerOnReset_kept | apply plinthStarts_kept
    | dsimp only
    | split
    | with_reducible
        refine Kept.of (e := ?_) ?_ ?_ ?_ ?_ ?_ ?_ ?_ ?_ ?_ ?_ ?_ ?_ ?_
        rotate_left; iterate 12 exact rfl

theorem ready_kept (s : State) (boot : Bool) (h : Kept B Q K s) :
    Kept B Q K (State.ready s boot) := by
  unfold State.ready
  repeat' first
    | intro _
    | with_reducible first | assumption | apply Kept.ite | apply raiseP_kept | apply applyShed_kept
    | with_reducible first | apply relevel_kept | apply applyAllowances_kept | apply evalLedger_kept
    | with_reducible first | apply tb8Eval_kept | apply remap_kept | apply vhostEval_kept | apply powerEnables_kept
    | with_reducible first | apply heldAny_kept | apply resumeKept_kept | apply deferredLoss_kept
    | dsimp only
    | split
    | with_reducible
        refine Kept.of (e := ?_) ?_ ?_ ?_ ?_ ?_ ?_ ?_ ?_ ?_ ?_ ?_ ?_ ?_
        rotate_left; iterate 12 exact rfl

theorem coldBoot_kept (s : State) (chk : BootCheck) (h : Kept B Q K s) :
    Kept B Q K (State.coldBoot s chk) := by
  unfold State.coldBoot
  repeat' first
    | intro _
    | with_reducible first | assumption | apply Kept.ite | apply chooseFw_kept | apply chooseFw_kept_pr
    | with_reducible first | apply enterRecovery_kept | apply countersLost_kept | apply checkBanks_kept
    | with_reducible first | apply loadConfig_kept | apply bootDies_kept | apply porDemands_kept
    | with_reducible first | apply adoptDemands_kept | apply firstSettle_kept | apply laterSettle_kept
    | with_reducible first | apply roenoUp_kept | apply ready_kept | refine Kept.of_fst (by assumption) ?_
    | with_reducible first | refine Kept.of_snd (by assumption) ?_
    | dsimp only
    | split
    | with_reducible
        refine Kept.of (e := ?_) ?_ ?_ ?_ ?_ ?_ ?_ ?_ ?_ ?_ ?_ ?_ ?_ ?_
        rotate_left; iterate 12 exact rfl

theorem afterDecom_kept (s : State) (h : Kept B Q K s) :
    Kept B Q K (State.afterDecom s) := by
  unfold State.afterDecom
  repeat' first
    | intro _
    | with_reducible first | assumption | apply Kept.ite | apply raiseOnce_kept | apply loadConfig_kept
    | dsimp only
    | split
    | with_reducible
        refine Kept.of (e := ?_) ?_ ?_ ?_ ?_ ?_ ?_ ?_ ?_ ?_ ?_ ?_ ?_ ?_
        rotate_left; iterate 12 exact rfl

theorem warmUp_kept (s : State) (h : Kept B Q K s) :
    Kept B Q K (State.warmUp s) := by
  unfold State.warmUp
  repeat' first
    | intro _
    | with_reducible first | assumption | apply Kept.ite | apply toMode_kept | apply run_kept
    | with_reducible first | apply resumeShut_kept | apply roenoUp_kept | apply ready_kept | apply afterDecom_kept
    | dsimp only
    | split
    | with_reducible
        refine Kept.of (e := ?_) ?_ ?_ ?_ ?_ ?_ ?_ ?_ ?_ ?_ ?_ ?_ ?_ ?_
        rotate_left; iterate 12 exact rfl

theorem trip_kept (s : State) (c : Nat) (hard : Bool) (h : Kept B Q K s) :
    Kept B Q K (State.trip s c hard) := by
  unfold State.trip
  repeat' first
    | intro _
    | with_reducible first | assumption | apply Kept.ite | apply onChan_kept | apply hardOff_kept
    | with_reducible first | apply countTrip_kept | apply enterLatch_kept
    | dsimp only
    | split
    | with_reducible
        refine Kept.of (e := ?_) ?_ ?_ ?_ ?_ ?_ ?_ ?_ ?_ ?_ ?_ ?_ ?_ ?_
        rotate_left; iterate 12 exact rfl

theorem thermal_kept (s : State) (c : Nat) (tempC : Int) (h : Kept B Q K s) :
    Kept B Q K (State.thermal s c tempC) := by
  unfold State.thermal
  repeat' first
    | intro _
    | with_reducible first | assumption | apply Kept.ite | apply onChan_kept | apply latch_kept | apply hardOff_kept
    | with_reducible first | apply dieRaise_kept
    | dsimp only
    | split
    | with_reducible
        refine Kept.of (e := ?_) ?_ ?_ ?_ ?_ ?_ ?_ ?_ ?_ ?_ ?_ ?_ ?_ ?_
        rotate_left; iterate 12 exact rfl

theorem cycleStart_kept (s : State) (c tick : Nat) (h : Kept B Q K s) :
    Kept B Q K (State.cycleStart s c tick) := by
  unfold State.cycleStart
  repeat' first
    | intro _
    | with_reducible first | assumption | apply Kept.ite | apply onChan_kept | apply refresh_kept
    | with_reducible first | apply needRun_kept | apply fresh_kept | apply fresh_kept_pr
    | with_reducible first | refine Kept.of_fst (by assumption) ?_ | refine Kept.of_snd (by assumption) ?_
    | dsimp only
    | split
    | with_reducible
        refine Kept.of (e := ?_) ?_ ?_ ?_ ?_ ?_ ?_ ?_ ?_ ?_ ?_ ?_ ?_ ?_
        rotate_left; iterate 12 exact rfl

theorem newPattern_kept (s : State) (c : Nat) (h : Kept B Q K s) :
    Kept B Q K (State.newPattern s c) := by
  unfold State.newPattern
  repeat' first
    | intro _
    | with_reducible first | assumption | apply Kept.ite | apply onChan_kept
    | dsimp only
    | split
    | with_reducible
        refine Kept.of (e := ?_) ?_ ?_ ?_ ?_ ?_ ?_ ?_ ?_ ?_ ?_ ?_ ?_ ?_
        rotate_left; iterate 12 exact rfl

theorem realign_kept (s : State) (c : Nat) (h : Kept B Q K s) :
    Kept B Q K (State.realign s c) := by
  unfold State.realign
  repeat' first
    | intro _
    | with_reducible first | assumption | apply Kept.ite | apply onChan_kept | apply draw_kept
    | dsimp only
    | split
    | with_reducible
        refine Kept.of (e := ?_) ?_ ?_ ?_ ?_ ?_ ?_ ?_ ?_ ?_ ?_ ?_ ?_ ?_
        rotate_left; iterate 12 exact rfl

theorem addEnergy_kept (s : State) (c fj : Nat) (h : Kept B Q K s) :
    Kept B Q K (State.addEnergy s c fj) := by
  unfold State.addEnergy
  repeat' first
    | intro _
    | with_reducible first | assumption | apply onChan_kept
    | with_reducible
        refine Kept.of (e := ?_) ?_ ?_ ?_ ?_ ?_ ?_ ?_ ?_ ?_ ?_ ?_ ?_ ?_
        rotate_left; iterate 12 exact rfl

theorem sample_kept (s : State) (c slot pos : Nat) (ma : Int) (h : Kept B Q K s) :
    Kept B Q K (State.sample s c slot pos ma) := by
  unfold State.sample
  repeat' first
    | intro _
    | with_reducible first | assumption | apply Kept.ite | apply onChan_kept | apply addEnergy_kept
    | dsimp only
    | split
    | with_reducible
        refine Kept.of (e := ?_) ?_ ?_ ?_ ?_ ?_ ?_ ?_ ?_ ?_ ?_ ?_ ?_ ?_
        rotate_left; iterate 12 exact rfl

theorem olWindow_kept (s : State) (c ms : Nat) (clean : Bool) (h : Kept B Q K s) :
    Kept B Q K (State.olWindow s c ms clean) := by
  unfold State.olWindow
  repeat' first
    | intro _
    | with_reducible first | assumption | apply Kept.ite | apply onChan_kept
    | dsimp only
    | split
    | with_reducible
        refine Kept.of (e := ?_) ?_ ?_ ?_ ?_ ?_ ?_ ?_ ?_ ?_ ?_ ?_ ?_ ?_
        rotate_left; iterate 12 exact rfl

theorem closeWindow_kept (s : State) (c ms : Nat) (burst : Bool) (h : Kept B Q K s) :
    Kept B Q K (State.closeWindow s c ms burst) := by
  unfold State.closeWindow
  repeat' first
    | intro _
    | with_reducible first | assumption | apply Kept.ite | apply onChan_kept | apply olWindow_kept
    | dsimp only
    | split
    | with_reducible
        refine Kept.of (e := ?_) ?_ ?_ ?_ ?_ ?_ ?_ ?_ ?_ ?_ ?_ ?_ ?_ ?_
        rotate_left; iterate 12 exact rfl

theorem burst_kept (s : State) (c : Nat) (ma : Vector Int 16) (h : Kept B Q K s) :
    Kept B Q K (State.burst s c ma) := by
  unfold State.burst
  repeat' first
    | intro _
    | with_reducible first | assumption | apply onChan_kept | apply addEnergy_kept | apply Kept.foldl
    | with_reducible
        refine Kept.of (e := ?_) ?_ ?_ ?_ ?_ ?_ ?_ ?_ ?_ ?_ ?_ ?_ ?_ ?_
        rotate_left; iterate 12 exact rfl

theorem queueWall_kept (s : State) (a : WallAct) (h : Kept B Q K s) :
    Kept B Q K (State.queueWall s a) := by
  unfold State.queueWall
  repeat' first
    | intro _
    | with_reducible first | assumption | apply Kept.ite
    | dsimp only
    | split
    | with_reducible
        refine Kept.of (e := ?_) ?_ ?_ ?_ ?_ ?_ ?_ ?_ ?_ ?_ ?_ ?_ ?_ ?_
        rotate_left; iterate 12 exact rfl

theorem onGpio_kept (s : State) (g : Nat) (f : Gpio → Gpio) (h : Kept B Q K s) :
    Kept B Q K (State.onGpio s g f) := by
  unfold State.onGpio
  repeat' first
    | intro _
    | with_reducible first | assumption
    | with_reducible
        refine Kept.of (e := ?_) ?_ ?_ ?_ ?_ ?_ ?_ ?_ ?_ ?_ ?_ ?_ ?_ ?_
        rotate_left; iterate 12 exact rfl

theorem debounced_kept (s : State) (g : Nat) (high : Bool) (h : Kept B Q K s) :
    Kept B Q K (State.debounced s g high) := by
  unfold State.debounced
  repeat' first
    | intro _
    | with_reducible first | assumption | apply Kept.ite | apply queueWall_kept | apply onGpio_kept
    | dsimp only
    | split
    | with_reducible
        refine Kept.of (e := ?_) ?_ ?_ ?_ ?_ ?_ ?_ ?_ ?_ ?_ ?_ ?_ ?_ ?_
        rotate_left; iterate 12 exact rfl

theorem wallDemand_kept (s : State) (c : Nat) (d : Demand) (h : Kept B Q K s) :
    Kept B Q K (State.wallDemand s c d) := by
  unfold State.wallDemand
  repeat' first
    | intro _
    | with_reducible first | assumption | apply Kept.ite | apply refresh_kept | apply clearLatch_kept
    | with_reducible first | apply setDemand_kept
    | dsimp only
    | split
    | with_reducible
        refine Kept.of (e := ?_) ?_ ?_ ?_ ?_ ?_ ?_ ?_ ?_ ?_ ?_ ?_ ?_ ?_
        rotate_left; iterate 12 exact rfl

theorem dimStart_kept (s : State) (c : Nat) (h : Kept B Q K s) :
    Kept B Q K (State.dimStart s c) := by
  unfold State.dimStart
  repeat' first
    | intro _
    | with_reducible first | assumption | apply onChan_kept | apply wallDemand_kept
    | dsimp only
    | split
    | with_reducible
        refine Kept.of (e := ?_) ?_ ?_ ?_ ?_ ?_ ?_ ?_ ?_ ?_ ?_ ?_ ?_ ?_
        rotate_left; iterate 12 exact rfl

theorem applyWall_kept (s : State) (a : WallAct) (h : Kept B Q K s) : Kept B Q K (s.applyWall a) := by
  unfold State.applyWall
  repeat' (first | intro _ | with_reducible assumption | with_reducible apply Kept.ite | with_reducible apply wallDemand_kept | with_reducible apply onGpio_kept | with_reducible apply dimStart_kept | with_reducible apply Kept.foldl | dsimp only | split)

theorem dimStep_kept (s : State) (c : Nat) (h : Kept B Q K s) :
    Kept B Q K (State.dimStep s c) := by
  unfold State.dimStep
  repeat' first
    | intro _
    | with_reducible first | assumption | apply setDemand_kept
    | dsimp only
    | split
    | with_reducible
        refine Kept.of (e := ?_) ?_ ?_ ?_ ?_ ?_ ?_ ?_ ?_ ?_ ?_ ?_ ?_ ?_
        rotate_left; iterate 12 exact rfl

theorem cmdPing_kept (s : State) (w : Waiting) (h : Kept B Q K s) :
    Kept B Q K (State.cmdPing s w) := by
  unfold State.cmdPing
  repeat' first
    | intro _
    | with_reducible first | assumption | apply respond_kept
    | with_reducible
        refine Kept.of (e := ?_) ?_ ?_ ?_ ?_ ?_ ?_ ?_ ?_ ?_ ?_ ?_ ?_ ?_
        rotate_left; iterate 12 exact rfl

theorem cmdGetInfo_kept (s : State) (w : Waiting) (h : Kept B Q K s) :
    Kept B Q K (State.cmdGetInfo s w) := by
  unfold State.cmdGetInfo
  repeat' first
    | intro _
    | with_reducible first | assumption | apply respond_kept
    | with_reducible
        refine Kept.of (e := ?_) ?_ ?_ ?_ ?_ ?_ ?_ ?_ ?_ ?_ ?_ ?_ ?_ ?_
        rotate_left; iterate 12 exact rfl

theorem cmdReadParam_kept (s : State) (w : Waiting) (h : Kept B Q K s) :
    Kept B Q K (State.cmdReadParam s w) := by
  unfold State.cmdReadParam
  repeat' first
    | intro _
    | with_reducible first | assumption | apply Kept.ite | apply respond_kept
    | dsimp only
    | split
    | with_reducible
        refine Kept.of (e := ?_) ?_ ?_ ?_ ?_ ?_ ?_ ?_ ?_ ?_ ?_ ?_ ?_ ?_
        rotate_left; iterate 12 exact rfl

theorem cmdReadLive_kept (s : State) (w : Waiting) (h : Kept B Q K s) :
    Kept B Q K (State.cmdReadLive s w) := by
  unfold State.cmdReadLive
  repeat' first
    | intro _
    | with_reducible first | assumption | apply Kept.ite | apply respond_kept
    | dsimp only
    | split
    | with_reducible
        refine Kept.of (e := ?_) ?_ ?_ ?_ ?_ ?_ ?_ ?_ ?_ ?_ ?_ ?_ ?_ ?_
        rotate_left; iterate 12 exact rfl

theorem cmdNodeList_kept (s : State) (w : Waiting) (h : Kept B Q K s) :
    Kept B Q K (State.cmdNodeList s w) := by
  unfold State.cmdNodeList
  repeat' first
    | intro _
    | with_reducible first | assumption | apply Kept.ite | apply respond_kept
    | dsimp only
    | split
    | with_reducible
        refine Kept.of (e := ?_) ?_ ?_ ?_ ?_ ?_ ?_ ?_ ?_ ?_ ?_ ?_ ?_ ?_
        rotate_left; iterate 12 exact rfl

theorem cmdOpenSession_kept (s : State) (w : Waiting) (h : Kept B Q K s) :
    Kept B Q K (State.cmdOpenSession s w) := by
  unfold State.cmdOpenSession
  repeat' first
    | intro _
    | with_reducible first | assumption | apply Kept.ite | apply onPort_kept | apply nfcReserve_kept
    | with_reducible first | apply respond_kept
    | dsimp only
    | split
    | with_reducible
        refine Kept.of (e := ?_) ?_ ?_ ?_ ?_ ?_ ?_ ?_ ?_ ?_ ?_ ?_ ?_ ?_
        rotate_left; iterate 12 exact rfl

theorem cmdCloseSession_kept (s : State) (w : Waiting) (h : Kept B Q K s) :
    Kept B Q K (State.cmdCloseSession s w) := by
  unfold State.cmdCloseSession
  repeat' first
    | intro _
    | with_reducible first | assumption | apply Kept.ite | apply respond_kept | apply endSession_kept
    | dsimp only
    | split
    | with_reducible
        refine Kept.of (e := ?_) ?_ ?_ ?_ ?_ ?_ ?_ ?_ ?_ ?_ ?_ ?_ ?_ ?_
        rotate_left; iterate 12 exact rfl

theorem abortOp_kept (s : State) (w : Waiting) (o : Op) (h : Kept B Q K s) :
    Kept B Q K (State.abortOp s w o) := by
  unfold State.abortOp
  repeat' first
    | intro _
    | with_reducible first | assumption | apply Kept.ite | apply onOps_kept | apply respond_kept | apply begin__kept
    | with_reducible first | apply finish_kept | apply shelfUndone_kept | apply cancelOp_kept | apply forward_kept
    | dsimp only
    | split
    | with_reducible
        refine Kept.of (e := ?_) ?_ ?_ ?_ ?_ ?_ ?_ ?_ ?_ ?_ ?_ ?_ ?_ ?_
        rotate_left; iterate 12 exact rfl

theorem cmdAbort_kept (s : State) (w : Waiting) (h : Kept B Q K s) :
    Kept B Q K (State.cmdAbort s w) := by
  unfold State.cmdAbort
  repeat' first
    | intro _
    | with_reducible first | assumption | apply Kept.ite | apply onPort_kept | apply respond_kept
    | with_reducible first | apply abortOp_kept
    | dsimp only
    | split
    | with_reducible
        refine Kept.of (e := ?_) ?_ ?_ ?_ ?_ ?_ ?_ ?_ ?_ ?_ ?_ ?_ ?_ ?_
        rotate_left; iterate 12 exact rfl

theorem cmdEvtRead_kept (s : State) (w : Waiting) (h : Kept B Q K s) :
    Kept B Q K (State.cmdEvtRead s w) := by
  unfold State.cmdEvtRead
  repeat' first
    | intro _
    | with_reducible first | assumption | apply Kept.ite | apply respondWith_kept
    | dsimp only
    | split
    | with_reducible
        refine Kept.of (e := ?_) ?_ ?_ ?_ ?_ ?_ ?_ ?_ ?_ ?_ ?_ ?_ ?_ ?_
        rotate_left; iterate 12 exact rfl

theorem cmdPatinaRead_kept (s : State) (w : Waiting) (h : Kept B Q K s) :
    Kept B Q K (State.cmdPatinaRead s w) := by
  unfold State.cmdPatinaRead
  repeat' first
    | intro _
    | with_reducible first | assumption | apply Kept.ite | apply respond_kept
    | dsimp only
    | split
    | with_reducible
        refine Kept.of (e := ?_) ?_ ?_ ?_ ?_ ?_ ?_ ?_ ?_ ?_ ?_ ?_ ?_ ?_
        rotate_left; iterate 12 exact rfl

theorem cmdTraceArm_kept (s : State) (w : Waiting) (h : Kept B Q K s) :
    Kept B Q K (State.cmdTraceArm s w) := by
  unfold State.cmdTraceArm
  repeat' first
    | intro _
    | with_reducible first | assumption | apply respond_kept
    | with_reducible
        refine Kept.of (e := ?_) ?_ ?_ ?_ ?_ ?_ ?_ ?_ ?_ ?_ ?_ ?_ ?_ ?_
        rotate_left; iterate 12 exact rfl

theorem cmdTraceStop_kept (s : State) (w : Waiting) (h : Kept B Q K s) :
    Kept B Q K (State.cmdTraceStop s w) := by
  unfold State.cmdTraceStop
  repeat' first
    | intro _
    | with_reducible first | assumption | apply Kept.ite | apply respond_kept
    | dsimp only
    | split
    | with_reducible
        refine Kept.of (e := ?_) ?_ ?_ ?_ ?_ ?_ ?_ ?_ ?_ ?_ ?_ ?_ ?_ ?_
        rotate_left; iterate 12 exact rfl

theorem cmdTraceRead_kept (s : State) (w : Waiting) (h : Kept B Q K s) :
    Kept B Q K (State.cmdTraceRead s w) := by
  unfold State.cmdTraceRead
  repeat' first
    | intro _
    | with_reducible first | assumption | apply Kept.ite | apply draw_kept | apply respond_kept
    | dsimp only
    | split
    | with_reducible
        refine Kept.of (e := ?_) ?_ ?_ ?_ ?_ ?_ ?_ ?_ ?_ ?_ ?_ ?_ ?_ ?_
        rotate_left; iterate 12 exact rfl

theorem fifoWrite_kept (s : State) (h : Kept B Q K s) : Kept B Q K (State.fifoWrite s) := by
  unfold State.fifoWrite
  split
  · exact h
  rename_i c rest hc
  extract_lets full A s0 s1 e C s2
  have h0 : Kept B Q K s0 := h.same rfl rfl rfl rfl rfl rfl rfl rfl
  have h1 : Kept B Q K s1 ∧ (B → s1.events.fifo.length < 256) := by
    have hl : s0.events.fifo.length = s.events.fifo.length := rfl
    have hm := h.fifo
    by_cases hf : full = true
    · have := fifoDrop_spec 1 s0 h0
      simp only [s1, hf, if_true]
      exact ⟨this.1, fun hB => by have := hm hB; omega⟩
    · simp only [s1, hf]
      refine ⟨h0, fun hB => ?_⟩
      simp only [full, decide_eq_true_eq] at hf
      rw [if_neg (by decide)]
      omega
  have h2 : Kept B Q K s2 := by
    obtain ⟨h1, hl⟩ := h1
    refine ⟨h1.qb, h1.uid, h1.ck, h1.ap, h1.ac, h1.up, h1.sec, h1.sub, fun hB => ?_, h1.ram, h1.tok, h1.pend⟩
    have := hl hB
    simp only [s2, List.length_append, List.length_cons, List.length_nil]
    omega
  split
  · exact raiseC_kept _ _ _ _ h2
  · exact h2

theorem summary_kept (s : State) (h : Kept B Q K s) : Kept B Q K (State.summary s) := by
  unfold State.summary
  split
  · split
    · rename_i hc
      apply clearE_kept
      have ht := h.tok
      refine keepRec_kept _ _ ⟨h.qb, h.uid, h.ck, h.ap, h.ac, h.up, h.sec, h.sub, h.fifo, h.ram, fun hB => ?_, h.pend⟩ fun _ => hc.1
      have := ht hB; show s.patina.tokens - 1 ≤ 64; omega
    · exact h
  · exact h

theorem flush_kept (s : State) (ok : Bool) (h : Kept B Q K s) : Kept B Q K (State.flush s ok) := by
  unfold State.flush
  split
  · dsimp only
    apply clearD_kept
    apply clearD_kept
    have h1 : Kept B Q K (s.patina.ram.foldl State.writeRec s) := Kept.foldl _ h fun s x h => writeRec_kept s x h
    have h2 := writeCounters_kept _ h1
    exact ⟨h2.qb, h2.uid, h2.ck, h2.ap, h2.ac, h2.up, h2.sec, h2.sub, h2.fifo, fun _ => show (0 : Nat) ≤ 64 by decide, h2.tok, h2.pend⟩
  · exact raiseOnce_kept _ _ _ _ h

theorem flushDone_kept (s : State) (ok : Bool) (h : Kept B Q K s) :
    Kept B Q K (State.flushDone s ok) := by
  unfold State.flushDone
  repeat' first
    | intro _
    | with_reducible first | assumption | apply release_kept | apply fresh_kept | apply fresh_kept_pr
    | with_reducible first | apply flush_kept | refine Kept.of_fst (by assumption) ?_
    | with_reducible first | refine Kept.of_snd (by assumption) ?_
    | with_reducible
        refine Kept.of (e := ?_) ?_ ?_ ?_ ?_ ?_ ?_ ?_ ?_ ?_ ?_ ?_ ?_ ?_
        rotate_left; iterate 12 exact rfl

theorem traceStep_kept (s : State) (h : Kept B Q K s) :
    Kept B Q K (State.traceStep s) := by
  unfold State.traceStep
  repeat' first
    | intro _
    | with_reducible first | assumption | apply Kept.ite | apply run_kept
    | dsimp only
    | split
    | with_reducible
        refine Kept.of (e := ?_) ?_ ?_ ?_ ?_ ?_ ?_ ?_ ?_ ?_ ?_ ?_ ?_ ?_
        rotate_left; iterate 12 exact rfl

theorem wearDie_kept (s : State) (d : Nat) (deltaK maxC : Int) (h : Kept B Q K s) :
    Kept B Q K (State.wearDie s d deltaK maxC) := by
  unfold State.wearDie
  repeat' first
    | intro _
    | with_reducible first | assumption | apply Kept.ite | apply stepRise_kept
    | dsimp only
    | split
    | with_reducible
        refine Kept.of (e := ?_) ?_ ?_ ?_ ?_ ?_ ?_ ?_ ?_ ?_ ?_ ?_ ?_ ?_
        rotate_left; iterate 12 exact rfl

theorem wearPhase_kept (s : State) (p : Nat) (add limited : Nat) (h : Kept B Q K s) :
    Kept B Q K (State.wearPhase s p add limited) := by
  unfold State.wearPhase
  repeat' first
    | intro _
    | with_reducible first | assumption | apply stepRise_kept
    | with_reducible
        refine Kept.of (e := ?_) ?_ ?_ ?_ ?_ ?_ ?_ ?_ ?_ ?_ ?_ ?_ ?_ ?_
        rotate_left; iterate 12 exact rfl

theorem wearStore_kept (s : State) (h : Kept B Q K s) :
    Kept B Q K (State.wearStore s) := by
  unfold State.wearStore
  repeat' first
    | intro _
    | with_reducible first | assumption | apply Kept.ite | apply draw_kept | apply stepRise_kept
    | dsimp only
    | split
    | with_reducible
        refine Kept.of (e := ?_) ?_ ?_ ?_ ?_ ?_ ?_ ?_ ?_ ?_ ?_ ?_ ?_ ?_
        rotate_left; iterate 12 exact rfl

theorem wearNvm_kept (s : State) (maxErase : Nat) (h : Kept B Q K s) :
    Kept B Q K (State.wearNvm s maxErase) := by
  unfold State.wearNvm
  repeat' first
    | intro _
    | with_reducible first | assumption | apply stepRise_kept
    | with_reducible
        refine Kept.of (e := ?_) ?_ ?_ ?_ ?_ ?_ ?_ ?_ ?_ ?_ ?_ ?_ ?_ ?_
        rotate_left; iterate 12 exact rfl

theorem innerKeyWrite_kept (s : State) (w : Waiting) (outer : List Byte) (h : Kept B Q K s) :
    Kept B Q K (State.innerKeyWrite s w outer) := by
  unfold State.innerKeyWrite
  repeat' first
    | intro _
    | with_reducible first | assumption | apply respond_kept | apply keyWriteOpen_kept
    | dsimp only
    | split
    | with_reducible
        refine Kept.of (e := ?_) ?_ ?_ ?_ ?_ ?_ ?_ ?_ ?_ ?_ ?_ ?_ ?_ ?_
        rotate_left; iterate 12 exact rfl

theorem cmdRailCtrl_kept (s : State) (w : Waiting) (h : Kept B Q K s) :
    Kept B Q K (State.cmdRailCtrl s w) := by
  unfold State.cmdRailCtrl
  repeat' first
    | intro _
    | with_reducible first | assumption | apply cmdRailStop_kept | apply cmdRailStart_kept | apply cmdRailClear_kept
    | dsimp only
    | split
    | with_reducible
        refine Kept.of (e := ?_) ?_ ?_ ?_ ?_ ?_ ?_ ?_ ?_ ?_ ?_ ?_ ?_ ?_
        rotate_left; iterate 12 exact rfl

theorem cmdTrace_kept (s : State) (w : Waiting) (h : Kept B Q K s) :
    Kept B Q K (State.cmdTrace s w) := by
  unfold State.cmdTrace
  repeat' first
    | intro _
    | with_reducible first | assumption | apply cmdTraceArm_kept | apply cmdTraceStop_kept | apply cmdTraceRead_kept
    | dsimp only
    | split
    | with_reducible
        refine Kept.of (e := ?_) ?_ ?_ ?_ ?_ ?_ ?_ ?_ ?_ ?_ ?_ ?_ ?_ ?_
        rotate_left; iterate 12 exact rfl

theorem inner_kept (s : State) (w : Waiting) (opc : Nat) (outer : List Byte) (h : Kept B Q K s) :
    Kept B Q K (State.inner s w opc outer) := by
  unfold State.inner
  repeat' first
    | intro _
    | with_reducible first | assumption | apply respond_kept | apply cmdChSet_kept | apply cmdChClear_kept
    | with_reducible first | apply cmdFaultRead_kept | apply cmdShedSet_kept | apply cmdAllowanceSet_kept
    | with_reducible first | apply cmdTimeSet_kept | apply cmdWriteParam_kept | apply cmdCommit_kept
    | with_reducible first | apply cmdRevert_kept | apply cmdSave_kept | apply cmdImageExport_kept
    | with_reducible first | apply cmdImageImport_kept | apply cmdKeyErase_kept | apply cmdAttest_kept
    | with_reducible first | apply cmdFwBegin_kept | apply cmdFwBlock_kept | apply cmdFwActivate_kept
    | with_reducible first | apply cmdDebugUnlock_kept | apply cmdReset_kept | apply cmdShelf_kept
    | with_reducible first | apply cmdDecommission_kept | apply cmdPing_kept | apply cmdGetInfo_kept
    | with_reducible first | apply cmdReadParam_kept | apply cmdReadLive_kept | apply cmdNodeList_kept
    | with_reducible first | apply cmdEvtRead_kept | apply cmdPatinaRead_kept | apply innerKeyWrite_kept
    | with_reducible first | apply cmdRailCtrl_kept | apply cmdTrace_kept
    | dsimp only
    | split
    | with_reducible
        refine Kept.of (e := ?_) ?_ ?_ ?_ ?_ ?_ ?_ ?_ ?_ ?_ ?_ ?_ ?_ ?_
        rotate_left; iterate 12 exact rfl

theorem innerHere_kept (s : State) (w : Waiting) (opc : Nat) (outer : List Byte) (h : Kept B Q K s) :
    Kept B Q K (State.innerHere s w opc outer) := by
  unfold State.innerHere
  repeat' first
    | intro _
    | with_reducible first | assumption | apply Kept.ite | apply respond_kept | apply inner_kept
    | dsimp only
    | split
    | with_reducible
        refine Kept.of (e := ?_) ?_ ?_ ?_ ?_ ?_ ?_ ?_ ?_ ?_ ?_ ?_ ?_ ?_
        rotate_left; iterate 12 exact rfl

theorem cmdTabForward_kept (s : State) (w : Waiting) (h : Kept B Q K s) :
    Kept B Q K (State.cmdTabForward s w) := by
  unfold State.cmdTabForward
  repeat' first
    | intro _
    | with_reducible first | assumption | apply Kept.ite | apply forward_kept | apply innerHere_kept
    | dsimp only
    | split
    | with_reducible
        refine Kept.of (e := ?_) ?_ ?_ ?_ ?_ ?_ ?_ ?_ ?_ ?_ ?_ ?_ ?_ ?_
        rotate_left; iterate 12 exact rfl

theorem count_kept (s : State) (g : Gauge) (h : Kept B Q K s) :
    Kept B Q K (State.count s g) := by
  unfold State.count
  repeat' first
    | intro _
    | with_reducible first | assumption | apply Kept.ite
    | dsimp only
    | split
    | with_reducible
        refine Kept.of (e := ?_) ?_ ?_ ?_ ?_ ?_ ?_ ?_ ?_ ?_ ?_ ?_ ?_ ?_
        rotate_left; iterate 12 exact rfl

theorem anchor_kept (s : State) (h : Kept B Q K s) :
    Kept B Q K (State.anchor s) := by
  unfold State.anchor
  repeat' first
    | intro _
    | with_reducible first | assumption
    | with_reducible
        refine Kept.of (e := ?_) ?_ ?_ ?_ ?_ ?_ ?_ ?_ ?_ ?_ ?_ ?_ ?_ ?_
        rotate_left; iterate 12 exact rfl

theorem setCount_kept (s : State) (q : Int) (h : Kept B Q K s) :
    Kept B Q K (State.setCount s q) := by
  unfold State.setCount
  repeat' first
    | intro _
    | with_reducible first | assumption
    | with_reducible
        refine Kept.of (e := ?_) ?_ ?_ ?_ ?_ ?_ ?_ ?_ ?_ ?_ ?_ ?_ ?_ ?_
        rotate_left; iterate 12 exact rfl

theorem rebase_kept (s : State) (q : Int) (h : Kept B Q K s) :
    Kept B Q K (State.rebase s q) := by
  unfold State.rebase
  repeat' first
    | intro _
    | with_reducible first | assumption | apply raiseP_kept | apply clearE_kept | apply setCount_kept
    | with_reducible
        refine Kept.of (e := ?_) ?_ ?_ ?_ ?_ ?_ ?_ ?_ ?_ ?_ ?_ ?_ ?_ ?_
        rotate_left; iterate 12 exact rfl

theorem setDisagree_kept (s : State) (b : Bool) (h : Kept B Q K s) :
    Kept B Q K (State.setDisagree s b) := by
  unfold State.setDisagree
  repeat' first
    | intro _
    | with_reducible first | assumption | apply setC_kept
    | with_reducible
        refine Kept.of (e := ?_) ?_ ?_ ?_ ?_ ?_ ?_ ?_ ?_ ?_ ?_ ?_ ?_ ?_
        rotate_left; iterate 12 exact rfl

theorem firstReading_kept (s : State) (mv : Nat) (h : Kept B Q K s) :
    Kept B Q K (State.firstReading s mv) := by
  unfold State.firstReading
  repeat' first
    | intro _
    | with_reducible first | assumption | apply Kept.ite | apply anchor_kept | apply setDisagree_kept
    | dsimp only
    | split
    | with_reducible
        refine Kept.of (e := ?_) ?_ ?_ ?_ ?_ ?_ ?_ ?_ ?_ ?_ ?_ ?_ ?_ ?_
        rotate_left; iterate 12 exact rfl

theorem learned_kept (s : State) (m : Int) (nom hi : Nat) (h : Kept B Q K s) :
    Kept B Q K (State.learned s m nom hi) := by
  unfold State.learned
  repeat' first
    | intro _
    | with_reducible first | assumption | apply Kept.ite | apply raiseP_kept
    | dsimp only
    | split
    | with_reducible
        refine Kept.of (e := ?_) ?_ ?_ ?_ ?_ ?_ ?_ ?_ ?_ ?_ ?_ ?_ ?_ ?_
        rotate_left; iterate 12 exact rfl

theorem learnCap_kept (s : State) (mv : Nat) (h : Kept B Q K s) :
    Kept B Q K (State.learnCap s mv) := by
  unfold State.learnCap
  repeat' first
    | intro _
    | with_reducible first | assumption | apply Kept.ite | apply learned_kept
    | dsimp only
    | split
    | with_reducible
        refine Kept.of (e := ?_) ?_ ?_ ?_ ?_ ?_ ?_ ?_ ?_ ?_ ?_ ?_ ?_ ?_
        rotate_left; iterate 12 exact rfl

theorem learnCell_kept (s : State) (mv : Nat) (h : Kept B Q K s) :
    Kept B Q K (State.learnCell s mv) := by
  unfold State.learnCell
  repeat' first
    | intro _
    | with_reducible first | assumption | apply Kept.ite | apply learned_kept
    | dsimp only
    | split
    | with_reducible
        refine Kept.of (e := ?_) ?_ ?_ ?_ ?_ ?_ ?_ ?_ ?_ ?_ ?_ ?_ ?_ ?_
        rotate_left; iterate 12 exact rfl

theorem gaugeCap_kept (s : State) (g : Gauge) (mv : Nat) (h : Kept B Q K s) :
    Kept B Q K (State.gaugeCap s g mv) := by
  unfold State.gaugeCap
  repeat' first
    | intro _
    | with_reducible first | assumption | apply Kept.ite | apply anchor_kept | apply rebase_kept
    | with_reducible first | apply setDisagree_kept | apply learnCap_kept
    | dsimp only
    | split
    | with_reducible
        refine Kept.of (e := ?_) ?_ ?_ ?_ ?_ ?_ ?_ ?_ ?_ ?_ ?_ ?_ ?_ ?_
        rotate_left; iterate 12 exact rfl

theorem gaugeCell_kept (s : State) (g : Gauge) (mv : Nat) (h : Kept B Q K s) :
    Kept B Q K (State.gaugeCell s g mv) := by
  unfold State.gaugeCell
  repeat' first
    | intro _
    | with_reducible first | assumption | apply Kept.ite | apply rebase_kept | apply setDisagree_kept
    | with_reducible first | apply learnCell_kept
    | dsimp only
    | split
    | with_reducible
        refine Kept.of (e := ?_) ?_ ?_ ?_ ?_ ?_ ?_ ?_ ?_ ?_ ?_ ?_ ?_ ?_
        rotate_left; iterate 12 exact rfl

theorem gauge_kept (s : State) (g : Gauge) (h : Kept B Q K s) :
    Kept B Q K (State.gauge s g) := by
  unfold State.gauge
  repeat' first
    | intro _
    | with_reducible first | assumption | apply Kept.ite | apply firstReading_kept | apply gaugeCap_kept
    | with_reducible first | apply gaugeCell_kept
    | dsimp only
    | split
    | with_reducible
        refine Kept.of (e := ?_) ?_ ?_ ?_ ?_ ?_ ?_ ?_ ?_ ?_ ?_ ?_ ?_ ?_
        rotate_left; iterate 12 exact rfl

theorem keepEval_kept (s : State) (h : Kept B Q K s) :
    Kept B Q K (State.keepEval s) := by
  unfold State.keepEval
  repeat' first
    | intro _
    | with_reducible first | assumption | apply Kept.ite | apply setC_kept
    | dsimp only
    | split
    | with_reducible
        refine Kept.of (e := ?_) ?_ ?_ ?_ ?_ ?_ ?_ ?_ ?_ ?_ ?_ ?_ ?_ ?_
        rotate_left; iterate 12 exact rfl

theorem breachEval_kept (s : State) (h : Kept B Q K s) : Kept B Q K (State.breachEval s) := by
  have led : ∀ (x : State) l, Kept B Q K x → Kept B Q K { x with ledger := l } := fun x l h =>
    h.same rfl rfl rfl rfl rfl rfl rfl rfl
  unfold State.breachEval
  extract_lets now A s1 C
  have h1 : Kept B Q K s1 := led _ _ h
  clear_value s1
  exact Kept.ite (raiseP_kept _ _ _ _ (led _ _ h1)) h1

theorem holdDown_kept (s : State) (h : Kept B Q K s) :
    Kept B Q K (State.holdDown s) := by
  unfold State.holdDown
  repeat' first
    | intro _
    | with_reducible first | assumption | apply pinsLow_kept
    | with_reducible
        refine Kept.of (e := ?_) ?_ ?_ ?_ ?_ ?_ ?_ ?_ ?_ ?_ ?_ ?_ ?_ ?_
        rotate_left; iterate 12 exact rfl

theorem breachReturn_kept (s : State) (h : Kept B Q K s) :
    Kept B Q K (State.breachReturn s) := by
  unfold State.breachReturn
  repeat' first
    | intro _
    | with_reducible first | assumption | apply Kept.ite | apply hold_kept | apply vhostEval_kept
    | with_reducible first | apply holdDown_kept
    | dsimp only
    | split
    | with_reducible
        refine Kept.of (e := ?_) ?_ ?_ ?_ ?_ ?_ ?_ ?_ ?_ ?_ ?_ ?_ ?_ ?_
        rotate_left; iterate 12 exact rfl

theorem ledgerStep_kept (s : State) (g : Gauge) (h : Kept B Q K s) : Kept B Q K (State.ledgerStep s g) := by
  unfold State.ledgerStep
  extract_lets s1 s2 s3
  have h1 : Kept B Q K s1 := count_kept _ _ (setSto_kept _ _ h)
  have h2 : Kept B Q K s2 := Kept.ite h1 (gauge_kept _ _ h1)
  have h3 : Kept B Q K s3 := vhostEval_kept _ (breachReturn_kept _ (breachEval_kept _ (keepEval_kept _ (unreachEval_kept _ h2))))
  exact evalPins_kept _ (Kept.ite h3 (nfcRegrant_kept _ (resumeOps_kept _ (regrant_kept _ h3))))

theorem takeWord_kept (s : State) (level sfn tnib : Nat) (h : Kept B Q K s) :
    Kept B Q K (State.takeWord s level sfn tnib) := by
  unfold State.takeWord
  repeat' first
    | intro _
    | with_reducible first | assumption | apply Kept.ite | apply relevel_kept
    | dsimp only
    | split
    | with_reducible
        refine Kept.of (e := ?_) ?_ ?_ ?_ ?_ ?_ ?_ ?_ ?_ ?_ ?_ ?_ ?_ ?_
        rotate_left; iterate 12 exact rfl

theorem hearWord_kept (s : State) (w : BitVec 10) (h : Kept B Q K s) :
    Kept B Q K (State.hearWord s w) := by
  unfold State.hearWord
  repeat' first
    | intro _
    | with_reducible first | assumption | apply Kept.ite | apply trimRtc_kept | apply gainLock_kept
    | with_reducible first | apply takeWord_kept
    | dsimp only
    | split
    | with_reducible
        refine Kept.of (e := ?_) ?_ ?_ ?_ ?_ ?_ ?_ ?_ ?_ ?_ ?_ ?_ ?_ ?_
        rotate_left; iterate 12 exact rfl

theorem timeFromPilot_kept (s : State) (h : Kept B Q K s) :
    Kept B Q K (State.timeFromPilot s) := by
  unfold State.timeFromPilot
  repeat' first
    | intro _
    | with_reducible first | assumption | apply Kept.ite | apply raiseP_kept | apply setTime_kept
    | dsimp only
    | split
    | with_reducible
        refine Kept.of (e := ?_) ?_ ?_ ?_ ?_ ?_ ?_ ?_ ?_ ?_ ?_ ?_ ?_ ?_
        rotate_left; iterate 12 exact rfl

theorem superframe_kept (s : State) (h : Kept B Q K s) :
    Kept B Q K (State.superframe s) := by
  unfold State.superframe
  repeat' first
    | intro _
    | with_reducible first | assumption | apply Kept.ite | apply draw_kept
    | dsimp only
    | split
    | with_reducible
        refine Kept.of (e := ?_) ?_ ?_ ?_ ?_ ?_ ?_ ?_ ?_ ?_ ?_ ?_ ?_ ?_
        rotate_left; iterate 12 exact rfl

theorem settleGrants_kept (s : State) (h : Kept B Q K s) :
    Kept B Q K (State.settleGrants s) := by
  unfold State.settleGrants
  repeat' first
    | intro _
    | with_reducible first | assumption | apply Kept.ite | apply onNode_kept | apply setMode_kept | apply Kept.foldl
    | dsimp only
    | split
    | with_reducible
        refine Kept.of (e := ?_) ?_ ?_ ?_ ?_ ?_ ?_ ?_ ?_ ?_ ?_ ?_ ?_ ?_
        rotate_left; iterate 12 exact rfl

theorem loadBridge_kept (s : State) (h : Kept B Q K s) :
    Kept B Q K (State.loadBridge s) := by
  unfold State.loadBridge
  repeat' first
    | intro _
    | with_reducible first | assumption | apply Kept.ite | apply onNode_kept | apply Kept.foldl
    | dsimp only
    | split
    | with_reducible
        refine Kept.of (e := ?_) ?_ ?_ ?_ ?_ ?_ ?_ ?_ ?_ ?_ ?_ ?_ ?_ ?_
        rotate_left; iterate 12 exact rfl

theorem useSlots_kept (s : State) (n rlen : Nat) (h : Kept B Q K s) :
    Kept B Q K (State.useSlots s n rlen) := by
  unfold State.useSlots
  repeat' first
    | intro _
    | with_reducible first | assumption
    | with_reducible
        refine Kept.of (e := ?_) ?_ ?_ ?_ ?_ ?_ ?_ ?_ ?_ ?_ ?_ ?_ ?_ ?_
        rotate_left; iterate 12 exact rfl

theorem headFrame_kept (s : State) (n : Node) (left : Nat) (h : Kept B Q K s) : Kept B Q K
    (State.headFrame s n left) := by
  have ctr : ∀ (x : State) l, Kept B Q K x → Kept B Q K { x with ctr := l } := fun x l h =>
    h.same rfl rfl rfl rfl rfl rfl rfl rfl
  unfold State.headFrame
  extract_lets k f room resend tx cur payload fseq frag used most rlen others b s1 A s2
  have h1 : Kept B Q K s1 := onNode_kept _ _ _ (useSlots_kept _ _ _ (sendFrame_kept _ _ _ h))
  have h2 : Kept B Q K s2 := Kept.ite (ctr _ _ h1) h1
  exact Kept.ite h (Kept.ite h2 (nextFseq_kept _ h2))

theorem castFrame_kept (s : State) (c : Cast) (left : Nat) (h : Kept B Q K s) :
    Kept B Q K (State.castFrame s c left) := by
  unfold State.castFrame
  repeat' first
    | intro _
    | with_reducible first | assumption | apply Kept.ite | apply sendFrame_kept | apply nextFseq_kept
    | with_reducible first | apply useSlots_kept
    | dsimp only
    | split
    | with_reducible
        refine Kept.of (e := ?_) ?_ ?_ ?_ ?_ ?_ ?_ ?_ ?_ ?_ ?_ ?_ ?_ ?_
        rotate_left; iterate 12 exact rfl

theorem formAcks_kept (s : State) (h : Kept B Q K s) :
    Kept B Q K (State.formAcks s) := by
  unfold State.formAcks
  repeat' first
    | intro _
    | with_reducible first | assumption | apply Kept.ite
    | dsimp only
    | split
    | with_reducible
        refine Kept.of (e := ?_) ?_ ?_ ?_ ?_ ?_ ?_ ?_ ?_ ?_ ?_ ?_ ?_ ?_
        rotate_left; iterate 12 exact rfl

theorem dropDead_kept (s : State) (h : Kept B Q K s) :
    Kept B Q K (State.dropDead s) := by
  unfold State.dropDead
  repeat' first
    | intro _
    | with_reducible first | assumption | apply Kept.ite
    | dsimp only
    | split
    | with_reducible
        refine Kept.of (e := ?_) ?_ ?_ ?_ ?_ ?_ ?_ ?_ ?_ ?_ ?_ ?_ ?_ ?_
        rotate_left; iterate 12 exact rfl

theorem exchange_kept (s : State) (left : Nat) (h : Kept B Q K s) :
    Kept B Q K (State.exchange s left) := by
  unfold State.exchange
  repeat' first
    | intro _
    | with_reducible first | assumption | apply settleGrants_kept | apply loadBridge_kept | apply headFrame_kept
    | with_reducible first | apply castFrame_kept | apply formAcks_kept | apply dropDead_kept
    | dsimp only
    | split
    | with_reducible
        refine Kept.of (e := ?_) ?_ ?_ ?_ ?_ ?_ ?_ ?_ ?_ ?_ ?_ ?_ ?_ ?_
        rotate_left; iterate 12 exact rfl

theorem badFrameIn_kept (s : State) (h : Kept B Q K s) :
    Kept B Q K (State.badFrameIn s) := by
  unfold State.badFrameIn
  repeat' first
    | intro _
    | with_reducible first | assumption
    | with_reducible
        refine Kept.of (e := ?_) ?_ ?_ ?_ ?_ ?_ ?_ ?_ ?_ ?_ ?_ ?_ ?_ ?_
        rotate_left; iterate 12 exact rfl

theorem goodFrameIn_kept (s : State) (snrQ : Nat) (h : Kept B Q K s) :
    Kept B Q K (State.goodFrameIn s snrQ) := by
  unfold State.goodFrameIn
  repeat' first
    | intro _
    | with_reducible first | assumption | apply Kept.ite
    | dsimp only
    | split
    | with_reducible
        refine Kept.of (e := ?_) ?_ ?_ ?_ ?_ ?_ ?_ ?_ ?_ ?_ ?_ ?_ ?_ ?_
        rotate_left; iterate 12 exact rfl

theorem joinAck_kept (s : State) (payload : List Byte) (h : Kept B Q K s) :
    Kept B Q K (State.joinAck s payload) := by
  unfold State.joinAck
  repeat' first
    | intro _
    | with_reducible first | assumption | apply Kept.ite | apply raiseOnce_kept | apply clearE_kept
    | with_reducible first | apply Kept.foldl
    | dsimp only
    | split
    | with_reducible
        refine Kept.of (e := ?_) ?_ ?_ ?_ ?_ ?_ ?_ ?_ ?_ ?_ ?_ ?_ ?_ ?_
        rotate_left; iterate 12 exact rfl

theorem fromHead_kept (s : State) (bs : List Byte) (h : Kept B Q K s) :
    Kept B Q K (State.fromHead s bs) := by
  unfold State.fromHead
  repeat' first
    | intro _
    | with_reducible first | assumption | apply Kept.ite | apply linePacket_kept | apply joinAck_kept
    | dsimp only
    | split
    | with_reducible
        refine Kept.of (e := ?_) ?_ ?_ ?_ ?_ ?_ ?_ ?_ ?_ ?_ ?_ ?_ ?_ ?_
        rotate_left; iterate 12 exact rfl

theorem fromNode_kept (s : State) (bs : List Byte) (snrQ : Nat) (h : Kept B Q K s) :
    Kept B Q K (State.fromNode s bs snrQ) := by
  unfold State.fromNode
  repeat' first
    | intro _
    | with_reducible first | assumption | apply Kept.ite | apply notify_kept | apply bridgeReply_kept
    | with_reducible first | apply onNode_kept | apply setMode_kept
    | dsimp only
    | split
    | with_reducible
        refine Kept.of (e := ?_) ?_ ?_ ?_ ?_ ?_ ?_ ?_ ?_ ?_ ?_ ?_ ?_ ?_
        rotate_left; iterate 12 exact rfl

theorem lineFrame_kept (s : State) (lanes : BitVec 4) (bs : List Byte) (snrQ : Nat) (h : Kept B Q K s) :
    Kept B Q K (State.lineFrame s lanes bs snrQ) := by
  unfold State.lineFrame
  repeat' first
    | intro _
    | with_reducible first | assumption | apply Kept.ite | apply onNode_kept | apply badFrameIn_kept
    | with_reducible first | apply goodFrameIn_kept | apply fromHead_kept | apply fromNode_kept
    | dsimp only
    | split
    | with_reducible
        refine Kept.of (e := ?_) ?_ ?_ ?_ ?_ ?_ ?_ ?_ ?_ ?_ ?_ ?_ ?_ ?_
        rotate_left; iterate 12 exact rfl

theorem heard_kept (s : State) (desc : Byte) (f : State → State) (hf : ∀ y0, Kept B Q K y0 → Kept B Q K (f y0))
    (h : Kept B Q K s) :
    Kept B Q K (State.heard s desc f) := by
  unfold State.heard
  repeat' first
    | intro _
    | with_reducible first | assumption | apply Kept.ite | apply taskEnd_kept | apply hf
    | dsimp only
    | split
    | with_reducible
        refine Kept.of (e := ?_) ?_ ?_ ?_ ?_ ?_ ?_ ?_ ?_ ?_ ?_ ?_ ?_ ?_
        rotate_left; iterate 12 exact rfl

theorem nextLineReply_kept (s t : State) (p : List Byte) (h : Kept B Q K s) (e : s.nextLineReply = some
    (p, t)) : Kept B Q K t := by
  unfold State.nextLineReply at e
  split at e
  · simp only [Option.some.injEq, Prod.mk.injEq] at e
    rw [← e.2]
    exact handOver_kept _ _ (onPort_kept _ _ _ h)
  · cases e
theorem reply_kept (s : State) (rlen : Nat) (m : LinkMode) (h : Kept B Q K s) : Kept B Q K
    (State.reply s rlen m) := by
  have line : ∀ (x : State) l, Kept B Q K x → Kept B Q K { x with line := l } := fun x l h =>
    h.same rfl rfl rfl rfl rfl rfl rfl rfl
  have ctr : ∀ (x : State) l, Kept B Q K x → Kept B Q K { x with ctr := l } := fun x l h =>
    h.same rfl rfl rfl rfl rfl rfl rfl rfl
  unfold State.reply
  extract_lets k room A C s0 loaded dead D s1 ack f addr feeder bare plain
  have h0 : Kept B Q K s0 := h.same rfl rfl rfl rfl rfl rfl rfl rfl
  have hl : Kept B Q K loaded := by
    simp only [loaded]
    split
    · exact h0
    split
    · exact h0
    split
    · rename_i e
      exact line _ _ (nextLineReply_kept _ _ _ h0 e)
    · exact h0
  have h1 : Kept B Q K s1 := Kept.ite (line _ _ hl) hl
  have hp : ∀ x, Kept B Q K x → Kept B Q K (plain x) := fun x hx => Kept.ite (nextFseq_kept _ (nodeBurst_kept _ _ _ hx)) hx
  clear_value s1 plain
  split
  · extract_lets resend t1
    split
    · split
      · exact hp _ h1
      · extract_lets b s2 E s3 G
        have h2 : Kept B Q K s3 := line _ _ (nodeBurst_kept _ _ _ h1)
        exact Kept.ite (ctr _ _ h2) (nextFseq_kept _ h2)
    · exact hp _ h1
  · exact Kept.ite (nextFseq_kept _ (nodeBurst_kept _ _ _ h1)) (hp _ h1)

theorem sendAllowances_kept (s : State) (dst : Nat) (h : Kept B Q K s) :
    Kept B Q K (State.sendAllowances s dst) := by
  unfold State.sendAllowances
  repeat' first
    | intro _
    | with_reducible first | assumption | apply sendLine_kept | apply Kept.foldl
    | with_reducible
        refine Kept.of (e := ?_) ?_ ?_ ?_ ?_ ?_ ?_ ?_ ?_ ?_ ?_ ?_ ?_ ?_
        rotate_left; iterate 12 exact rfl

theorem join_kept (s : State) (bs : List Byte) (h : Kept B Q K s) :
    Kept B Q K (State.join s bs) := by
  unfold State.join
  repeat' first
    | intro _
    | with_reducible first | assumption | apply Kept.ite | apply raiseP_kept | apply notify_kept
    | with_reducible first | apply badFrameIn_kept | apply sendAllowances_kept
    | dsimp only
    | split
    | with_reducible
        refine Kept.of (e := ?_) ?_ ?_ ?_ ?_ ?_ ?_ ?_ ?_ ?_ ?_ ?_ ?_ ?_
        rotate_left; iterate 12 exact rfl

theorem pickup_kept (s : State) (c : Nat) (h : Kept B Q K s) :
    Kept B Q K (State.pickup s c) := by
  unfold State.pickup
  repeat' first
    | intro _
    | with_reducible first | assumption | apply Kept.ite | apply refresh_kept
    | dsimp only
    | split
    | with_reducible
        refine Kept.of (e := ?_) ?_ ?_ ?_ ?_ ?_ ?_ ?_ ?_ ?_ ?_ ?_ ?_ ?_
        rotate_left; iterate 12 exact rfl

theorem endListen_kept (s : State) (heard : Bool) (h : Kept B Q K s) :
    Kept B Q K (State.endListen s heard) := by
  unfold State.endListen
  repeat' first
    | intro _
    | with_reducible first | assumption | apply Kept.ite | apply tb8Eval_kept | apply heard_kept
    | dsimp only
    | split
    | with_reducible
        refine Kept.of (e := ?_) ?_ ?_ ?_ ?_ ?_ ?_ ?_ ?_ ?_ ?_ ?_ ?_ ?_
        rotate_left; iterate 12 exact rfl

theorem openChannels_kept (s : State) (h : Kept B Q K s) :
    Kept B Q K (State.openChannels s) := by
  unfold State.openChannels
  repeat' first
    | intro _
    | with_reducible first | assumption | apply Kept.ite | apply inhibit_kept | apply Kept.foldl
    | dsimp only
    | split
    | with_reducible
        refine Kept.of (e := ?_) ?_ ?_ ?_ ?_ ?_ ?_ ?_ ?_ ?_ ?_ ?_ ?_ ?_
        rotate_left; iterate 12 exact rfl

theorem writeRam_kept (s : State) (p : Bool) (h : Kept B Q K s) : Kept B Q K (State.writeRam s p) := by
  unfold State.writeRam
  refine Kept.foldl _ ?_ fun s x hs => writeRec_kept _ _ hs
  have hr := h.ram
  refine ⟨h.qb, h.uid, h.ck, h.ap, h.ac, h.up, h.sec, h.sub, h.fifo, fun hB => ?_, h.tok, h.pend⟩
  exact Nat.le_trans (List.length_filter_le _ _) (hr hB)

theorem commitRecords_kept (s : State) (kind : CommitKind) (more : Nat) (h : Kept B Q K s) :
    Kept B Q K (State.commitRecords s kind more) := by
  unfold State.commitRecords
  repeat' first
    | intro _
    | with_reducible first | assumption | apply writeCounters_kept | apply writeRam_kept
    | with_reducible
        refine Kept.of (e := ?_) ?_ ?_ ?_ ?_ ?_ ?_ ?_ ?_ ?_ ?_ ?_ ?_ ?_
        rotate_left; iterate 12 exact rfl

theorem shutdownRecord_kept (s : State) (step : Nat) (h : Kept B Q K s) :
    Kept B Q K (State.shutdownRecord s step) := by
  unfold State.shutdownRecord
  repeat' first
    | intro _
    | with_reducible first | assumption | apply writeRec_kept
    | with_reducible
        refine Kept.of (e := ?_) ?_ ?_ ?_ ?_ ?_ ?_ ?_ ?_ ?_ ?_ ?_ ?_ ?_
        rotate_left; iterate 12 exact rfl

theorem commitNow_kept (s : State) (h : Kept B Q K s) :
    Kept B Q K (State.commitNow s) := by
  unfold State.commitNow
  repeat' first
    | intro _
    | with_reducible first | assumption | apply Kept.ite | apply admitAll_kept | apply commitRecords_kept
    | with_reducible first | apply shutdownRecord_kept
    | dsimp only
    | split
    | with_reducible
        refine Kept.of (e := ?_) ?_ ?_ ?_ ?_ ?_ ?_ ?_ ?_ ?_ ?_ ?_ ?_ ?_
        rotate_left; iterate 12 exact rfl

theorem shelfIn_kept (s : State) (h : Kept B Q K s) :
    Kept B Q K (State.shelfIn s) := by
  unfold State.shelfIn
  repeat' first
    | intro _
    | with_reducible first | assumption | apply supplyOff_kept
    | with_reducible
        refine Kept.of (e := ?_) ?_ ?_ ?_ ?_ ?_ ?_ ?_ ?_ ?_ ?_ ?_ ?_ ?_
        rotate_left; iterate 12 exact rfl

theorem autostart_kept (s : State) (r : Nat) (h : Kept B Q K s) :
    Kept B Q K (State.autostart s r) := by
  unfold State.autostart
  repeat' first
    | intro _
    | with_reducible first | assumption | apply Kept.ite | apply onRail_kept | apply gangOrder_kept
    | with_reducible first | apply startRail_kept
    | dsimp only
    | split
    | with_reducible
        refine Kept.of (e := ?_) ?_ ?_ ?_ ?_ ?_ ?_ ?_ ?_ ?_ ?_ ?_ ?_ ?_
        rotate_left; iterate 12 exact rfl

theorem pickupsDone_kept (s : State) (h : Kept B Q K s) :
    Kept B Q K (State.pickupsDone s) := by
  unfold State.pickupsDone
  repeat' first
    | intro _
    | with_reducible first | assumption | apply Kept.ite | apply pickup_kept
    | dsimp only
    | split
    | with_reducible
        refine Kept.of (e := ?_) ?_ ?_ ?_ ?_ ?_ ?_ ?_ ?_ ?_ ?_ ?_ ?_ ?_
        rotate_left; iterate 12 exact rfl

theorem shelfShut_kept (s : State) (h : Kept B Q K s) :
    Kept B Q K (State.shelfShut s) := by
  unfold State.shelfShut
  repeat' first
    | intro _
    | with_reducible first | assumption | apply toRun_kept | apply shutdownBegin_kept
    | with_reducible
        refine Kept.of (e := ?_) ?_ ?_ ?_ ?_ ?_ ?_ ?_ ?_ ?_ ?_ ?_ ?_ ?_
        rotate_left; iterate 12 exact rfl

theorem decomReply_kept (s : State) (h : Kept B Q K s) :
    Kept B Q K (State.decomReply s) := by
  unfold State.decomReply
  repeat' first
    | intro _
    | with_reducible first | assumption | apply Kept.ite | apply onPort_kept | apply releaseOf_kept
    | with_reducible first | apply finish_kept | apply endSession_kept | apply Kept.foldl
    | dsimp only
    | split
    | with_reducible
        refine Kept.of (e := ?_) ?_ ?_ ?_ ?_ ?_ ?_ ?_ ?_ ?_ ?_ ?_ ?_ ?_
        rotate_left; iterate 12 exact rfl

theorem leaveRun_kept (s : State) (h : Kept B Q K s) :
    Kept B Q K (State.leaveRun s) := by
  unfold State.leaveRun
  repeat' first
    | intro _
    | with_reducible first | assumption | apply toMode_kept | apply toPlinth_kept
    | dsimp only
    | split
    | with_reducible
        refine Kept.of (e := ?_) ?_ ?_ ?_ ?_ ?_ ?_ ?_ ?_ ?_ ?_ ?_ ?_ ?_
        rotate_left; iterate 12 exact rfl

theorem housekeeping_kept (s : State) (h : Kept B Q K s) :
    Kept B Q K (State.housekeeping s) := by
  unfold State.housekeeping
  repeat' first
    | intro _
    | with_reducible first | assumption | apply Kept.ite | apply regrant_kept | apply toRun_kept
    | with_reducible first | apply resumeOps_kept
    | dsimp only
    | split
    | with_reducible
        refine Kept.of (e := ?_) ?_ ?_ ?_ ?_ ?_ ?_ ?_ ?_ ?_ ?_ ?_ ?_ ?_
        rotate_left; iterate 12 exact rfl

theorem latchWake_kept (s : State) (w : WakeSrc) (h : Kept B Q K s) :
    Kept B Q K (State.latchWake s w) := by
  unfold State.latchWake
  repeat' first
    | intro _
    | with_reducible first | assumption | apply Kept.ite
    | dsimp only
    | split
    | with_reducible
        refine Kept.of (e := ?_) ?_ ?_ ?_ ?_ ?_ ?_ ?_ ?_ ?_ ?_ ?_ ?_ ?_
        rotate_left; iterate 12 exact rfl

theorem wakeRun_kept (s : State) (w : WakeSrc) (h : Kept B Q K s) :
    Kept B Q K (State.wakeRun s w) := by
  unfold State.wakeRun
  repeat' first
    | intro _
    | with_reducible first | assumption | apply toRun_kept | apply latchWake_kept
    | with_reducible
        refine Kept.of (e := ?_) ?_ ?_ ?_ ?_ ?_ ?_ ?_ ?_ ?_ ?_ ?_ ?_ ?_
        rotate_left; iterate 12 exact rfl

theorem wakePlinth_kept (s : State) (w : WakeSrc) (h : Kept B Q K s) :
    Kept B Q K (State.wakePlinth s w) := by
  unfold State.wakePlinth
  repeat' first
    | intro _
    | with_reducible first | assumption | apply Kept.ite | apply handover_kept | apply housekeeping_kept
    | with_reducible first | apply latchWake_kept | apply wakeRun_kept
    | dsimp only
    | split
    | with_reducible
        refine Kept.of (e := ?_) ?_ ?_ ?_ ?_ ?_ ?_ ?_ ?_ ?_ ?_ ?_ ?_ ?_
        rotate_left; iterate 12 exact rfl

theorem wakeDoze_kept (s : State) (w : WakeSrc) (h : Kept B Q K s) :
    Kept B Q K (State.wakeDoze s w) := by
  unfold State.wakeDoze
  repeat' first
    | intro _
    | with_reducible first | assumption | apply Kept.ite | apply hold_kept | apply carrierHeard_kept
    | with_reducible first | apply wakeRun_kept
    | dsimp only
    | split
    | with_reducible
        refine Kept.of (e := ?_) ?_ ?_ ?_ ?_ ?_ ?_ ?_ ?_ ?_ ?_ ?_ ?_ ?_
        rotate_left; iterate 12 exact rfl

theorem count1_kept (s : State) (h : Kept B Q K s) : Kept B Q K (State.count1 s) :=
  ⟨h.qb, h.uid, h.ck, h.ap, h.ac, fun _ => Nat.mod_lt _ (by decide), fun _ => Nat.mod_lt _ (by decide),
    fun _ => Nat.mod_lt _ (by decide), h.fifo, h.ram, h.tok, h.pend⟩

theorem burstTick_kept (s : State) (h : Kept B Q K s) :
    Kept B Q K (State.burstTick s) := by
  unfold State.burstTick
  repeat' first
    | intro _
    | with_reducible first | assumption | apply Kept.ite | apply endBurst_kept
    | dsimp only
    | split
    | with_reducible
        refine Kept.of (e := ?_) ?_ ?_ ?_ ?_ ?_ ?_ ?_ ?_ ?_ ?_ ?_ ?_ ?_
        rotate_left; iterate 12 exact rfl

theorem tick_kept (s : State) (h : Kept B Q K s) :
    Kept B Q K (State.tick s) := by
  unfold State.tick
  repeat' first
    | intro _
    | with_reducible first | assumption | apply Kept.ite | apply needRun_kept | apply rampRails_kept
    | with_reducible first | apply leadWatch_kept | apply count1_kept | apply burstTick_kept
    | dsimp only
    | split
    | with_reducible
        refine Kept.of (e := ?_) ?_ ?_ ?_ ?_ ?_ ?_ ?_ ?_ ?_ ?_ ?_ ?_ ?_
        rotate_left; iterate 12 exact rfl

end Sys2Proof.Machine
end

