-- ==== Sys2Proof/Laws/KeepExec.lean ====
section
/-! SUPPORT. Every command of the opcode table answers a next state, and that state keeps the queue, what is fixed of the
identity, and (where they hold before) the bounds of the clocks and the logs: one lemma per meaning, each by the lemmas of
the shared operations it calls. -/

namespace Sys2Proof.Machine

variable {B : Prop} {Q : List Instr} {K : Ident}

theorem execScLimit_kept (p : Fin 8) (s : State) (h : Kept B Q K s) :
    ∃ s2, execScLimit p s = .next s2 ∧ Kept B Q K s2 := by
  unfold execScLimit
  refine ⟨_, rfl, ?_⟩
  repeat' first
    | intro _
    | with_reducible first | assumption | apply Kept.ite | apply onPhase_kept | apply raiseP_kept
    | dsimp only
    | split
    | with_reducible
        refine Kept.of (e := ?_) ?_ ?_ ?_ ?_ ?_ ?_ ?_ ?_ ?_ ?_ ?_ ?_ ?_
        rotate_left; iterate 12 exact rfl

theorem execOverloadTimeout_kept (r : Fin 2) (onePhase : Bool) (s : State) (h : Kept B Q K s) :
    ∃ s2, execOverloadTimeout r onePhase s = .next s2 ∧ Kept B Q K s2 := by
  unfold execOverloadTimeout
  refine ⟨_, rfl, ?_⟩
  repeat' first
    | intro _
    | with_reducible first | assumption | apply Kept.ite | apply raiseC_kept | apply softFault_kept
    | with_reducible first | apply Kept.foldl
    | dsimp only
    | split
    | with_reducible
        refine Kept.of (e := ?_) ?_ ?_ ?_ ?_ ?_ ?_ ?_ ?_ ?_ ?_ ?_ ?_ ?_
        rotate_left; iterate 12 exact rfl

theorem execOverloadRetry_kept (r : Fin 2) (s : State) (h : Kept B Q K s) :
    ∃ s2, execOverloadRetry r s = .next s2 ∧ Kept B Q K s2 := by
  unfold execOverloadRetry
  refine ⟨_, rfl, ?_⟩
  repeat' first
    | intro _
    | with_reducible first | assumption | apply Kept.ite | apply restartRail_kept
    | dsimp only
    | split
    | with_reducible
        refine Kept.of (e := ?_) ?_ ?_ ?_ ?_ ?_ ?_ ?_ ?_ ?_ ?_ ?_ ?_ ?_
        rotate_left; iterate 12 exact rfl

theorem execUndervolt_kept (r : Fin 2) (atMaxDuty limited : Bool) (s : State) (h : Kept B Q K s) :
    ∃ s2, execUndervolt r atMaxDuty limited s = .next s2 ∧ Kept B Q K s2 := by
  unfold execUndervolt
  refine ⟨_, rfl, ?_⟩
  repeat' first
    | intro _
    | with_reducible first | assumption | apply Kept.ite | apply raiseOnce_kept | apply hiccup_kept
    | with_reducible first | apply settle_kept
    | dsimp only
    | split
    | with_reducible
        refine Kept.of (e := ?_) ?_ ?_ ?_ ?_ ?_ ?_ ?_ ?_ ?_ ?_ ?_ ?_ ?_
        rotate_left; iterate 12 exact rfl

theorem execDropoutClear_kept (r : Fin 2) (s : State) (h : Kept B Q K s) :
    ∃ s2, execDropoutClear r s = .next s2 ∧ Kept B Q K s2 := by
  unfold execDropoutClear
  refine ⟨_, rfl, ?_⟩
  repeat' first
    | intro _
    | with_reducible first | assumption | apply clearR_kept
    | with_reducible
        refine Kept.of (e := ?_) ?_ ?_ ?_ ?_ ?_ ?_ ?_ ?_ ?_ ?_ ?_ ?_ ?_
        rotate_left; iterate 12 exact rfl

theorem execHiccupRestart_kept (r : Fin 2) (s : State) (h : Kept B Q K s) :
    ∃ s2, execHiccupRestart r s = .next s2 ∧ Kept B Q K s2 := by
  unfold execHiccupRestart
  refine ⟨_, rfl, ?_⟩
  repeat' first
    | intro _
    | with_reducible first | assumption | apply Kept.ite | apply restartRail_kept
    | dsimp only
    | split
    | with_reducible
        refine Kept.of (e := ?_) ?_ ?_ ?_ ?_ ?_ ?_ ?_ ?_ ?_ ?_ ?_ ?_ ?_
        rotate_left; iterate 12 exact rfl

theorem execHiccupCountClear_kept (r : Fin 2) (s : State) (h : Kept B Q K s) :
    ∃ s2, execHiccupCountClear r s = .next s2 ∧ Kept B Q K s2 := by
  unfold execHiccupCountClear
  refine ⟨_, rfl, ?_⟩
  repeat' first
    | intro _
    | with_reducible first | assumption | apply Kept.ite | apply onRail_kept | apply clearIf_kept
    | dsimp only
    | split
    | with_reducible
        refine Kept.of (e := ?_) ?_ ?_ ?_ ?_ ?_ ?_ ?_ ?_ ?_ ?_ ?_ ?_ ?_
        rotate_left; iterate 12 exact rfl

theorem execBusOvFall_kept (vbusMv : Int) (s : State) (h : Kept B Q K s) :
    ∃ s2, execBusOvFall vbusMv s = .next s2 ∧ Kept B Q K s2 := by
  unfold execBusOvFall
  refine ⟨_, rfl, ?_⟩
  repeat' first
    | intro _
    | with_reducible first | assumption | apply clearE_kept | apply dumpEnd_kept | apply restartAll_kept
    | with_reducible
        refine Kept.of (e := ?_) ?_ ?_ ?_ ?_ ?_ ?_ ?_ ?_ ?_ ?_ ?_ ?_ ?_
        rotate_left; iterate 12 exact rfl

theorem execVdrvLockout_kept (s : State) (h : Kept B Q K s) :
    ∃ s2, execVdrvLockout s = .next s2 ∧ Kept B Q K s2 := by
  unfold execVdrvLockout
  refine ⟨_, rfl, ?_⟩
  repeat' first
    | intro _
    | with_reducible first | assumption | apply Kept.ite | apply draw_kept | apply remap_kept | apply railStop_kept
    | with_reducible first | apply settle_kept | apply Kept.foldl
    | dsimp only
    | split
    | with_reducible
        refine Kept.of (e := ?_) ?_ ?_ ?_ ?_ ?_ ?_ ?_ ?_ ?_ ?_ ?_ ?_ ?_
        rotate_left; iterate 12 exact rfl

theorem execVdrvRelease_kept (s : State) (h : Kept B Q K s) :
    ∃ s2, execVdrvRelease s = .next s2 ∧ Kept B Q K s2 := by
  unfold execVdrvRelease
  refine ⟨_, rfl, ?_⟩
  repeat' first
    | intro _
    | with_reducible first | assumption | apply draw_kept | apply restartAll_kept
    | with_reducible
        refine Kept.of (e := ?_) ?_ ?_ ?_ ?_ ?_ ?_ ?_ ?_ ?_ ?_ ?_ ?_ ?_
        rotate_left; iterate 12 exact rfl

theorem execPllLoss_kept (s : State) (h : Kept B Q K s) :
    ∃ s2, execPllLoss s = .next s2 ∧ Kept B Q K s2 := by
  unfold execPllLoss
  refine ⟨_, rfl, ?_⟩
  repeat' first
    | intro _
    | with_reducible first | assumption | apply Kept.ite | apply onRail_kept | apply raiseC_kept | apply raiseP_kept
    | with_reducible first | apply railStop_kept | apply softFault_kept | apply settle_kept | apply Kept.foldl
    | dsimp only
    | split
    | with_reducible
        refine Kept.of (e := ?_) ?_ ?_ ?_ ?_ ?_ ?_ ?_ ?_ ?_ ?_ ?_ ?_ ?_
        rotate_left; iterate 12 exact rfl

theorem execPllRelock_kept (s : State) (h : Kept B Q K s) :
    ∃ s2, execPllRelock s = .next s2 ∧ Kept B Q K s2 := by
  unfold execPllRelock
  refine ⟨_, rfl, ?_⟩
  repeat' first
    | intro _
    | with_reducible first | assumption | apply restartAll_kept
    | with_reducible
        refine Kept.of (e := ?_) ?_ ?_ ?_ ?_ ?_ ?_ ?_ ?_ ?_ ?_ ?_ ?_ ?_
        rotate_left; iterate 12 exact rfl

theorem execOutOvLatch_kept (r : Fin 2) (peakFbMv : Nat) (s : State) (h : Kept B Q K s) :
    ∃ s2, execOutOvLatch r peakFbMv s = .next s2 ∧ Kept B Q K s2 := by
  unfold execOutOvLatch
  refine ⟨_, rfl, ?_⟩
  repeat' first
    | intro _
    | with_reducible first | assumption | apply Kept.ite | apply remap_kept | apply ovLatch_kept | apply settle_kept
    | dsimp only
    | split
    | with_reducible
        refine Kept.of (e := ?_) ?_ ?_ ?_ ?_ ?_ ?_ ?_ ?_ ?_ ?_ ?_ ?_ ?_
        rotate_left; iterate 12 exact rfl

theorem execPhaseFailedPath_kept (p : Fin 8) (why : ShedReason) (s : State) (h : Kept B Q K s) :
    ∃ s2, execPhaseFailedPath p why s = .next s2 ∧ Kept B Q K s2 := by
  unfold execPhaseFailedPath
  refine ⟨_, rfl, ?_⟩
  repeat' first
    | intro _
    | with_reducible first | assumption | apply Kept.ite | apply onPhase_kept
    | dsimp only
    | split
    | with_reducible
        refine Kept.of (e := ?_) ?_ ?_ ?_ ?_ ?_ ?_ ?_ ?_ ?_ ?_ ?_ ?_ ?_
        rotate_left; iterate 12 exact rfl

theorem execPhaseShed_kept (p : Fin 8) (s : State) (h : Kept B Q K s) :
    ∃ s2, execPhaseShed p s = .next s2 ∧ Kept B Q K s2 := by
  unfold execPhaseShed
  refine ⟨_, rfl, ?_⟩
  repeat' first
    | intro _
    | with_reducible first | assumption | apply Kept.ite | apply draw_kept | apply taskEnd_kept | apply remap_kept
    | with_reducible first | apply shedPhase_kept | apply railStop_kept | apply settle_kept
    | dsimp only
    | split
    | with_reducible
        refine Kept.of (e := ?_) ?_ ?_ ?_ ?_ ?_ ?_ ?_ ?_ ?_ ?_ ?_ ?_ ?_
        rotate_left; iterate 12 exact rfl

theorem execVosMismatch_kept (r : Fin 2) (s : State) (h : Kept B Q K s) :
    ∃ s2, execVosMismatch r s = .next s2 ∧ Kept B Q K s2 := by
  unfold execVosMismatch
  refine ⟨_, rfl, ?_⟩
  repeat' first
    | intro _
    | with_reducible first | assumption | apply Kept.ite | apply raiseC_kept | apply railStop_kept
    | with_reducible first | apply softFault_kept
    | dsimp only
    | split
    | with_reducible
        refine Kept.of (e := ?_) ?_ ?_ ?_ ?_ ?_ ?_ ?_ ?_ ?_ ?_ ?_ ?_ ?_
        rotate_left; iterate 12 exact rfl

theorem execFaultRecordWrite_kept (r : Fin 2) (s : State) (h : Kept B Q K s) :
    ∃ s2, execFaultRecordWrite r s = .next s2 ∧ Kept B Q K s2 := by
  unfold execFaultRecordWrite
  refine ⟨_, rfl, ?_⟩
  repeat' first
    | intro _
    | with_reducible first | assumption | apply Kept.ite | apply onRail_kept | apply refuse_kept
    | with_reducible first | apply taskEnd_kept
    | dsimp only
    | split
    | with_reducible
        refine Kept.of (e := ?_) ?_ ?_ ?_ ?_ ?_ ?_ ?_ ?_ ?_ ?_ ?_ ?_ ?_
        rotate_left; iterate 12 exact rfl

theorem execRailFiring_kept (r : Fin 2) (dt fbUv : Nat) (integUv : Int) (vosMv vbusMv : Nat) (low : BitVec 8)
    (s : State) (h : Kept B Q K s) :
    ∃ s2, execRailFiring r dt fbUv integUv vosMv vbusMv low s = .next s2 ∧ Kept B Q K s2 := by
  unfold execRailFiring
  refine ⟨_, rfl, ?_⟩
  repeat' first
    | intro _
    | with_reducible first | assumption | apply fire_kept
    | with_reducible
        refine Kept.of (e := ?_) ?_ ?_ ?_ ?_ ?_ ?_ ?_ ?_ ?_ ?_ ?_ ?_ ?_
        rotate_left; iterate 12 exact rfl

theorem execLockChange_kept (r : Fin 2) (locked corrLimit : Bool) (s : State) (h : Kept B Q K s) :
    ∃ s2, execLockChange r locked corrLimit s = .next s2 ∧ Kept B Q K s2 := by
  unfold execLockChange
  refine ⟨_, rfl, ?_⟩
  repeat' first
    | intro _
    | with_reducible first | assumption | apply Kept.ite | apply onRail_kept | apply raiseP_kept
    | dsimp only
    | split
    | with_reducible
        refine Kept.of (e := ?_) ?_ ?_ ?_ ?_ ?_ ?_ ?_ ?_ ?_ ?_ ?_ ?_ ?_
        rotate_left; iterate 12 exact rfl

theorem execQuietMapRecompute_kept (vbusMv : Nat) (s : State) (h : Kept B Q K s) :
    ∃ s2, execQuietMapRecompute vbusMv s = .next s2 ∧ Kept B Q K s2 := by
  unfold execQuietMapRecompute
  refine ⟨_, rfl, ?_⟩
  repeat' first
    | intro _
    | with_reducible first | assumption | apply remap_kept
    | with_reducible
        refine Kept.of (e := ?_) ?_ ?_ ?_ ?_ ?_ ?_ ?_ ?_ ?_ ?_ ?_ ?_ ?_
        rotate_left; iterate 12 exact rfl

theorem execBalanceTick_kept (r : Fin 2) (i : PhaseMeans) (s : State) (h : Kept B Q K s) :
    ∃ s2, execBalanceTick r i s = .next s2 ∧ Kept B Q K s2 := by
  unfold execBalanceTick
  refine ⟨_, rfl, ?_⟩
  repeat' first
    | intro _
    | with_reducible first | assumption | apply taskEnd_kept | apply balance_kept | apply overloadMs_kept
    | with_reducible
        refine Kept.of (e := ?_) ?_ ?_ ?_ ?_ ?_ ?_ ?_ ?_ ?_ ?_ ?_ ?_ ?_
        rotate_left; iterate 12 exact rfl

theorem execBalanceLimit_kept (p : Fin 8) (cleared : Bool) (s : State) (h : Kept B Q K s) :
    ∃ s2, execBalanceLimit p cleared s = .next s2 ∧ Kept B Q K s2 := by
  unfold execBalanceLimit
  refine ⟨_, rfl, ?_⟩
  repeat' first
    | intro _
    | with_reducible first | assumption | apply Kept.ite | apply onPhase_kept | apply raiseOnce_kept
    | with_reducible first | apply clearE_kept
    | dsimp only
    | split
    | with_reducible
        refine Kept.of (e := ?_) ?_ ?_ ?_ ?_ ?_ ?_ ?_ ?_ ?_ ?_ ?_ ?_ ?_
        rotate_left; iterate 12 exact rfl

theorem execPll384Locked_kept (chk : PreStart) (s : State) (h : Kept B Q K s) :
    ∃ s2, execPll384Locked chk s = .next s2 ∧ Kept B Q K s2 := by
  unfold execPll384Locked
  refine ⟨_, rfl, ?_⟩
  repeat' first
    | intro _
    | with_reducible first | assumption | apply settle_kept | apply preStart_kept
    | with_reducible
        refine Kept.of (e := ?_) ?_ ?_ ?_ ?_ ?_ ?_ ?_ ?_ ?_ ?_ ?_ ?_ ?_
        rotate_left; iterate 12 exact rfl

theorem execRailUp_kept (r : Fin 2) (s : State) (h : Kept B Q K s) :
    ∃ s2, execRailUp r s = .next s2 ∧ Kept B Q K s2 := by
  unfold execRailUp
  refine ⟨_, rfl, ?_⟩
  repeat' first
    | intro _
    | with_reducible first | assumption | apply settle_kept | apply reachTarget_kept
    | with_reducible
        refine Kept.of (e := ?_) ?_ ?_ ?_ ?_ ?_ ?_ ?_ ?_ ?_ ?_ ?_ ?_ ?_
        rotate_left; iterate 12 exact rfl

theorem execSoftStopComplete_kept (r : Fin 2) (s : State) (h : Kept B Q K s) :
    ∃ s2, execSoftStopComplete r s = .next s2 ∧ Kept B Q K s2 := by
  unfold execSoftStopComplete
  refine ⟨_, rfl, ?_⟩
  repeat' first
    | intro _
    | with_reducible first | assumption | apply stopDone_kept | apply settle_kept
    | with_reducible
        refine Kept.of (e := ?_) ?_ ?_ ?_ ?_ ?_ ?_ ?_ ?_ ?_ ?_ ?_ ?_ ?_
        rotate_left; iterate 12 exact rfl

theorem execTrackFault_kept (r : Fin 2) (s : State) (h : Kept B Q K s) :
    ∃ s2, execTrackFault r s = .next s2 ∧ Kept B Q K s2 := by
  unfold execTrackFault
  refine ⟨_, rfl, ?_⟩
  repeat' first
    | intro _
    | with_reducible first | assumption | apply Kept.ite | apply onRail_kept | apply raiseP_kept
    | dsimp only
    | split
    | with_reducible
        refine Kept.of (e := ?_) ?_ ?_ ?_ ?_ ?_ ?_ ?_ ?_ ?_ ?_ ?_ ?_ ?_
        rotate_left; iterate 12 exact rfl

theorem execSyncAcquire_kept (s : State) (h : Kept B Q K s) :
    ∃ s2, execSyncAcquire s = .next s2 ∧ Kept B Q K s2 := by
  unfold execSyncAcquire
  refine ⟨_, rfl, ?_⟩
  repeat' first
    | intro _
    | with_reducible first | assumption | apply Kept.ite | apply syncChange_kept
    | dsimp only
    | split
    | with_reducible
        refine Kept.of (e := ?_) ?_ ?_ ?_ ?_ ?_ ?_ ?_ ?_ ?_ ?_ ?_ ?_ ?_
        rotate_left; iterate 12 exact rfl

theorem execSyncLoss_kept (s : State) (h : Kept B Q K s) :
    ∃ s2, execSyncLoss s = .next s2 ∧ Kept B Q K s2 := by
  unfold execSyncLoss
  refine ⟨_, rfl, ?_⟩
  repeat' first
    | intro _
    | with_reducible first | assumption | apply Kept.ite | apply syncChange_kept
    | dsimp only
    | split
    | with_reducible
        refine Kept.of (e := ?_) ?_ ?_ ?_ ?_ ?_ ?_ ?_ ?_ ?_ ?_ ?_ ?_ ?_
        rotate_left; iterate 12 exact rfl

theorem execBrakeStart_kept (r : Fin 2) (s : State) (h : Kept B Q K s) :
    ∃ s2, execBrakeStart r s = .next s2 ∧ Kept B Q K s2 := by
  unfold execBrakeStart
  refine ⟨_, rfl, ?_⟩
  repeat' first
    | intro _
    | with_reducible first | assumption | apply Kept.ite | apply onRail_kept | apply onPhase_kept | apply Kept.foldl
    | dsimp only
    | split
    | with_reducible
        refine Kept.of (e := ?_) ?_ ?_ ?_ ?_ ?_ ?_ ?_ ?_ ?_ ?_ ?_ ?_ ?_
        rotate_left; iterate 12 exact rfl

theorem execBrakeEnd_kept (r : Fin 2) (_why : BrakeEnd) (s : State) (h : Kept B Q K s) :
    ∃ s2, execBrakeEnd r _why s = .next s2 ∧ Kept B Q K s2 := by
  unfold execBrakeEnd
  refine ⟨_, rfl, ?_⟩
  repeat' first
    | intro _
    | with_reducible first | assumption | apply onRail_kept
    | with_reducible
        refine Kept.of (e := ?_) ?_ ?_ ?_ ?_ ?_ ?_ ?_ ?_ ?_ ?_ ?_ ?_ ?_
        rotate_left; iterate 12 exact rfl

theorem execChSet_kept (rq : Request) (s : State) (h : Kept B Q K s) :
    ∃ s2, execChSet rq s = .next s2 ∧ Kept B Q K s2 := by
  unfold execChSet
  refine ⟨_, rfl, ?_⟩
  repeat' first
    | intro _
    | with_reducible first | assumption | apply serve_kept | apply cmdChSet_kept
    | with_reducible
        refine Kept.of (e := ?_) ?_ ?_ ?_ ?_ ?_ ?_ ?_ ?_ ?_ ?_ ?_ ?_ ?_
        rotate_left; iterate 12 exact rfl

theorem execChClear_kept (rq : Request) (s : State) (h : Kept B Q K s) :
    ∃ s2, execChClear rq s = .next s2 ∧ Kept B Q K s2 := by
  unfold execChClear
  refine ⟨_, rfl, ?_⟩
  repeat' first
    | intro _
    | with_reducible first | assumption | apply serve_kept | apply cmdChClear_kept
    | with_reducible
        refine Kept.of (e := ?_) ?_ ?_ ?_ ?_ ?_ ?_ ?_ ?_ ?_ ?_ ?_ ?_ ?_
        rotate_left; iterate 12 exact rfl

theorem execRailCtrlStop_kept (rq : Request) (s : State) (h : Kept B Q K s) :
    ∃ s2, execRailCtrlStop rq s = .next s2 ∧ Kept B Q K s2 := by
  unfold execRailCtrlStop
  refine ⟨_, rfl, ?_⟩
  repeat' first
    | intro _
    | with_reducible first | assumption | apply serve_kept | apply cmdRailStop_kept
    | with_reducible
        refine Kept.of (e := ?_) ?_ ?_ ?_ ?_ ?_ ?_ ?_ ?_ ?_ ?_ ?_ ?_ ?_
        rotate_left; iterate 12 exact rfl

theorem execRailCtrlStart_kept (rq : Request) (s : State) (h : Kept B Q K s) :
    ∃ s2, execRailCtrlStart rq s = .next s2 ∧ Kept B Q K s2 := by
  unfold execRailCtrlStart
  refine ⟨_, rfl, ?_⟩
  repeat' first
    | intro _
    | with_reducible first | assumption | apply serve_kept | apply cmdRailStart_kept
    | with_reducible
        refine Kept.of (e := ?_) ?_ ?_ ?_ ?_ ?_ ?_ ?_ ?_ ?_ ?_ ?_ ?_ ?_
        rotate_left; iterate 12 exact rfl

theorem execRailCtrlClearLatch_kept (rq : Request) (s : State) (h : Kept B Q K s) :
    ∃ s2, execRailCtrlClearLatch rq s = .next s2 ∧ Kept B Q K s2 := by
  unfold execRailCtrlClearLatch
  refine ⟨_, rfl, ?_⟩
  repeat' first
    | intro _
    | with_reducible first | assumption | apply serve_kept | apply cmdRailClear_kept
    | with_reducible
        refine Kept.of (e := ?_) ?_ ?_ ?_ ?_ ?_ ?_ ?_ ?_ ?_ ?_ ?_ ?_ ?_
        rotate_left; iterate 12 exact rfl

theorem execFaultRead_kept (rq : Request) (s : State) (h : Kept B Q K s) :
    ∃ s2, execFaultRead rq s = .next s2 ∧ Kept B Q K s2 := by
  unfold execFaultRead
  refine ⟨_, rfl, ?_⟩
  repeat' first
    | intro _
    | with_reducible first | assumption | apply serve_kept | apply cmdFaultRead_kept
    | with_reducible
        refine Kept.of (e := ?_) ?_ ?_ ?_ ?_ ?_ ?_ ?_ ?_ ?_ ?_ ?_ ?_ ?_
        rotate_left; iterate 12 exact rfl

theorem execShedSet_kept (rq : Request) (s : State) (h : Kept B Q K s) :
    ∃ s2, execShedSet rq s = .next s2 ∧ Kept B Q K s2 := by
  unfold execShedSet
  refine ⟨_, rfl, ?_⟩
  repeat' first
    | intro _
    | with_reducible first | assumption | apply serve_kept | apply cmdShedSet_kept
    | with_reducible
        refine Kept.of (e := ?_) ?_ ?_ ?_ ?_ ?_ ?_ ?_ ?_ ?_ ?_ ?_ ?_ ?_
        rotate_left; iterate 12 exact rfl

theorem execAllowanceSet_kept (rq : Request) (s : State) (h : Kept B Q K s) :
    ∃ s2, execAllowanceSet rq s = .next s2 ∧ Kept B Q K s2 := by
  unfold execAllowanceSet
  refine ⟨_, rfl, ?_⟩
  repeat' first
    | intro _
    | with_reducible first | assumption | apply serve_kept | apply cmdAllowanceSet_kept
    | with_reducible
        refine Kept.of (e := ?_) ?_ ?_ ?_ ?_ ?_ ?_ ?_ ?_ ?_ ?_ ?_ ?_ ?_
        rotate_left; iterate 12 exact rfl

theorem execTimeSet_kept (rq : Request) (s : State) (h : Kept B Q K s) :
    ∃ s2, execTimeSet rq s = .next s2 ∧ Kept B Q K s2 := by
  unfold execTimeSet
  refine ⟨_, rfl, ?_⟩
  repeat' first
    | intro _
    | with_reducible first | assumption | apply serve_kept | apply cmdTimeSet_kept
    | with_reducible
        refine Kept.of (e := ?_) ?_ ?_ ?_ ?_ ?_ ?_ ?_ ?_ ?_ ?_ ?_ ?_ ?_
        rotate_left; iterate 12 exact rfl

theorem execTabCycleStart_kept (s : State) (h : Kept B Q K s) :
    ∃ s2, execTabCycleStart s = .next s2 ∧ Kept B Q K s2 := by
  unfold execTabCycleStart
  refine ⟨_, rfl, ?_⟩
  repeat' first
    | intro _
    | with_reducible first | assumption | apply Kept.ite | apply taskEnd_kept | apply run_kept
    | with_reducible first | apply leadCycle_kept | apply linkQuiet_kept | apply memberCycle_kept
    | dsimp only
    | split
    | with_reducible
        refine Kept.of (e := ?_) ?_ ?_ ?_ ?_ ?_ ?_ ?_ ?_ ?_ ?_ ?_ ?_ ?_
        rotate_left; iterate 12 exact rfl

theorem execLeadFrameReceived_kept (bytes : List Byte) (s : State) (h : Kept B Q K s) :
    ∃ s2, execLeadFrameReceived bytes s = .next s2 ∧ Kept B Q K s2 := by
  unfold execLeadFrameReceived
  refine ⟨_, rfl, ?_⟩
  repeat' first
    | intro _
    | with_reducible first | assumption | apply Kept.ite | apply takeLead_kept
    | dsimp only
    | split
    | with_reducible
        refine Kept.of (e := ?_) ?_ ?_ ?_ ?_ ?_ ?_ ?_ ?_ ?_ ?_ ?_ ?_ ?_
        rotate_left; iterate 12 exact rfl

theorem execGangShareStart_kept (r : Fin 2) (s : State) (h : Kept B Q K s) :
    ∃ s2, execGangShareStart r s = .next s2 ∧ Kept B Q K s2 := by
  unfold execGangShareStart
  refine ⟨_, rfl, ?_⟩
  repeat' first
    | intro _
    | with_reducible first | assumption | apply Kept.ite | apply startRail_kept | apply restartShare_kept
    | with_reducible first | apply softStop_kept
    | dsimp only
    | split
    | with_reducible
        refine Kept.of (e := ?_) ?_ ?_ ?_ ?_ ?_ ?_ ?_ ?_ ?_ ?_ ?_ ?_ ?_
        rotate_left; iterate 12 exact rfl

theorem execMemberFrameReceived_kept (bytes : List Byte) (s : State) (h : Kept B Q K s) :
    ∃ s2, execMemberFrameReceived bytes s = .next s2 ∧ Kept B Q K s2 := by
  unfold execMemberFrameReceived
  refine ⟨_, rfl, ?_⟩
  repeat' first
    | intro _
    | with_reducible first | assumption | apply Kept.ite | apply respace_kept | apply takeMember_kept
    | dsimp only
    | split
    | with_reducible
        refine Kept.of (e := ?_) ?_ ?_ ?_ ?_ ?_ ?_ ?_ ?_ ?_ ?_ ?_ ?_ ?_
        rotate_left; iterate 12 exact rfl

theorem execBulkFrameReceived_kept (bytes : List Byte) (s : State) (h : Kept B Q K s) :
    ∃ s2, execBulkFrameReceived bytes s = .next s2 ∧ Kept B Q K s2 := by
  unfold execBulkFrameReceived
  refine ⟨_, rfl, ?_⟩
  repeat' first
    | intro _
    | with_reducible first | assumption | apply Kept.ite | apply transfer_kept
    | dsimp only
    | split
    | with_reducible
        refine Kept.of (e := ?_) ?_ ?_ ?_ ?_ ?_ ?_ ?_ ?_ ?_ ?_ ?_ ?_ ?_
        rotate_left; iterate 12 exact rfl

theorem execDisagreementCheck_kept (m : Fin 8) (s : State) (h : Kept B Q K s) :
    ∃ s2, execDisagreementCheck m s = .next s2 ∧ Kept B Q K s2 := by
  unfold execDisagreementCheck
  refine ⟨_, rfl, ?_⟩
  repeat' first
    | intro _
    | with_reducible first | assumption | apply Kept.ite | apply checkMember_kept | apply checkSelf_kept
    | dsimp only
    | split
    | with_reducible
        refine Kept.of (e := ?_) ?_ ?_ ?_ ?_ ?_ ?_ ?_ ?_ ?_ ?_ ?_ ?_ ?_
        rotate_left; iterate 12 exact rfl

theorem execJoinFrameReceived_kept (bytes : List Byte) (s : State) (h : Kept B Q K s) :
    ∃ s2, execJoinFrameReceived bytes s = .next s2 ∧ Kept B Q K s2 := by
  unfold execJoinFrameReceived
  refine ⟨_, rfl, ?_⟩
  repeat' first
    | intro _
    | with_reducible first | assumption | apply Kept.ite | apply joinFrame_kept
    | dsimp only
    | split
    | with_reducible
        refine Kept.of (e := ?_) ?_ ?_ ?_ ?_ ?_ ?_ ?_ ?_ ?_ ?_ ?_ ?_ ?_
        rotate_left; iterate 12 exact rfl

theorem execElectionStart_kept (s : State) (h : Kept B Q K s) :
    ∃ s2, execElectionStart s = .next s2 ∧ Kept B Q K s2 := by
  unfold execElectionStart
  refine ⟨_, rfl, ?_⟩
  repeat' first
    | intro _
    | with_reducible first | assumption | apply Kept.ite | apply relevel_kept
    | dsimp only
    | split
    | with_reducible
        refine Kept.of (e := ?_) ?_ ?_ ?_ ?_ ?_ ?_ ?_ ?_ ?_ ?_ ?_ ?_ ?_
        rotate_left; iterate 12 exact rfl

theorem execElectionListenEnd_kept (s : State) (h : Kept B Q K s) :
    ∃ s2, execElectionListenEnd s = .next s2 ∧ Kept B Q K s2 := by
  unfold execElectionListenEnd
  refine ⟨_, rfl, ?_⟩
  repeat' first
    | intro _
    | with_reducible first | assumption | apply Kept.ite | apply becomeLead_kept
    | dsimp only
    | split
    | with_reducible
        refine Kept.of (e := ?_) ?_ ?_ ?_ ?_ ?_ ?_ ?_ ?_ ?_ ?_ ?_ ?_ ?_
        rotate_left; iterate 12 exact rfl

theorem execReadbackFailure_kept (s : State) (h : Kept B Q K s) :
    ∃ s2, execReadbackFailure s = .next s2 ∧ Kept B Q K s2 := by
  unfold execReadbackFailure
  refine ⟨_, rfl, ?_⟩
  repeat' first
    | intro _
    | with_reducible first | assumption | apply Kept.ite | apply raiseOnce_kept | apply tb8Eval_kept
    | with_reducible first | apply loseLock_kept
    | dsimp only
    | split
    | with_reducible
        refine Kept.of (e := ?_) ?_ ?_ ?_ ?_ ?_ ?_ ?_ ?_ ?_ ?_ ?_ ?_ ?_
        rotate_left; iterate 12 exact rfl

theorem execTsyncLock_kept (s : State) (h : Kept B Q K s) :
    ∃ s2, execTsyncLock s = .next s2 ∧ Kept B Q K s2 := by
  unfold execTsyncLock
  refine ⟨_, rfl, ?_⟩
  repeat' first
    | intro _
    | with_reducible first | assumption | apply Kept.ite | apply tb8Eval_kept | apply realignAll_kept
    | with_reducible first | apply leadWatch_kept
    | dsimp only
    | split
    | with_reducible
        refine Kept.of (e := ?_) ?_ ?_ ?_ ?_ ?_ ?_ ?_ ?_ ?_ ?_ ?_ ?_ ?_
        rotate_left; iterate 12 exact rfl

theorem execTsyncLoss_kept (s : State) (h : Kept B Q K s) :
    ∃ s2, execTsyncLoss s = .next s2 ∧ Kept B Q K s2 := by
  unfold execTsyncLoss
  refine ⟨_, rfl, ?_⟩
  repeat' first
    | intro _
    | with_reducible first | assumption | apply Kept.ite | apply tb8Eval_kept | apply leadWatch_kept
    | dsimp only
    | split
    | with_reducible
        refine Kept.of (e := ?_) ?_ ?_ ?_ ?_ ?_ ?_ ?_ ?_ ?_ ?_ ?_ ?_ ?_
        rotate_left; iterate 12 exact rfl

theorem execTsyncContention_kept (s : State) (h : Kept B Q K s) :
    ∃ s2, execTsyncContention s = .next s2 ∧ Kept B Q K s2 := by
  unfold execTsyncContention
  refine ⟨_, rfl, ?_⟩
  repeat' first
    | intro _
    | with_reducible first | assumption | apply Kept.ite | apply raiseOnce_kept
    | dsimp only
    | split
    | with_reducible
        refine Kept.of (e := ?_) ?_ ?_ ?_ ?_ ?_ ?_ ?_ ?_ ?_ ?_ ?_ ?_ ?_
        rotate_left; iterate 12 exact rfl

theorem execMemberSilent_kept (m : Fin 8) (s : State) (h : Kept B Q K s) :
    ∃ s2, execMemberSilent m s = .next s2 ∧ Kept B Q K s2 := by
  unfold execMemberSilent
  refine ⟨_, rfl, ?_⟩
  repeat' first
    | intro _
    | with_reducible first | assumption | apply Kept.ite | apply fresh_kept | apply fresh_kept_pr
    | with_reducible first | apply onMember_kept | refine Kept.of_fst (by assumption) ?_
    | with_reducible first | refine Kept.of_snd (by assumption) ?_
    | dsimp only
    | split
    | with_reducible
        refine Kept.of (e := ?_) ?_ ?_ ?_ ?_ ?_ ?_ ?_ ?_ ?_ ?_ ?_ ?_ ?_
        rotate_left; iterate 12 exact rfl

theorem execMemberLost_kept (m : Fin 8) (s : State) (h : Kept B Q K s) :
    ∃ s2, execMemberLost m s = .next s2 ∧ Kept B Q K s2 := by
  unfold execMemberLost
  refine ⟨_, rfl, ?_⟩
  repeat' first
    | intro _
    | with_reducible first | assumption | apply Kept.ite | apply raiseC_kept | apply relevel_kept
    | with_reducible first | apply onMember_kept | apply respace_kept | apply regang_kept
    | dsimp only
    | split
    | with_reducible
        refine Kept.of (e := ?_) ?_ ?_ ?_ ?_ ?_ ?_ ?_ ?_ ?_ ?_ ?_ ?_ ?_
        rotate_left; iterate 12 exact rfl

theorem execLeadLostTimeout_kept (s : State) (h : Kept B Q K s) :
    ∃ s2, execLeadLostTimeout s = .next s2 ∧ Kept B Q K s2 := by
  unfold execLeadLostTimeout
  refine ⟨_, rfl, ?_⟩
  repeat' first
    | intro _
    | with_reducible first | assumption | apply Kept.ite | apply stopShares_kept
    | dsimp only
    | split
    | with_reducible
        refine Kept.of (e := ?_) ?_ ?_ ?_ ?_ ?_ ?_ ?_ ?_ ?_ ?_ ?_ ?_ ?_
        rotate_left; iterate 12 exact rfl

theorem execMemberReturn_kept (m : Fin 8) (s : State) (h : Kept B Q K s) :
    ∃ s2, execMemberReturn m s = .next s2 ∧ Kept B Q K s2 := by
  unfold execMemberReturn
  refine ⟨_, rfl, ?_⟩
  repeat' first
    | intro _
    | with_reducible first | assumption | apply Kept.ite | apply raiseP_kept | apply fresh_kept
    | with_reducible first | apply fresh_kept_pr | apply onMember_kept | apply respace_kept | apply regang_kept
    | with_reducible first | apply enter_kept | refine Kept.of_fst (by assumption) ?_
    | with_reducible first | refine Kept.of_snd (by assumption) ?_
    | dsimp only
    | split
    | with_reducible
        refine Kept.of (e := ?_) ?_ ?_ ?_ ?_ ?_ ?_ ?_ ?_ ?_ ?_ ?_ ?_ ?_
        rotate_left; iterate 12 exact rfl

theorem execLinkFault_kept (cleared : Bool) (s : State) (h : Kept B Q K s) :
    ∃ s2, execLinkFault cleared s = .next s2 ∧ Kept B Q K s2 := by
  unfold execLinkFault
  refine ⟨_, rfl, ?_⟩
  repeat' first
    | intro _
    | with_reducible first | assumption | apply Kept.ite | apply raiseOnce_kept | apply clearE_kept
    | dsimp only
    | split
    | with_reducible
        refine Kept.of (e := ?_) ?_ ?_ ?_ ?_ ?_ ?_ ?_ ?_ ?_ ?_ ?_ ?_ ?_
        rotate_left; iterate 12 exact rfl

theorem execShadowTransfer_kept (s : State) (h : Kept B Q K s) :
    ∃ s2, execShadowTransfer s = .next s2 ∧ Kept B Q K s2 := by
  unfold execShadowTransfer
  refine ⟨_, rfl, ?_⟩
  repeat' first
    | intro _
    | with_reducible first | assumption | apply transferNow_kept
    | dsimp only
    | split
    | with_reducible
        refine Kept.of (e := ?_) ?_ ?_ ?_ ?_ ?_ ?_ ?_ ?_ ?_ ?_ ?_ ?_ ?_
        rotate_left; iterate 12 exact rfl

theorem execSpiWriteTransaction_kept (bytes : List Byte) (s : State) (h : Kept B Q K s) :
    ∃ s2, execSpiWriteTransaction bytes s = .next s2 ∧ Kept B Q K s2 := by
  unfold execSpiWriteTransaction
  refine ⟨_, rfl, ?_⟩
  repeat' first
    | intro _
    | with_reducible first | assumption | apply Kept.ite | apply onPort_kept | apply portWrite_kept
    | dsimp only
    | split
    | with_reducible
        refine Kept.of (e := ?_) ?_ ?_ ?_ ?_ ?_ ?_ ?_ ?_ ?_ ?_ ?_ ?_ ?_
        rotate_left; iterate 12 exact rfl

theorem execSpiReadTransaction_kept (n : Nat) (s : State) (h : Kept B Q K s) :
    ∃ s2, execSpiReadTransaction n s = .next s2 ∧ Kept B Q K s2 := by
  unfold execSpiReadTransaction
  refine ⟨_, rfl, ?_⟩
  repeat' first
    | intro _
    | with_reducible first | assumption | apply Kept.ite | apply portRead_kept
    | dsimp only
    | split
    | with_reducible
        refine Kept.of (e := ?_) ?_ ?_ ?_ ?_ ?_ ?_ ?_ ?_ ?_ ?_ ?_ ?_ ?_
        rotate_left; iterate 12 exact rfl

theorem execSpiVoidTransaction_kept (header : Byte) (n : Nat) (s : State) (h : Kept B Q K s) :
    ∃ s2, execSpiVoidTransaction header n s = .next s2 ∧ Kept B Q K s2 := by
  unfold execSpiVoidTransaction
  refine ⟨_, rfl, ?_⟩
  repeat' first
    | intro _
    | with_reducible first | assumption | apply Kept.ite | apply onPort_kept
    | dsimp only
    | split
    | with_reducible
        refine Kept.of (e := ?_) ?_ ?_ ?_ ?_ ?_ ?_ ?_ ?_ ?_ ?_ ?_ ?_ ?_
        rotate_left; iterate 12 exact rfl

theorem execI2cWriteTransaction_kept (addr : BitVec 7) (bytes : List Byte) (s : State) (h : Kept B Q K s) :
    ∃ s2, execI2cWriteTransaction addr bytes s = .next s2 ∧ Kept B Q K s2 := by
  unfold execI2cWriteTransaction
  refine ⟨_, rfl, ?_⟩
  repeat' first
    | intro _
    | with_reducible first | assumption | apply Kept.ite | apply portWrite_kept
    | dsimp only
    | split
    | with_reducible
        refine Kept.of (e := ?_) ?_ ?_ ?_ ?_ ?_ ?_ ?_ ?_ ?_ ?_ ?_ ?_ ?_
        rotate_left; iterate 12 exact rfl

theorem execI2cReadTransaction_kept (addr : BitVec 7) (n : Nat) (s : State) (h : Kept B Q K s) :
    ∃ s2, execI2cReadTransaction addr n s = .next s2 ∧ Kept B Q K s2 := by
  unfold execI2cReadTransaction
  refine ⟨_, rfl, ?_⟩
  repeat' first
    | intro _
    | with_reducible first | assumption | apply Kept.ite | apply portRead_kept
    | dsimp only
    | split
    | with_reducible
        refine Kept.of (e := ?_) ?_ ?_ ?_ ?_ ?_ ?_ ?_ ?_ ?_ ?_ ?_ ?_ ?_
        rotate_left; iterate 12 exact rfl

theorem uartWake_kept (s t : State) (n : Nat) (h : Kept B Q K s) (e : s.uartWake = some (t, n)) : Kept B Q K t := by
  unfold State.uartWake at e
  split at e
  · cases e; exact h
  split at e
  · simp only [Option.some.injEq, Prod.mk.injEq] at e
    rw [← e.1]
    exact toRun_kept _ h
  · cases e
theorem execUartPacketReceived_kept (bytes : List Byte) (s : State)
    (h : Kept B Q K s) : ∃ s2, execUartPacketReceived bytes s = .next s2 ∧ Kept B Q K s2 := by
  unfold execUartPacketReceived
  refine ⟨_, rfl, ?_⟩
  split
  · exact h
  · split
    · rename_i e
      exact takeFound_kept _ _ _ _ (uartWake_kept _ _ _ h e)
    · exact h

theorem execUartGapTimeout_kept (s : State) (h : Kept B Q K s) :
    ∃ s2, execUartGapTimeout s = .next s2 ∧ Kept B Q K s2 := by
  unfold execUartGapTimeout
  refine ⟨_, rfl, ?_⟩
  repeat' first
    | intro _
    | with_reducible first | assumption | apply Kept.ite | apply raiseP_kept | apply frameError_kept
    | dsimp only
    | split
    | with_reducible
        refine Kept.of (e := ?_) ?_ ?_ ?_ ?_ ?_ ?_ ?_ ?_ ?_ ?_ ?_ ?_ ?_
        rotate_left; iterate 12 exact rfl

theorem execUartReplyTransmit_kept (s : State) (h : Kept B Q K s) :
    ∃ s2, execUartReplyTransmit s = .next s2 ∧ Kept B Q K s2 := by
  unfold execUartReplyTransmit
  refine ⟨_, rfl, ?_⟩
  repeat' first
    | intro _
    | with_reducible first | assumption | apply Kept.ite | apply consume_kept | apply uartSend_kept
    | dsimp only
    | split
    | with_reducible
        refine Kept.of (e := ?_) ?_ ?_ ?_ ?_ ?_ ?_ ?_ ?_ ?_ ?_ ?_ ?_ ?_
        rotate_left; iterate 12 exact rfl

theorem execBridgeFrame_kept (bytes : List Byte) (s : State) (h : Kept B Q K s) :
    ∃ s2, execBridgeFrame bytes s = .next s2 ∧ Kept B Q K s2 := by
  unfold execBridgeFrame
  refine ⟨_, rfl, ?_⟩
  repeat' first
    | intro _
    | with_reducible first | assumption | apply Kept.ite | apply toRun_kept | apply receive_kept
    | with_reducible first | apply frameError_kept | apply bridgeIn_kept
    | dsimp only
    | split
    | with_reducible
        refine Kept.of (e := ?_) ?_ ?_ ?_ ?_ ?_ ?_ ?_ ?_ ?_ ?_ ?_ ?_ ?_
        rotate_left; iterate 12 exact rfl

theorem execBridgeReplyTimeout_kept (addr seq : Nat) (s : State) (h : Kept B Q K s) :
    ∃ s2, execBridgeReplyTimeout addr seq s = .next s2 ∧ Kept B Q K s2 := by
  unfold execBridgeReplyTimeout
  refine ⟨_, rfl, ?_⟩
  repeat' first
    | intro _
    | with_reducible first | assumption | apply bridgeRefuse_kept
    | dsimp only
    | split
    | with_reducible
        refine Kept.of (e := ?_) ?_ ?_ ?_ ?_ ?_ ?_ ?_ ?_ ?_ ?_ ?_ ?_ ?_
        rotate_left; iterate 12 exact rfl

theorem execPacketPart_kept (opc : Byte) (rq : Request) (s : State) (h : Kept B Q K s) :
    ∃ s2, execPacketPart opc rq s = .next s2 ∧ Kept B Q K s2 := by
  unfold execPacketPart
  refine ⟨_, rfl, ?_⟩
  repeat' first
    | intro _
    | with_reducible first | assumption | apply Kept.ite | apply receive_kept
    | dsimp only
    | split
    | with_reducible
        refine Kept.of (e := ?_) ?_ ?_ ?_ ?_ ?_ ?_ ?_ ?_ ?_ ?_ ?_ ?_ ?_
        rotate_left; iterate 12 exact rfl

theorem execCamyxApdu_kept (bytes : List Byte) (s : State) (h : Kept B Q K s) :
    ∃ s2, execCamyxApdu bytes s = .next s2 ∧ Kept B Q K s2 := by
  unfold execCamyxApdu
  refine ⟨_, rfl, ?_⟩
  repeat' first
    | intro _
    | with_reducible first | assumption | apply Kept.ite | apply apdu_kept | apply sendWtx_kept
    | dsimp only
    | split
    | with_reducible
        refine Kept.of (e := ?_) ?_ ?_ ?_ ?_ ?_ ?_ ?_ ?_ ?_ ?_ ?_ ?_ ?_
        rotate_left; iterate 12 exact rfl

theorem execSWtx_kept (s : State) (h : Kept B Q K s) :
    ∃ s2, execSWtx s = .next s2 ∧ Kept B Q K s2 := by
  unfold execSWtx
  refine ⟨_, rfl, ?_⟩
  repeat' first
    | intro _
    | with_reducible first | assumption | apply Kept.ite | apply apdu_kept | apply sendWtx_kept
    | dsimp only
    | split
    | with_reducible
        refine Kept.of (e := ?_) ?_ ?_ ?_ ?_ ?_ ?_ ?_ ?_ ?_ ?_ ?_ ?_ ?_
        rotate_left; iterate 12 exact rfl

theorem execSessionPendingLapse_kept (t : Transport) (s : State) (h : Kept B Q K s) :
    ∃ s2, execSessionPendingLapse t s = .next s2 ∧ Kept B Q K s2 := by
  unfold execSessionPendingLapse
  refine ⟨_, rfl, ?_⟩
  repeat' first
    | intro _
    | with_reducible first | assumption | apply Kept.ite | apply onPort_kept | apply release_kept
    | dsimp only
    | split
    | with_reducible
        refine Kept.of (e := ?_) ?_ ?_ ?_ ?_ ?_ ?_ ?_ ?_ ?_ ?_ ?_ ?_ ?_
        rotate_left; iterate 12 exact rfl

theorem execSessionIdleExpiry_kept (t : Transport) (s : State) (h : Kept B Q K s) :
    ∃ s2, execSessionIdleExpiry t s = .next s2 ∧ Kept B Q K s2 := by
  unfold execSessionIdleExpiry
  refine ⟨_, rfl, ?_⟩
  repeat' first
    | intro _
    | with_reducible first | assumption | apply Kept.ite | apply endSession_kept
    | dsimp only
    | split
    | with_reducible
        refine Kept.of (e := ?_) ?_ ?_ ?_ ?_ ?_ ?_ ?_ ?_ ?_ ?_ ?_ ?_ ?_
        rotate_left; iterate 12 exact rfl

theorem execWriteParam_kept (rq : Request) (s : State) (h : Kept B Q K s) :
    ∃ s2, execWriteParam rq s = .next s2 ∧ Kept B Q K s2 := by
  unfold execWriteParam
  refine ⟨_, rfl, ?_⟩
  repeat' first
    | intro _
    | with_reducible first | assumption | apply serve_kept | apply cmdWriteParam_kept
    | with_reducible
        refine Kept.of (e := ?_) ?_ ?_ ?_ ?_ ?_ ?_ ?_ ?_ ?_ ?_ ?_ ?_ ?_
        rotate_left; iterate 12 exact rfl

theorem execCommit_kept (rq : Request) (s : State) (h : Kept B Q K s) :
    ∃ s2, execCommit rq s = .next s2 ∧ Kept B Q K s2 := by
  unfold execCommit
  refine ⟨_, rfl, ?_⟩
  repeat' first
    | intro _
    | with_reducible first | assumption | apply serve_kept | apply cmdCommit_kept
    | with_reducible
        refine Kept.of (e := ?_) ?_ ?_ ?_ ?_ ?_ ?_ ?_ ?_ ?_ ?_ ?_ ?_ ?_
        rotate_left; iterate 12 exact rfl

theorem execRevert_kept (rq : Request) (s : State) (h : Kept B Q K s) :
    ∃ s2, execRevert rq s = .next s2 ∧ Kept B Q K s2 := by
  unfold execRevert
  refine ⟨_, rfl, ?_⟩
  repeat' first
    | intro _
    | with_reducible first | assumption | apply serve_kept | apply cmdRevert_kept
    | with_reducible
        refine Kept.of (e := ?_) ?_ ?_ ?_ ?_ ?_ ?_ ?_ ?_ ?_ ?_ ?_ ?_ ?_
        rotate_left; iterate 12 exact rfl

theorem execSave_kept (rq : Request) (s : State) (h : Kept B Q K s) :
    ∃ s2, execSave rq s = .next s2 ∧ Kept B Q K s2 := by
  unfold execSave
  refine ⟨_, rfl, ?_⟩
  repeat' first
    | intro _
    | with_reducible first | assumption | apply serve_kept | apply cmdSave_kept
    | with_reducible
        refine Kept.of (e := ?_) ?_ ?_ ?_ ?_ ?_ ?_ ?_ ?_ ?_ ?_ ?_ ?_ ?_
        rotate_left; iterate 12 exact rfl

theorem execImageExport_kept (rq : Request) (s : State) (h : Kept B Q K s) :
    ∃ s2, execImageExport rq s = .next s2 ∧ Kept B Q K s2 := by
  unfold execImageExport
  refine ⟨_, rfl, ?_⟩
  repeat' first
    | intro _
    | with_reducible first | assumption | apply serve_kept | apply cmdImageExport_kept
    | with_reducible
        refine Kept.of (e := ?_) ?_ ?_ ?_ ?_ ?_ ?_ ?_ ?_ ?_ ?_ ?_ ?_ ?_
        rotate_left; iterate 12 exact rfl

theorem execImageImport_kept (rq : Request) (s : State) (h : Kept B Q K s) :
    ∃ s2, execImageImport rq s = .next s2 ∧ Kept B Q K s2 := by
  unfold execImageImport
  refine ⟨_, rfl, ?_⟩
  repeat' first
    | intro _
    | with_reducible first | assumption | apply serve_kept | apply cmdImageImport_kept
    | with_reducible
        refine Kept.of (e := ?_) ?_ ?_ ?_ ?_ ?_ ?_ ?_ ?_ ?_ ?_ ?_ ?_ ?_
        rotate_left; iterate 12 exact rfl

theorem execKeyWrite_kept (rq : Request) (s : State) (h : Kept B Q K s) :
    ∃ s2, execKeyWrite rq s = .next s2 ∧ Kept B Q K s2 := by
  unfold execKeyWrite
  refine ⟨_, rfl, ?_⟩
  repeat' first
    | intro _
    | with_reducible first | assumption | apply serve_kept | apply cmdKeyWrite_kept
    | with_reducible
        refine Kept.of (e := ?_) ?_ ?_ ?_ ?_ ?_ ?_ ?_ ?_ ?_ ?_ ?_ ?_ ?_
        rotate_left; iterate 12 exact rfl

theorem execKeyErase_kept (rq : Request) (s : State) (h : Kept B Q K s) :
    ∃ s2, execKeyErase rq s = .next s2 ∧ Kept B Q K s2 := by
  unfold execKeyErase
  refine ⟨_, rfl, ?_⟩
  repeat' first
    | intro _
    | with_reducible first | assumption | apply serve_kept | apply cmdKeyErase_kept
    | with_reducible
        refine Kept.of (e := ?_) ?_ ?_ ?_ ?_ ?_ ?_ ?_ ?_ ?_ ?_ ?_ ?_ ?_
        rotate_left; iterate 12 exact rfl

theorem execAttest_kept (rq : Request) (s : State) (h : Kept B Q K s) :
    ∃ s2, execAttest rq s = .next s2 ∧ Kept B Q K s2 := by
  unfold execAttest
  refine ⟨_, rfl, ?_⟩
  repeat' first
    | intro _
    | with_reducible first | assumption | apply serve_kept | apply cmdAttest_kept
    | with_reducible
        refine Kept.of (e := ?_) ?_ ?_ ?_ ?_ ?_ ?_ ?_ ?_ ?_ ?_ ?_ ?_ ?_
        rotate_left; iterate 12 exact rfl

theorem execFwBegin_kept (rq : Request) (s : State) (h : Kept B Q K s) :
    ∃ s2, execFwBegin rq s = .next s2 ∧ Kept B Q K s2 := by
  unfold execFwBegin
  refine ⟨_, rfl, ?_⟩
  repeat' first
    | intro _
    | with_reducible first | assumption | apply serve_kept | apply cmdFwBegin_kept
    | with_reducible
        refine Kept.of (e := ?_) ?_ ?_ ?_ ?_ ?_ ?_ ?_ ?_ ?_ ?_ ?_ ?_ ?_
        rotate_left; iterate 12 exact rfl

theorem execFwBlock_kept (rq : Request) (s : State) (h : Kept B Q K s) :
    ∃ s2, execFwBlock rq s = .next s2 ∧ Kept B Q K s2 := by
  unfold execFwBlock
  refine ⟨_, rfl, ?_⟩
  repeat' first
    | intro _
    | with_reducible first | assumption | apply serve_kept | apply cmdFwBlock_kept
    | with_reducible
        refine Kept.of (e := ?_) ?_ ?_ ?_ ?_ ?_ ?_ ?_ ?_ ?_ ?_ ?_ ?_ ?_
        rotate_left; iterate 12 exact rfl

theorem execFwActivate_kept (rq : Request) (s : State) (h : Kept B Q K s) :
    ∃ s2, execFwActivate rq s = .next s2 ∧ Kept B Q K s2 := by
  unfold execFwActivate
  refine ⟨_, rfl, ?_⟩
  repeat' first
    | intro _
    | with_reducible first | assumption | apply serve_kept | apply cmdFwActivate_kept
    | with_reducible
        refine Kept.of (e := ?_) ?_ ?_ ?_ ?_ ?_ ?_ ?_ ?_ ?_ ?_ ?_ ?_ ?_
        rotate_left; iterate 12 exact rfl

theorem execDebugUnlock_kept (rq : Request) (s : State) (h : Kept B Q K s) :
    ∃ s2, execDebugUnlock rq s = .next s2 ∧ Kept B Q K s2 := by
  unfold execDebugUnlock
  refine ⟨_, rfl, ?_⟩
  repeat' first
    | intro _
    | with_reducible first | assumption | apply serve_kept | apply cmdDebugUnlock_kept
    | with_reducible
        refine Kept.of (e := ?_) ?_ ?_ ?_ ?_ ?_ ?_ ?_ ?_ ?_ ?_ ?_ ?_ ?_
        rotate_left; iterate 12 exact rfl

theorem execDebugUnlockLapse_kept (s : State) (h : Kept B Q K s) :
    ∃ s2, execDebugUnlockLapse s = .next s2 ∧ Kept B Q K s2 := by
  unfold execDebugUnlockLapse
  refine ⟨_, rfl, ?_⟩
  repeat' first
    | intro _
    | with_reducible first | assumption
    | with_reducible
        refine Kept.of (e := ?_) ?_ ?_ ?_ ?_ ?_ ?_ ?_ ?_ ?_ ?_ ?_ ?_ ?_
        rotate_left; iterate 12 exact rfl

theorem execReset_kept (rq : Request) (s : State) (h : Kept B Q K s) :
    ∃ s2, execReset rq s = .next s2 ∧ Kept B Q K s2 := by
  unfold execReset
  refine ⟨_, rfl, ?_⟩
  repeat' first
    | intro _
    | with_reducible first | assumption | apply serve_kept | apply cmdReset_kept
    | with_reducible
        refine Kept.of (e := ?_) ?_ ?_ ?_ ?_ ?_ ?_ ?_ ?_ ?_ ?_ ?_ ?_ ?_
        rotate_left; iterate 12 exact rfl

theorem execResetExecute_kept (s : State) (h : Kept B Q K s) :
    ∃ s2, execResetExecute s = .next s2 ∧ Kept B Q K s2 := by
  unfold execResetExecute
  refine ⟨_, rfl, ?_⟩
  repeat' first
    | intro _
    | with_reducible first | assumption | apply Kept.ite | apply seqReset_kept
    | dsimp only
    | split
    | with_reducible
        refine Kept.of (e := ?_) ?_ ?_ ?_ ?_ ?_ ?_ ?_ ?_ ?_ ?_ ?_ ?_ ?_
        rotate_left; iterate 12 exact rfl

theorem execShelf_kept (rq : Request) (s : State) (h : Kept B Q K s) :
    ∃ s2, execShelf rq s = .next s2 ∧ Kept B Q K s2 := by
  unfold execShelf
  refine ⟨_, rfl, ?_⟩
  repeat' first
    | intro _
    | with_reducible first | assumption | apply serve_kept | apply cmdShelf_kept
    | with_reducible
        refine Kept.of (e := ?_) ?_ ?_ ?_ ?_ ?_ ?_ ?_ ?_ ?_ ?_ ?_ ?_ ?_
        rotate_left; iterate 12 exact rfl

theorem execDecommission_kept (rq : Request) (s : State) (h : Kept B Q K s) :
    ∃ s2, execDecommission rq s = .next s2 ∧ Kept B Q K s2 := by
  unfold execDecommission
  refine ⟨_, rfl, ?_⟩
  repeat' first
    | intro _
    | with_reducible first | assumption | apply serve_kept | apply cmdDecommission_kept
    | with_reducible
        refine Kept.of (e := ?_) ?_ ?_ ?_ ?_ ?_ ?_ ?_ ?_ ?_ ?_ ?_ ?_ ?_
        rotate_left; iterate 12 exact rfl

theorem execNvmProgramEraseComplete_kept (ok : Bool) (s : State) (h : Kept B Q K s) :
    ∃ s2, execNvmProgramEraseComplete ok s = .next s2 ∧ Kept B Q K s2 := by
  unfold execNvmProgramEraseComplete
  refine ⟨_, rfl, ?_⟩
  repeat' first
    | intro _
    | with_reducible first | assumption | apply taskEnd_kept | apply nvmDone_kept
    | dsimp only
    | split
    | with_reducible
        refine Kept.of (e := ?_) ?_ ?_ ?_ ?_ ?_ ?_ ?_ ?_ ?_ ?_ ?_ ?_ ?_
        rotate_left; iterate 12 exact rfl

theorem execKeyCommitSurplusCheck_kept (uw rectMv : Nat) (expired : Bool) (s : State) (h : Kept B Q K s) :
    ∃ s2, execKeyCommitSurplusCheck uw rectMv expired s = .next s2 ∧ Kept B Q K s2 := by
  unfold execKeyCommitSurplusCheck
  refine ⟨_, rfl, ?_⟩
  repeat' first
    | intro _
    | with_reducible first | assumption | apply Kept.ite | apply raiseP_kept | apply finish_kept
    | with_reducible first | apply startOp_kept
    | dsimp only
    | split
    | with_reducible
        refine Kept.of (e := ?_) ?_ ?_ ?_ ?_ ?_ ?_ ?_ ?_ ?_ ?_ ?_ ?_ ?_
        rotate_left; iterate 12 exact rfl

theorem execOnStaggerExpiry_kept (s : State) (h : Kept B Q K s) :
    ∃ s2, execOnStaggerExpiry s = .next s2 ∧ Kept B Q K s2 := by
  unfold execOnStaggerExpiry
  refine ⟨_, rfl, ?_⟩
  repeat' first
    | intro _
    | with_reducible first | assumption | apply Kept.ite | apply staggerNext_kept | apply settle_kept
    | dsimp only
    | split
    | with_reducible
        refine Kept.of (e := ?_) ?_ ?_ ?_ ?_ ?_ ?_ ?_ ?_ ?_ ?_ ?_ ?_ ?_
        rotate_left; iterate 12 exact rfl

theorem execU0BaudChange_kept (s : State) (h : Kept B Q K s) :
    ∃ s2, execU0BaudChange s = .next s2 ∧ Kept B Q K s2 := by
  unfold execU0BaudChange
  refine ⟨_, rfl, ?_⟩
  repeat' first
    | intro _
    | with_reducible first | assumption | apply Kept.ite
    | dsimp only
    | split
    | with_reducible
        refine Kept.of (e := ?_) ?_ ?_ ?_ ?_ ?_ ?_ ?_ ?_ ?_ ?_ ?_ ?_ ?_
        rotate_left; iterate 12 exact rfl

theorem execFwTrialConfirm_kept (s : State) (h : Kept B Q K s) :
    ∃ s2, execFwTrialConfirm s = .next s2 ∧ Kept B Q K s2 := by
  unfold execFwTrialConfirm
  refine ⟨_, rfl, ?_⟩
  repeat' first
    | intro _
    | with_reducible first | assumption | apply Kept.ite | apply confirm_kept
    | dsimp only
    | split
    | with_reducible
        refine Kept.of (e := ?_) ?_ ?_ ?_ ?_ ?_ ?_ ?_ ?_ ?_ ?_ ?_ ?_ ?_
        rotate_left; iterate 12 exact rfl

theorem execNfcSessionRenewal_kept (s : State) (h : Kept B Q K s) :
    ∃ s2, execNfcSessionRenewal s = .next s2 ∧ Kept B Q K s2 := by
  unfold execNfcSessionRenewal
  refine ⟨_, rfl, ?_⟩
  repeat' first
    | intro _
    | with_reducible first | assumption | apply Kept.ite | apply nfcReserve_kept | apply nfcRelease_kept
    | dsimp only
    | split
    | with_reducible
        refine Kept.of (e := ?_) ?_ ?_ ?_ ?_ ?_ ?_ ?_ ?_ ?_ ?_ ?_ ?_ ?_
        rotate_left; iterate 12 exact rfl

theorem execBlockOverrun_kept (level : Fin 6) (us : Nat) (s : State) (h : Kept B Q K s) :
    ∃ s2, execBlockOverrun level us s = .next s2 ∧ Kept B Q K s2 := by
  unfold execBlockOverrun
  refine ⟨_, rfl, ?_⟩
  repeat' first
    | intro _
    | with_reducible first | assumption | apply Kept.ite | apply raiseP_kept
    | dsimp only
    | split
    | with_reducible
        refine Kept.of (e := ?_) ?_ ?_ ?_ ?_ ?_ ?_ ?_ ?_ ?_ ?_ ?_ ?_ ?_
        rotate_left; iterate 12 exact rfl

theorem execNfcReqa_kept (rectMv : Nat) (s : State) (h : Kept B Q K s) :
    ∃ s2, execNfcReqa rectMv s = .next s2 ∧ Kept B Q K s2 := by
  unfold execNfcReqa
  refine ⟨_, rfl, ?_⟩
  repeat' first
    | intro _
    | with_reducible first | assumption | apply Kept.ite | apply nfcId_kept
    | dsimp only
    | split
    | with_reducible
        refine Kept.of (e := ?_) ?_ ?_ ?_ ?_ ?_ ?_ ?_ ?_ ?_ ?_ ?_ ?_ ?_
        rotate_left; iterate 12 exact rfl

theorem execNfcAnticollision_kept (uid : BitVec 32) (s : State) (h : Kept B Q K s) :
    ∃ s2, execNfcAnticollision uid s = .next s2 ∧ Kept B Q K s2 := by
  unfold execNfcAnticollision
  refine ⟨_, rfl, ?_⟩
  repeat' first
    | intro _
    | with_reducible first | assumption | apply Kept.ite | apply nfcOut_kept
    | dsimp only
    | split
    | with_reducible
        refine Kept.of (e := ?_) ?_ ?_ ?_ ?_ ?_ ?_ ?_ ?_ ?_ ?_ ?_ ?_ ?_
        rotate_left; iterate 12 exact rfl

theorem execNfcRats_kept (param : Byte) (s : State) (h : Kept B Q K s) :
    ∃ s2, execNfcRats param s = .next s2 ∧ Kept B Q K s2 := by
  unfold execNfcRats
  refine ⟨_, rfl, ?_⟩
  repeat' first
    | intro _
    | with_reducible first | assumption | apply Kept.ite | apply nfcOut_kept | apply protoErr_kept
    | dsimp only
    | split
    | with_reducible
        refine Kept.of (e := ?_) ?_ ?_ ?_ ?_ ?_ ?_ ?_ ?_ ?_ ?_ ?_ ?_ ?_
        rotate_left; iterate 12 exact rfl

theorem execNfcPps_kept (param : Byte) (s : State) (h : Kept B Q K s) :
    ∃ s2, execNfcPps param s = .next s2 ∧ Kept B Q K s2 := by
  unfold execNfcPps
  refine ⟨_, rfl, ?_⟩
  repeat' first
    | intro _
    | with_reducible first | assumption | apply Kept.ite | apply nfcOut_kept | apply protoErr_kept
    | dsimp only
    | split
    | with_reducible
        refine Kept.of (e := ?_) ?_ ?_ ?_ ?_ ?_ ?_ ?_ ?_ ?_ ?_ ?_ ?_ ?_
        rotate_left; iterate 12 exact rfl

theorem execAppSelect_kept (bytes : List Byte) (s : State) (h : Kept B Q K s) :
    ∃ s2, execAppSelect bytes s = .next s2 ∧ Kept B Q K s2 := by
  unfold execAppSelect
  refine ⟨_, rfl, ?_⟩
  repeat' first
    | intro _
    | with_reducible first | assumption | apply Kept.ite | apply selectApdu_kept | apply holdApdu_kept
    | dsimp only
    | split
    | with_reducible
        refine Kept.of (e := ?_) ?_ ?_ ?_ ?_ ?_ ?_ ?_ ?_ ?_ ?_ ?_ ?_ ?_
        rotate_left; iterate 12 exact rfl

theorem execReadBinary_kept (file : BitVec 16) (offset len : Nat) (s : State) (h : Kept B Q K s) :
    ∃ s2, execReadBinary file offset len s = .next s2 ∧ Kept B Q K s2 := by
  unfold execReadBinary
  refine ⟨_, rfl, ?_⟩
  repeat' first
    | intro _
    | with_reducible first | assumption | apply Kept.ite | apply apduSw_kept | apply selectFile_kept
    | with_reducible first | apply readFile_kept | apply holdApdu_kept
    | dsimp only
    | split
    | with_reducible
        refine Kept.of (e := ?_) ?_ ?_ ?_ ?_ ?_ ?_ ?_ ?_ ?_ ?_ ?_ ?_ ?_
        rotate_left; iterate 12 exact rfl

theorem execUpdateBinary_kept (s : State) (h : Kept B Q K s) :
    ∃ s2, execUpdateBinary s = .next s2 ∧ Kept B Q K s2 := by
  unfold execUpdateBinary
  refine ⟨_, rfl, ?_⟩
  repeat' first
    | intro _
    | with_reducible first | assumption | apply Kept.ite | apply apduSw_kept | apply holdApdu_kept
    | dsimp only
    | split
    | with_reducible
        refine Kept.of (e := ?_) ?_ ?_ ?_ ?_ ?_ ?_ ?_ ?_ ?_ ?_ ?_ ?_ ?_
        rotate_left; iterate 12 exact rfl

theorem execFieldLost_kept (s : State) (h : Kept B Q K s) :
    ∃ s2, execFieldLost s = .next s2 ∧ Kept B Q K s2 := by
  unfold execFieldLost
  refine ⟨_, rfl, ?_⟩
  repeat' first
    | intro _
    | with_reducible first | assumption | apply Kept.ite | apply nfcSessionEnd_kept
    | dsimp only
    | split
    | with_reducible
        refine Kept.of (e := ?_) ?_ ?_ ?_ ?_ ?_ ?_ ?_ ?_ ?_ ?_ ?_ ?_ ?_
        rotate_left; iterate 12 exact rfl

theorem execBusUvFall_kept (vbusMv : Int) (s : State) (h : Kept B Q K s) :
    ∃ s2, execBusUvFall vbusMv s = .next s2 ∧ Kept B Q K s2 := by
  unfold execBusUvFall
  refine ⟨_, rfl, ?_⟩
  repeat' first
    | intro _
    | with_reducible first | assumption | apply Kept.ite | apply raiseP_kept | apply tb8Eval_kept
    | with_reducible first | apply setVbus_kept | apply loseBus_kept
    | dsimp only
    | split
    | with_reducible
        refine Kept.of (e := ?_) ?_ ?_ ?_ ?_ ?_ ?_ ?_ ?_ ?_ ?_ ?_ ?_ ?_
        rotate_left; iterate 12 exact rfl

theorem execBusQualify_kept (vbusMv : Int) (s : State) (h : Kept B Q K s) :
    ∃ s2, execBusQualify vbusMv s = .next s2 ∧ Kept B Q K s2 := by
  unfold execBusQualify
  refine ⟨_, rfl, ?_⟩
  repeat' first
    | intro _
    | with_reducible first | assumption | apply Kept.ite | apply setVbus_kept | apply gainBus_kept
    | dsimp only
    | split
    | with_reducible
        refine Kept.of (e := ?_) ?_ ?_ ?_ ?_ ?_ ?_ ?_ ?_ ?_ ?_ ?_ ?_ ?_
        rotate_left; iterate 12 exact rfl

theorem execBusLost_kept (s : State) (h : Kept B Q K s) :
    ∃ s2, execBusLost s = .next s2 ∧ Kept B Q K s2 := by
  unfold execBusLost
  refine ⟨_, rfl, ?_⟩
  repeat' first
    | intro _
    | with_reducible first | assumption | apply Kept.ite | apply raiseOnce_kept | apply toRun_kept
    | with_reducible first | apply shutdownBegin_kept
    | dsimp only
    | split
    | with_reducible
        refine Kept.of (e := ?_) ?_ ?_ ?_ ?_ ?_ ?_ ?_ ?_ ?_ ?_ ?_ ?_ ?_
        rotate_left; iterate 12 exact rfl

theorem execBusFullCrossing_kept (rising : Bool) (vbusMv : Int) (s : State) (h : Kept B Q K s) :
    ∃ s2, execBusFullCrossing rising vbusMv s = .next s2 ∧ Kept B Q K s2 := by
  unfold execBusFullCrossing
  refine ⟨_, rfl, ?_⟩
  repeat' first
    | intro _
    | with_reducible first | assumption | apply Kept.ite | apply setC_kept | apply busPins_kept
    | with_reducible first | apply restartAll_kept | apply restartSupplies_kept | apply setVbus_kept
    | dsimp only
    | split
    | with_reducible
        refine Kept.of (e := ?_) ?_ ?_ ?_ ?_ ?_ ?_ ?_ ?_ ?_ ?_ ?_ ?_ ?_
        rotate_left; iterate 12 exact rfl

theorem execBusHighCrossing_kept (rising : Bool) (vbusMv : Int) (s : State) (h : Kept B Q K s) :
    ∃ s2, execBusHighCrossing rising vbusMv s = .next s2 ∧ Kept B Q K s2 := by
  unfold execBusHighCrossing
  refine ⟨_, rfl, ?_⟩
  repeat' first
    | intro _
    | with_reducible first | assumption | apply Kept.ite | apply setC_kept | apply setVbus_kept
    | dsimp only
    | split
    | with_reducible
        refine Kept.of (e := ?_) ?_ ?_ ?_ ?_ ?_ ?_ ?_ ?_ ?_ ?_ ?_ ?_ ?_
        rotate_left; iterate 12 exact rfl

theorem execBusOv_kept (vbusMv : Int) (s : State) (h : Kept B Q K s) :
    ∃ s2, execBusOv vbusMv s = .next s2 ∧ Kept B Q K s2 := by
  unfold execBusOv
  refine ⟨_, rfl, ?_⟩
  repeat' first
    | intro _
    | with_reducible first | assumption | apply Kept.ite | apply raiseOnce_kept | apply tb8Eval_kept
    | with_reducible first | apply remap_kept | apply settle_kept | apply setVbus_kept | apply vinOv_kept
    | with_reducible first | apply Kept.foldl
    | dsimp only
    | split
    | with_reducible
        refine Kept.of (e := ?_) ?_ ?_ ?_ ?_ ?_ ?_ ?_ ?_ ?_ ?_ ?_ ?_ ?_
        rotate_left; iterate 12 exact rfl

theorem execBusDump_kept (vbusMv : Int) (s : State) (h : Kept B Q K s) :
    ∃ s2, execBusDump vbusMv s = .next s2 ∧ Kept B Q K s2 := by
  unfold execBusDump
  refine ⟨_, rfl, ?_⟩
  repeat' first
    | intro _
    | with_reducible first | assumption | apply Kept.ite | apply raiseC_kept | apply setVbus_kept
    | dsimp only
    | split
    | with_reducible
        refine Kept.of (e := ?_) ?_ ?_ ?_ ?_ ?_ ?_ ?_ ?_ ?_ ?_ ?_ ?_ ?_
        rotate_left; iterate 12 exact rfl

theorem execBusReverse_kept (vbusMv : Int) (s : State) (h : Kept B Q K s) :
    ∃ s2, execBusReverse vbusMv s = .next s2 ∧ Kept B Q K s2 := by
  unfold execBusReverse
  refine ⟨_, rfl, ?_⟩
  repeat' first
    | intro _
    | with_reducible first | assumption | apply Kept.ite | apply raiseOnce_kept | apply tb8Eval_kept
    | with_reducible first | apply setVbus_kept | apply loseBus_kept
    | dsimp only
    | split
    | with_reducible
        refine Kept.of (e := ?_) ?_ ?_ ?_ ?_ ?_ ?_ ?_ ?_ ?_ ?_ ?_ ?_ ?_
        rotate_left; iterate 12 exact rfl

theorem execGndOpen_kept (s : State) (h : Kept B Q K s) :
    ∃ s2, execGndOpen s = .next s2 ∧ Kept B Q K s2 := by
  unfold execGndOpen
  refine ⟨_, rfl, ?_⟩
  repeat' first
    | intro _
    | with_reducible first | assumption | apply Kept.ite | apply raiseOnce_kept | apply tb8Eval_kept
    | with_reducible first | apply loseBus_kept
    | dsimp only
    | split
    | with_reducible
        refine Kept.of (e := ?_) ?_ ?_ ?_ ?_ ?_ ?_ ?_ ?_ ?_ ?_ ?_ ?_ ?_
        rotate_left; iterate 12 exact rfl

theorem execGndOpenClear_kept (s : State) (h : Kept B Q K s) :
    ∃ s2, execGndOpenClear s = .next s2 ∧ Kept B Q K s2 := by
  unfold execGndOpenClear
  refine ⟨_, rfl, ?_⟩
  repeat' first
    | intro _
    | with_reducible first | assumption | apply clearE_kept | apply refresh_kept | apply Kept.foldl
    | with_reducible
        refine Kept.of (e := ?_) ?_ ?_ ?_ ?_ ?_ ?_ ?_ ?_ ?_ ?_ ?_ ?_ ?_
        rotate_left; iterate 12 exact rfl

theorem execHandoverMake_kept (s : State) (h : Kept B Q K s) :
    ∃ s2, execHandoverMake s = .next s2 ∧ Kept B Q K s2 := by
  unfold execHandoverMake
  refine ⟨_, rfl, ?_⟩
  repeat' first
    | intro _
    | with_reducible first | assumption | apply Kept.ite | apply handover_kept | apply make_kept
    | dsimp only
    | split
    | with_reducible
        refine Kept.of (e := ?_) ?_ ?_ ?_ ?_ ?_ ?_ ?_ ?_ ?_ ?_ ?_ ?_ ?_
        rotate_left; iterate 12 exact rfl

theorem execDwellExpiry_kept (s : State) (h : Kept B Q K s) :
    ∃ s2, execDwellExpiry s = .next s2 ∧ Kept B Q K s2 := by
  unfold execDwellExpiry
  refine ⟨_, rfl, ?_⟩
  repeat' first
    | intro _
    | with_reducible first | assumption | apply Kept.ite | apply upgrade_kept
    | dsimp only
    | split
    | with_reducible
        refine Kept.of (e := ?_) ?_ ?_ ?_ ?_ ?_ ?_ ?_ ?_ ?_ ?_ ?_ ?_ ?_
        rotate_left; iterate 12 exact rfl

theorem execVselCollapseAfterMake_kept (s : State) (h : Kept B Q K s) :
    ∃ s2, execVselCollapseAfterMake s = .next s2 ∧ Kept B Q K s2 := by
  unfold execVselCollapseAfterMake
  refine ⟨_, rfl, ?_⟩
  repeat' first
    | intro _
    | with_reducible first | assumption | apply disqualify_kept | apply loseBus_kept
    | dsimp only
    | split
    | with_reducible
        refine Kept.of (e := ?_) ?_ ?_ ?_ ?_ ?_ ?_ ?_ ?_ ?_ ?_ ?_ ?_ ?_
        rotate_left; iterate 12 exact rfl

theorem execStoQualify_kept (stoMv : Nat) (s : State) (h : Kept B Q K s) :
    ∃ s2, execStoQualify stoMv s = .next s2 ∧ Kept B Q K s2 := by
  unfold execStoQualify
  refine ⟨_, rfl, ?_⟩
  repeat' first
    | intro _
    | with_reducible first | assumption | apply Kept.ite | apply qualify_kept | apply setSto_kept
    | dsimp only
    | split
    | with_reducible
        refine Kept.of (e := ?_) ?_ ?_ ?_ ?_ ?_ ?_ ?_ ?_ ?_ ?_ ?_ ?_ ?_
        rotate_left; iterate 12 exact rfl

theorem execStoDisqualify_kept (stoMv : Nat) (s : State) (h : Kept B Q K s) :
    ∃ s2, execStoDisqualify stoMv s = .next s2 ∧ Kept B Q K s2 := by
  unfold execStoDisqualify
  refine ⟨_, rfl, ?_⟩
  repeat' first
    | intro _
    | with_reducible first | assumption | apply Kept.ite | apply vhostEval_kept | apply disqualify_kept
    | with_reducible first | apply setSto_kept
    | dsimp only
    | split
    | with_reducible
        refine Kept.of (e := ?_) ?_ ?_ ?_ ?_ ?_ ?_ ?_ ?_ ?_ ?_ ?_ ?_ ?_
        rotate_left; iterate 12 exact rfl

theorem execFieldQualify_kept (s : State) (h : Kept B Q K s) :
    ∃ s2, execFieldQualify s = .next s2 ∧ Kept B Q K s2 := by
  unfold execFieldQualify
  refine ⟨_, rfl, ?_⟩
  repeat' first
    | intro _
    | with_reducible first | assumption | apply Kept.ite | apply toRun_kept | apply handover_kept
    | with_reducible first | apply qualify_kept
    | dsimp only
    | split
    | with_reducible
        refine Kept.of (e := ?_) ?_ ?_ ?_ ?_ ?_ ?_ ?_ ?_ ?_ ?_ ?_ ?_ ?_
        rotate_left; iterate 12 exact rfl

theorem execFieldDisqualify_kept (s : State) (h : Kept B Q K s) :
    ∃ s2, execFieldDisqualify s = .next s2 ∧ Kept B Q K s2 := by
  unfold execFieldDisqualify
  refine ⟨_, rfl, ?_⟩
  repeat' first
    | intro _
    | with_reducible first | assumption | apply Kept.ite | apply disqualify_kept
    | dsimp only
    | split
    | with_reducible
        refine Kept.of (e := ?_) ?_ ?_ ?_ ?_ ?_ ?_ ?_ ?_ ?_ ?_ ?_ ?_ ?_
        rotate_left; iterate 12 exact rfl

theorem execBakQualifyChange_kept (bakMv : Int) (s : State) (h : Kept B Q K s) :
    ∃ s2, execBakQualifyChange bakMv s = .next s2 ∧ Kept B Q K s2 := by
  unfold execBakQualifyChange
  refine ⟨_, rfl, ?_⟩
  repeat' first
    | intro _
    | with_reducible first | assumption | apply Kept.ite | apply disqualify_kept | apply qualify_kept
    | dsimp only
    | split
    | with_reducible
        refine Kept.of (e := ?_) ?_ ?_ ?_ ?_ ?_ ?_ ?_ ?_ ?_ ?_ ?_ ?_ ?_
        rotate_left; iterate 12 exact rfl

theorem execPlinthSupplyFail_kept (s : State) (h : Kept B Q K s) :
    ∃ s2, execPlinthSupplyFail s = .next s2 ∧ Kept B Q K s2 := by
  unfold execPlinthSupplyFail
  refine ⟨_, rfl, ?_⟩
  repeat' first
    | intro _
    | with_reducible first | assumption | apply Kept.ite | apply handover_kept | apply supplyOff_kept
    | dsimp only
    | split
    | with_reducible
        refine Kept.of (e := ?_) ?_ ?_ ?_ ?_ ?_ ?_ ?_ ?_ ?_ ?_ ?_ ?_ ?_
        rotate_left; iterate 12 exact rfl

theorem execScDerateChange_kept (tempC : Int) (s : State) (h : Kept B Q K s) :
    ∃ s2, execScDerateChange tempC s = .next s2 ∧ Kept B Q K s2 := by
  unfold execScDerateChange
  refine ⟨_, rfl, ?_⟩
  repeat' first
    | intro _
    | with_reducible first | assumption | apply evalLedger_kept
    | dsimp only
    | split
    | with_reducible
        refine Kept.of (e := ?_) ?_ ?_ ?_ ?_ ?_ ?_ ?_ ?_ ?_ ?_ ?_ ?_ ?_
        rotate_left; iterate 12 exact rfl

theorem execStoShortDetect_kept (stoMv : Nat) (s : State) (h : Kept B Q K s) :
    ∃ s2, execStoShortDetect stoMv s = .next s2 ∧ Kept B Q K s2 := by
  unfold execStoShortDetect
  refine ⟨_, rfl, ?_⟩
  repeat' first
    | intro _
    | with_reducible first | assumption | apply Kept.ite | apply setSto_kept | apply stoLost_kept
    | dsimp only
    | split
    | with_reducible
        refine Kept.of (e := ?_) ?_ ?_ ?_ ?_ ?_ ?_ ?_ ?_ ?_ ?_ ?_ ?_ ?_
        rotate_left; iterate 12 exact rfl

theorem execStoShortRetry_kept (stoMv : Nat) (s : State) (h : Kept B Q K s) :
    ∃ s2, execStoShortRetry stoMv s = .next s2 ∧ Kept B Q K s2 := by
  unfold execStoShortRetry
  refine ⟨_, rfl, ?_⟩
  repeat' first
    | intro _
    | with_reducible first | assumption | apply Kept.ite | apply clearR_kept | apply evalLedger_kept
    | with_reducible first | apply setSto_kept
    | dsimp only
    | split
    | with_reducible
        refine Kept.of (e := ?_) ?_ ?_ ?_ ?_ ?_ ?_ ?_ ?_ ?_ ?_ ?_ ?_ ?_
        rotate_left; iterate 12 exact rfl

theorem execStoOpenDetect_kept (stoMv : Nat) (s : State) (h : Kept B Q K s) :
    ∃ s2, execStoOpenDetect stoMv s = .next s2 ∧ Kept B Q K s2 := by
  unfold execStoOpenDetect
  refine ⟨_, rfl, ?_⟩
  repeat' first
    | intro _
    | with_reducible first | assumption | apply setSto_kept | apply stoLost_kept
    | with_reducible
        refine Kept.of (e := ?_) ?_ ?_ ?_ ?_ ?_ ?_ ?_ ?_ ?_ ?_ ?_ ?_ ?_
        rotate_left; iterate 12 exact rfl

theorem execStoOvervoltage_kept (stoMv : Nat) (s : State) (h : Kept B Q K s) :
    ∃ s2, execStoOvervoltage stoMv s = .next s2 ∧ Kept B Q K s2 := by
  unfold execStoOvervoltage
  refine ⟨_, rfl, ?_⟩
  repeat' first
    | intro _
    | with_reducible first | assumption | apply Kept.ite | apply raiseOnce_kept | apply setSto_kept
    | dsimp only
    | split
    | with_reducible
        refine Kept.of (e := ?_) ?_ ?_ ?_ ?_ ?_ ?_ ?_ ?_ ?_ ?_ ?_ ?_ ?_
        rotate_left; iterate 12 exact rfl

theorem execPrechargeTimeout_kept (stoMv : Nat) (s : State) (h : Kept B Q K s) :
    ∃ s2, execPrechargeTimeout stoMv s = .next s2 ∧ Kept B Q K s2 := by
  unfold execPrechargeTimeout
  refine ⟨_, rfl, ?_⟩
  repeat' first
    | intro _
    | with_reducible first | assumption | apply Kept.ite | apply raiseOnce_kept | apply setSto_kept
    | dsimp only
    | split
    | with_reducible
        refine Kept.of (e := ?_) ?_ ?_ ?_ ?_ ?_ ?_ ?_ ?_ ?_ ?_ ?_ ?_ ?_
        rotate_left; iterate 12 exact rfl

theorem execMidOpen_kept (midMv : Nat) (s : State) (h : Kept B Q K s) :
    ∃ s2, execMidOpen midMv s = .next s2 ∧ Kept B Q K s2 := by
  unfold execMidOpen
  refine ⟨_, rfl, ?_⟩
  repeat' first
    | intro _
    | with_reducible first | assumption | apply Kept.ite | apply raiseOnce_kept | apply evalLedger_kept
    | dsimp only
    | split
    | with_reducible
        refine Kept.of (e := ?_) ?_ ?_ ?_ ?_ ?_ ?_ ?_ ?_ ?_ ?_ ?_ ?_ ?_
        rotate_left; iterate 12 exact rfl

theorem execMidOpenClear_kept (midMv : Nat) (s : State) (h : Kept B Q K s) :
    ∃ s2, execMidOpenClear midMv s = .next s2 ∧ Kept B Q K s2 := by
  unfold execMidOpenClear
  refine ⟨_, rfl, ?_⟩
  repeat' first
    | intro _
    | with_reducible first | assumption | apply Kept.ite | apply clearR_kept | apply evalLedger_kept
    | dsimp only
    | split
    | with_reducible
        refine Kept.of (e := ?_) ?_ ?_ ?_ ?_ ?_ ?_ ?_ ?_ ?_ ?_ ?_ ?_ ?_
        rotate_left; iterate 12 exact rfl

theorem execStoImbalance_kept (cleared : Bool) (s : State) (h : Kept B Q K s) :
    ∃ s2, execStoImbalance cleared s = .next s2 ∧ Kept B Q K s2 := by
  unfold execStoImbalance
  refine ⟨_, rfl, ?_⟩
  repeat' first
    | intro _
    | with_reducible first | assumption | apply Kept.ite | apply raiseOnce_kept | apply clearE_kept
    | dsimp only
    | split
    | with_reducible
        refine Kept.of (e := ?_) ?_ ?_ ?_ ?_ ?_ ?_ ?_ ?_ ?_ ?_ ?_ ?_ ?_
        rotate_left; iterate 12 exact rfl

theorem execBalancerStop_kept (s : State) (h : Kept B Q K s) :
    ∃ s2, execBalancerStop s = .next s2 ∧ Kept B Q K s2 := by
  unfold execBalancerStop
  refine ⟨_, rfl, ?_⟩
  repeat' first
    | intro _
    | with_reducible first | assumption | apply Kept.ite
    | dsimp only
    | split
    | with_reducible
        refine Kept.of (e := ?_) ?_ ?_ ?_ ?_ ?_ ?_ ?_ ?_ ?_ ?_ ?_ ?_ ?_
        rotate_left; iterate 12 exact rfl

theorem execBakMeasure_kept (bakMv : Int) (loaded : Bool) (s : State) (h : Kept B Q K s) :
    ∃ s2, execBakMeasure bakMv loaded s = .next s2 ∧ Kept B Q K s2 := by
  unfold execBakMeasure
  refine ⟨_, rfl, ?_⟩
  repeat' first
    | intro _
    | with_reducible first | assumption | apply Kept.ite | apply setC_kept | apply bakDrawn_kept
    | dsimp only
    | split
    | with_reducible
        refine Kept.of (e := ?_) ?_ ?_ ?_ ?_ ?_ ?_ ?_ ?_ ?_ ?_ ?_ ?_ ?_
        rotate_left; iterate 12 exact rfl

theorem execVhostCurrentLimit_kept (loadMa : Nat) (s : State) (h : Kept B Q K s) :
    ∃ s2, execVhostCurrentLimit loadMa s = .next s2 ∧ Kept B Q K s2 := by
  unfold execVhostCurrentLimit
  refine ⟨_, rfl, ?_⟩
  repeat' first
    | intro _
    | with_reducible first | assumption | apply Kept.ite
    | dsimp only
    | split
    | with_reducible
        refine Kept.of (e := ?_) ?_ ?_ ?_ ?_ ?_ ?_ ?_ ?_ ?_ ?_ ?_ ?_ ?_
        rotate_left; iterate 12 exact rfl

theorem execVhostRetry_kept (failed : Bool) (s : State) (h : Kept B Q K s) :
    ∃ s2, execVhostRetry failed s = .next s2 ∧ Kept B Q K s2 := by
  unfold execVhostRetry
  refine ⟨_, rfl, ?_⟩
  repeat' first
    | intro _
    | with_reducible first | assumption | apply Kept.ite | apply raiseOnce_kept | apply vhostEval_kept
    | dsimp only
    | split
    | with_reducible
        refine Kept.of (e := ?_) ?_ ?_ ?_ ?_ ?_ ?_ ?_ ?_ ?_ ?_ ?_ ?_ ?_
        rotate_left; iterate 12 exact rfl

theorem execCscStart_kept (p : PassiveIn) (s : State) (h : Kept B Q K s) :
    ∃ s2, execCscStart p s = .next s2 ∧ Kept B Q K s2 := by
  unfold execCscStart
  refine ⟨_, rfl, ?_⟩
  repeat' first
    | intro _
    | with_reducible first | assumption | apply Kept.ite | apply cscSample_kept
    | dsimp only
    | split
    | with_reducible
        refine Kept.of (e := ?_) ?_ ?_ ?_ ?_ ?_ ?_ ?_ ?_ ?_ ?_ ?_ ?_ ?_
        rotate_left; iterate 12 exact rfl

theorem execCscStop_kept (s : State) (h : Kept B Q K s) :
    ∃ s2, execCscStop s = .next s2 ∧ Kept B Q K s2 := by
  unfold execCscStop
  refine ⟨_, rfl, ?_⟩
  repeat' first
    | intro _
    | with_reducible first | assumption | apply Kept.ite
    | dsimp only
    | split
    | with_reducible
        refine Kept.of (e := ?_) ?_ ?_ ?_ ?_ ?_ ?_ ?_ ?_ ?_ ?_ ?_ ?_ ?_
        rotate_left; iterate 12 exact rfl

theorem execCscVocSample_kept (p : PassiveIn) (s : State) (h : Kept B Q K s) :
    ∃ s2, execCscVocSample p s = .next s2 ∧ Kept B Q K s2 := by
  unfold execCscVocSample
  refine ⟨_, rfl, ?_⟩
  repeat' first
    | intro _
    | with_reducible first | assumption | apply Kept.ite | apply cscSample_kept
    | dsimp only
    | split
    | with_reducible
        refine Kept.of (e := ?_) ?_ ?_ ?_ ?_ ?_ ?_ ?_ ?_ ?_ ?_ ?_ ?_ ?_
        rotate_left; iterate 12 exact rfl

theorem execPlinthStartFromSto_kept (stoMv : Nat) (delivering : BitVec 4) (straps : Straps) (s : State)
    (h : Kept B Q K s) :
    ∃ s2, execPlinthStartFromSto stoMv delivering straps s = .next s2 ∧ Kept B Q K s2 := by
  unfold execPlinthStartFromSto
  refine ⟨_, rfl, ?_⟩
  repeat' first
    | intro _
    | with_reducible first | assumption | apply Kept.ite | apply startFromSto_kept
    | dsimp only
    | split
    | with_reducible
        refine Kept.of (e := ?_) ?_ ?_ ?_ ?_ ?_ ?_ ?_ ?_ ?_ ?_ ?_ ?_ ?_
        rotate_left; iterate 12 exact rfl

theorem execColdBootTrigger_kept (stoMv : Nat) (s : State) (h : Kept B Q K s) :
    ∃ s2, execColdBootTrigger stoMv s = .next s2 ∧ Kept B Q K s2 := by
  unfold execColdBootTrigger
  refine ⟨_, rfl, ?_⟩
  repeat' first
    | intro _
    | with_reducible first | assumption | apply Kept.ite | apply bootBegin_kept | apply setSto_kept
    | dsimp only
    | split
    | with_reducible
        refine Kept.of (e := ?_) ?_ ?_ ?_ ?_ ?_ ?_ ?_ ?_ ?_ ?_ ?_ ?_ ?_
        rotate_left; iterate 12 exact rfl

theorem execTegUp_kept (vocUv : Nat) (s : State) (h : Kept B Q K s) :
    ∃ s2, execTegUp vocUv s = .next s2 ∧ Kept B Q K s2 := by
  unfold execTegUp
  refine ⟨_, rfl, ?_⟩
  repeat' first
    | intro _
    | with_reducible first | assumption | apply Kept.ite | apply raiseP_kept | apply hrvStart_kept
    | dsimp only
    | split
    | with_reducible
        refine Kept.of (e := ?_) ?_ ?_ ?_ ?_ ?_ ?_ ?_ ?_ ?_ ?_ ?_ ?_ ?_
        rotate_left; iterate 12 exact rfl

theorem execTegLost_kept (s : State) (h : Kept B Q K s) :
    ∃ s2, execTegLost s = .next s2 ∧ Kept B Q K s2 := by
  unfold execTegLost
  refine ⟨_, rfl, ?_⟩
  repeat' first
    | intro _
    | with_reducible first | assumption | apply Kept.ite | apply raiseP_kept | apply hrvStop_kept
    | dsimp only
    | split
    | with_reducible
        refine Kept.of (e := ?_) ?_ ?_ ?_ ?_ ?_ ?_ ?_ ?_ ?_ ?_ ?_ ?_ ?_
        rotate_left; iterate 12 exact rfl

theorem execVibUp_kept (vocUv hz : Nat) (s : State) (h : Kept B Q K s) :
    ∃ s2, execVibUp vocUv hz s = .next s2 ∧ Kept B Q K s2 := by
  unfold execVibUp
  refine ⟨_, rfl, ?_⟩
  repeat' first
    | intro _
    | with_reducible first | assumption | apply Kept.ite | apply raiseP_kept | apply hrvStart_kept
    | dsimp only
    | split
    | with_reducible
        refine Kept.of (e := ?_) ?_ ?_ ?_ ?_ ?_ ?_ ?_ ?_ ?_ ?_ ?_ ?_ ?_
        rotate_left; iterate 12 exact rfl

theorem execVibLost_kept (s : State) (h : Kept B Q K s) :
    ∃ s2, execVibLost s = .next s2 ∧ Kept B Q K s2 := by
  unfold execVibLost
  refine ⟨_, rfl, ?_⟩
  repeat' first
    | intro _
    | with_reducible first | assumption | apply Kept.ite | apply raiseP_kept | apply hrvStop_kept
    | dsimp only
    | split
    | with_reducible
        refine Kept.of (e := ?_) ?_ ?_ ?_ ?_ ?_ ?_ ?_ ?_ ?_ ?_ ?_ ?_ ?_
        rotate_left; iterate 12 exact rfl

theorem execPvUp_kept (vocUv : Nat) (s : State) (h : Kept B Q K s) :
    ∃ s2, execPvUp vocUv s = .next s2 ∧ Kept B Q K s2 := by
  unfold execPvUp
  refine ⟨_, rfl, ?_⟩
  repeat' first
    | intro _
    | with_reducible first | assumption | apply Kept.ite | apply raiseP_kept | apply hrvStart_kept
    | dsimp only
    | split
    | with_reducible
        refine Kept.of (e := ?_) ?_ ?_ ?_ ?_ ?_ ?_ ?_ ?_ ?_ ?_ ?_ ?_ ?_
        rotate_left; iterate 12 exact rfl

theorem execPvLost_kept (s : State) (h : Kept B Q K s) :
    ∃ s2, execPvLost s = .next s2 ∧ Kept B Q K s2 := by
  unfold execPvLost
  refine ⟨_, rfl, ?_⟩
  repeat' first
    | intro _
    | with_reducible first | assumption | apply Kept.ite | apply raiseP_kept | apply hrvStop_kept
    | dsimp only
    | split
    | with_reducible
        refine Kept.of (e := ?_) ?_ ?_ ?_ ?_ ?_ ?_ ?_ ?_ ?_ ?_ ?_ ?_ ?_
        rotate_left; iterate 12 exact rfl

theorem execNfcHrv_kept (rectMv uw : Nat) (s : State) (h : Kept B Q K s) :
    ∃ s2, execNfcHrv rectMv uw s = .next s2 ∧ Kept B Q K s2 := by
  unfold execNfcHrv
  refine ⟨_, rfl, ?_⟩
  repeat' first
    | intro _
    | with_reducible first | assumption | apply Kept.ite | apply raiseP_kept | apply regulate_kept
    | dsimp only
    | split
    | with_reducible
        refine Kept.of (e := ?_) ?_ ?_ ?_ ?_ ?_ ?_ ?_ ?_ ?_ ?_ ?_ ?_ ?_
        rotate_left; iterate 12 exact rfl

theorem execTrackerPeriod_kept (c : HarvestCh) (meanUw : Nat) (s : State) (h : Kept B Q K s) :
    ∃ s2, execTrackerPeriod c meanUw s = .next s2 ∧ Kept B Q K s2 := by
  unfold execTrackerPeriod
  refine ⟨_, rfl, ?_⟩
  repeat' first
    | intro _
    | with_reducible first | assumption | apply Kept.ite | apply clearD_kept | apply perturb_kept
    | with_reducible first | apply limitHrv_kept
    | dsimp only
    | split
    | with_reducible
        refine Kept.of (e := ?_) ?_ ?_ ?_ ?_ ?_ ?_ ?_ ?_ ?_ ?_ ?_ ?_ ?_
        rotate_left; iterate 12 exact rfl

theorem execTrackerSkip_kept (c : HarvestCh) (s : State) (h : Kept B Q K s) :
    ∃ s2, execTrackerSkip c s = .next s2 ∧ Kept B Q K s2 := by
  unfold execTrackerSkip
  refine ⟨_, rfl, ?_⟩
  repeat' first
    | intro _
    | with_reducible first | assumption | apply Kept.ite | apply raiseOnce_kept | apply onTracker_kept
    | dsimp only
    | split
    | with_reducible
        refine Kept.of (e := ?_) ?_ ?_ ?_ ?_ ?_ ?_ ?_ ?_ ?_ ?_ ?_ ?_ ?_
        rotate_left; iterate 12 exact rfl

theorem execVocSample_kept (c : HarvestCh) (vocUv : Nat) (carrier : Bool) (s : State) (h : Kept B Q K s) :
    ∃ s2, execVocSample c vocUv carrier s = .next s2 ∧ Kept B Q K s2 := by
  unfold execVocSample
  refine ⟨_, rfl, ?_⟩
  repeat' first
    | intro _
    | with_reducible first | assumption | apply Kept.ite | apply carrierHeard_kept | apply regulate_kept
    | with_reducible first | apply onTracker_kept | apply resample_kept
    | dsimp only
    | split
    | with_reducible
        refine Kept.of (e := ?_) ?_ ?_ ?_ ?_ ?_ ?_ ?_ ?_ ?_ ?_ ?_ ?_ ?_
        rotate_left; iterate 12 exact rfl

theorem execVocSampleRestart_kept (c : HarvestCh) (s : State) (h : Kept B Q K s) :
    ∃ s2, execVocSampleRestart c s = .next s2 ∧ Kept B Q K s2 := by
  unfold execVocSampleRestart
  refine ⟨_, rfl, ?_⟩
  repeat' first
    | intro _
    | with_reducible first | assumption | apply Kept.ite | apply onTracker_kept
    | dsimp only
    | split
    | with_reducible
        refine Kept.of (e := ?_) ?_ ?_ ?_ ?_ ?_ ?_ ?_ ?_ ?_ ?_ ?_ ?_ ?_
        rotate_left; iterate 12 exact rfl

theorem execMpptLimit_kept (c : HarvestCh) (uw ma : Nat) (s : State) (h : Kept B Q K s) :
    ∃ s2, execMpptLimit c uw ma s = .next s2 ∧ Kept B Q K s2 := by
  unfold execMpptLimit
  refine ⟨_, rfl, ?_⟩
  repeat' first
    | intro _
    | with_reducible first | assumption | apply Kept.ite | apply limitHrv_kept
    | dsimp only
    | split
    | with_reducible
        refine Kept.of (e := ?_) ?_ ?_ ?_ ?_ ?_ ?_ ?_ ?_ ?_ ?_ ?_ ?_ ?_
        rotate_left; iterate 12 exact rfl

theorem execMpptLimitClear_kept (c : HarvestCh) (s : State) (h : Kept B Q K s) :
    ∃ s2, execMpptLimitClear c s = .next s2 ∧ Kept B Q K s2 := by
  unfold execMpptLimitClear
  refine ⟨_, rfl, ?_⟩
  repeat' first
    | intro _
    | with_reducible first | assumption | apply clearD_kept | apply onTracker_kept
    | with_reducible
        refine Kept.of (e := ?_) ?_ ?_ ?_ ?_ ?_ ?_ ?_ ?_ ?_ ?_ ?_ ?_ ?_
        rotate_left; iterate 12 exact rfl

theorem execStoreFullStop_kept (vhbMv : Nat) (s : State) (h : Kept B Q K s) :
    ∃ s2, execStoreFullStop vhbMv s = .next s2 ∧ Kept B Q K s2 := by
  unfold execStoreFullStop
  refine ⟨_, rfl, ?_⟩
  repeat' first
    | intro _
    | with_reducible first | assumption | apply Kept.ite | apply setVhb_kept | apply stagesStop_kept
    | dsimp only
    | split
    | with_reducible
        refine Kept.of (e := ?_) ?_ ?_ ?_ ?_ ?_ ?_ ?_ ?_ ?_ ?_ ?_ ?_ ?_
        rotate_left; iterate 12 exact rfl

theorem execStoreResume_kept (vhbMv : Nat) (s : State) (h : Kept B Q K s) :
    ∃ s2, execStoreResume vhbMv s = .next s2 ∧ Kept B Q K s2 := by
  unfold execStoreResume
  refine ⟨_, rfl, ?_⟩
  repeat' first
    | intro _
    | with_reducible first | assumption | apply Kept.ite | apply setVhb_kept
    | dsimp only
    | split
    | with_reducible
        refine Kept.of (e := ?_) ?_ ?_ ?_ ?_ ?_ ?_ ?_ ?_ ?_ ?_ ?_ ?_ ?_
        rotate_left; iterate 12 exact rfl

theorem execBoostCeiling_kept (rising : Bool) (s : State) (h : Kept B Q K s) :
    ∃ s2, execBoostCeiling rising s = .next s2 ∧ Kept B Q K s2 := by
  unfold execBoostCeiling
  refine ⟨_, rfl, ?_⟩
  repeat' first
    | intro _
    | with_reducible first | assumption | apply Kept.ite | apply stagesStop_kept
    | dsimp only
    | split
    | with_reducible
        refine Kept.of (e := ?_) ?_ ?_ ?_ ?_ ?_ ?_ ?_ ?_ ?_ ?_ ?_ ?_ ?_
        rotate_left; iterate 12 exact rfl

theorem execReferenceRefresh_kept (s : State) (h : Kept B Q K s) :
    ∃ s2, execReferenceRefresh s = .next s2 ∧ Kept B Q K s2 := by
  unfold execReferenceRefresh
  refine ⟨_, rfl, ?_⟩
  repeat' first
    | intro _
    | with_reducible first | assumption | apply Kept.ite
    | dsimp only
    | split
    | with_reducible
        refine Kept.of (e := ?_) ?_ ?_ ?_ ?_ ?_ ?_ ?_ ?_ ?_ ?_ ?_ ?_ ?_
        rotate_left; iterate 12 exact rfl

theorem execHbClamp_kept (conducting : Bool) (s : State) (h : Kept B Q K s) :
    ∃ s2, execHbClamp conducting s = .next s2 ∧ Kept B Q K s2 := by
  unfold execHbClamp
  refine ⟨_, rfl, ?_⟩
  repeat' first
    | intro _
    | with_reducible first | assumption | apply Kept.ite | apply setC_kept
    | dsimp only
    | split
    | with_reducible
        refine Kept.of (e := ?_) ?_ ?_ ?_ ?_ ?_ ?_ ?_ ?_ ?_ ?_ ?_ ?_ ?_
        rotate_left; iterate 12 exact rfl

theorem execTegOscCheck_kept (gained : Bool) (s : State) (h : Kept B Q K s) :
    ∃ s2, execTegOscCheck gained s = .next s2 ∧ Kept B Q K s2 := by
  unfold execTegOscCheck
  refine ⟨_, rfl, ?_⟩
  repeat' first
    | intro _
    | with_reducible first | assumption | apply Kept.ite | apply raisePinC_kept | apply clearR_kept
    | dsimp only
    | split
    | with_reducible
        refine Kept.of (e := ?_) ?_ ?_ ?_ ?_ ?_ ?_ ?_ ?_ ?_ ?_ ?_ ?_ ?_
        rotate_left; iterate 12 exact rfl

theorem execLstoOpen_kept (s : State) (h : Kept B Q K s) :
    ∃ s2, execLstoOpen s = .next s2 ∧ Kept B Q K s2 := by
  unfold execLstoOpen
  refine ⟨_, rfl, ?_⟩
  repeat' first
    | intro _
    | with_reducible first | assumption | apply Kept.ite | apply raiseOnce_kept | apply hrvStop_kept
    | dsimp only
    | split
    | with_reducible
        refine Kept.of (e := ?_) ?_ ?_ ?_ ?_ ?_ ?_ ?_ ?_ ?_ ?_ ?_ ?_ ?_
        rotate_left; iterate 12 exact rfl

theorem execLstoRetry_kept (works : Bool) (s : State) (h : Kept B Q K s) :
    ∃ s2, execLstoRetry works s = .next s2 ∧ Kept B Q K s2 := by
  unfold execLstoRetry
  refine ⟨_, rfl, ?_⟩
  repeat' first
    | intro _
    | with_reducible first | assumption | apply Kept.ite | apply clearR_kept
    | dsimp only
    | split
    | with_reducible
        refine Kept.of (e := ?_) ?_ ?_ ?_ ?_ ?_ ?_ ?_ ?_ ?_ ?_ ?_ ?_ ?_
        rotate_left; iterate 12 exact rfl

theorem execStageOc_kept (st : Stage) (s : State) (h : Kept B Q K s) :
    ∃ s2, execStageOc st s = .next s2 ∧ Kept B Q K s2 := by
  unfold execStageOc
  refine ⟨_, rfl, ?_⟩
  repeat' first
    | intro _
    | with_reducible first | assumption | apply Kept.ite | apply raiseOnce_kept | apply onTracker_kept
    | dsimp only
    | split
    | with_reducible
        refine Kept.of (e := ?_) ?_ ?_ ?_ ?_ ?_ ?_ ?_ ?_ ?_ ?_ ?_ ?_ ?_
        rotate_left; iterate 12 exact rfl

theorem execStageOcRetry_kept (st : Stage) (works : Bool) (s : State) (h : Kept B Q K s) :
    ∃ s2, execStageOcRetry st works s = .next s2 ∧ Kept B Q K s2 := by
  unfold execStageOcRetry
  refine ⟨_, rfl, ?_⟩
  repeat' first
    | intro _
    | with_reducible first | assumption | apply Kept.ite | apply regulate_kept | apply onTracker_kept
    | dsimp only
    | split
    | with_reducible
        refine Kept.of (e := ?_) ?_ ?_ ?_ ?_ ?_ ?_ ?_ ?_ ?_ ?_ ?_ ?_ ?_
        rotate_left; iterate 12 exact rfl

theorem execVhbLow_kept (cleared : Bool) (s : State) (h : Kept B Q K s) :
    ∃ s2, execVhbLow cleared s = .next s2 ∧ Kept B Q K s2 := by
  unfold execVhbLow
  refine ⟨_, rfl, ?_⟩
  repeat' first
    | intro _
    | with_reducible first | assumption | apply Kept.ite | apply raiseOnce_kept | apply clearR_kept
    | with_reducible first | apply hrvAgain_kept
    | dsimp only
    | split
    | with_reducible
        refine Kept.of (e := ?_) ?_ ?_ ?_ ?_ ?_ ?_ ?_ ?_ ?_ ?_ ?_ ?_ ?_
        rotate_left; iterate 12 exact rfl

theorem execVibDcOv_kept (cleared : Bool) (s : State) (h : Kept B Q K s) :
    ∃ s2, execVibDcOv cleared s = .next s2 ∧ Kept B Q K s2 := by
  unfold execVibDcOv
  refine ⟨_, rfl, ?_⟩
  repeat' first
    | intro _
    | with_reducible first | assumption | apply Kept.ite | apply raiseOnce_kept | apply clearR_kept
    | with_reducible first | apply hrvStop_kept
    | dsimp only
    | split
    | with_reducible
        refine Kept.of (e := ?_) ?_ ?_ ?_ ?_ ?_ ?_ ?_ ?_ ?_ ?_ ?_ ?_ ?_
        rotate_left; iterate 12 exact rfl

theorem execPlinthPowerOnReset_kept (src : Source) (straps : Straps) (s : State) (h : Kept B Q K s) :
    ∃ s2, execPlinthPowerOnReset src straps s = .next s2 ∧ Kept B Q K s2 := by
  unfold execPlinthPowerOnReset
  refine ⟨_, rfl, ?_⟩
  repeat' first
    | intro _
    | with_reducible first | assumption | apply Kept.ite | apply startFromSto_kept | apply powerOn_kept
    | dsimp only
    | split
    | with_reducible
        refine Kept.of (e := ?_) ?_ ?_ ?_ ?_ ?_ ?_ ?_ ?_ ?_ ?_ ?_ ?_ ?_
        rotate_left; iterate 12 exact rfl

theorem execRstNAssert_kept (s : State) (h : Kept B Q K s) :
    ∃ s2, execRstNAssert s = .next s2 ∧ Kept B Q K s2 := by
  unfold execRstNAssert
  refine ⟨_, rfl, ?_⟩
  repeat' first
    | intro _
    | with_reducible first | assumption | apply Kept.ite | apply devReset_kept
    | dsimp only
    | split
    | with_reducible
        refine Kept.of (e := ?_) ?_ ?_ ?_ ?_ ?_ ?_ ?_ ?_ ?_ ?_ ?_ ?_ ?_
        rotate_left; iterate 12 exact rfl

theorem execRstNRelease_kept (straps : Straps) (s : State) (h : Kept B Q K s) :
    ∃ s2, execRstNRelease straps s = .next s2 ∧ Kept B Q K s2 := by
  unfold execRstNRelease
  refine ⟨_, rfl, ?_⟩
  repeat' first
    | intro _
    | with_reducible first | assumption | apply Kept.ite | apply sampleStraps_kept | apply bootBegin_kept
    | with_reducible first | apply handover_kept
    | dsimp only
    | split
    | with_reducible
        refine Kept.of (e := ?_) ?_ ?_ ?_ ?_ ?_ ?_ ?_ ?_ ?_ ?_ ?_ ?_ ?_
        rotate_left; iterate 12 exact rfl

theorem execWatchdogExpiry_kept (s : State) (h : Kept B Q K s) :
    ∃ s2, execWatchdogExpiry s = .next s2 ∧ Kept B Q K s2 := by
  unfold execWatchdogExpiry
  refine ⟨_, rfl, ?_⟩
  repeat' first
    | intro _
    | with_reducible first | assumption | apply Kept.ite | apply raiseP_kept | apply stallReset_kept
    | dsimp only
    | split
    | with_reducible
        refine Kept.of (e := ?_) ?_ ?_ ?_ ?_ ?_ ?_ ?_ ?_ ?_ ?_ ?_ ?_ ?_
        rotate_left; iterate 12 exact rfl

theorem execCoreLockup_kept (s : State) (h : Kept B Q K s) :
    ∃ s2, execCoreLockup s = .next s2 ∧ Kept B Q K s2 := by
  unfold execCoreLockup
  refine ⟨_, rfl, ?_⟩
  repeat' first
    | intro _
    | with_reducible first | assumption | apply stallReset_kept
    | with_reducible
        refine Kept.of (e := ?_) ?_ ?_ ?_ ?_ ?_ ?_ ?_ ?_ ?_ ?_ ?_ ?_ ?_
        rotate_left; iterate 12 exact rfl

theorem execVcoreBrownout_kept (s : State) (h : Kept B Q K s) :
    ∃ s2, execVcoreBrownout s = .next s2 ∧ Kept B Q K s2 := by
  unfold execVcoreBrownout
  refine ⟨_, rfl, ?_⟩
  repeat' first
    | intro _
    | with_reducible first | assumption | apply seqReset_kept
    | with_reducible
        refine Kept.of (e := ?_) ?_ ?_ ?_ ?_ ?_ ?_ ?_ ?_ ?_ ?_ ?_ ?_ ?_
        rotate_left; iterate 12 exact rfl

theorem execRc48Failure_kept (s : State) (h : Kept B Q K s) :
    ∃ s2, execRc48Failure s = .next s2 ∧ Kept B Q K s2 := by
  unfold execRc48Failure
  refine ⟨_, rfl, ?_⟩
  repeat' first
    | intro _
    | with_reducible first | assumption | apply Kept.ite | apply raiseP_kept | apply seqReset_kept
    | dsimp only
    | split
    | with_reducible
        refine Kept.of (e := ?_) ?_ ?_ ?_ ?_ ?_ ?_ ?_ ?_ ?_ ?_ ?_ ?_ ?_
        rotate_left; iterate 12 exact rfl

theorem execRc48RestartTimeout_kept (s : State) (h : Kept B Q K s) :
    ∃ s2, execRc48RestartTimeout s = .next s2 ∧ Kept B Q K s2 := by
  unfold execRc48RestartTimeout
  refine ⟨_, rfl, ?_⟩
  repeat' first
    | intro _
    | with_reducible first | assumption | apply Kept.ite | apply devReset_kept | apply bootBegin_kept
    | dsimp only
    | split
    | with_reducible
        refine Kept.of (e := ?_) ?_ ?_ ?_ ?_ ?_ ?_ ?_ ?_ ?_ ?_ ?_ ?_ ?_
        rotate_left; iterate 12 exact rfl

theorem execColdBootComplete_kept (chk : BootCheck) (s : State) (h : Kept B Q K s) :
    ∃ s2, execColdBootComplete chk s = .next s2 ∧ Kept B Q K s2 := by
  unfold execColdBootComplete
  refine ⟨_, rfl, ?_⟩
  repeat' first
    | intro _
    | with_reducible first | assumption | apply Kept.ite | apply coldBoot_kept
    | dsimp only
    | split
    | with_reducible
        refine Kept.of (e := ?_) ?_ ?_ ?_ ?_ ?_ ?_ ?_ ?_ ?_ ?_ ?_ ?_ ?_
        rotate_left; iterate 12 exact rfl

theorem execWarmRestartComplete_kept (s : State) (h : Kept B Q K s) :
    ∃ s2, execWarmRestartComplete s = .next s2 ∧ Kept B Q K s2 := by
  unfold execWarmRestartComplete
  refine ⟨_, rfl, ?_⟩
  repeat' first
    | intro _
    | with_reducible first | assumption | apply Kept.ite | apply warmUp_kept
    | dsimp only
    | split
    | with_reducible
        refine Kept.of (e := ?_) ?_ ?_ ?_ ?_ ?_ ?_ ?_ ?_ ?_ ?_ ?_ ?_ ?_
        rotate_left; iterate 12 exact rfl

theorem execLivePlugWindow_kept (ch : Fin 16) (s : State) (h : Kept B Q K s) :
    ∃ s2, execLivePlugWindow ch s = .next s2 ∧ Kept B Q K s2 := by
  unfold execLivePlugWindow
  refine ⟨_, rfl, ?_⟩
  repeat' first
    | intro _
    | with_reducible first | assumption | apply Kept.ite | apply onChan_kept
    | dsimp only
    | split
    | with_reducible
        refine Kept.of (e := ?_) ?_ ?_ ?_ ?_ ?_ ?_ ?_ ?_ ?_ ?_ ?_ ?_ ?_
        rotate_left; iterate 12 exact rfl

theorem execInrushWindowClose_kept (ch : Fin 16) (s : State) (h : Kept B Q K s) :
    ∃ s2, execInrushWindowClose ch s = .next s2 ∧ Kept B Q K s2 := by
  unfold execInrushWindowClose
  refine ⟨_, rfl, ?_⟩
  repeat' first
    | intro _
    | with_reducible first | assumption | apply onChan_kept
    | with_reducible
        refine Kept.of (e := ?_) ?_ ?_ ?_ ?_ ?_ ?_ ?_ ?_ ?_ ?_ ?_ ?_ ?_
        rotate_left; iterate 12 exact rfl

theorem execCurrentLimitReached_kept (ch : Fin 16) (s : State) (h : Kept B Q K s) :
    ∃ s2, execCurrentLimitReached ch s = .next s2 ∧ Kept B Q K s2 := by
  unfold execCurrentLimitReached
  refine ⟨_, rfl, ?_⟩
  repeat' first
    | intro _
    | with_reducible first | assumption | apply Kept.ite | apply onChan_kept
    | dsimp only
    | split
    | with_reducible
        refine Kept.of (e := ?_) ?_ ?_ ?_ ?_ ?_ ?_ ?_ ?_ ?_ ?_ ?_ ?_ ?_
        rotate_left; iterate 12 exact rfl

theorem execLimitTrip_kept (ch : Fin 16) (hard : Bool) (s : State) (h : Kept B Q K s) :
    ∃ s2, execLimitTrip ch hard s = .next s2 ∧ Kept B Q K s2 := by
  unfold execLimitTrip
  refine ⟨_, rfl, ?_⟩
  repeat' first
    | intro _
    | with_reducible first | assumption | apply Kept.ite | apply onChan_kept | apply trip_kept
    | dsimp only
    | split
    | with_reducible
        refine Kept.of (e := ?_) ?_ ?_ ?_ ?_ ?_ ?_ ?_ ?_ ?_ ?_ ?_ ?_ ?_
        rotate_left; iterate 12 exact rfl

theorem execInrushRetry_kept (ch : Fin 16) (s : State) (h : Kept B Q K s) :
    ∃ s2, execInrushRetry ch s = .next s2 ∧ Kept B Q K s2 := by
  unfold execInrushRetry
  refine ⟨_, rfl, ?_⟩
  repeat' first
    | intro _
    | with_reducible first | assumption | apply Kept.ite | apply onChan_kept | apply latch_kept
    | dsimp only
    | split
    | with_reducible
        refine Kept.of (e := ?_) ?_ ?_ ?_ ?_ ?_ ?_ ?_ ?_ ?_ ?_ ?_ ?_ ?_
        rotate_left; iterate 12 exact rfl

theorem execLimitTimerReset_kept (ch : Fin 16) (s : State) (h : Kept B Q K s) :
    ∃ s2, execLimitTimerReset ch s = .next s2 ∧ Kept B Q K s2 := by
  unfold execLimitTimerReset
  refine ⟨_, rfl, ?_⟩
  repeat' first
    | intro _
    | with_reducible first | assumption | apply onChan_kept
    | with_reducible
        refine Kept.of (e := ?_) ?_ ?_ ?_ ?_ ?_ ?_ ?_ ?_ ?_ ?_ ?_ ?_ ?_
        rotate_left; iterate 12 exact rfl

theorem execThermalShutdown_kept (ch : Fin 16) (tempC : Int) (s : State) (h : Kept B Q K s) :
    ∃ s2, execThermalShutdown ch tempC s = .next s2 ∧ Kept B Q K s2 := by
  unfold execThermalShutdown
  refine ⟨_, rfl, ?_⟩
  repeat' first
    | intro _
    | with_reducible first | assumption | apply thermal_kept
    | with_reducible
        refine Kept.of (e := ?_) ?_ ?_ ?_ ?_ ?_ ?_ ?_ ?_ ?_ ?_ ?_ ?_ ?_
        rotate_left; iterate 12 exact rfl

theorem execThermalRestart_kept (ch : Fin 16) (tempC : Int) (s : State) (h : Kept B Q K s) :
    ∃ s2, execThermalRestart ch tempC s = .next s2 ∧ Kept B Q K s2 := by
  unfold execThermalRestart
  refine ⟨_, rfl, ?_⟩
  repeat' first
    | intro _
    | with_reducible first | assumption | apply Kept.ite | apply onChan_kept | apply clearE_kept | apply latch_kept
    | dsimp only
    | split
    | with_reducible
        refine Kept.of (e := ?_) ?_ ?_ ?_ ?_ ?_ ?_ ?_ ?_ ?_ ?_ ?_ ?_ ?_
        rotate_left; iterate 12 exact rfl

theorem execDieTempWarn_kept (d : Fin 4) (tempC : Int) (s : State) (h : Kept B Q K s) :
    ∃ s2, execDieTempWarn d tempC s = .next s2 ∧ Kept B Q K s2 := by
  unfold execDieTempWarn
  refine ⟨_, rfl, ?_⟩
  repeat' first
    | intro _
    | with_reducible first | assumption | apply Kept.ite | apply raiseOnce_kept | apply clearR_kept
    | dsimp only
    | split
    | with_reducible
        refine Kept.of (e := ?_) ?_ ?_ ?_ ?_ ?_ ?_ ?_ ?_ ?_ ?_ ?_ ?_ ?_
        rotate_left; iterate 12 exact rfl

theorem execClampEvent_kept (ch : Fin 16) (ma tclUs vclMv : Nat) (s : State) (h : Kept B Q K s) :
    ∃ s2, execClampEvent ch ma tclUs vclMv s = .next s2 ∧ Kept B Q K s2 := by
  unfold execClampEvent
  refine ⟨_, rfl, ?_⟩
  repeat' first
    | intro _
    | with_reducible first | assumption | apply Kept.ite | apply dieRaise_kept
    | dsimp only
    | split
    | with_reducible
        refine Kept.of (e := ?_) ?_ ?_ ?_ ?_ ?_ ?_ ?_ ?_ ?_ ?_ ?_ ?_ ?_
        rotate_left; iterate 12 exact rfl

theorem execNoFreewheel_kept (ch : Fin 16) (s : State) (h : Kept B Q K s) :
    ∃ s2, execNoFreewheel ch s = .next s2 ∧ Kept B Q K s2 := by
  unfold execNoFreewheel
  refine ⟨_, rfl, ?_⟩
  repeat' first
    | intro _
    | with_reducible first | assumption | apply Kept.ite | apply dieRaise_kept | apply enterLatch_kept
    | dsimp only
    | split
    | with_reducible
        refine Kept.of (e := ?_) ?_ ?_ ?_ ?_ ?_ ?_ ?_ ?_ ?_ ?_ ?_ ?_ ?_
        rotate_left; iterate 12 exact rfl

theorem execHeartbeatLoss_kept (d : Fin 4) (s : State) (h : Kept B Q K s) :
    ∃ s2, execHeartbeatLoss d s = .next s2 ∧ Kept B Q K s2 := by
  unfold execHeartbeatLoss
  refine ⟨_, rfl, ?_⟩
  repeat' first
    | intro _
    | with_reducible first | assumption | apply Kept.ite | apply onChan_kept | apply hardOff_kept | apply Kept.foldl
    | dsimp only
    | split
    | with_reducible
        refine Kept.of (e := ?_) ?_ ?_ ?_ ?_ ?_ ?_ ?_ ?_ ?_ ?_ ?_ ?_ ?_
        rotate_left; iterate 12 exact rfl

theorem execHeartbeatReturn_kept (d : Fin 4) (s : State) (h : Kept B Q K s) :
    ∃ s2, execHeartbeatReturn d s = .next s2 ∧ Kept B Q K s2 := by
  unfold execHeartbeatReturn
  refine ⟨_, rfl, ?_⟩
  repeat' first
    | intro _
    | with_reducible first | assumption | apply onChan_kept | apply raiseC_kept | apply clearR_kept
    | with_reducible first | apply startStagger_kept | apply Kept.foldl
    | with_reducible
        refine Kept.of (e := ?_) ?_ ?_ ?_ ?_ ?_ ?_ ?_ ?_ ?_ ?_ ?_ ?_ ?_
        rotate_left; iterate 12 exact rfl

theorem execDieFence_kept (d : Fin 4) (why : FenceReason) (s : State) (h : Kept B Q K s) :
    ∃ s2, execDieFence d why s = .next s2 ∧ Kept B Q K s2 := by
  unfold execDieFence
  refine ⟨_, rfl, ?_⟩
  repeat' first
    | intro _
    | with_reducible first | assumption | apply fenceDie_kept
    | with_reducible
        refine Kept.of (e := ?_) ?_ ?_ ?_ ?_ ?_ ?_ ?_ ?_ ?_ ?_ ?_ ?_ ?_
        rotate_left; iterate 12 exact rfl

theorem execDieSelfTest_kept (d : Fin 4) (pass : Bool) (s : State) (h : Kept B Q K s) :
    ∃ s2, execDieSelfTest d pass s = .next s2 ∧ Kept B Q K s2 := by
  unfold execDieSelfTest
  refine ⟨_, rfl, ?_⟩
  repeat' first
    | intro _
    | with_reducible first | assumption | apply Kept.ite | apply fenceDie_kept | apply liftFence_kept
    | with_reducible first | apply coldBoot_kept
    | dsimp only
    | split
    | with_reducible
        refine Kept.of (e := ?_) ?_ ?_ ?_ ?_ ?_ ?_ ?_ ?_ ?_ ?_ ?_ ?_ ?_
        rotate_left; iterate 12 exact rfl

theorem execDieSumWarn_kept (d : Fin 4) (above : Bool) (s : State) (h : Kept B Q K s) :
    ∃ s2, execDieSumWarn d above s = .next s2 ∧ Kept B Q K s2 := by
  unfold execDieSumWarn
  refine ⟨_, rfl, ?_⟩
  repeat' first
    | intro _
    | with_reducible first | assumption | apply Kept.ite | apply raiseOnce_kept | apply clearR_kept
    | dsimp only
    | split
    | with_reducible
        refine Kept.of (e := ?_) ?_ ?_ ?_ ?_ ?_ ?_ ?_ ?_ ?_ ?_ ?_ ?_ ?_
        rotate_left; iterate 12 exact rfl

theorem execBusDumpFall_kept (vbusMv : Int) (s : State) (h : Kept B Q K s) :
    ∃ s2, execBusDumpFall vbusMv s = .next s2 ∧ Kept B Q K s2 := by
  unfold execBusDumpFall
  refine ⟨_, rfl, ?_⟩
  repeat' first
    | intro _
    | with_reducible first | assumption | apply Kept.ite | apply dumpEnd_kept
    | dsimp only
    | split
    | with_reducible
        refine Kept.of (e := ?_) ?_ ?_ ?_ ?_ ?_ ?_ ?_ ?_ ?_ ?_ ?_ ?_ ?_
        rotate_left; iterate 12 exact rfl

theorem execReverseHoldOn_kept (vbusMv : Int) (s : State) (h : Kept B Q K s) :
    ∃ s2, execReverseHoldOn vbusMv s = .next s2 ∧ Kept B Q K s2 := by
  unfold execReverseHoldOn
  refine ⟨_, rfl, ?_⟩
  repeat' first
    | intro _
    | with_reducible first | assumption | apply reverseHold_kept
    | with_reducible
        refine Kept.of (e := ?_) ?_ ?_ ?_ ?_ ?_ ?_ ?_ ?_ ?_ ?_ ?_ ?_ ?_
        rotate_left; iterate 12 exact rfl

theorem execBusReverseRelease_kept (vbusMv : Int) (s : State) (h : Kept B Q K s) :
    ∃ s2, execBusReverseRelease vbusMv s = .next s2 ∧ Kept B Q K s2 := by
  unfold execBusReverseRelease
  refine ⟨_, rfl, ?_⟩
  repeat' first
    | intro _
    | with_reducible first | assumption | apply Kept.ite | apply raiseP_kept | apply clearE_kept
    | with_reducible first | apply reverseHold_kept | apply dieDown_kept | apply Kept.foldl
    | dsimp only
    | split
    | with_reducible
        refine Kept.of (e := ?_) ?_ ?_ ?_ ?_ ?_ ?_ ?_ ?_ ?_ ?_ ?_ ?_ ?_
        rotate_left; iterate 12 exact rfl

theorem execDieSupplyLoss_kept (d : Fin 4) (s : State) (h : Kept B Q K s) :
    ∃ s2, execDieSupplyLoss d s = .next s2 ∧ Kept B Q K s2 := by
  unfold execDieSupplyLoss
  refine ⟨_, rfl, ?_⟩
  repeat' first
    | intro _
    | with_reducible first | assumption | apply dieDown_kept
    | with_reducible
        refine Kept.of (e := ?_) ?_ ?_ ?_ ?_ ?_ ?_ ?_ ?_ ?_ ?_ ?_ ?_ ?_
        rotate_left; iterate 12 exact rfl

theorem execDieSupplyReturn_kept (d : Fin 4) (s : State) (h : Kept B Q K s) :
    ∃ s2, execDieSupplyReturn d s = .next s2 ∧ Kept B Q K s2 := by
  unfold execDieSupplyReturn
  refine ⟨_, rfl, ?_⟩
  repeat' first
    | intro _
    | with_reducible first | assumption | apply dieUp_kept
    | with_reducible
        refine Kept.of (e := ?_) ?_ ?_ ?_ ?_ ?_ ?_ ?_ ?_ ?_ ?_ ?_ ?_ ?_
        rotate_left; iterate 12 exact rfl

theorem execPwmCycleStart_kept (ch : Fin 16) (tick : Nat) (s : State) (h : Kept B Q K s) :
    ∃ s2, execPwmCycleStart ch tick s = .next s2 ∧ Kept B Q K s2 := by
  unfold execPwmCycleStart
  refine ⟨_, rfl, ?_⟩
  repeat' first
    | intro _
    | with_reducible first | assumption | apply cycleStart_kept
    | with_reducible
        refine Kept.of (e := ?_) ?_ ?_ ?_ ?_ ?_ ?_ ?_ ?_ ?_ ?_ ?_ ?_ ?_
        rotate_left; iterate 12 exact rfl

theorem execSecondBoundaryPattern_kept (ch : Fin 16) (s : State) (h : Kept B Q K s) :
    ∃ s2, execSecondBoundaryPattern ch s = .next s2 ∧ Kept B Q K s2 := by
  unfold execSecondBoundaryPattern
  refine ⟨_, rfl, ?_⟩
  repeat' first
    | intro _
    | with_reducible first | assumption | apply newPattern_kept
    | with_reducible
        refine Kept.of (e := ?_) ?_ ?_ ?_ ?_ ?_ ?_ ?_ ?_ ?_ ?_ ?_ ?_ ?_
        rotate_left; iterate 12 exact rfl

theorem execStrobeLoss_kept (d : Fin 4) (s : State) (h : Kept B Q K s) :
    ∃ s2, execStrobeLoss d s = .next s2 ∧ Kept B Q K s2 := by
  unfold execStrobeLoss
  refine ⟨_, rfl, ?_⟩
  repeat' first
    | intro _
    | with_reducible first | assumption
    | with_reducible
        refine Kept.of (e := ?_) ?_ ?_ ?_ ?_ ?_ ?_ ?_ ?_ ?_ ?_ ?_ ?_ ?_
        rotate_left; iterate 12 exact rfl

theorem execStrobeReturn_kept (d : Fin 4) (s : State) (h : Kept B Q K s) :
    ∃ s2, execStrobeReturn d s = .next s2 ∧ Kept B Q K s2 := by
  unfold execStrobeReturn
  refine ⟨_, rfl, ?_⟩
  repeat' first
    | intro _
    | with_reducible first | assumption | apply realign_kept | apply Kept.foldl
    | with_reducible
        refine Kept.of (e := ?_) ?_ ?_ ?_ ?_ ?_ ?_ ?_ ?_ ?_ ?_ ?_ ?_ ?_
        rotate_left; iterate 12 exact rfl

theorem execAdcSSample_kept (ch : Fin 16) (slot : Fin 128) (pos : Nat) (ma : Int) (s : State) (h : Kept B Q K s) :
    ∃ s2, execAdcSSample ch slot pos ma s = .next s2 ∧ Kept B Q K s2 := by
  unfold execAdcSSample
  refine ⟨_, rfl, ?_⟩
  repeat' first
    | intro _
    | with_reducible first | assumption | apply Kept.ite | apply run_kept | apply sample_kept
    | dsimp only
    | split
    | with_reducible
        refine Kept.of (e := ?_) ?_ ?_ ?_ ?_ ?_ ?_ ?_ ?_ ?_ ?_ ?_ ?_ ?_
        rotate_left; iterate 12 exact rfl

theorem execRangeSwitchDown_kept (ch : Fin 16) (s : State) (h : Kept B Q K s) :
    ∃ s2, execRangeSwitchDown ch s = .next s2 ∧ Kept B Q K s2 := by
  unfold execRangeSwitchDown
  refine ⟨_, rfl, ?_⟩
  repeat' first
    | intro _
    | with_reducible first | assumption | apply Kept.ite | apply onChan_kept
    | dsimp only
    | split
    | with_reducible
        refine Kept.of (e := ?_) ?_ ?_ ?_ ?_ ?_ ?_ ?_ ?_ ?_ ?_ ?_ ?_ ?_
        rotate_left; iterate 12 exact rfl

theorem execMeasurementWindow_kept (ch : Fin 16) (s : State) (h : Kept B Q K s) :
    ∃ s2, execMeasurementWindow ch s = .next s2 ∧ Kept B Q K s2 := by
  unfold execMeasurementWindow
  refine ⟨_, rfl, ?_⟩
  repeat' first
    | intro _
    | with_reducible first | assumption | apply Kept.ite | apply closeWindow_kept
    | dsimp only
    | split
    | with_reducible
        refine Kept.of (e := ?_) ?_ ?_ ?_ ?_ ?_ ?_ ?_ ?_ ?_ ?_ ?_ ?_ ?_
        rotate_left; iterate 12 exact rfl

theorem execDozeBurst_kept (ch : Fin 16) (ma : Vector Int 16) (s : State) (h : Kept B Q K s) :
    ∃ s2, execDozeBurst ch ma s = .next s2 ∧ Kept B Q K s2 := by
  unfold execDozeBurst
  refine ⟨_, rfl, ?_⟩
  repeat' first
    | intro _
    | with_reducible first | assumption | apply Kept.ite | apply closeWindow_kept | apply burst_kept
    | dsimp only
    | split
    | with_reducible
        refine Kept.of (e := ?_) ?_ ?_ ?_ ?_ ?_ ?_ ?_ ?_ ?_ ?_ ?_ ?_ ?_
        rotate_left; iterate 12 exact rfl

theorem execOpenLoadDetect_kept (ch : Fin 16) (s : State) (h : Kept B Q K s) :
    ∃ s2, execOpenLoadDetect ch s = .next s2 ∧ Kept B Q K s2 := by
  unfold execOpenLoadDetect
  refine ⟨_, rfl, ?_⟩
  repeat' first
    | intro _
    | with_reducible first | assumption | apply Kept.ite | apply raiseOnce_kept | apply setDemand_kept
    | dsimp only
    | split
    | with_reducible
        refine Kept.of (e := ?_) ?_ ?_ ?_ ?_ ?_ ?_ ?_ ?_ ?_ ?_ ?_ ?_ ?_
        rotate_left; iterate 12 exact rfl

theorem execOpenLoadClear_kept (ch : Fin 16) (s : State) (h : Kept B Q K s) :
    ∃ s2, execOpenLoadClear ch s = .next s2 ∧ Kept B Q K s2 := by
  unfold execOpenLoadClear
  refine ⟨_, rfl, ?_⟩
  repeat' first
    | intro _
    | with_reducible first | assumption | apply Kept.ite | apply onChan_kept | apply clearR_kept
    | dsimp only
    | split
    | with_reducible
        refine Kept.of (e := ?_) ?_ ?_ ?_ ?_ ?_ ?_ ?_ ?_ ?_ ?_ ?_ ?_ ?_
        rotate_left; iterate 12 exact rfl

theorem execPairShare_kept (ch : Fin 16) (s : State) (h : Kept B Q K s) :
    ∃ s2, execPairShare ch s = .next s2 ∧ Kept B Q K s2 := by
  unfold execPairShare
  refine ⟨_, rfl, ?_⟩
  repeat' first
    | intro _
    | with_reducible first | assumption | apply Kept.ite | apply raiseOnce_kept | apply clearR_kept
    | dsimp only
    | split
    | with_reducible
        refine Kept.of (e := ?_) ?_ ?_ ?_ ?_ ?_ ?_ ?_ ?_ ?_ ?_ ?_ ?_ ?_
        rotate_left; iterate 12 exact rfl

theorem execGpioDebounceComplete_kept (g : Fin 8) (high : Bool) (s : State) (h : Kept B Q K s) :
    ∃ s2, execGpioDebounceComplete g high s = .next s2 ∧ Kept B Q K s2 := by
  unfold execGpioDebounceComplete
  refine ⟨_, rfl, ?_⟩
  repeat' first
    | intro _
    | with_reducible first | assumption | apply debounced_kept
    | with_reducible
        refine Kept.of (e := ?_) ?_ ?_ ?_ ?_ ?_ ?_ ?_ ?_ ?_ ?_ ?_ ?_ ?_
        rotate_left; iterate 12 exact rfl

theorem execDimHold_kept (g : Fin 8) (s : State) (h : Kept B Q K s) :
    ∃ s2, execDimHold g s = .next s2 ∧ Kept B Q K s2 := by
  unfold execDimHold
  refine ⟨_, rfl, ?_⟩
  repeat' first
    | intro _
    | with_reducible first | assumption | apply Kept.ite | apply queueWall_kept | apply onGpio_kept
    | dsimp only
    | split
    | with_reducible
        refine Kept.of (e := ?_) ?_ ?_ ?_ ?_ ?_ ?_ ?_ ?_ ?_ ?_ ?_ ?_ ?_
        rotate_left; iterate 12 exact rfl

theorem execWallActionApply_kept (s : State)
    (h : Kept B Q K s) : ∃ s2, execWallActionApply s = .next s2 ∧ Kept B Q K s2 := by
  refine ⟨_, rfl, ?_⟩
  split
  · split
    · refine taskEnd_kept _ _ (applyWall_kept _ _ ?_)
      exact h.same rfl rfl rfl rfl rfl rfl rfl rfl
    · exact h
  · exact h

theorem execDimRampStep_kept (g : Fin 8) (s : State) (h : Kept B Q K s) :
    ∃ s2, execDimRampStep g s = .next s2 ∧ Kept B Q K s2 := by
  unfold execDimRampStep
  refine ⟨_, rfl, ?_⟩
  repeat' first
    | intro _
    | with_reducible first | assumption | apply Kept.ite | apply onGpio_kept | apply dimStep_kept | apply Kept.foldl
    | dsimp only
    | split
    | with_reducible
        refine Kept.of (e := ?_) ?_ ?_ ?_ ?_ ?_ ?_ ?_ ?_ ?_ ?_ ?_ ?_ ?_
        rotate_left; iterate 12 exact rfl

theorem execRestoreAtStart_kept (d : Fin 4) (s : State) (h : Kept B Q K s) :
    ∃ s2, execRestoreAtStart d s = .next s2 ∧ Kept B Q K s2 := by
  unfold execRestoreAtStart
  refine ⟨_, rfl, ?_⟩
  repeat' first
    | intro _
    | with_reducible first | assumption | apply restoreDie_kept
    | with_reducible
        refine Kept.of (e := ?_) ?_ ?_ ?_ ?_ ?_ ?_ ?_ ?_ ?_ ?_ ?_ ?_ ?_
        rotate_left; iterate 12 exact rfl

theorem execPing_kept (rq : Request) (s : State) (h : Kept B Q K s) :
    ∃ s2, execPing rq s = .next s2 ∧ Kept B Q K s2 := by
  unfold execPing
  refine ⟨_, rfl, ?_⟩
  repeat' first
    | intro _
    | with_reducible first | assumption | apply serve_kept | apply cmdPing_kept
    | with_reducible
        refine Kept.of (e := ?_) ?_ ?_ ?_ ?_ ?_ ?_ ?_ ?_ ?_ ?_ ?_ ?_ ?_
        rotate_left; iterate 12 exact rfl

theorem execGetInfo_kept (rq : Request) (s : State) (h : Kept B Q K s) :
    ∃ s2, execGetInfo rq s = .next s2 ∧ Kept B Q K s2 := by
  unfold execGetInfo
  refine ⟨_, rfl, ?_⟩
  repeat' first
    | intro _
    | with_reducible first | assumption | apply serve_kept | apply cmdGetInfo_kept
    | with_reducible
        refine Kept.of (e := ?_) ?_ ?_ ?_ ?_ ?_ ?_ ?_ ?_ ?_ ?_ ?_ ?_ ?_
        rotate_left; iterate 12 exact rfl

theorem execReadParam_kept (rq : Request) (s : State) (h : Kept B Q K s) :
    ∃ s2, execReadParam rq s = .next s2 ∧ Kept B Q K s2 := by
  unfold execReadParam
  refine ⟨_, rfl, ?_⟩
  repeat' first
    | intro _
    | with_reducible first | assumption | apply serve_kept | apply cmdReadParam_kept
    | with_reducible
        refine Kept.of (e := ?_) ?_ ?_ ?_ ?_ ?_ ?_ ?_ ?_ ?_ ?_ ?_ ?_ ?_
        rotate_left; iterate 12 exact rfl

theorem execReadLive_kept (rq : Request) (s : State) (h : Kept B Q K s) :
    ∃ s2, execReadLive rq s = .next s2 ∧ Kept B Q K s2 := by
  unfold execReadLive
  refine ⟨_, rfl, ?_⟩
  repeat' first
    | intro _
    | with_reducible first | assumption | apply serve_kept | apply cmdReadLive_kept
    | with_reducible
        refine Kept.of (e := ?_) ?_ ?_ ?_ ?_ ?_ ?_ ?_ ?_ ?_ ?_ ?_ ?_ ?_
        rotate_left; iterate 12 exact rfl

theorem execNodeList_kept (rq : Request) (s : State) (h : Kept B Q K s) :
    ∃ s2, execNodeList rq s = .next s2 ∧ Kept B Q K s2 := by
  unfold execNodeList
  refine ⟨_, rfl, ?_⟩
  repeat' first
    | intro _
    | with_reducible first | assumption | apply serve_kept | apply cmdNodeList_kept
    | with_reducible
        refine Kept.of (e := ?_) ?_ ?_ ?_ ?_ ?_ ?_ ?_ ?_ ?_ ?_ ?_ ?_ ?_
        rotate_left; iterate 12 exact rfl

theorem execOpenSession_kept (rq : Request) (s : State) (h : Kept B Q K s) :
    ∃ s2, execOpenSession rq s = .next s2 ∧ Kept B Q K s2 := by
  unfold execOpenSession
  refine ⟨_, rfl, ?_⟩
  repeat' first
    | intro _
    | with_reducible first | assumption | apply serve_kept | apply cmdOpenSession_kept
    | with_reducible
        refine Kept.of (e := ?_) ?_ ?_ ?_ ?_ ?_ ?_ ?_ ?_ ?_ ?_ ?_ ?_ ?_
        rotate_left; iterate 12 exact rfl

theorem execCloseSession_kept (rq : Request) (s : State) (h : Kept B Q K s) :
    ∃ s2, execCloseSession rq s = .next s2 ∧ Kept B Q K s2 := by
  unfold execCloseSession
  refine ⟨_, rfl, ?_⟩
  repeat' first
    | intro _
    | with_reducible first | assumption | apply serve_kept | apply cmdCloseSession_kept
    | with_reducible
        refine Kept.of (e := ?_) ?_ ?_ ?_ ?_ ?_ ?_ ?_ ?_ ?_ ?_ ?_ ?_ ?_
        rotate_left; iterate 12 exact rfl

theorem execAbort_kept (rq : Request) (s : State) (h : Kept B Q K s) :
    ∃ s2, execAbort rq s = .next s2 ∧ Kept B Q K s2 := by
  unfold execAbort
  refine ⟨_, rfl, ?_⟩
  repeat' first
    | intro _
    | with_reducible first | assumption | apply serve_kept | apply cmdAbort_kept
    | with_reducible
        refine Kept.of (e := ?_) ?_ ?_ ?_ ?_ ?_ ?_ ?_ ?_ ?_ ?_ ?_ ?_ ?_
        rotate_left; iterate 12 exact rfl

theorem execEvtRead_kept (rq : Request) (s : State) (h : Kept B Q K s) :
    ∃ s2, execEvtRead rq s = .next s2 ∧ Kept B Q K s2 := by
  unfold execEvtRead
  refine ⟨_, rfl, ?_⟩
  repeat' first
    | intro _
    | with_reducible first | assumption | apply serve_kept | apply cmdEvtRead_kept
    | with_reducible
        refine Kept.of (e := ?_) ?_ ?_ ?_ ?_ ?_ ?_ ?_ ?_ ?_ ?_ ?_ ?_ ?_
        rotate_left; iterate 12 exact rfl

theorem execPatinaRead_kept (rq : Request) (s : State) (h : Kept B Q K s) :
    ∃ s2, execPatinaRead rq s = .next s2 ∧ Kept B Q K s2 := by
  unfold execPatinaRead
  refine ⟨_, rfl, ?_⟩
  repeat' first
    | intro _
    | with_reducible first | assumption | apply serve_kept | apply cmdPatinaRead_kept
    | with_reducible
        refine Kept.of (e := ?_) ?_ ?_ ?_ ?_ ?_ ?_ ?_ ?_ ?_ ?_ ?_ ?_ ?_
        rotate_left; iterate 12 exact rfl

theorem execTraceArm_kept (rq : Request) (s : State) (h : Kept B Q K s) :
    ∃ s2, execTraceArm rq s = .next s2 ∧ Kept B Q K s2 := by
  unfold execTraceArm
  refine ⟨_, rfl, ?_⟩
  repeat' first
    | intro _
    | with_reducible first | assumption | apply serve_kept | apply cmdTraceArm_kept
    | with_reducible
        refine Kept.of (e := ?_) ?_ ?_ ?_ ?_ ?_ ?_ ?_ ?_ ?_ ?_ ?_ ?_ ?_
        rotate_left; iterate 12 exact rfl

theorem execTraceStop_kept (rq : Request) (s : State) (h : Kept B Q K s) :
    ∃ s2, execTraceStop rq s = .next s2 ∧ Kept B Q K s2 := by
  unfold execTraceStop
  refine ⟨_, rfl, ?_⟩
  repeat' first
    | intro _
    | with_reducible first | assumption | apply serve_kept | apply cmdTraceStop_kept
    | with_reducible
        refine Kept.of (e := ?_) ?_ ?_ ?_ ?_ ?_ ?_ ?_ ?_ ?_ ?_ ?_ ?_ ?_
        rotate_left; iterate 12 exact rfl

theorem execTraceRead_kept (rq : Request) (s : State) (h : Kept B Q K s) :
    ∃ s2, execTraceRead rq s = .next s2 ∧ Kept B Q K s2 := by
  unfold execTraceRead
  refine ⟨_, rfl, ?_⟩
  repeat' first
    | intro _
    | with_reducible first | assumption | apply serve_kept | apply cmdTraceRead_kept
    | with_reducible
        refine Kept.of (e := ?_) ?_ ?_ ?_ ?_ ?_ ?_ ?_ ?_ ?_ ?_ ?_ ?_ ?_
        rotate_left; iterate 12 exact rfl

theorem execFifoWrite_kept (s : State) (h : Kept B Q K s) :
    ∃ s2, execFifoWrite s = .next s2 ∧ Kept B Q K s2 := by
  unfold execFifoWrite
  refine ⟨_, rfl, ?_⟩
  repeat' first
    | intro _
    | with_reducible first | assumption | apply taskEnd_kept | apply fifoWrite_kept
    | with_reducible
        refine Kept.of (e := ?_) ?_ ?_ ?_ ?_ ?_ ?_ ?_ ?_ ?_ ?_ ?_ ?_ ?_
        rotate_left; iterate 12 exact rfl

theorem execPulseAckTimeout_kept (g bit : Fin 16) (s : State) (h : Kept B Q K s) :
    ∃ s2, execPulseAckTimeout g bit s = .next s2 ∧ Kept B Q K s2 := by
  unfold execPulseAckTimeout
  refine ⟨_, rfl, ?_⟩
  repeat' first
    | intro _
    | with_reducible first | assumption | apply Kept.ite
    | dsimp only
    | split
    | with_reducible
        refine Kept.of (e := ?_) ?_ ?_ ?_ ?_ ?_ ?_ ?_ ?_ ?_ ?_ ?_ ?_ ?_
        rotate_left; iterate 12 exact rfl

theorem execEvtPinMinHoldExpiry_kept (pin : Fin 2) (s : State) (h : Kept B Q K s) :
    ∃ s2, execEvtPinMinHoldExpiry pin s = .next s2 ∧ Kept B Q K s2 := by
  unfold execEvtPinMinHoldExpiry
  refine ⟨_, rfl, ?_⟩
  repeat' first
    | intro _
    | with_reducible first | assumption | apply hold_kept
    | with_reducible
        refine Kept.of (e := ?_) ?_ ?_ ?_ ?_ ?_ ?_ ?_ ?_ ?_ ?_ ?_ ?_ ?_
        rotate_left; iterate 12 exact rfl

theorem execPatinaCapture_kept (s : State) (h : Kept B Q K s) :
    ∃ s2, execPatinaCapture s = .next s2 ∧ Kept B Q K s2 := by
  unfold execPatinaCapture
  refine ⟨_, rfl, ?_⟩
  repeat' first
    | intro _
    | with_reducible first | assumption | apply Kept.ite | apply taskEnd_kept | apply admitRec_kept
    | dsimp only
    | split
    | with_reducible
        refine Kept.of (e := ?_) ?_ ?_ ?_ ?_ ?_ ?_ ?_ ?_ ?_ ?_ ?_ ?_ ?_
        rotate_left; iterate 12 exact rfl

theorem execTokenGain_kept (s : State) (h : Kept B Q K s) : ∃ t, execTokenGain s = .next t ∧ Kept B Q K t := by
  refine ⟨_, rfl, summary_kept _ ⟨h.qb, h.uid, h.ck, h.ap, h.ac, h.up, h.sec, h.sub, h.fifo, h.ram, fun _ => ?_, h.pend⟩⟩
  show min 64 _ ≤ 64; omega

theorem execPatinaFlush_kept (ok : Bool) (s : State) (h : Kept B Q K s) :
    ∃ s2, execPatinaFlush ok s = .next s2 ∧ Kept B Q K s2 := by
  unfold execPatinaFlush
  refine ⟨_, rfl, ?_⟩
  repeat' first
    | intro _
    | with_reducible first | assumption | apply Kept.ite | apply refuse_kept | apply taskEnd_kept
    | with_reducible first | apply flushDone_kept
    | dsimp only
    | split
    | with_reducible
        refine Kept.of (e := ?_) ?_ ?_ ?_ ?_ ?_ ?_ ?_ ?_ ?_ ?_ ?_ ?_ ?_
        rotate_left; iterate 12 exact rfl

theorem execTraceSample_kept (s : State) (h : Kept B Q K s) :
    ∃ s2, execTraceSample s = .next s2 ∧ Kept B Q K s2 := by
  unfold execTraceSample
  refine ⟨_, rfl, ?_⟩
  repeat' first
    | intro _
    | with_reducible first | assumption | apply traceStep_kept
    | with_reducible
        refine Kept.of (e := ?_) ?_ ?_ ?_ ?_ ?_ ?_ ?_ ?_ ?_ ?_ ?_ ?_ ?_
        rotate_left; iterate 12 exact rfl

theorem execTraceTrigger_kept (s : State) (h : Kept B Q K s) :
    ∃ s2, execTraceTrigger s = .next s2 ∧ Kept B Q K s2 := by
  unfold execTraceTrigger
  refine ⟨_, rfl, ?_⟩
  repeat' first
    | intro _
    | with_reducible first | assumption | apply Kept.ite
    | dsimp only
    | split
    | with_reducible
        refine Kept.of (e := ?_) ?_ ?_ ?_ ?_ ?_ ?_ ?_ ?_ ?_ ?_ ?_ ?_ ?_
        rotate_left; iterate 12 exact rfl

theorem execTraceDone_kept (s : State) (h : Kept B Q K s) :
    ∃ s2, execTraceDone s = .next s2 ∧ Kept B Q K s2 := by
  unfold execTraceDone
  refine ⟨_, rfl, ?_⟩
  repeat' first
    | intro _
    | with_reducible first | assumption | apply Kept.ite | apply raiseP_kept
    | dsimp only
    | split
    | with_reducible
        refine Kept.of (e := ?_) ?_ ?_ ?_ ?_ ?_ ?_ ?_ ?_ ?_ ?_ ?_ ?_ ?_
        rotate_left; iterate 12 exact rfl

theorem execWearUpdate_kept (w : WearIn) (s : State) (h : Kept B Q K s) :
    ∃ s2, execWearUpdate w s = .next s2 ∧ Kept B Q K s2 := by
  unfold execWearUpdate
  refine ⟨_, rfl, ?_⟩
  repeat' first
    | intro _
    | with_reducible first | assumption | apply Kept.ite | apply wearDie_kept | apply wearPhase_kept
    | with_reducible first | apply wearStore_kept | apply wearNvm_kept
    | dsimp only
    | split
    | with_reducible
        refine Kept.of (e := ?_) ?_ ?_ ?_ ?_ ?_ ?_ ?_ ?_ ?_ ?_ ?_ ?_ ?_
        rotate_left; iterate 12 exact rfl

theorem execTabForward_kept (rq : Request) (s : State) (h : Kept B Q K s) :
    ∃ s2, execTabForward rq s = .next s2 ∧ Kept B Q K s2 := by
  unfold execTabForward
  refine ⟨_, rfl, ?_⟩
  repeat' first
    | intro _
    | with_reducible first | assumption | apply serve_kept | apply cmdTabForward_kept
    | with_reducible
        refine Kept.of (e := ?_) ?_ ?_ ?_ ?_ ?_ ?_ ?_ ?_ ?_ ?_ ?_ ?_ ?_
        rotate_left; iterate 12 exact rfl

theorem execLedgerUpdate_kept (g : Gauge) (s : State) (h : Kept B Q K s) :
    ∃ s2, execLedgerUpdate g s = .next s2 ∧ Kept B Q K s2 := by
  unfold execLedgerUpdate
  refine ⟨_, rfl, ?_⟩
  repeat' first
    | intro _
    | with_reducible first | assumption | apply Kept.ite | apply taskEnd_kept | apply ledgerStep_kept
    | dsimp only
    | split
    | with_reducible
        refine Kept.of (e := ?_) ?_ ?_ ?_ ?_ ?_ ?_ ?_ ?_ ?_ ?_ ?_ ?_ ?_
        rotate_left; iterate 12 exact rfl

theorem execChargeTermination_kept (s : State) (h : Kept B Q K s) :
    ∃ s2, execChargeTermination s = .next s2 ∧ Kept B Q K s2 := by
  unfold execChargeTermination
  refine ⟨_, rfl, ?_⟩
  repeat' first
    | intro _
    | with_reducible first | assumption | apply Kept.ite | apply evalLedger_kept | apply rebase_kept
    | dsimp only
    | split
    | with_reducible
        refine Kept.of (e := ?_) ?_ ?_ ?_ ?_ ?_ ?_ ?_ ?_ ?_ ?_ ?_ ?_ ?_
        rotate_left; iterate 12 exact rfl

theorem execHoldRise_kept (s : State) (h : Kept B Q K s) :
    ∃ s2, execHoldRise s = .next s2 ∧ Kept B Q K s2 := by
  unfold execHoldRise
  refine ⟨_, rfl, ?_⟩
  repeat' first
    | intro _
    | with_reducible first | assumption | apply Kept.ite | apply raiseP_kept | apply hold_kept
    | dsimp only
    | split
    | with_reducible
        refine Kept.of (e := ?_) ?_ ?_ ?_ ?_ ?_ ?_ ?_ ?_ ?_ ?_ ?_ ?_ ?_
        rotate_left; iterate 12 exact rfl

theorem execHoldFall_kept (s : State) (h : Kept B Q K s) :
    ∃ s2, execHoldFall s = .next s2 ∧ Kept B Q K s2 := by
  unfold execHoldFall
  refine ⟨_, rfl, ?_⟩
  repeat' first
    | intro _
    | with_reducible first | assumption | apply Kept.ite | apply hold_kept | apply holdDown_kept
    | dsimp only
    | split
    | with_reducible
        refine Kept.of (e := ?_) ?_ ?_ ?_ ?_ ?_ ?_ ?_ ?_ ?_ ?_ ?_ ?_ ?_
        rotate_left; iterate 12 exact rfl

theorem execRearmEnd_kept (s : State) (h : Kept B Q K s) :
    ∃ s2, execRearmEnd s = .next s2 ∧ Kept B Q K s2 := by
  unfold execRearmEnd
  refine ⟨_, rfl, ?_⟩
  repeat' first
    | intro _
    | with_reducible first | assumption | apply Kept.ite | apply evalPins_kept
    | dsimp only
    | split
    | with_reducible
        refine Kept.of (e := ?_) ?_ ?_ ?_ ?_ ?_ ?_ ?_ ?_ ?_ ?_ ?_ ?_ ?_
        rotate_left; iterate 12 exact rfl

theorem execHoldOverrun_kept (s : State) (h : Kept B Q K s) :
    ∃ s2, execHoldOverrun s = .next s2 ∧ Kept B Q K s2 := by
  unfold execHoldOverrun
  refine ⟨_, rfl, ?_⟩
  repeat' first
    | intro _
    | with_reducible first | assumption | apply Kept.ite | apply raiseP_kept | apply hold_kept | apply pinsLow_kept
    | dsimp only
    | split
    | with_reducible
        refine Kept.of (e := ?_) ?_ ?_ ?_ ?_ ?_ ?_ ?_ ?_ ?_ ?_ ?_ ?_ ?_
        rotate_left; iterate 12 exact rfl

theorem execBreachGraceExpiry_kept (s : State) (h : Kept B Q K s) :
    ∃ s2, execBreachGraceExpiry s = .next s2 ∧ Kept B Q K s2 := by
  unfold execBreachGraceExpiry
  refine ⟨_, rfl, ?_⟩
  repeat' first
    | intro _
    | with_reducible first | assumption | apply Kept.ite | apply hold_kept | apply evalPins_kept
    | with_reducible first | apply vhostEval_kept
    | dsimp only
    | split
    | with_reducible
        refine Kept.of (e := ?_) ?_ ?_ ?_ ?_ ?_ ?_ ?_ ?_ ?_ ?_ ?_ ?_ ?_
        rotate_left; iterate 12 exact rfl

theorem execReservationRequest_kept (j : Job) (units : Nat) (s : State) (h : Kept B Q K s) :
    ∃ s2, execReservationRequest j units s = .next s2 ∧ Kept B Q K s2 := by
  unfold execReservationRequest
  refine ⟨_, rfl, ?_⟩
  repeat' first
    | intro _
    | with_reducible first | assumption | apply Kept.ite | apply hold_kept | apply refuse_kept | apply request_kept
    | dsimp only
    | split
    | with_reducible
        refine Kept.of (e := ?_) ?_ ?_ ?_ ?_ ?_ ?_ ?_ ?_ ?_ ?_ ?_ ?_ ?_
        rotate_left; iterate 12 exact rfl

theorem execReservationWaitExpiry_kept (j : Job) (s : State) (h : Kept B Q K s) :
    ∃ s2, execReservationWaitExpiry j s = .next s2 ∧ Kept B Q K s2 := by
  unfold execReservationWaitExpiry
  refine ⟨_, rfl, ?_⟩
  repeat' first
    | intro _
    | with_reducible first | assumption | apply fresh_kept | apply fresh_kept_pr | apply energyOut_kept
    | with_reducible first | refine Kept.of_fst (by assumption) ?_ | refine Kept.of_snd (by assumption) ?_
    | dsimp only
    | split
    | with_reducible
        refine Kept.of (e := ?_) ?_ ?_ ?_ ?_ ?_ ?_ ?_ ?_ ?_ ?_ ?_ ?_ ?_
        rotate_left; iterate 12 exact rfl

theorem execReservationRelease_kept (j : Job) (s : State) (h : Kept B Q K s) :
    ∃ s2, execReservationRelease j s = .next s2 ∧ Kept B Q K s2 := by
  unfold execReservationRelease
  refine ⟨_, rfl, ?_⟩
  repeat' first
    | intro _
    | with_reducible first | assumption | apply Kept.ite | apply release_kept
    | dsimp only
    | split
    | with_reducible
        refine Kept.of (e := ?_) ?_ ?_ ?_ ?_ ?_ ?_ ?_ ?_ ?_ ?_ ?_ ?_ ?_
        rotate_left; iterate 12 exact rfl

theorem execLedgerFirmwareTimeout_kept (s : State) (h : Kept B Q K s) :
    ∃ s2, execLedgerFirmwareTimeout s = .next s2 ∧ Kept B Q K s2 := by
  unfold execLedgerFirmwareTimeout
  refine ⟨_, rfl, ?_⟩
  repeat' first
    | intro _
    | with_reducible first | assumption | apply Kept.ite | apply pinsLow_kept
    | dsimp only
    | split
    | with_reducible
        refine Kept.of (e := ?_) ?_ ?_ ?_ ?_ ?_ ?_ ?_ ?_ ?_ ?_ ?_ ?_ ?_
        rotate_left; iterate 12 exact rfl

theorem execCalendarHourEnd_kept (s : State) (h : Kept B Q K s) :
    ∃ s2, execCalendarHourEnd s = .next s2 ∧ Kept B Q K s2 := by
  unfold execCalendarHourEnd
  refine ⟨_, rfl, ?_⟩
  repeat' first
    | intro _
    | with_reducible first | assumption | apply Kept.ite | apply count_kept
    | dsimp only
    | split
    | with_reducible
        refine Kept.of (e := ?_) ?_ ?_ ?_ ?_ ?_ ?_ ?_ ?_ ?_ ?_ ?_ ?_ ?_
        rotate_left; iterate 12 exact rfl

theorem execCalendarSave_kept (ok : Bool) (s : State) (h : Kept B Q K s) :
    ∃ s2, execCalendarSave ok s = .next s2 ∧ Kept B Q K s2 := by
  unfold execCalendarSave
  refine ⟨_, rfl, ?_⟩
  repeat' first
    | intro _
    | with_reducible first | assumption | apply Kept.ite | apply raiseOnce_kept | apply clearD_kept
    | with_reducible first | apply refuse_kept | apply wearNvm_kept
    | dsimp only
    | split
    | with_reducible
        refine Kept.of (e := ?_) ?_ ?_ ?_ ?_ ?_ ?_ ?_ ?_ ?_ ?_ ?_ ?_ ?_
        rotate_left; iterate 12 exact rfl

theorem execForecastCheck_kept (s : State) (h : Kept B Q K s) :
    ∃ s2, execForecastCheck s = .next s2 ∧ Kept B Q K s2 := by
  unfold execForecastCheck
  refine ⟨_, rfl, ?_⟩
  repeat' first
    | intro _
    | with_reducible first | assumption | apply Kept.ite | apply raiseOnce_kept | apply evalPins_kept
    | dsimp only
    | split
    | with_reducible
        refine Kept.of (e := ?_) ?_ ?_ ?_ ?_ ?_ ?_ ?_ ?_ ?_ ?_ ?_ ?_ ?_
        rotate_left; iterate 12 exact rfl

theorem execFcSuspendEnd_kept (s : State) (h : Kept B Q K s) :
    ∃ s2, execFcSuspendEnd s = .next s2 ∧ Kept B Q K s2 := by
  unfold execFcSuspendEnd
  refine ⟨_, rfl, ?_⟩
  repeat' first
    | intro _
    | with_reducible first | assumption | apply Kept.ite | apply clearE_kept
    | dsimp only
    | split
    | with_reducible
        refine Kept.of (e := ?_) ?_ ?_ ?_ ?_ ?_ ?_ ?_ ?_ ?_ ?_ ?_ ?_ ?_
        rotate_left; iterate 12 exact rfl

theorem execPilotWordSend_kept (s : State) (h : Kept B Q K s) :
    ∃ s2, execPilotWordSend s = .next s2 ∧ Kept B Q K s2 := by
  unfold execPilotWordSend
  refine ⟨_, rfl, ?_⟩
  repeat' first
    | intro _
    | with_reducible first | assumption | apply Kept.ite
    | dsimp only
    | split
    | with_reducible
        refine Kept.of (e := ?_) ?_ ?_ ?_ ?_ ?_ ?_ ?_ ?_ ?_ ?_ ?_ ?_ ?_
        rotate_left; iterate 12 exact rfl

theorem execPilotWordReceived_kept (w : BitVec 10) (s : State) (h : Kept B Q K s) :
    ∃ s2, execPilotWordReceived w s = .next s2 ∧ Kept B Q K s2 := by
  unfold execPilotWordReceived
  refine ⟨_, rfl, ?_⟩
  repeat' first
    | intro _
    | with_reducible first | assumption | apply Kept.ite | apply hearWord_kept
    | dsimp only
    | split
    | with_reducible
        refine Kept.of (e := ?_) ?_ ?_ ?_ ?_ ?_ ?_ ?_ ?_ ?_ ?_ ?_ ?_ ?_
        rotate_left; iterate 12 exact rfl

theorem execPilotLoss_kept (byWords : Bool) (s : State) (h : Kept B Q K s) :
    ∃ s2, execPilotLoss byWords s = .next s2 ∧ Kept B Q K s2 := by
  unfold execPilotLoss
  refine ⟨_, rfl, ?_⟩
  repeat' first
    | intro _
    | with_reducible first | assumption | apply Kept.ite | apply loseLock_kept
    | dsimp only
    | split
    | with_reducible
        refine Kept.of (e := ?_) ?_ ?_ ?_ ?_ ?_ ?_ ?_ ?_ ?_ ?_ ?_ ?_ ?_
        rotate_left; iterate 12 exact rfl

theorem execTimeApply_kept (s : State) (h : Kept B Q K s) :
    ∃ s2, execTimeApply s = .next s2 ∧ Kept B Q K s2 := by
  unfold execTimeApply
  refine ⟨_, rfl, ?_⟩
  repeat' first
    | intro _
    | with_reducible first | assumption | apply timeFromPilot_kept
    | with_reducible
        refine Kept.of (e := ?_) ?_ ?_ ?_ ?_ ?_ ?_ ?_ ?_ ?_ ?_ ?_ ?_ ?_
        rotate_left; iterate 12 exact rfl

theorem execSuperframeStart_kept (s : State) (h : Kept B Q K s) :
    ∃ s2, execSuperframeStart s = .next s2 ∧ Kept B Q K s2 := by
  unfold execSuperframeStart
  refine ⟨_, rfl, ?_⟩
  repeat' first
    | intro _
    | with_reducible first | assumption | apply Kept.ite | apply taskEnd_kept | apply superframe_kept
    | dsimp only
    | split
    | with_reducible
        refine Kept.of (e := ?_) ?_ ?_ ?_ ?_ ?_ ?_ ?_ ?_ ?_ ?_ ?_ ?_ ?_
        rotate_left; iterate 12 exact rfl

theorem execHeadExchange_kept (slotsLeft : Nat) (s : State) (h : Kept B Q K s) :
    ∃ s2, execHeadExchange slotsLeft s = .next s2 ∧ Kept B Q K s2 := by
  unfold execHeadExchange
  refine ⟨_, rfl, ?_⟩
  repeat' first
    | intro _
    | with_reducible first | assumption | apply Kept.ite | apply taskEnd_kept | apply exchange_kept
    | dsimp only
    | split
    | with_reducible
        refine Kept.of (e := ?_) ?_ ?_ ?_ ?_ ?_ ?_ ?_ ?_ ?_ ?_ ?_ ?_ ?_
        rotate_left; iterate 12 exact rfl

theorem execLineFrameReceived_kept (desc : Byte) (bytes : List Byte) (snrQ : Nat) (s : State) (h : Kept B Q K s) :
    ∃ s2, execLineFrameReceived desc bytes snrQ s = .next s2 ∧ Kept B Q K s2 := by
  unfold execLineFrameReceived
  refine ⟨_, rfl, ?_⟩
  repeat' first
    | intro _
    | with_reducible first | assumption | apply lineFrame_kept | apply heard_kept
    | with_reducible
        refine Kept.of (e := ?_) ?_ ?_ ?_ ?_ ?_ ?_ ?_ ?_ ?_ ?_ ?_ ?_ ?_
        rotate_left; iterate 12 exact rfl

theorem execReplyWindow_kept (rlen : Nat) (rmode : Fin 3) (s : State) (h : Kept B Q K s) :
    ∃ s2, execReplyWindow rlen rmode s = .next s2 ∧ Kept B Q K s2 := by
  unfold execReplyWindow
  refine ⟨_, rfl, ?_⟩
  repeat' first
    | intro _
    | with_reducible first | assumption | apply Kept.ite | apply taskEnd_kept | apply reply_kept
    | dsimp only
    | split
    | with_reducible
        refine Kept.of (e := ?_) ?_ ?_ ?_ ?_ ?_ ?_ ?_ ?_ ?_ ?_ ?_ ?_ ?_
        rotate_left; iterate 12 exact rfl

theorem execAccessFrameSend_kept (s : State) (h : Kept B Q K s) :
    ∃ s2, execAccessFrameSend s = .next s2 ∧ Kept B Q K s2 := by
  unfold execAccessFrameSend
  refine ⟨_, rfl, ?_⟩
  repeat' first
    | intro _
    | with_reducible first | assumption | apply Kept.ite | apply nodeBurst_kept
    | dsimp only
    | split
    | with_reducible
        refine Kept.of (e := ?_) ?_ ?_ ?_ ?_ ?_ ?_ ?_ ?_ ?_ ?_ ?_ ?_ ?_
        rotate_left; iterate 12 exact rfl

theorem execJoinReceived_kept (desc : Byte) (bytes : List Byte) (s : State) (h : Kept B Q K s) :
    ∃ s2, execJoinReceived desc bytes s = .next s2 ∧ Kept B Q K s2 := by
  unfold execJoinReceived
  refine ⟨_, rfl, ?_⟩
  repeat' first
    | intro _
    | with_reducible first | assumption | apply Kept.ite | apply heard_kept | apply join_kept
    | dsimp only
    | split
    | with_reducible
        refine Kept.of (e := ?_) ?_ ?_ ?_ ?_ ?_ ?_ ?_ ?_ ?_ ?_ ?_ ?_ ?_
        rotate_left; iterate 12 exact rfl

theorem execJoinRetry_kept (s : State) (h : Kept B Q K s) :
    ∃ s2, execJoinRetry s = .next s2 ∧ Kept B Q K s2 := by
  unfold execJoinRetry
  refine ⟨_, rfl, ?_⟩
  repeat' first
    | intro _
    | with_reducible first | assumption | apply Kept.ite | apply draw_kept
    | dsimp only
    | split
    | with_reducible
        refine Kept.of (e := ?_) ?_ ?_ ?_ ?_ ?_ ?_ ?_ ?_ ?_ ?_ ?_ ?_ ?_
        rotate_left; iterate 12 exact rfl

theorem execReassemblyTimeout_kept (addr : Nat) (s : State) (h : Kept B Q K s) :
    ∃ s2, execReassemblyTimeout addr s = .next s2 ∧ Kept B Q K s2 := by
  unfold execReassemblyTimeout
  refine ⟨_, rfl, ?_⟩
  repeat' first
    | intro _
    | with_reducible first | assumption | apply Kept.ite | apply onNode_kept
    | dsimp only
    | split
    | with_reducible
        refine Kept.of (e := ?_) ?_ ?_ ?_ ?_ ?_ ?_ ?_ ?_ ?_ ?_ ?_ ?_ ?_
        rotate_left; iterate 12 exact rfl

theorem execLaneDrop_kept (lane : Fin 4) (restore : Bool) (s : State) (h : Kept B Q K s) :
    ∃ s2, execLaneDrop lane restore s = .next s2 ∧ Kept B Q K s2 := by
  unfold execLaneDrop
  refine ⟨_, rfl, ?_⟩
  repeat' first
    | intro _
    | with_reducible first | assumption | apply Kept.ite | apply raiseP_kept
    | dsimp only
    | split
    | with_reducible
        refine Kept.of (e := ?_) ?_ ?_ ?_ ?_ ?_ ?_ ?_ ?_ ?_ ?_ ?_ ?_ ?_
        rotate_left; iterate 12 exact rfl

theorem execNodeLost_kept (addr : Nat) (s : State) (h : Kept B Q K s) :
    ∃ s2, execNodeLost addr s = .next s2 ∧ Kept B Q K s2 := by
  unfold execNodeLost
  refine ⟨_, rfl, ?_⟩
  repeat' first
    | intro _
    | with_reducible first | assumption | apply Kept.ite | apply raiseP_kept | apply notify_kept
    | dsimp only
    | split
    | with_reducible
        refine Kept.of (e := ?_) ?_ ?_ ?_ ?_ ?_ ?_ ?_ ?_ ?_ ?_ ?_ ?_ ?_
        rotate_left; iterate 12 exact rfl

theorem execNodeUnjoin_kept (s : State) (h : Kept B Q K s) :
    ∃ s2, execNodeUnjoin s = .next s2 ∧ Kept B Q K s2 := by
  unfold execNodeUnjoin
  refine ⟨_, rfl, ?_⟩
  repeat' first
    | intro _
    | with_reducible first | assumption | apply Kept.ite
    | dsimp only
    | split
    | with_reducible
        refine Kept.of (e := ?_) ?_ ?_ ?_ ?_ ?_ ?_ ?_ ?_ ?_ ?_ ?_ ?_ ?_
        rotate_left; iterate 12 exact rfl

theorem execAlertTrigger_kept (group : Fin 16) (s : State) (h : Kept B Q K s) :
    ∃ s2, execAlertTrigger group s = .next s2 ∧ Kept B Q K s2 := by
  unfold execAlertTrigger
  refine ⟨_, rfl, ?_⟩
  repeat' first
    | intro _
    | with_reducible first | assumption | apply Kept.ite
    | dsimp only
    | split
    | with_reducible
        refine Kept.of (e := ?_) ?_ ?_ ?_ ?_ ?_ ?_ ?_ ?_ ?_ ?_ ?_ ?_ ?_
        rotate_left; iterate 12 exact rfl

theorem execPilotHoldExpiry_kept (s : State) (h : Kept B Q K s) :
    ∃ s2, execPilotHoldExpiry s = .next s2 ∧ Kept B Q K s2 := by
  unfold execPilotHoldExpiry
  refine ⟨_, rfl, ?_⟩
  repeat' first
    | intro _
    | with_reducible first | assumption | apply Kept.ite | apply relevel_kept
    | dsimp only
    | split
    | with_reducible
        refine Kept.of (e := ?_) ?_ ?_ ?_ ?_ ?_ ?_ ?_ ?_ ?_ ?_ ?_ ?_ ?_
        rotate_left; iterate 12 exact rfl

theorem execShedHoldExpiry_kept (s : State) (h : Kept B Q K s) :
    ∃ s2, execShedHoldExpiry s = .next s2 ∧ Kept B Q K s2 := by
  unfold execShedHoldExpiry
  refine ⟨_, rfl, ?_⟩
  repeat' first
    | intro _
    | with_reducible first | assumption | apply Kept.ite | apply relevel_kept
    | dsimp only
    | split
    | with_reducible
        refine Kept.of (e := ?_) ?_ ?_ ?_ ?_ ?_ ?_ ?_ ?_ ?_ ?_ ?_ ?_ ?_
        rotate_left; iterate 12 exact rfl

theorem execDroopRise_kept (level : Fin 4) (vbusMv : Int) (s : State) (h : Kept B Q K s) :
    ∃ s2, execDroopRise level vbusMv s = .next s2 ∧ Kept B Q K s2 := by
  unfold execDroopRise
  refine ⟨_, rfl, ?_⟩
  repeat' first
    | intro _
    | with_reducible first | assumption | apply Kept.ite | apply raiseC_kept | apply relevel_kept
    | dsimp only
    | split
    | with_reducible
        refine Kept.of (e := ?_) ?_ ?_ ?_ ?_ ?_ ?_ ?_ ?_ ?_ ?_ ?_ ?_ ?_
        rotate_left; iterate 12 exact rfl

theorem execDroopFall_kept (vbusMv : Int) (s : State) (h : Kept B Q K s) :
    ∃ s2, execDroopFall vbusMv s = .next s2 ∧ Kept B Q K s2 := by
  unfold execDroopFall
  refine ⟨_, rfl, ?_⟩
  repeat' first
    | intro _
    | with_reducible first | assumption | apply Kept.ite | apply clearE_kept | apply relevel_kept
    | dsimp only
    | split
    | with_reducible
        refine Kept.of (e := ?_) ?_ ?_ ?_ ?_ ?_ ?_ ?_ ?_ ?_ ?_ ?_ ?_ ?_
        rotate_left; iterate 12 exact rfl

theorem execPickupDelayExpiry_kept (ch : Fin 16) (s : State) (h : Kept B Q K s) :
    ∃ s2, execPickupDelayExpiry ch s = .next s2 ∧ Kept B Q K s2 := by
  unfold execPickupDelayExpiry
  refine ⟨_, rfl, ?_⟩
  repeat' first
    | intro _
    | with_reducible first | assumption | apply Kept.ite | apply onChan_kept | apply pickup_kept
    | dsimp only
    | split
    | with_reducible
        refine Kept.of (e := ?_) ?_ ?_ ?_ ?_ ?_ ?_ ?_ ?_ ?_ ?_ ?_ ?_ ?_
        rotate_left; iterate 12 exact rfl

theorem execAllowanceReached_kept (cls : Fin 8) (s : State) (h : Kept B Q K s) :
    ∃ s2, execAllowanceReached cls s = .next s2 ∧ Kept B Q K s2 := by
  unfold execAllowanceReached
  refine ⟨_, rfl, ?_⟩
  repeat' first
    | intro _
    | with_reducible first | assumption | apply applyAllowance_kept
    | with_reducible
        refine Kept.of (e := ?_) ?_ ?_ ?_ ?_ ?_ ?_ ?_ ?_ ?_ ?_ ?_ ?_ ?_
        rotate_left; iterate 12 exact rfl

theorem execAllowanceDayStart_kept (s : State) (h : Kept B Q K s) :
    ∃ s2, execAllowanceDayStart s = .next s2 ∧ Kept B Q K s2 := by
  unfold execAllowanceDayStart
  refine ⟨_, rfl, ?_⟩
  repeat' first
    | intro _
    | with_reducible first | assumption | apply clearDay_kept
    | with_reducible
        refine Kept.of (e := ?_) ?_ ?_ ?_ ?_ ?_ ?_ ?_ ?_ ?_ ?_ ?_ ?_ ?_
        rotate_left; iterate 12 exact rfl

theorem execTxFault_kept (short : Bool) (s : State) (h : Kept B Q K s) :
    ∃ s2, execTxFault short s = .next s2 ∧ Kept B Q K s2 := by
  unfold execTxFault
  refine ⟨_, rfl, ?_⟩
  repeat' first
    | intro _
    | with_reducible first | assumption | apply Kept.ite | apply raiseOnce_kept | apply endBurst_kept
    | dsimp only
    | split
    | with_reducible
        refine Kept.of (e := ?_) ?_ ?_ ?_ ?_ ?_ ?_ ?_ ?_ ?_ ?_ ?_ ?_ ?_
        rotate_left; iterate 12 exact rfl

theorem execTxFaultRetry_kept (works : Bool) (s : State) (h : Kept B Q K s) :
    ∃ s2, execTxFaultRetry works s = .next s2 ∧ Kept B Q K s2 := by
  unfold execTxFaultRetry
  refine ⟨_, rfl, ?_⟩
  repeat' first
    | intro _
    | with_reducible first | assumption | apply Kept.ite | apply clearE_kept
    | dsimp only
    | split
    | with_reducible
        refine Kept.of (e := ?_) ?_ ?_ ?_ ?_ ?_ ?_ ?_ ?_ ?_ ?_ ?_ ?_ ?_
        rotate_left; iterate 12 exact rfl

theorem execHeadStartupListenEnd_kept (heard : Bool) (s : State) (h : Kept B Q K s) :
    ∃ s2, execHeadStartupListenEnd heard s = .next s2 ∧ Kept B Q K s2 := by
  unfold execHeadStartupListenEnd
  refine ⟨_, rfl, ?_⟩
  repeat' first
    | intro _
    | with_reducible first | assumption | apply Kept.ite | apply heard_kept | apply endListen_kept
    | dsimp only
    | split
    | with_reducible
        refine Kept.of (e := ?_) ?_ ?_ ?_ ?_ ?_ ?_ ?_ ?_ ?_ ?_ ?_ ?_ ?_
        rotate_left; iterate 12 exact rfl

theorem execHeadClash_kept (s : State) (h : Kept B Q K s) :
    ∃ s2, execHeadClash s = .next s2 ∧ Kept B Q K s2 := by
  unfold execHeadClash
  refine ⟨_, rfl, ?_⟩
  repeat' first
    | intro _
    | with_reducible first | assumption | apply Kept.ite | apply raiseC_kept | apply tb8Eval_kept
    | with_reducible first | apply endBurst_kept
    | dsimp only
    | split
    | with_reducible
        refine Kept.of (e := ?_) ?_ ?_ ?_ ?_ ?_ ?_ ?_ ?_ ?_ ?_ ?_ ?_ ?_
        rotate_left; iterate 12 exact rfl

theorem execHeadClashListenEnd_kept (heard : Bool) (s : State) (h : Kept B Q K s) :
    ∃ s2, execHeadClashListenEnd heard s = .next s2 ∧ Kept B Q K s2 := by
  unfold execHeadClashListenEnd
  refine ⟨_, rfl, ?_⟩
  repeat' first
    | intro _
    | with_reducible first | assumption | apply Kept.ite | apply clearE_kept | apply heard_kept
    | with_reducible first | apply endListen_kept
    | dsimp only
    | split
    | with_reducible
        refine Kept.of (e := ?_) ?_ ?_ ?_ ?_ ?_ ?_ ?_ ?_ ?_ ?_ ?_ ?_ ?_
        rotate_left; iterate 12 exact rfl

theorem execStoodDownCheck_kept (quiet : Bool) (s : State) (h : Kept B Q K s) :
    ∃ s2, execStoodDownCheck quiet s = .next s2 ∧ Kept B Q K s2 := by
  unfold execStoodDownCheck
  refine ⟨_, rfl, ?_⟩
  repeat' first
    | intro _
    | with_reducible first | assumption | apply Kept.ite | apply endListen_kept
    | dsimp only
    | split
    | with_reducible
        refine Kept.of (e := ?_) ?_ ?_ ?_ ?_ ?_ ?_ ?_ ?_ ?_ ?_ ?_ ?_ ?_
        rotate_left; iterate 12 exact rfl

theorem execShutdownStep2_kept (s : State) (h : Kept B Q K s) :
    ∃ s2, execShutdownStep2 s = .next s2 ∧ Kept B Q K s2 := by
  unfold execShutdownStep2
  refine ⟨_, rfl, ?_⟩
  repeat' first
    | intro _
    | with_reducible first | assumption | apply Kept.ite | apply transferNow_kept | apply openChannels_kept
    | dsimp only
    | split
    | with_reducible
        refine Kept.of (e := ?_) ?_ ?_ ?_ ?_ ?_ ?_ ?_ ?_ ?_ ?_ ?_ ?_ ?_
        rotate_left; iterate 12 exact rfl

theorem execShutdownStep3_kept (s : State) (h : Kept B Q K s) :
    ∃ s2, execShutdownStep3 s = .next s2 ∧ Kept B Q K s2 := by
  unfold execShutdownStep3
  refine ⟨_, rfl, ?_⟩
  repeat' first
    | intro _
    | with_reducible first | assumption | apply Kept.ite | apply onOps_kept
    | dsimp only
    | split
    | with_reducible
        refine Kept.of (e := ?_) ?_ ?_ ?_ ?_ ?_ ?_ ?_ ?_ ?_ ?_ ?_ ?_ ?_
        rotate_left; iterate 12 exact rfl

theorem execShutdownCommit_kept (s : State) (h : Kept B Q K s) :
    ∃ s2, execShutdownCommit s = .next s2 ∧ Kept B Q K s2 := by
  unfold execShutdownCommit
  refine ⟨_, rfl, ?_⟩
  repeat' first
    | intro _
    | with_reducible first | assumption | apply Kept.ite | apply commitNow_kept
    | dsimp only
    | split
    | with_reducible
        refine Kept.of (e := ?_) ?_ ?_ ?_ ?_ ?_ ?_ ?_ ?_ ?_ ?_ ?_ ?_ ?_
        rotate_left; iterate 12 exact rfl

theorem execPlinthEntry_kept (s : State) (h : Kept B Q K s) :
    ∃ s2, execPlinthEntry s = .next s2 ∧ Kept B Q K s2 := by
  unfold execPlinthEntry
  refine ⟨_, rfl, ?_⟩
  repeat' first
    | intro _
    | with_reducible first | assumption | apply Kept.ite | apply seqReset_kept | apply vhostEval_kept
    | with_reducible first | apply restartBegin_kept | apply toPlinth_kept | apply shelfIn_kept
    | dsimp only
    | split
    | with_reducible
        refine Kept.of (e := ?_) ?_ ?_ ?_ ?_ ?_ ?_ ?_ ?_ ?_ ?_ ?_ ?_ ?_
        rotate_left; iterate 12 exact rfl

theorem execRailPickup_kept (s : State) (h : Kept B Q K s) :
    ∃ s2, execRailPickup s = .next s2 ∧ Kept B Q K s2 := by
  unfold execRailPickup
  refine ⟨_, rfl, ?_⟩
  repeat' first
    | intro _
    | with_reducible first | assumption | apply Kept.ite | apply autostart_kept | apply Kept.foldl
    | dsimp only
    | split
    | with_reducible
        refine Kept.of (e := ?_) ?_ ?_ ?_ ?_ ?_ ?_ ?_ ?_ ?_ ?_ ?_ ?_ ?_
        rotate_left; iterate 12 exact rfl

theorem execAutostartPending_kept (r : Fin 2) (s : State) (h : Kept B Q K s) :
    ∃ s2, execAutostartPending r s = .next s2 ∧ Kept B Q K s2 := by
  unfold execAutostartPending
  refine ⟨_, rfl, ?_⟩
  repeat' first
    | intro _
    | with_reducible first | assumption | apply Kept.ite | apply startRail_kept
    | dsimp only
    | split
    | with_reducible
        refine Kept.of (e := ?_) ?_ ?_ ?_ ?_ ?_ ?_ ?_ ?_ ?_ ?_ ?_ ?_ ?_
        rotate_left; iterate 12 exact rfl

theorem execChannelPickup_kept (ch : Fin 16) (s : State) (h : Kept B Q K s) :
    ∃ s2, execChannelPickup ch s = .next s2 ∧ Kept B Q K s2 := by
  unfold execChannelPickup
  refine ⟨_, rfl, ?_⟩
  repeat' first
    | intro _
    | with_reducible first | assumption | apply Kept.ite | apply onChan_kept | apply pickup_kept
    | with_reducible first | apply pickupsDone_kept
    | dsimp only
    | split
    | with_reducible
        refine Kept.of (e := ?_) ?_ ?_ ?_ ?_ ?_ ?_ ?_ ?_ ?_ ?_ ?_ ?_ ?_
        rotate_left; iterate 12 exact rfl

theorem execClpRetryReset_kept (s : State) (h : Kept B Q K s) :
    ∃ s2, execClpRetryReset s = .next s2 ∧ Kept B Q K s2 := by
  unfold execClpRetryReset
  refine ⟨_, rfl, ?_⟩
  repeat' first
    | intro _
    | with_reducible first | assumption | apply Kept.ite
    | dsimp only
    | split
    | with_reducible
        refine Kept.of (e := ?_) ?_ ?_ ?_ ?_ ?_ ?_ ?_ ?_ ?_ ?_ ?_ ?_ ?_
        rotate_left; iterate 12 exact rfl

theorem execFloorEssentialCommit_kept (stoMv : Nat) (s : State) (h : Kept B Q K s) :
    ∃ s2, execFloorEssentialCommit stoMv s = .next s2 ∧ Kept B Q K s2 := by
  unfold execFloorEssentialCommit
  refine ⟨_, rfl, ?_⟩
  repeat' first
    | intro _
    | with_reducible first | assumption | apply Kept.ite | apply admitAll_kept | apply setSto_kept
    | with_reducible first | apply commitRecords_kept
    | dsimp only
    | split
    | with_reducible
        refine Kept.of (e := ?_) ?_ ?_ ?_ ?_ ?_ ?_ ?_ ?_ ?_ ?_ ?_ ?_ ?_
        rotate_left; iterate 12 exact rfl

theorem execShelfShutdownStart_kept (s : State) (h : Kept B Q K s) :
    ∃ s2, execShelfShutdownStart s = .next s2 ∧ Kept B Q K s2 := by
  unfold execShelfShutdownStart
  refine ⟨_, rfl, ?_⟩
  repeat' first
    | intro _
    | with_reducible first | assumption | apply Kept.ite | apply shelfShut_kept
    | dsimp only
    | split
    | with_reducible
        refine Kept.of (e := ?_) ?_ ?_ ?_ ?_ ?_ ?_ ?_ ?_ ?_ ?_ ?_ ?_ ?_
        rotate_left; iterate 12 exact rfl

theorem execShelfEntry_kept (s : State) (h : Kept B Q K s) :
    ∃ s2, execShelfEntry s = .next s2 ∧ Kept B Q K s2 := by
  unfold execShelfEntry
  refine ⟨_, rfl, ?_⟩
  repeat' first
    | intro _
    | with_reducible first | assumption | apply Kept.ite | apply shelfIn_kept
    | dsimp only
    | split
    | with_reducible
        refine Kept.of (e := ?_) ?_ ?_ ?_ ?_ ?_ ?_ ?_ ?_ ?_ ?_ ?_ ?_ ?_
        rotate_left; iterate 12 exact rfl

theorem execShelfTimer_kept (straps : Straps) (s : State) (h : Kept B Q K s) :
    ∃ s2, execShelfTimer straps s = .next s2 ∧ Kept B Q K s2 := by
  unfold execShelfTimer
  refine ⟨_, rfl, ?_⟩
  repeat' first
    | intro _
    | with_reducible first | assumption | apply Kept.ite | apply powerOn_kept
    | dsimp only
    | split
    | with_reducible
        refine Kept.of (e := ?_) ?_ ?_ ?_ ?_ ?_ ?_ ?_ ?_ ?_ ?_ ?_ ?_ ?_
        rotate_left; iterate 12 exact rfl

theorem execShelfReentry_kept (s : State) (h : Kept B Q K s) :
    ∃ s2, execShelfReentry s = .next s2 ∧ Kept B Q K s2 := by
  unfold execShelfReentry
  refine ⟨_, rfl, ?_⟩
  repeat' first
    | intro _
    | with_reducible first | assumption | apply Kept.ite | apply shelfShut_kept
    | dsimp only
    | split
    | with_reducible
        refine Kept.of (e := ?_) ?_ ?_ ?_ ?_ ?_ ?_ ?_ ?_ ?_ ?_ ?_ ?_ ?_
        rotate_left; iterate 12 exact rfl

theorem execShelfMarkerClear_kept (s : State) (h : Kept B Q K s) :
    ∃ s2, execShelfMarkerClear s = .next s2 ∧ Kept B Q K s2 := by
  unfold execShelfMarkerClear
  refine ⟨_, rfl, ?_⟩
  repeat' first
    | intro _
    | with_reducible first | assumption | apply Kept.ite
    | dsimp only
    | split
    | with_reducible
        refine Kept.of (e := ?_) ?_ ?_ ?_ ?_ ?_ ?_ ?_ ?_ ?_ ?_ ?_ ?_ ?_
        rotate_left; iterate 12 exact rfl

theorem execDecommissionOutputs_kept (s : State) (h : Kept B Q K s) :
    ∃ s2, execDecommissionOutputs s = .next s2 ∧ Kept B Q K s2 := by
  unfold execDecommissionOutputs
  refine ⟨_, rfl, ?_⟩
  repeat' first
    | intro _
    | with_reducible first | assumption | apply Kept.ite | apply onRail_kept | apply softStop_kept
    | with_reducible first | apply toIdle_kept | apply turnOff_kept | apply Kept.foldl
    | dsimp only
    | split
    | with_reducible
        refine Kept.of (e := ?_) ?_ ?_ ?_ ?_ ?_ ?_ ?_ ?_ ?_ ?_ ?_ ?_ ?_
        rotate_left; iterate 12 exact rfl

theorem execDecommissionErase_kept (s : State) (h : Kept B Q K s) :
    ∃ s2, execDecommissionErase s = .next s2 ∧ Kept B Q K s2 := by
  unfold execDecommissionErase
  refine ⟨_, rfl, ?_⟩
  repeat' first
    | intro _
    | with_reducible first | assumption | apply Kept.ite | apply fcClear_kept
    | dsimp only
    | split
    | with_reducible
        refine Kept.of (e := ?_) ?_ ?_ ?_ ?_ ?_ ?_ ?_ ?_ ?_ ?_ ?_ ?_ ?_
        rotate_left; iterate 12 exact rfl

theorem execDecommissionReset_kept (s : State) (h : Kept B Q K s) :
    ∃ s2, execDecommissionReset s = .next s2 ∧ Kept B Q K s2 := by
  unfold execDecommissionReset
  refine ⟨_, rfl, ?_⟩
  repeat' first
    | intro _
    | with_reducible first | assumption | apply Kept.ite | apply seqReset_kept | apply decomReply_kept
    | dsimp only
    | split
    | with_reducible
        refine Kept.of (e := ?_) ?_ ?_ ?_ ?_ ?_ ?_ ?_ ?_ ?_ ?_ ?_ ?_ ?_
        rotate_left; iterate 12 exact rfl

theorem execXtalFail_kept (s : State) (h : Kept B Q K s) :
    ∃ s2, execXtalFail s = .next s2 ∧ Kept B Q K s2 := by
  unfold execXtalFail
  refine ⟨_, rfl, ?_⟩
  repeat' first
    | intro _
    | with_reducible first | assumption | apply Kept.ite | apply raiseOnce_kept | apply tb8Eval_kept
    | dsimp only
    | split
    | with_reducible
        refine Kept.of (e := ?_) ?_ ?_ ?_ ?_ ?_ ?_ ?_ ?_ ?_ ?_ ?_ ?_ ?_
        rotate_left; iterate 12 exact rfl

theorem execXtalRetry_kept (s : State) (h : Kept B Q K s) :
    ∃ s2, execXtalRetry s = .next s2 ∧ Kept B Q K s2 := by
  unfold execXtalRetry
  refine ⟨_, rfl, ?_⟩
  repeat' first
    | intro _
    | with_reducible first | assumption | apply Kept.ite
    | dsimp only
    | split
    | with_reducible
        refine Kept.of (e := ?_) ?_ ?_ ?_ ?_ ?_ ?_ ?_ ?_ ?_ ?_ ?_ ?_ ?_
        rotate_left; iterate 12 exact rfl

theorem execXtalFailClear_kept (s : State) (h : Kept B Q K s) :
    ∃ s2, execXtalFailClear s = .next s2 ∧ Kept B Q K s2 := by
  unfold execXtalFailClear
  refine ⟨_, rfl, ?_⟩
  repeat' first
    | intro _
    | with_reducible first | assumption | apply Kept.ite | apply clearE_kept | apply tb8Eval_kept
    | dsimp only
    | split
    | with_reducible
        refine Kept.of (e := ?_) ?_ ?_ ?_ ?_ ?_ ?_ ?_ ?_ ?_ ?_ ?_ ?_ ?_
        rotate_left; iterate 12 exact rfl

theorem execXo32Started_kept (s : State) (h : Kept B Q K s) :
    ∃ s2, execXo32Started s = .next s2 ∧ Kept B Q K s2 := by
  unfold execXo32Started
  refine ⟨_, rfl, ?_⟩
  repeat' first
    | intro _
    | with_reducible first | assumption | apply Kept.ite | apply tb8Eval_kept
    | dsimp only
    | split
    | with_reducible
        refine Kept.of (e := ?_) ?_ ?_ ?_ ?_ ?_ ?_ ?_ ?_ ?_ ?_ ?_ ?_ ?_
        rotate_left; iterate 12 exact rfl

theorem execRunLingerExpiry_kept (s : State) (h : Kept B Q K s) :
    ∃ s2, execRunLingerExpiry s = .next s2 ∧ Kept B Q K s2 := by
  unfold execRunLingerExpiry
  refine ⟨_, rfl, ?_⟩
  repeat' first
    | intro _
    | with_reducible first | assumption | apply Kept.ite | apply run_kept | apply leaveRun_kept
    | dsimp only
    | split
    | with_reducible
        refine Kept.of (e := ?_) ?_ ?_ ?_ ?_ ?_ ?_ ?_ ?_ ?_ ?_ ?_ ?_ ?_
        rotate_left; iterate 12 exact rfl

theorem execHousekeepingRun_kept (s : State) (h : Kept B Q K s) :
    ∃ s2, execHousekeepingRun s = .next s2 ∧ Kept B Q K s2 := by
  unfold execHousekeepingRun
  refine ⟨_, rfl, ?_⟩
  repeat' first
    | intro _
    | with_reducible first | assumption | apply Kept.ite | apply housekeeping_kept
    | dsimp only
    | split
    | with_reducible
        refine Kept.of (e := ?_) ?_ ?_ ?_ ?_ ?_ ?_ ?_ ?_ ?_ ?_ ?_ ?_ ?_
        rotate_left; iterate 12 exact rfl

theorem execHousekeepingLimit_kept (s : State) (h : Kept B Q K s) :
    ∃ s2, execHousekeepingLimit s = .next s2 ∧ Kept B Q K s2 := by
  unfold execHousekeepingLimit
  refine ⟨_, rfl, ?_⟩
  repeat' first
    | intro _
    | with_reducible first | assumption | apply Kept.ite | apply leaveRun_kept
    | dsimp only
    | split
    | with_reducible
        refine Kept.of (e := ?_) ?_ ?_ ?_ ?_ ?_ ?_ ?_ ?_ ?_ ?_ ?_ ?_ ?_
        rotate_left; iterate 12 exact rfl

theorem execWakeSource_kept (w : WakeSrc) (s : State) (h : Kept B Q K s) :
    ∃ s2, execWakeSource w s = .next s2 ∧ Kept B Q K s2 := by
  unfold execWakeSource
  refine ⟨_, rfl, ?_⟩
  repeat' first
    | intro _
    | with_reducible first | assumption | apply Kept.ite | apply coldBoot_kept | apply latchWake_kept
    | with_reducible first | apply wakePlinth_kept | apply wakeDoze_kept
    | dsimp only
    | split
    | with_reducible
        refine Kept.of (e := ?_) ?_ ?_ ?_ ?_ ?_ ?_ ?_ ?_ ?_ ?_ ?_ ?_ ?_
        rotate_left; iterate 12 exact rfl

end Sys2Proof.Machine
end

