-- ==== Sys2Proof/Laws/State.lean ====
section
/-! SUPPORT. What the named updates of a state write and what they leave: one lemma per field and update, so that no proof
unfolds a record update; what a raise and a clear do to the names that hold; and how a request that is ready is served. -/

namespace Sys2Proof.Machine

/-- Two states with the same fields are the same state. -/
theorem State.ext_fields (a b : State)
    (hident : a.ident = b.ident) (hplinth : a.plinth = b.plinth) (hpower : a.power = b.power) (hharvest : a.harvest = b.harvest)
    (hledger : a.ledger = b.ledger) (hconfig : a.config = b.config) (hcamyx : a.camyx = b.camyx) (hnfc : a.nfc = b.nfc)
    (hsec : a.sec = b.sec) (hsw : a.sw = b.sw) (harm : a.arm = b.arm) (hline : a.line = b.line)
    (htab : a.tab = b.tab) (hevents : a.events = b.events) (hpatina : a.patina = b.patina) (htrace : a.trace = b.trace)
    (hctr : a.ctr = b.ctr) (hnvm : a.nvm = b.nvm) (hlife : a.life = b.life) (hfree : a.free = b.free)
    (hpending : a.pending = b.pending) : a = b := by
  cases a; cases b; simp only at *; subst_vars; rfl

/-! ### Updates of one element -/

theorem upd_same {α : Type} {n : Nat} (v : Vector α n) (i : Nat) (f : α → α) (h : i < n) : (upd v i f)[i] = f v[i] := by
  simp [upd]

theorem upd_other {α : Type} {n : Nat} (v : Vector α n) (i j : Nat) (f : α → α) (h : j < n) (hij : j ≠ i) :
    (upd v i f)[j] = v[j] := by
  simp [upd, hij]

/-! ### `onChan` -/

@[simp] theorem onChan_ident (s : State) (c : Nat) (f : Chan → Chan) :
    (s.onChan c f).ident = s.ident := by unfold State.onChan; rfl
@[simp] theorem onChan_plinth (s : State) (c : Nat) (f : Chan → Chan) :
    (s.onChan c f).plinth = s.plinth := by unfold State.onChan; rfl
@[simp] theorem onChan_power (s : State) (c : Nat) (f : Chan → Chan) :
    (s.onChan c f).power = s.power := by unfold State.onChan; rfl
@[simp] theorem onChan_harvest (s : State) (c : Nat) (f : Chan → Chan) :
    (s.onChan c f).harvest = s.harvest := by unfold State.onChan; rfl
@[simp] theorem onChan_ledger (s : State) (c : Nat) (f : Chan → Chan) :
    (s.onChan c f).ledger = s.ledger := by unfold State.onChan; rfl
@[simp] theorem onChan_config (s : State) (c : Nat) (f : Chan → Chan) :
    (s.onChan c f).config = s.config := by unfold State.onChan; rfl
@[simp] theorem onChan_camyx (s : State) (c : Nat) (f : Chan → Chan) :
    (s.onChan c f).camyx = s.camyx := by unfold State.onChan; rfl
@[simp] theorem onChan_nfc (s : State) (c : Nat) (f : Chan → Chan) :
    (s.onChan c f).nfc = s.nfc := by unfold State.onChan; rfl
@[simp] theorem onChan_sec (s : State) (c : Nat) (f : Chan → Chan) :
    (s.onChan c f).sec = s.sec := by unfold State.onChan; rfl
@[simp] theorem onChan_arm (s : State) (c : Nat) (f : Chan → Chan) :
    (s.onChan c f).arm = s.arm := by unfold State.onChan; rfl
@[simp] theorem onChan_line (s : State) (c : Nat) (f : Chan → Chan) :
    (s.onChan c f).line = s.line := by unfold State.onChan; rfl
@[simp] theorem onChan_tab (s : State) (c : Nat) (f : Chan → Chan) :
    (s.onChan c f).tab = s.tab := by unfold State.onChan; rfl
@[simp] theorem onChan_events (s : State) (c : Nat) (f : Chan → Chan) :
    (s.onChan c f).events = s.events := by unfold State.onChan; rfl
@[simp] theorem onChan_patina (s : State) (c : Nat) (f : Chan → Chan) :
    (s.onChan c f).patina = s.patina := by unfold State.onChan; rfl
@[simp] theorem onChan_trace (s : State) (c : Nat) (f : Chan → Chan) :
    (s.onChan c f).trace = s.trace := by unfold State.onChan; rfl
@[simp] theorem onChan_ctr (s : State) (c : Nat) (f : Chan → Chan) :
    (s.onChan c f).ctr = s.ctr := by unfold State.onChan; rfl
@[simp] theorem onChan_nvm (s : State) (c : Nat) (f : Chan → Chan) :
    (s.onChan c f).nvm = s.nvm := by unfold State.onChan; rfl
@[simp] theorem onChan_life (s : State) (c : Nat) (f : Chan → Chan) :
    (s.onChan c f).life = s.life := by unfold State.onChan; rfl
@[simp] theorem onChan_free (s : State) (c : Nat) (f : Chan → Chan) :
    (s.onChan c f).free = s.free := by unfold State.onChan; rfl
@[simp] theorem onChan_pending (s : State) (c : Nat) (f : Chan → Chan) :
    (s.onChan c f).pending = s.pending := by unfold State.onChan; rfl

/-! ### `onRail` -/

@[simp] theorem onRail_ident (s : State) (r : Nat) (f : Rail → Rail) :
    (s.onRail r f).ident = s.ident := rfl
@[simp] theorem onRail_plinth (s : State) (r : Nat) (f : Rail → Rail) :
    (s.onRail r f).plinth = s.plinth := rfl
@[simp] theorem onRail_power (s : State) (r : Nat) (f : Rail → Rail) :
    (s.onRail r f).power = s.power := rfl
@[simp] theorem onRail_harvest (s : State) (r : Nat) (f : Rail → Rail) :
    (s.onRail r f).harvest = s.harvest := rfl
@[simp] theorem onRail_ledger (s : State) (r : Nat) (f : Rail → Rail) :
    (s.onRail r f).ledger = s.ledger := rfl
@[simp] theorem onRail_config (s : State) (r : Nat) (f : Rail → Rail) :
    (s.onRail r f).config = s.config := rfl
@[simp] theorem onRail_camyx (s : State) (r : Nat) (f : Rail → Rail) :
    (s.onRail r f).camyx = s.camyx := rfl
@[simp] theorem onRail_nfc (s : State) (r : Nat) (f : Rail → Rail) :
    (s.onRail r f).nfc = s.nfc := rfl
@[simp] theorem onRail_sec (s : State) (r : Nat) (f : Rail → Rail) :
    (s.onRail r f).sec = s.sec := rfl
@[simp] theorem onRail_sw (s : State) (r : Nat) (f : Rail → Rail) :
    (s.onRail r f).sw = s.sw := rfl
@[simp] theorem onRail_line (s : State) (r : Nat) (f : Rail → Rail) :
    (s.onRail r f).line = s.line := rfl
@[simp] theorem onRail_tab (s : State) (r : Nat) (f : Rail → Rail) :
    (s.onRail r f).tab = s.tab := rfl
@[simp] theorem onRail_events (s : State) (r : Nat) (f : Rail → Rail) :
    (s.onRail r f).events = s.events := rfl
@[simp] theorem onRail_patina (s : State) (r : Nat) (f : Rail → Rail) :
    (s.onRail r f).patina = s.patina := rfl
@[simp] theorem onRail_trace (s : State) (r : Nat) (f : Rail → Rail) :
    (s.onRail r f).trace = s.trace := rfl
@[simp] theorem onRail_ctr (s : State) (r : Nat) (f : Rail → Rail) :
    (s.onRail r f).ctr = s.ctr := rfl
@[simp] theorem onRail_nvm (s : State) (r : Nat) (f : Rail → Rail) :
    (s.onRail r f).nvm = s.nvm := rfl
@[simp] theorem onRail_life (s : State) (r : Nat) (f : Rail → Rail) :
    (s.onRail r f).life = s.life := rfl
@[simp] theorem onRail_free (s : State) (r : Nat) (f : Rail → Rail) :
    (s.onRail r f).free = s.free := rfl
@[simp] theorem onRail_pending (s : State) (r : Nat) (f : Rail → Rail) :
    (s.onRail r f).pending = s.pending := rfl

/-! ### `onPhase` -/

@[simp] theorem onPhase_ident (s : State) (p : Nat) (f : Phase → Phase) :
    (s.onPhase p f).ident = s.ident := rfl
@[simp] theorem onPhase_plinth (s : State) (p : Nat) (f : Phase → Phase) :
    (s.onPhase p f).plinth = s.plinth := rfl
@[simp] theorem onPhase_power (s : State) (p : Nat) (f : Phase → Phase) :
    (s.onPhase p f).power = s.power := rfl
@[simp] theorem onPhase_harvest (s : State) (p : Nat) (f : Phase → Phase) :
    (s.onPhase p f).harvest = s.harvest := rfl
@[simp] theorem onPhase_ledger (s : State) (p : Nat) (f : Phase → Phase) :
    (s.onPhase p f).ledger = s.ledger := rfl
@[simp] theorem onPhase_config (s : State) (p : Nat) (f : Phase → Phase) :
    (s.onPhase p f).config = s.config := rfl
@[simp] theorem onPhase_camyx (s : State) (p : Nat) (f : Phase → Phase) :
    (s.onPhase p f).camyx = s.camyx := rfl
@[simp] theorem onPhase_nfc (s : State) (p : Nat) (f : Phase → Phase) :
    (s.onPhase p f).nfc = s.nfc := rfl
@[simp] theorem onPhase_sec (s : State) (p : Nat) (f : Phase → Phase) :
    (s.onPhase p f).sec = s.sec := rfl
@[simp] theorem onPhase_sw (s : State) (p : Nat) (f : Phase → Phase) :
    (s.onPhase p f).sw = s.sw := rfl
@[simp] theorem onPhase_line (s : State) (p : Nat) (f : Phase → Phase) :
    (s.onPhase p f).line = s.line := rfl
@[simp] theorem onPhase_tab (s : State) (p : Nat) (f : Phase → Phase) :
    (s.onPhase p f).tab = s.tab := rfl
@[simp] theorem onPhase_events (s : State) (p : Nat) (f : Phase → Phase) :
    (s.onPhase p f).events = s.events := rfl
@[simp] theorem onPhase_patina (s : State) (p : Nat) (f : Phase → Phase) :
    (s.onPhase p f).patina = s.patina := rfl
@[simp] theorem onPhase_trace (s : State) (p : Nat) (f : Phase → Phase) :
    (s.onPhase p f).trace = s.trace := rfl
@[simp] theorem onPhase_ctr (s : State) (p : Nat) (f : Phase → Phase) :
    (s.onPhase p f).ctr = s.ctr := rfl
@[simp] theorem onPhase_nvm (s : State) (p : Nat) (f : Phase → Phase) :
    (s.onPhase p f).nvm = s.nvm := rfl
@[simp] theorem onPhase_life (s : State) (p : Nat) (f : Phase → Phase) :
    (s.onPhase p f).life = s.life := rfl
@[simp] theorem onPhase_free (s : State) (p : Nat) (f : Phase → Phase) :
    (s.onPhase p f).free = s.free := rfl
@[simp] theorem onPhase_pending (s : State) (p : Nat) (f : Phase → Phase) :
    (s.onPhase p f).pending = s.pending := rfl

/-! ### `onPort` -/

@[simp] theorem onPort_ident (s : State) (t : Transport) (f : Port → Port) :
    (s.onPort t f).ident = s.ident := rfl
@[simp] theorem onPort_plinth (s : State) (t : Transport) (f : Port → Port) :
    (s.onPort t f).plinth = s.plinth := rfl
@[simp] theorem onPort_power (s : State) (t : Transport) (f : Port → Port) :
    (s.onPort t f).power = s.power := rfl
@[simp] theorem onPort_harvest (s : State) (t : Transport) (f : Port → Port) :
    (s.onPort t f).harvest = s.harvest := rfl
@[simp] theorem onPort_ledger (s : State) (t : Transport) (f : Port → Port) :
    (s.onPort t f).ledger = s.ledger := rfl
@[simp] theorem onPort_config (s : State) (t : Transport) (f : Port → Port) :
    (s.onPort t f).config = s.config := rfl
@[simp] theorem onPort_nfc (s : State) (t : Transport) (f : Port → Port) :
    (s.onPort t f).nfc = s.nfc := rfl
@[simp] theorem onPort_sec (s : State) (t : Transport) (f : Port → Port) :
    (s.onPort t f).sec = s.sec := rfl
@[simp] theorem onPort_sw (s : State) (t : Transport) (f : Port → Port) :
    (s.onPort t f).sw = s.sw := rfl
@[simp] theorem onPort_arm (s : State) (t : Transport) (f : Port → Port) :
    (s.onPort t f).arm = s.arm := rfl
@[simp] theorem onPort_line (s : State) (t : Transport) (f : Port → Port) :
    (s.onPort t f).line = s.line := rfl
@[simp] theorem onPort_tab (s : State) (t : Transport) (f : Port → Port) :
    (s.onPort t f).tab = s.tab := rfl
@[simp] theorem onPort_events (s : State) (t : Transport) (f : Port → Port) :
    (s.onPort t f).events = s.events := rfl
@[simp] theorem onPort_patina (s : State) (t : Transport) (f : Port → Port) :
    (s.onPort t f).patina = s.patina := rfl
@[simp] theorem onPort_trace (s : State) (t : Transport) (f : Port → Port) :
    (s.onPort t f).trace = s.trace := rfl
@[simp] theorem onPort_ctr (s : State) (t : Transport) (f : Port → Port) :
    (s.onPort t f).ctr = s.ctr := rfl
@[simp] theorem onPort_nvm (s : State) (t : Transport) (f : Port → Port) :
    (s.onPort t f).nvm = s.nvm := rfl
@[simp] theorem onPort_life (s : State) (t : Transport) (f : Port → Port) :
    (s.onPort t f).life = s.life := rfl
@[simp] theorem onPort_free (s : State) (t : Transport) (f : Port → Port) :
    (s.onPort t f).free = s.free := rfl
@[simp] theorem onPort_pending (s : State) (t : Transport) (f : Port → Port) :
    (s.onPort t f).pending = s.pending := rfl

/-! ### `onOps` -/

@[simp] theorem onOps_ident (s : State) (f : List Op → List Op) :
    (s.onOps f).ident = s.ident := rfl
@[simp] theorem onOps_plinth (s : State) (f : List Op → List Op) :
    (s.onOps f).plinth = s.plinth := rfl
@[simp] theorem onOps_power (s : State) (f : List Op → List Op) :
    (s.onOps f).power = s.power := rfl
@[simp] theorem onOps_harvest (s : State) (f : List Op → List Op) :
    (s.onOps f).harvest = s.harvest := rfl
@[simp] theorem onOps_ledger (s : State) (f : List Op → List Op) :
    (s.onOps f).ledger = s.ledger := rfl
@[simp] theorem onOps_config (s : State) (f : List Op → List Op) :
    (s.onOps f).config = s.config := rfl
@[simp] theorem onOps_nfc (s : State) (f : List Op → List Op) :
    (s.onOps f).nfc = s.nfc := rfl
@[simp] theorem onOps_sec (s : State) (f : List Op → List Op) :
    (s.onOps f).sec = s.sec := rfl
@[simp] theorem onOps_sw (s : State) (f : List Op → List Op) :
    (s.onOps f).sw = s.sw := rfl
@[simp] theorem onOps_arm (s : State) (f : List Op → List Op) :
    (s.onOps f).arm = s.arm := rfl
@[simp] theorem onOps_line (s : State) (f : List Op → List Op) :
    (s.onOps f).line = s.line := rfl
@[simp] theorem onOps_tab (s : State) (f : List Op → List Op) :
    (s.onOps f).tab = s.tab := rfl
@[simp] theorem onOps_events (s : State) (f : List Op → List Op) :
    (s.onOps f).events = s.events := rfl
@[simp] theorem onOps_patina (s : State) (f : List Op → List Op) :
    (s.onOps f).patina = s.patina := rfl
@[simp] theorem onOps_trace (s : State) (f : List Op → List Op) :
    (s.onOps f).trace = s.trace := rfl
@[simp] theorem onOps_ctr (s : State) (f : List Op → List Op) :
    (s.onOps f).ctr = s.ctr := rfl
@[simp] theorem onOps_nvm (s : State) (f : List Op → List Op) :
    (s.onOps f).nvm = s.nvm := rfl
@[simp] theorem onOps_life (s : State) (f : List Op → List Op) :
    (s.onOps f).life = s.life := rfl
@[simp] theorem onOps_free (s : State) (f : List Op → List Op) :
    (s.onOps f).free = s.free := rfl
@[simp] theorem onOps_pending (s : State) (f : List Op → List Op) :
    (s.onOps f).pending = s.pending := rfl

/-! ### `onNode` -/

@[simp] theorem onNode_ident (s : State) (a : Nat) (f : Node → Node) :
    (s.onNode a f).ident = s.ident := rfl
@[simp] theorem onNode_plinth (s : State) (a : Nat) (f : Node → Node) :
    (s.onNode a f).plinth = s.plinth := rfl
@[simp] theorem onNode_power (s : State) (a : Nat) (f : Node → Node) :
    (s.onNode a f).power = s.power := rfl
@[simp] theorem onNode_harvest (s : State) (a : Nat) (f : Node → Node) :
    (s.onNode a f).harvest = s.harvest := rfl
@[simp] theorem onNode_ledger (s : State) (a : Nat) (f : Node → Node) :
    (s.onNode a f).ledger = s.ledger := rfl
@[simp] theorem onNode_config (s : State) (a : Nat) (f : Node → Node) :
    (s.onNode a f).config = s.config := rfl
@[simp] theorem onNode_camyx (s : State) (a : Nat) (f : Node → Node) :
    (s.onNode a f).camyx = s.camyx := rfl
@[simp] theorem onNode_nfc (s : State) (a : Nat) (f : Node → Node) :
    (s.onNode a f).nfc = s.nfc := rfl
@[simp] theorem onNode_sec (s : State) (a : Nat) (f : Node → Node) :
    (s.onNode a f).sec = s.sec := rfl
@[simp] theorem onNode_sw (s : State) (a : Nat) (f : Node → Node) :
    (s.onNode a f).sw = s.sw := rfl
@[simp] theorem onNode_arm (s : State) (a : Nat) (f : Node → Node) :
    (s.onNode a f).arm = s.arm := rfl
@[simp] theorem onNode_tab (s : State) (a : Nat) (f : Node → Node) :
    (s.onNode a f).tab = s.tab := rfl
@[simp] theorem onNode_events (s : State) (a : Nat) (f : Node → Node) :
    (s.onNode a f).events = s.events := rfl
@[simp] theorem onNode_patina (s : State) (a : Nat) (f : Node → Node) :
    (s.onNode a f).patina = s.patina := rfl
@[simp] theorem onNode_trace (s : State) (a : Nat) (f : Node → Node) :
    (s.onNode a f).trace = s.trace := rfl
@[simp] theorem onNode_ctr (s : State) (a : Nat) (f : Node → Node) :
    (s.onNode a f).ctr = s.ctr := rfl
@[simp] theorem onNode_nvm (s : State) (a : Nat) (f : Node → Node) :
    (s.onNode a f).nvm = s.nvm := rfl
@[simp] theorem onNode_life (s : State) (a : Nat) (f : Node → Node) :
    (s.onNode a f).life = s.life := rfl
@[simp] theorem onNode_free (s : State) (a : Nat) (f : Node → Node) :
    (s.onNode a f).free = s.free := rfl
@[simp] theorem onNode_pending (s : State) (a : Nat) (f : Node → Node) :
    (s.onNode a f).pending = s.pending := rfl

/-! ### `onMember` -/

@[simp] theorem onMember_ident (s : State) (m : Nat) (f : Member → Member) :
    (s.onMember m f).ident = s.ident := rfl
@[simp] theorem onMember_plinth (s : State) (m : Nat) (f : Member → Member) :
    (s.onMember m f).plinth = s.plinth := rfl
@[simp] theorem onMember_power (s : State) (m : Nat) (f : Member → Member) :
    (s.onMember m f).power = s.power := rfl
@[simp] theorem onMember_harvest (s : State) (m : Nat) (f : Member → Member) :
    (s.onMember m f).harvest = s.harvest := rfl
@[simp] theorem onMember_ledger (s : State) (m : Nat) (f : Member → Member) :
    (s.onMember m f).ledger = s.ledger := rfl
@[simp] theorem onMember_config (s : State) (m : Nat) (f : Member → Member) :
    (s.onMember m f).config = s.config := rfl
@[simp] theorem onMember_camyx (s : State) (m : Nat) (f : Member → Member) :
    (s.onMember m f).camyx = s.camyx := rfl
@[simp] theorem onMember_nfc (s : State) (m : Nat) (f : Member → Member) :
    (s.onMember m f).nfc = s.nfc := rfl
@[simp] theorem onMember_sec (s : State) (m : Nat) (f : Member → Member) :
    (s.onMember m f).sec = s.sec := rfl
@[simp] theorem onMember_sw (s : State) (m : Nat) (f : Member → Member) :
    (s.onMember m f).sw = s.sw := rfl
@[simp] theorem onMember_arm (s : State) (m : Nat) (f : Member → Member) :
    (s.onMember m f).arm = s.arm := rfl
@[simp] theorem onMember_line (s : State) (m : Nat) (f : Member → Member) :
    (s.onMember m f).line = s.line := rfl
@[simp] theorem onMember_events (s : State) (m : Nat) (f : Member → Member) :
    (s.onMember m f).events = s.events := rfl
@[simp] theorem onMember_patina (s : State) (m : Nat) (f : Member → Member) :
    (s.onMember m f).patina = s.patina := rfl
@[simp] theorem onMember_trace (s : State) (m : Nat) (f : Member → Member) :
    (s.onMember m f).trace = s.trace := rfl
@[simp] theorem onMember_ctr (s : State) (m : Nat) (f : Member → Member) :
    (s.onMember m f).ctr = s.ctr := rfl
@[simp] theorem onMember_nvm (s : State) (m : Nat) (f : Member → Member) :
    (s.onMember m f).nvm = s.nvm := rfl
@[simp] theorem onMember_life (s : State) (m : Nat) (f : Member → Member) :
    (s.onMember m f).life = s.life := rfl
@[simp] theorem onMember_free (s : State) (m : Nat) (f : Member → Member) :
    (s.onMember m f).free = s.free := rfl
@[simp] theorem onMember_pending (s : State) (m : Nat) (f : Member → Member) :
    (s.onMember m f).pending = s.pending := rfl

/-! ### `draw` -/

@[simp] theorem draw_ident (s : State) :
    (s.draw).ident = s.ident := rfl
@[simp] theorem draw_plinth (s : State) :
    (s.draw).plinth = s.plinth := rfl
@[simp] theorem draw_power (s : State) :
    (s.draw).power = s.power := rfl
@[simp] theorem draw_harvest (s : State) :
    (s.draw).harvest = s.harvest := rfl
@[simp] theorem draw_ledger (s : State) :
    (s.draw).ledger = s.ledger := rfl
@[simp] theorem draw_config (s : State) :
    (s.draw).config = s.config := rfl
@[simp] theorem draw_camyx (s : State) :
    (s.draw).camyx = s.camyx := rfl
@[simp] theorem draw_nfc (s : State) :
    (s.draw).nfc = s.nfc := rfl
@[simp] theorem draw_sec (s : State) :
    (s.draw).sec = s.sec := rfl
@[simp] theorem draw_sw (s : State) :
    (s.draw).sw = s.sw := rfl
@[simp] theorem draw_arm (s : State) :
    (s.draw).arm = s.arm := rfl
@[simp] theorem draw_line (s : State) :
    (s.draw).line = s.line := rfl
@[simp] theorem draw_tab (s : State) :
    (s.draw).tab = s.tab := rfl
@[simp] theorem draw_events (s : State) :
    (s.draw).events = s.events := rfl
@[simp] theorem draw_patina (s : State) :
    (s.draw).patina = s.patina := rfl
@[simp] theorem draw_trace (s : State) :
    (s.draw).trace = s.trace := rfl
@[simp] theorem draw_ctr (s : State) :
    (s.draw).ctr = s.ctr := rfl
@[simp] theorem draw_nvm (s : State) :
    (s.draw).nvm = s.nvm := rfl
@[simp] theorem draw_life (s : State) :
    (s.draw).life = s.life := rfl
@[simp] theorem draw_pending (s : State) :
    (s.draw).pending = s.pending := rfl

/-! ### `clearIf` -/

@[simp] theorem clearIf_ident (s : State) (src : Src) (p : Held → Bool) :
    (s.clearIf src p).ident = s.ident := rfl
@[simp] theorem clearIf_plinth (s : State) (src : Src) (p : Held → Bool) :
    (s.clearIf src p).plinth = s.plinth := rfl
@[simp] theorem clearIf_power (s : State) (src : Src) (p : Held → Bool) :
    (s.clearIf src p).power = s.power := rfl
@[simp] theorem clearIf_harvest (s : State) (src : Src) (p : Held → Bool) :
    (s.clearIf src p).harvest = s.harvest := rfl
@[simp] theorem clearIf_ledger (s : State) (src : Src) (p : Held → Bool) :
    (s.clearIf src p).ledger = s.ledger := rfl
@[simp] theorem clearIf_config (s : State) (src : Src) (p : Held → Bool) :
    (s.clearIf src p).config = s.config := rfl
@[simp] theorem clearIf_camyx (s : State) (src : Src) (p : Held → Bool) :
    (s.clearIf src p).camyx = s.camyx := rfl
@[simp] theorem clearIf_nfc (s : State) (src : Src) (p : Held → Bool) :
    (s.clearIf src p).nfc = s.nfc := rfl
@[simp] theorem clearIf_sec (s : State) (src : Src) (p : Held → Bool) :
    (s.clearIf src p).sec = s.sec := rfl
@[simp] theorem clearIf_sw (s : State) (src : Src) (p : Held → Bool) :
    (s.clearIf src p).sw = s.sw := rfl
@[simp] theorem clearIf_arm (s : State) (src : Src) (p : Held → Bool) :
    (s.clearIf src p).arm = s.arm := rfl
@[simp] theorem clearIf_line (s : State) (src : Src) (p : Held → Bool) :
    (s.clearIf src p).line = s.line := rfl
@[simp] theorem clearIf_tab (s : State) (src : Src) (p : Held → Bool) :
    (s.clearIf src p).tab = s.tab := rfl
@[simp] theorem clearIf_patina (s : State) (src : Src) (p : Held → Bool) :
    (s.clearIf src p).patina = s.patina := rfl
@[simp] theorem clearIf_trace (s : State) (src : Src) (p : Held → Bool) :
    (s.clearIf src p).trace = s.trace := rfl
@[simp] theorem clearIf_ctr (s : State) (src : Src) (p : Held → Bool) :
    (s.clearIf src p).ctr = s.ctr := rfl
@[simp] theorem clearIf_nvm (s : State) (src : Src) (p : Held → Bool) :
    (s.clearIf src p).nvm = s.nvm := rfl
@[simp] theorem clearIf_life (s : State) (src : Src) (p : Held → Bool) :
    (s.clearIf src p).life = s.life := rfl
@[simp] theorem clearIf_free (s : State) (src : Src) (p : Held → Bool) :
    (s.clearIf src p).free = s.free := rfl
@[simp] theorem clearIf_pending (s : State) (src : Src) (p : Held → Bool) :
    (s.clearIf src p).pending = s.pending := rfl

/-! ### `withLogs` -/

@[simp] theorem withLogs_ident (s t : State) :
    (s.withLogs t).ident = s.ident := rfl
@[simp] theorem withLogs_plinth (s t : State) :
    (s.withLogs t).plinth = s.plinth := rfl
@[simp] theorem withLogs_power (s t : State) :
    (s.withLogs t).power = s.power := rfl
@[simp] theorem withLogs_harvest (s t : State) :
    (s.withLogs t).harvest = s.harvest := rfl
@[simp] theorem withLogs_ledger (s t : State) :
    (s.withLogs t).ledger = s.ledger := rfl
@[simp] theorem withLogs_config (s t : State) :
    (s.withLogs t).config = s.config := rfl
@[simp] theorem withLogs_camyx (s t : State) :
    (s.withLogs t).camyx = s.camyx := rfl
@[simp] theorem withLogs_nfc (s t : State) :
    (s.withLogs t).nfc = s.nfc := rfl
@[simp] theorem withLogs_sec (s t : State) :
    (s.withLogs t).sec = s.sec := rfl
@[simp] theorem withLogs_sw (s t : State) :
    (s.withLogs t).sw = s.sw := rfl
@[simp] theorem withLogs_arm (s t : State) :
    (s.withLogs t).arm = s.arm := rfl
@[simp] theorem withLogs_line (s t : State) :
    (s.withLogs t).line = s.line := rfl
@[simp] theorem withLogs_tab (s t : State) :
    (s.withLogs t).tab = s.tab := rfl
@[simp] theorem withLogs_events (s t : State) :
    (s.withLogs t).events = t.events := rfl
@[simp] theorem withLogs_patina (s t : State) :
    (s.withLogs t).patina = t.patina := rfl
@[simp] theorem withLogs_trace (s t : State) :
    (s.withLogs t).trace = t.trace := rfl
@[simp] theorem withLogs_ctr (s t : State) :
    (s.withLogs t).ctr = s.ctr := rfl
@[simp] theorem withLogs_nvm (s t : State) :
    (s.withLogs t).nvm = s.nvm := rfl
@[simp] theorem withLogs_life (s t : State) :
    (s.withLogs t).life = s.life := rfl
@[simp] theorem withLogs_free (s t : State) :
    (s.withLogs t).free = s.free := rfl
@[simp] theorem withLogs_pending (s t : State) :
    (s.withLogs t).pending = s.pending := rfl

/-! ### The elements that an update changes -/

theorem onPort_port (s : State) (t u : Transport) (f : Port → Port) :
    (s.onPort t f).port u = if u = t then f (s.port u) else s.port u := by
  unfold State.onPort State.port upd
  cases t <;> cases u <;> simp [placeOf]

/-! ### Raises and clears: `withLogs` says that nothing but the logs changes -/

theorem raiseAs_logs (s : State) (src : Src) (pulse : Bool) (reason detail : Nat) (pin : Bool) :
    s.raiseAs src pulse reason detail pin = s.withLogs (s.raiseAs src pulse reason detail pin) := by
  unfold State.raiseAs; dsimp only; split <;> rfl

theorem raiseC_logs (s : State) (src : Src) (reason detail : Nat) :
    s.raiseC src reason detail = s.withLogs (s.raiseC src reason detail) := raiseAs_logs ..

theorem raisePinC_logs (s : State) (src : Src) (reason detail : Nat) :
    s.raisePinC src reason detail = s.withLogs (s.raisePinC src reason detail) := raiseAs_logs ..

theorem raiseP_logs (s : State) (src : Src) (reason detail : Nat) :
    s.raiseP src reason detail = s.withLogs (s.raiseP src reason detail) := raiseAs_logs ..

theorem raisePinP_logs (s : State) (src : Src) (reason detail : Nat) :
    s.raisePinP src reason detail = s.withLogs (s.raisePinP src reason detail) := raiseAs_logs ..

theorem raiseOnce_logs (s : State) (src : Src) (reason detail : Nat) :
    s.raiseOnce src reason detail = s.withLogs (s.raiseOnce src reason detail) := by
  unfold State.raiseOnce; split
  · rfl
  · exact raiseC_logs ..

theorem clearIf_logs (s : State) (src : Src) (p : Held → Bool) :
    s.clearIf src p = s.withLogs (s.clearIf src p) := rfl

theorem setC_logs (s : State) (src : Src) (on : Bool) (reason detail : Nat) :
    s.setC src on reason detail = s.withLogs (s.setC src on reason detail) := by
  unfold State.setC; split
  · exact raiseOnce_logs ..
  · exact clearIf_logs ..

@[simp] theorem raiseAs_holds (s : State) (src : Src) (p : Bool) (r d : Nat) (q : Bool) :
    (s.raiseAs src p r d q).holds src = true := by
  have e : ∀ h : Held, h.src = src →
      List.any (if h ∈ s.events.held then s.events.held else s.events.held ++ [h]) (fun h => h.src == src) = true := by
    intro h hh; split
    · exact List.any_eq_true.2 ⟨h, ‹_›, by simp [hh]⟩
    · simp [hh]
  unfold State.raiseAs State.holds
  dsimp only
  split
  · exact e _ rfl
  · exact e _ rfl

@[simp] theorem raiseC_holds (s : State) (src : Src) (r d : Nat) : (s.raiseC src r d).holds src = true :=
  raiseAs_holds ..

@[simp] theorem raiseP_holds (s : State) (src : Src) (r d : Nat) : (s.raiseP src r d).holds src = true :=
  raiseAs_holds ..

@[simp] theorem raisePinC_holds (s : State) (src : Src) (r d : Nat) : (s.raisePinC src r d).holds src = true :=
  raiseAs_holds ..

@[simp] theorem raisePinP_holds (s : State) (src : Src) (r d : Nat) : (s.raisePinP src r d).holds src = true :=
  raiseAs_holds ..

@[simp] theorem raiseOnce_holds (s : State) (src : Src) (r d : Nat) : (s.raiseOnce src r d).holds src = true := by
  unfold State.raiseOnce; split
  · rename_i h; obtain ⟨x, hx, h⟩ := List.any_eq_true.1 h
    exact List.any_eq_true.2 ⟨x, hx, by simp_all⟩
  · simp

@[simp] theorem setC_holds (s : State) (src : Src) (r d : Nat) : (s.setC src true r d).holds src = true := by
  simp [State.setC]

@[simp] theorem clearE_holdsC (s : State) (src : Src) : (s.clearE src).holdsC src = false := by
  unfold State.clearE State.clearIf State.holdsC
  simp
  intros; simp_all

/-! ### Serving a request -/

/-- A ready request is the one that its row names. -/
theorem ready_rq {s : State} {o rq w} (h : s.Ready o rq w) : w.rq = rq ∧ w.opc = o := by
  have := List.find?_some h.1; simp at this; exact ⟨this.2, this.1⟩

/-- A ready request with a body of its own kind is taken from its queue and served by its row's operation. -/
theorem serve_ready {s : State} {o rq w own body} (h : s.Ready o rq w) (ho : own w.body = true) :
    s.serve o rq own body = (body (s.taken w) w).done w := by
  have e := (ready_rq h).1
  have eo := (ready_rq h).2
  have g := h.2
  have f := h.1
  unfold State.serve
  rw [f]; simp [ho, State.taken, e, State.run, State.done, eo]
  have hg : ∀ c, ({ s with camyx := c } : State).gate o rq.via w.body = s.gate o rq.via w.body := fun c => rfl
  simp [State.onPort, hg, g]

/-! ### Channel operations write the switch block alone -/

/-- A fold of steps that each write the switch block alone does too. -/
theorem foldl_sw {α : Type} (f : State → α → State) (h : ∀ s x, f s x = { s with sw := (f s x).sw }) (l : List α)
    (s : State) : l.foldl f s = { s with sw := (l.foldl f s).sw } := by
  induction l generalizing s with
  | nil => rfl
  | cons x l ih =>
    have k : ∀ y, ({ f s x with sw := y } : State) = { s with sw := y } := fun y => by rw [h s x]
    exact (ih (f s x)).trans (k _)

theorem latch_sw (s : State) (c : Nat) (b : Bool) : s.latch c b = { s with sw := (s.latch c b).sw } :=
  foldl_sw _ (fun _ _ => rfl) _ _

theorem hardOff_sw (s : State) (c : Nat) : s.hardOff c = { s with sw := (s.hardOff c).sw } := latch_sw ..

theorem openWindow_sw (s : State) (c : Nat) : s.openWindow c = { s with sw := (s.openWindow c).sw } := rfl

theorem cancelInrush_sw (s : State) (c : Nat) : s.cancelInrush c = { s with sw := (s.cancelInrush c).sw } := rfl

theorem refresh_sw (s : State) (c : Nat) (fresh : Bool) :
    s.refresh c fresh = { s with sw := (s.refresh c fresh).sw } := by
  unfold State.refresh
  dsimp only
  split
  · rfl
  · split
    · rfl
    · split
      · rw [openWindow_sw, latch_sw]
      · exact latch_sw ..

theorem inhibit_sw (s : State) (c : Nat) (f : Chan → Chan) : s.inhibit c f = { s with sw := (s.inhibit c f).sw } := by
  unfold State.inhibit
  rw [refresh_sw, cancelInrush_sw]
  rfl

theorem uninhibit_sw (s : State) (c : Nat) (f : Chan → Chan) :
    s.uninhibit c f = { s with sw := (s.uninhibit c f).sw } := rfl

end Sys2Proof.Machine
end

