-- ==== Sys2Proof/WellFormed.lean ====
section
/-! DEFINITION. Well-formed commands: operands that the packet fields, the registers and the frames of the spec can
carry. A meaning takes any operand; this says which ones a transport or a sensor can present. -/

namespace Sys2Proof

/-- A request as a packet can carry it (Table 6.1): line addresses of 8 bits, PARAMS that fit LEN, a MAC of 0 or 8
bytes. -/
def Request.wf (r : Request) : Bool :=
  decide (r.origin < 256) && decide (r.dst < 256) && decide (r.params.length ≤ 1024) &&
    (r.mac.length == 0 || r.mac.length == 8)

/-- A run of bytes that one frame, packet or APDU can carry. -/
def bytesWf (bs : List Byte) : Bool := decide (bs.length ≤ 1100)

/-- A parameter, voltage or count of 16 bits. -/
def wf16 (n : Nat) : Bool := decide (n < 65536)

/-- The straps' pad voltages lie within the pads' range. -/
def Straps.wf (p : Straps) : Bool := wf16 p.gpio7Mv && wf16 p.gpio6Mv && wf16 p.sdoMv && wf16 p.u0deMv

/-- A VBUS reading within the ratings of the input (Table 1.8). -/
def busWf (mv : Int) : Bool := decide (-60000 ≤ mv ∧ mv ≤ 80000)

/-- Well-formed commands. -/
def Instr.wf : Instr → Bool
  | .plinthPowerOnReset _ straps => straps.wf
  | .rstNAssert => true
  | .rstNRelease straps => straps.wf
  | .watchdogExpiry => true
  | .coreLockup => true
  | .vcoreBrownout => true
  | .rc48Failure => true
  | .rc48RestartTimeout => true
  | .warmRestartComplete => true
  | .coldBootComplete _ => true
  | .xtalFail => true
  | .xtalRetry => true
  | .xtalFailClear => true
  | .busUvFall vbusMv => busWf vbusMv
  | .busQualify vbusMv => busWf vbusMv
  | .busLost => true
  | .busFullCrossing _ vbusMv => busWf vbusMv
  | .busHighCrossing _ vbusMv => busWf vbusMv
  | .busOv vbusMv => busWf vbusMv
  | .busOvFall vbusMv => busWf vbusMv
  | .busDump vbusMv => busWf vbusMv
  | .busDumpFall vbusMv => busWf vbusMv
  | .busReverse vbusMv => busWf vbusMv
  | .busReverseRelease vbusMv => busWf vbusMv
  | .reverseHoldOn vbusMv => busWf vbusMv
  | .gndOpen => true
  | .gndOpenClear => true
  | .handoverMake => true
  | .dwellExpiry => true
  | .vselCollapseAfterMake => true
  | .stoQualify stoMv => wf16 stoMv
  | .stoDisqualify stoMv => wf16 stoMv
  | .fieldQualify => true
  | .fieldDisqualify => true
  | .bakQualifyChange _ => true
  | .plinthSupplyFail => true
  | .scDerateChange _ => true
  | .stoShortDetect stoMv => wf16 stoMv
  | .stoShortRetry stoMv => wf16 stoMv
  | .stoOpenDetect stoMv => wf16 stoMv
  | .stoOvervoltage stoMv => wf16 stoMv
  | .prechargeTimeout stoMv => wf16 stoMv
  | .chargeTermination => true
  | .midOpen midMv => wf16 midMv
  | .midOpenClear midMv => wf16 midMv
  | .stoImbalance _ => true
  | .balancerStop => true
  | .bakMeasure _ _ => true
  | .vhostCurrentLimit loadMa => wf16 loadMa
  | .vhostRetry _ => true
  | .cscStart p => wf16 p.pvVocMv && wf16 p.vibPeakMv && wf16 p.vibHz
  | .cscStop => true
  | .cscVocSample p => wf16 p.pvVocMv && wf16 p.vibPeakMv && wf16 p.vibHz
  | .plinthStartFromSto stoMv _ straps => wf16 stoMv && straps.wf
  | .coldBootTrigger stoMv => wf16 stoMv
  | .tegUp _ => true
  | .tegLost => true
  | .vibUp _ hz => wf16 hz
  | .vibLost => true
  | .pvUp _ => true
  | .pvLost => true
  | .nfcHrv rectMv uw => wf16 rectMv && wf16 uw
  | .trackerPeriod _ _ => true
  | .trackerSkip _ => true
  | .vocSample _ _ _ => true
  | .vocSampleRestart _ => true
  | .mpptLimit _ _ ma => wf16 ma
  | .mpptLimitClear _ => true
  | .storeFullStop vhbMv => wf16 vhbMv
  | .storeResume vhbMv => wf16 vhbMv
  | .boostCeiling _ => true
  | .referenceRefresh => true
  | .hbClamp _ => true
  | .tegOscCheck _ => true
  | .lstoOpen => true
  | .lstoRetry _ => true
  | .stageOc _ => true
  | .stageOcRetry _ _ => true
  | .vhbLow _ => true
  | .vibDcOv _ => true
  | .ledgerUpdate g => wf16 g.stoMv && wf16 g.midMv
  | .holdRise => true
  | .holdFall => true
  | .rearmEnd => true
  | .holdOverrun => true
  | .breachGraceExpiry => true
  | .reservationRequest _ _ => true
  | .reservationWaitExpiry _ => true
  | .reservationRelease _ => true
  | .ledgerFirmwareTimeout => true
  | .calendarHourEnd => true
  | .calendarSave _ => true
  | .forecastCheck => true
  | .fcSuspendEnd => true
  | .runLingerExpiry => true
  | .wakeSource _ => true
  | .housekeepingRun => true
  | .housekeepingLimit => true
  | .shadowTransfer => true
  | .u0BaudChange => true
  | .adcSSample _ _ _ _ => true
  | .dozeBurst _ _ => true
  | .blockOverrun _ us => wf16 us
  | .spiWriteTransaction bytes => bytesWf bytes
  | .spiReadTransaction n => wf16 n
  | .spiVoidTransaction _ n => wf16 n
  | .i2cWriteTransaction _ bytes => bytesWf bytes
  | .i2cReadTransaction _ n => wf16 n
  | .uartPacketReceived bytes => bytesWf bytes
  | .uartGapTimeout => true
  | .uartReplyTransmit => true
  | .bridgeFrame bytes => bytesWf bytes
  | .bridgeReplyTimeout addr seq => wf16 addr && wf16 seq
  | .packetPart _ rq => rq.wf
  | .camyxApdu bytes => bytesWf bytes
  | .sWtx => true
  | .sessionPendingLapse _ => true
  | .sessionIdleExpiry _ => true
  | .ping rq => rq.wf
  | .openSession rq => rq.wf
  | .closeSession rq => rq.wf
  | .abort rq => rq.wf
  | .getInfo rq => rq.wf
  | .tabForward rq => rq.wf
  | .readParam rq => rq.wf
  | .writeParam rq => rq.wf
  | .commit rq => rq.wf
  | .revert rq => rq.wf
  | .save rq => rq.wf
  | .readLive rq => rq.wf
  | .imageExport rq => rq.wf
  | .imageImport rq => rq.wf
  | .chSet rq => rq.wf
  | .chClear rq => rq.wf
  | .railCtrlStop rq => rq.wf
  | .railCtrlStart rq => rq.wf
  | .railCtrlClearLatch rq => rq.wf
  | .faultRead rq => rq.wf
  | .shedSet rq => rq.wf
  | .timeSet rq => rq.wf
  | .allowanceSet rq => rq.wf
  | .nodeList rq => rq.wf
  | .evtRead rq => rq.wf
  | .patinaRead rq => rq.wf
  | .traceArm rq => rq.wf
  | .traceStop rq => rq.wf
  | .traceRead rq => rq.wf
  | .keyWrite rq => rq.wf
  | .keyErase rq => rq.wf
  | .attest rq => rq.wf
  | .fwBegin rq => rq.wf
  | .fwBlock rq => rq.wf
  | .fwActivate rq => rq.wf
  | .debugUnlock rq => rq.wf
  | .debugUnlockLapse => true
  | .reset rq => rq.wf
  | .resetExecute => true
  | .shelf rq => rq.wf
  | .decommission rq => rq.wf
  | .pwmCycleStart _ tick => wf16 tick
  | .secondBoundaryPattern _ => true
  | .strobeLoss _ => true
  | .strobeReturn _ => true
  | .rangeSwitchDown _ => true
  | .measurementWindow _ => true
  | .openLoadDetect _ => true
  | .openLoadClear _ => true
  | .pairShare _ => true
  | .gpioDebounceComplete _ _ => true
  | .dimHold _ => true
  | .dimRampStep _ => true
  | .wallActionApply => true
  | .restoreAtStart _ => true
  | .livePlugWindow _ => true
  | .inrushWindowClose _ => true
  | .currentLimitReached _ => true
  | .limitTrip _ _ => true
  | .inrushRetry _ => true
  | .limitTimerReset _ => true
  | .thermalShutdown _ _ => true
  | .thermalRestart _ _ => true
  | .dieTempWarn _ _ => true
  | .clampEvent _ ma tclUs vclMv => wf16 ma && wf16 tclUs && wf16 vclMv
  | .noFreewheel _ => true
  | .heartbeatLoss _ => true
  | .heartbeatReturn _ => true
  | .dieFence _ _ => true
  | .dieSelfTest _ _ => true
  | .dieSumWarn _ _ => true
  | .dieSupplyLoss _ => true
  | .dieSupplyReturn _ => true
  | .railFiring _ dt fbUv _ vosMv vbusMv _ => wf16 dt && decide (fbUv < 2 ^ 32) && wf16 vosMv && wf16 vbusMv
  | .lockChange _ _ _ => true
  | .quietMapRecompute vbusMv => wf16 vbusMv
  | .balanceTick _ _ => true
  | .balanceLimit _ _ => true
  | .pll384Locked _ => true
  | .railUp _ => true
  | .softStopComplete _ => true
  | .trackFault _ => true
  | .syncAcquire => true
  | .syncLoss => true
  | .brakeStart _ => true
  | .brakeEnd _ _ => true
  | .scLimit _ => true
  | .overloadTimeout _ _ => true
  | .overloadRetry _ => true
  | .undervolt _ _ _ => true
  | .dropoutClear _ => true
  | .hiccupRestart _ => true
  | .hiccupCountClear _ => true
  | .vdrvLockout => true
  | .vdrvRelease => true
  | .pllLoss => true
  | .pllRelock => true
  | .outOvLatch _ peakFbMv => wf16 peakFbMv
  | .phaseFailedPath _ _ => true
  | .phaseShed _ => true
  | .vosMismatch _ => true
  | .faultRecordWrite _ => true
  | .pilotWordSend => true
  | .pilotWordReceived _ => true
  | .pilotLoss _ => true
  | .timeApply => true
  | .superframeStart => true
  | .headExchange slotsLeft => wf16 slotsLeft
  | .lineFrameReceived _ bytes snrQ => bytesWf bytes && wf16 snrQ
  | .replyWindow rlen _ => wf16 rlen
  | .accessFrameSend => true
  | .joinReceived _ bytes => bytesWf bytes
  | .joinRetry => true
  | .reassemblyTimeout addr => wf16 addr
  | .laneDrop _ _ => true
  | .nodeLost addr => wf16 addr
  | .nodeUnjoin => true
  | .alertTrigger _ => true
  | .pilotHoldExpiry => true
  | .shedHoldExpiry => true
  | .droopRise _ vbusMv => busWf vbusMv
  | .droopFall vbusMv => busWf vbusMv
  | .pickupDelayExpiry _ => true
  | .allowanceReached _ => true
  | .allowanceDayStart => true
  | .txFault _ => true
  | .txFaultRetry _ => true
  | .headStartupListenEnd _ => true
  | .headClash => true
  | .headClashListenEnd _ => true
  | .stoodDownCheck _ => true
  | .tabCycleStart => true
  | .leadFrameReceived bytes => bytesWf bytes
  | .gangShareStart _ => true
  | .memberFrameReceived bytes => bytesWf bytes
  | .bulkFrameReceived bytes => bytesWf bytes
  | .joinFrameReceived bytes => bytesWf bytes
  | .electionStart => true
  | .electionListenEnd => true
  | .readbackFailure => true
  | .tsyncLock => true
  | .tsyncLoss => true
  | .tsyncContention => true
  | .memberSilent _ => true
  | .memberLost _ => true
  | .leadLostTimeout => true
  | .memberReturn _ => true
  | .disagreementCheck _ => true
  | .linkFault _ => true
  | .nfcReqa rectMv => wf16 rectMv
  | .nfcAnticollision _ => true
  | .nfcRats _ => true
  | .nfcPps _ => true
  | .appSelect bytes => bytesWf bytes
  | .readBinary _ offset len => wf16 offset && wf16 len
  | .updateBinary => true
  | .fieldLost => true
  | .keyCommitSurplusCheck _ rectMv _ => wf16 rectMv
  | .fwTrialConfirm => true
  | .fifoWrite => true
  | .pulseAckTimeout _ _ => true
  | .patinaCapture => true
  | .tokenGain => true
  | .patinaFlush _ => true
  | .traceSample => true
  | .traceTrigger => true
  | .traceDone => true
  | .wearUpdate _ => true
  | .shutdownStep2 => true
  | .shutdownStep3 => true
  | .shutdownCommit => true
  | .plinthEntry => true
  | .railPickup => true
  | .autostartPending _ => true
  | .channelPickup _ => true
  | .clpRetryReset => true
  | .floorEssentialCommit stoMv => wf16 stoMv
  | .shelfShutdownStart => true
  | .shelfEntry => true
  | .shelfTimer straps => straps.wf
  | .shelfReentry => true
  | .shelfMarkerClear => true
  | .decommissionOutputs => true
  | .decommissionErase => true
  | .decommissionReset => true
  | .xo32Started => true
  | .nvmProgramEraseComplete _ => true
  | .onStaggerExpiry => true
  | .evtPinMinHoldExpiry _ => true
  | .nfcSessionRenewal => true

end Sys2Proof
end

