-- ==== Sys2Proof/Tests/Slice0.lean ====
section
/-! SUPPORT. Tests: a term that each check of `Instr.wf` refuses, published test vectors of the checksums and of the
cryptographic functions, and for every statement with hypotheses a small state that meets the hypotheses of each of its
clauses. -/

set_option maxRecDepth 40000

namespace Sys2Proof.Tests

open Sys2Proof Sys2Proof.Machine

/-! ### Well-formedness: one ill-formed term for each check -/

def goodRq : Request := { via := .spi, origin := 0, dst := 0, ctrl := 0, seq := 1, params := [], mac := [] }

theorem test_wf_good : (Instr.ping goodRq).wf = true := by decide

theorem test_wf_origin : (Instr.ping { goodRq with origin := 256 }).wf = false := by decide

theorem test_wf_dst : (Instr.ping { goodRq with dst := 256 }).wf = false := by decide

theorem test_wf_params : (Instr.ping { goodRq with params := List.replicate 1025 0 }).wf = false := by decide

theorem test_wf_mac : (Instr.ping { goodRq with mac := [1] }).wf = false := by decide

theorem test_wf_bytes : (Instr.bridgeFrame (List.replicate 1101 0)).wf = false := by decide

theorem test_wf_word : (Instr.stoQualify 65536).wf = false := by decide

theorem test_wf_straps :
    (Instr.rstNRelease { gpio7Mv := 65536, gpio6Mv := 0, sdoMv := 0, u0deMv := 0, test := false }).wf = false := by
  decide

theorem test_wf_bus : (Instr.busQualify 80001).wf = false := by decide

/-! ### Checksums and cryptography: check values of the CRC catalogue, FIPS 180-4 and FIPS 197 -/

theorem test_crc16 : crc16 [0x31, 0x32, 0x33, 0x34, 0x35, 0x36, 0x37, 0x38, 0x39] = 0x29B1 := by decide +kernel

theorem test_crc32c : crc32c [0x31, 0x32, 0x33, 0x34, 0x35, 0x36, 0x37, 0x38, 0x39] = 0xE3069283 := by decide +kernel

theorem test_sha256 : (sha256 [0x61, 0x62, 0x63]).take 4 = [0xBA, 0x78, 0x16, 0xBF] := by decide +kernel

/-! ### Reset -/

theorem test_reset_idle : State.reset.pending = [] := rfl

theorem test_reset_bounded : State.reset.bounded := by
  unfold State.bounded State.clockBounded State.logsBounded; decide

/-! ### Worked examples of the spec and published vectors -/

/-- The request and the reply of the PING of Chapter 6. -/
theorem test_ping_frames : frameLocal [0x04, 0, 0, 1, 0, 1] = [0xA7, 0x04, 0, 0, 1, 0, 1, 0xA0, 0x2F] ∧
    frameLocal [0x05, 0, 1, 1, 0, 1, 0] = [0xA7, 0x05, 0, 1, 1, 0, 1, 0, 0xBD, 0x67] := by decide +kernel

/-- Table 1.4: 240 pads and the four pads 79 to 82 of CH10 (Chapter 1, worked example). -/
theorem test_pad_map : padMap.length = 240 ∧ (padMap.drop 78).take 4 = List.replicate 4 (.out 10) := by decide

/-- 100 kΩ under 5 µA reads 0.50 V, code 1; a lifted resistor reads above 1.00 V, code 0 (Chapter 1, worked example). -/
theorem test_strap_windows : resistorStrap 500 = (1, false) ∧ resistorStrap 1001 = (0, false) := by decide

/-- FIPS 197, Appendix C.1. -/
theorem test_aes : aes128 ((List.range 16).map (BitVec.ofNat 8)) ((List.range 16).map fun i => BitVec.ofNat 8 (17 * i)) =
    [0x69, 0xC4, 0xE0, 0xD8, 0x6A, 0x7B, 0x04, 0x30, 0xD8, 0xCD, 0xB7, 0x80, 0x70, 0xB4, 0xC5, 0x5A] := by
  decide +kernel

/-- The x of twice the base point of P-256, as published. -/
theorem test_p256 : (p256Public 2).take 4 = [0x7C, 0xF2, 0x7B, 0x18] := by decide +kernel

/-! ### Small states for witnesses and tests -/

/-- A node that runs on the bus. -/
def wBus : State :=
  { State.reset with
    plinth := { State.reset.plinth with mode := .run, seq := .running, rc48 := true }
    power :=
      { State.reset.power with
        path := .onBus, busQ := true, busFull := true, busUv := false, floorSusp := false, vbusMv := 48000
        stoMv := 4500 }
    arm := { State.reset.arm with vdrvOk := true, vdrvDv := 100 }
    life := { State.reset.life with st := .running, prev := .running, carried := true } }

/-- A node that runs on the bus with its host supply. -/
def wPort : State := { wBus with power := { wBus.power with vhostOn := true } }

/-- A node that runs on storage. -/
def wSto : State :=
  { wBus with power := { wBus.power with path := .onSto, busQ := false, busFull := false, stoQ := true, vbusMv := 0 } }

/-- A value of a parameter in force. -/
def wPar (s : State) (id v : Nat) : State :=
  { s with config := { s.config with inForce := s.config.inForce.put id v } }

/-- A node that runs on the bus as a HEAD. -/
def wHead : State := { wPort with ident := { wBus.ident with role := .head } }

/-- Straps that read open, with TEST low. -/
def wStraps : Straps := { gpio7Mv := 1800, gpio6Mv := 1800, sdoMv := 1800, u0deMv := 1800, test := false }

/-- Passive inputs of which the PV cell starts the CSC. -/
def wPas : PassiveIn := { tegVocUv := 0, tegRsMohm := 0, pvVocMv := 600, vibPeakMv := 0, vibHz := 0 }

/-- A ledger instant with a small discharge. -/
def wGauge : Gauge :=
  { stoMv := 4000, midMv := 2000, slot := 0, netUa := 600, peakUa := 700, dqUc := 10, harvUa := 100, hostUj := 30
    outUj := 1000, harvUj := 400 }

/-- A request of an opcode that waits on SPI. -/
def wAsk (opc : Nat) (body : List Byte) (priv : Priv) : Waiting :=
  { n := 0, opc := opc, first := 1
    rq := { via := .spi, origin := 0, dst := 0, ctrl := 0, seq := 1, params := body, mac := [] }
    body := body, priv := priv, sid := none, key := none, lineKeyed := false }

/-- A state with a request waiting. -/
def wWith (s : State) (w : Waiting) : State := s.onPort w.rq.via fun p => { p with waiting := [w] }

/-- A session. -/
def wSess : Session :=
  { priv := .owner, slot := 0, kMac := [], kEnc := [], sid := 7, seq := 1, mac := [], rekeyDue := false, stored := none
    seqs := [], verifiedAt := 0, idleS := 600 }

/-- The key that a key field of zeros holds under `wSess`, as the third byte of a request with SEQ 1. -/
def wKey : List Byte := xorBytes (aes128Inv wSess.kEnc (List.replicate 16 0)) (keyMask 1 2)

/-- An operation of SPI in hand. -/
def wOp (wait : Wait) (kind : OpKind) : Op :=
  { via := .spi, first := 2, seq := 2, opc := 0x13, sid := none, key := none, lineAddr := none, cast := false
    pnr := false, wait := wait, kind := kind }

/-- A state with operations in hand. -/
def wOps (s : State) (l : List Op) : State := s.onOps fun _ => l

/-- A bank of defaults. -/
def wBank : Bank := { bytes := [], gen := 1, role := .home, sto := .sc1, vals := [], bad := false }

/-- A fault record of rail A with its CRC. -/
def wRec : List Byte := sealRec ([0xAF] ++ List.replicate 11 0 ++ [1] ++ List.replicate 47 0)

/-- A second request that waits on SPI. -/
def wLater : Waiting := { wAsk 1 [] .owner with first := 2, rq := { (wAsk 1 [] .owner).rq with seq := 2 } }

/-- A WRITE_PARAM that waits on SPI behind it. -/
def wWrite : Waiting := { wAsk 0x11 [] .owner with first := 2, rq := { (wAsk 0x11 [] .owner).rq with seq := 2 } }

/-- A configuration image with no entries. -/
def wImg : List Byte :=
  let h := [0x56#8, 0x4E#8, 0x47#8, 0x52#8, 1#8, 0#8, 0xFF#8, 0xFF#8, 0x02#8, 0x03#8] ++ List.replicate 22 0#8
  h ++ sha256 h

/-- The lead of a Tableau, with member 1 beside it. -/
def wLead : State :=
  { wPar wBus P.tabEn 1 with
    tab := { wBus.tab with
      inTab := true, lead := true, members := 3#8
      member := #v[none, some (newMember (Vector.replicate 20 none) 0), none, none, none, none, none, none] } }

/-- An open firmware bank of 256 bytes without data. -/
def wFw : State :=
  { wBus with sec := { wBus.sec with fwOpen := true, fwB := { size := 256, version := 1, data := [], factory := false }
                                     fwA := { size := 256, version := 1, data := [], factory := false } } }

/-- A request to activate the factory firmware in both banks. -/
def wAct : State :=
  let b : FwBank := { size := 0, version := 0, data := [], factory := true }
  wWith { wBus with sec := { wBus.sec with fwA := b, fwB := b } } (wAsk 0x55 [] .owner)

theorem wAct_unsaved : wAct.unsaved = false := by
  have h : wAct.activeBank = none := by decide
  unfold State.unsaved State.savedValue
  rw [h, List.any_eq_false]
  intro id _
  have e : wAct.param id = defaultOf wAct.ident.role wAct.ident.sto id := rfl
  simp [e]

theorem factory_acceptable (s : State) (b : FwBank) (h : b.factory = true) (h2 : s.ctr.fwRollback = 0)
    (h3 : s.sec.revoked = 0#4) : s.acceptable b = true := by
  simp [State.acceptable, h, h2, h3]

theorem wAct_acceptable : wAct.acceptable wAct.sec.inactive = true :=
  factory_acceptable _ _ (by decide) (by decide) (by decide)

/-- Rail A regulates with phases 1 and 2. -/
def wArm : State :=
  let p := wPar (wPar (wPar wBus (P.armEn 0) 1) (P.armPhEn 0) 1) (P.armPhEn 1) 1
  { p with arm := { p.arm with
      rail := upd p.arm.rail 0 fun x => { x with st := .regulating, vref := 1000, vos := 1000 }
      ph := upd (upd p.arm.ph 0 fun x => { x with running := true }) 1 fun x => { x with running := true } } }

/-- `wArm` with another state of rail A. -/
def wRail (f : Rail → Rail) : State := wArm.onRail 0 f

/-- `wArm` with both phases off for long. -/
def wFire : State :=
  { wArm with arm := { wArm.arm with
    ph := upd (upd wArm.arm.ph 0 fun x => { x with offFor := 100 }) 1 fun x => { x with offFor := 100 } } }

/-- A rail `dt` counts later, as RAIL_FIRING evaluates it. -/
def wFired (s : State) (r dt vos vb : Nat) (low : BitVec 8) : State :=
  ((({ s with power := { s.power with vbusMv := vb } }.onRail r fun x => { x with vos := vos }).emulate r dt vos vb).valleys r low)

/-- 1.5 mV at every sense input. -/
def wMeans : PhaseMeans := { uv := Vector.replicate 8 1500 }

/-- A HEAD that drives its pilot on feeder 1. -/
def wPilot : State := { wPar wHead P.lineFeederId 1 with line := { wHead.line with generating := true, lock := true } }

/-- `wPilot` with node 5 in its table. -/
def wNode5 : State := { wPilot with line := { wPilot.line with nodes := [newNode 5 (List.replicate 8 1) 0] } }

/-- A node of feeder 1 that is locked to the pilot. -/
def wLocked : State :=
  { wPar (wPar wBus P.lineFeederId 1) P.lineAddr 5 with
    line := { wBus.line with lock := true, heardFirst := true, lanes := 15 } }

/-- A node of feeder 1 that has joined. -/
def wJoined : State := { wLocked with line := { wLocked.line with joined := true } }

/-- A node that waits to join on an empty store, with its backoff ended. -/
def wDark : State := { wLocked with power := wSto.power, line := { wLocked.line with backoff := some 0 } }

/-- A HEAD that listens after a clash. -/
def wClash : State :=
  { wHead with
    line := { wHead.line with listening := true }
    events := { wHead.events with held := [{ src := Ev.headClash, reason := 0, detail := 0, pulse := false }] } }

/-- A member's record that agrees in role and COMPAT. -/
def wWords : Vector (Option Nat) 20 :=
  Vector.ofFn fun i => some (if i.val = 15 then Role.home.code else if i.val = 12 then 0x0302 else 0)

/-- The same record in bytes, of member 2. -/
def wJoin : List Byte :=
  List.replicate 24 0 ++ [0x02, 0x03] ++ List.replicate 4 0 ++ toLe 1 Role.home.code ++ [2] ++ List.replicate 8 0

/-- Member 1 of `wLead` changed. -/
def wMem (f : Member → Member) : State := wLead.onMember 1 f

/-- Member 1 of `wLead`. -/
def wM : Member := newMember (Vector.replicate 20 none) 0

/-- A member of a Tableau that is not its lead. -/
def wFollow : State := { wPar wBus P.tabEn 1 with tab := { wBus.tab with inTab := true, members := 3#8 } }

/-- The same long after its lead's last frame. -/
def wFollow2 : State := { wFollow with plinth := { wFollow.plinth with upMs := 4000000000 } }

/-- A member of the home role whose lead has another configuration. -/
def wAdopt : State :=
  { wPar wFollow P.tabAdopt 1 with
    tab := { wFollow.tab with
      leadRec := Vector.ofFn fun i => some (if i.val = 15 then Role.home.code else if i.val = 12 then 0x0302 else 70000) } }

/-- A device in its cold boot. -/
def wCold : State :=
  { wBus with
    plinth := { wBus.plinth with seq := .coldBoot }, life := { wBus.life with st := .boot, prev := .plinthStart }
    sec := wAct.sec }

/-- A boot that finds everything in order. -/
def wChk : BootCheck := { fwPass := 3, diePass := 15, bankPass := 3, counterPass := true }

/-- A node in a lifecycle state. -/
def wLife (f : Lifecycle → Lifecycle) : State := { wBus with life := f wBus.life }

theorem wWith_ready (s : State) (w : Waiting) (h1 : (wWith s w).turn w = true)
    (h2 : (wWith s w).gate w.opc w.rq.via w.body = none) : (wWith s w).Ready w.opc w.rq w := by
  refine ⟨?_, h1, h2⟩
  have e : ((wWith s w).port w.rq.via).waiting = [w] := by
    unfold wWith State.port State.onPort
    cases w.rq.via <;> rfl
  rw [e]; simp

/-- A Patina with nothing in its ring and no pins holds nothing. -/
theorem held_none {s : State} (h : s.patina.ring ++ s.patina.pins = []) : s.patinaHeld = [] := by
  unfold State.patinaHeld; rw [h, List.mergeSort_nil]
/-- At no voltage the TEG oscillator stands still, whatever the primary. -/
theorem tegCold (p : PassiveIn) (h : p.tegVocUv = 0) : tegStarts p = false := by
  unfold tegStarts vStartUv; rw [h]; split <;> simp
/-- No record holds words of more than 16 bits. -/
theorem own_ne (s : State) : List.replicate 4 70000 ≠ s.ownWords 4 4 := by
  intro h
  have h1 : (s.ownWords 4 4).getD 0 0 < 65536 := by
    simp only [State.ownWords, List.range, List.range.loop, List.map, List.getD_cons_zero, recWord, fieldAt]
    rcases List.drop _ s.tabRecord with _ | ⟨a, _ | ⟨b, l⟩⟩ <;> simp [ofLe] <;> omega
  rw [← h] at h1; simp at h1

/-! ### Witnesses: one state for the hypotheses of each clause -/

theorem witness_BusThresholdsAct :
    (∃ s : State, s.plinthOn = true ∧ s.power.busUv = false ∧ s.power.busQ = true ∧ s.power.path = .onBus) ∧
    (∃ s : State, s.plinthOn = true ∧ s.power.busRev = false ∧ s.power.gndOpen = false ∧ s.power.busQ = false) ∧
    (∃ s : State, ∃ rise, s.plinthOn = true ∧ rise = false) :=
  ⟨⟨wBus, by decide⟩,
    ⟨{ wSto with power := { wSto.power with stoMv := 4500 } }, by decide⟩,
    ⟨wBus, false, by decide⟩⟩

theorem witness_BusFaultsDisqualify :
    (∃ s : State, s.plinthOn = true ∧ s.power.busQ = false ∧ s.power.lossCount = true ∧ s.mayShut = true) ∧
    (∃ s : State, s.plinthOn = true ∧ s.power.path = .onBus) ∧
    (∃ s : State, ∃ v : Int, s.plinthOn = true ∧ v < 64000) ∧
    (∃ s : State, ∃ v : Int, s.plinthOn = true ∧ -60000 ≤ v ∧ v ≤ -6000) ∧
    (∃ s : State, ∃ v : Int, s.plinthOn = true ∧ -1000 < v) :=
  ⟨⟨{ wBus with power := { wBus.power with busQ := false, lossCount := true } }, by decide⟩,
    ⟨wBus, by decide⟩,
    ⟨wBus, 63999, by decide⟩,
    ⟨wBus, -60000, by decide⟩,
    ⟨wBus, -999, by decide⟩⟩

theorem witness_SourcesHandOver :
    (∃ s : State, ∃ x, s.plinthOn = true ∧ s.life.st ≠ .plinthStart ∧ s.power.path = .handover ∧ s.power.target = some
    x ∧ s.qualified x = true) ∧
    (∃ s : State, s.plinthOn = true ∧ s.power.path = .onSto ∧ s.power.busQ = true ∧ s.power.dwellMs = 0) ∧
    (∃ s : State, s.plinthOn = true ∧ s.power.path = .onSto ∧ s.power.busQ = false ∧ s.power.fieldQ = true) ∧
    (∃ s : State, ∃ mv, s.plinthOn = true ∧ s.power.path = .onBus ∧ s.power.stoQ = false ∧ s.power.fShort = false ∧
    s.power.fOpen = false ∧ s.param P.pwrStoFloorMv + 100 ≤ mv) ∧
    (∃ s : State, ∃ mv, s.plinthOn = true ∧ s.power.floorSusp = false ∧ mv < s.param P.pwrStoFloorMv ∧ s.power.path =
    .onSto) :=
  ⟨⟨{ wBus with power := { wBus.power with path := .handover, target := some .bus } }, .bus, by decide⟩,
    ⟨{ wSto with power := { wSto.power with busQ := true, dwellMs := 0 } }, by decide⟩,
    ⟨{ wSto with power := { wSto.power with fieldQ := true } }, by decide⟩,
    ⟨wBus, 6000, by decide⟩,
    ⟨wSto, 0, by decide⟩⟩

theorem witness_StoreFaultsAct :
    (∃ s : State, ∃ mv : Nat, 600000 ≤ s.power.shortMs ∧ mv < 200) ∧
    (∃ s : State, ∃ mv : Nat, s.power.fShort = true ∧ 500 < mv) ∧
    (∃ s : State, ∃ mv : Nat, s.param P.pwrStoVmaxMv + 200 < mv) ∧
    (∃ s : State, ∃ mv : Nat, mv < prechargeMv s.ident.sto) ∧
    (∃ s : State, ∃ mv : Nat, s.ident.sto = .sc2 ∧ 1000 < s.power.stoMv ∧ (4 * mv < s.power.stoMv ∨ 3 * s.power.stoMv
    < 4 * mv)) ∧
    (∃ s : State, ∃ mv : Nat, s.power.fMid = true ∧ 4 * s.power.stoMv ≤ 10 * mv ∧ 10 * mv ≤ 6 * s.power.stoMv) ∧
    (∃ s : State, s.ident.sto = .sc2 ∧ s.power.balancer = true) ∧
    (∃ s : State, s.chargesSto = false) :=
  ⟨⟨{ wBus with power := { wBus.power with shortMs := 600000 } }, 199, by decide⟩,
    ⟨{ wBus with power := { wBus.power with fShort := true } }, 501, by decide⟩,
    ⟨wBus, 9000, by decide⟩,
    ⟨{ wBus with ident := { wBus.ident with sto := .lfp } }, 0, by decide⟩,
    ⟨{ wBus with ident := { wBus.ident with sto := .sc2 } }, 0, by decide⟩,
    ⟨{ wBus with power := { wBus.power with fMid := true } }, 2000, by decide⟩,
    ⟨{ wBus with ident := { wBus.ident with sto := .sc2 }, power := { wBus.power with balancer := true } }, by decide⟩,
    ⟨wSto, by decide⟩⟩

theorem witness_BackupAndHostSupplyAct :
    (∃ s : State, ∃ mv, ∃ ld, s.plinthOn = true ∧ (ld = false ∨ s.power.path ≠ .onBak) ∧ mv < -300) ∧
    (∃ s : State, ∃ ma, s.power.vhostOn = true ∧ s.vhostLimitMa ≤ ma) ∧
    (∃ s : State, s.power.vhostWait = true ∧ s.power.vhostFails = 4) ∧
    (∃ s : State, s.power.vhostWait = true ∧ s.power.vhostFails < 4) ∧
    (∃ s : State, s.power.path = .handover ∧ s.power.target = none) :=
  ⟨⟨wBus, -301, false, by decide⟩,
    ⟨{ wBus with power := { wBus.power with vhostOn := true } }, 400, by decide⟩,
    ⟨{ wBus with power := { wBus.power with vhostWait := true, vhostFails := 4 } }, by decide⟩,
    ⟨{ wBus with power := { wBus.power with vhostWait := true, vhostFails := 3 } }, by decide⟩,
    ⟨{ wBus with power := { wBus.power with path := .handover, target := none } }, by decide⟩⟩

theorem witness_ColdStartActs :
    (∃ s : State, ∃ p : PassiveIn, s.power.path = .none ∧ (tegStarts p = true ∨ vibStarts p = true ∨ pvStarts p =
    true) ∧ s.harvest.vhbMv ≤ 26000) ∧
    (∃ p : PassiveIn, tegStarts p = false ∧ vibStarts p = false ∧ pvStarts p = false) ∧
    (∃ s : State, s.harvest.csc = true) ∧
    (∃ s : State, s.harvest.csc = true) ∧
    (∃ s : State, ∃ mv, ∃ p : Straps, s.power.path = .none ∧ 1000 ≤ mv ∧ p.test = false ∧ s.plinth.rstLow = false) ∧
    (∃ s : State, ∃ mv, s.life.st = .plinthStart ∧ s.power.path = .onSto ∧ s.param P.pwrStoFloorMv + 100 ≤ mv ∧
    s.plinth.testHeld = false ∧ s.plinth.rstLow = false ∧ s.plinth.mode ≠ .field) :=
  ⟨⟨{ State.reset with power := { State.reset.power with path := .none } }, wPas,
    (by refine ⟨by decide, .inr (.inr (by decide)), by decide⟩)⟩,
    ⟨{ wPas with pvVocMv := 0 }, (by exact ⟨tegCold _ rfl, by decide, by decide⟩)⟩,
    ⟨{ wBus with harvest := { wBus.harvest with csc := true } }, by decide⟩,
    ⟨{ wBus with harvest := { wBus.harvest with csc := true } }, by decide⟩,
    ⟨{ State.reset with power := { State.reset.power with path := .none } }, 1000, wStraps, by decide⟩,
    ⟨State.reset, 6000, by decide⟩⟩

theorem witness_HarvestChannelsStartAndStop :
    (∃ s : State, ∃ v : Nat, s.hrvMayStart .teg = true ∧ 12000 ≤ v ∧ v ≤ 2500000) ∧
    (∃ s : State, s.harvest.teg.running = true) ∧
    (∃ s : State, ∃ v : Nat, ∃ hz, s.hrvMayStart .vib = true ∧ (if s.piezo then (s.vhbTarget + 200) * 1000 else
    600000) ≤ v ∧ v ≤ 24000000 ∧ 5 ≤ hz ∧ hz ≤ 2000) ∧
    (∃ s : State, s.harvest.vib.running = true) ∧
    (∃ s : State, ∃ v : Nat, s.hrvMayStart .pv = true ∧ 500000 ≤ v ∧ v ≤ 6000000) ∧
    (∃ s : State, s.harvest.pv.running = true) ∧
    (∃ s : State, ∃ mv, s.hrvMode = true ∧ s.isOn P.hrvNfcEn = true ∧ s.harvest.lstoOpen = false ∧ s.nfc.txMs = 0 ∧
    s.harvest.nfc = false ∧ 2500 < mv) ∧
    (∃ s : State, ∃ mv, s.hrvMode = true ∧ s.isOn P.hrvNfcEn = true ∧ s.harvest.lstoOpen = false ∧ s.nfc.txMs = 0 ∧ mv
    ≤ 2500) ∧
    (∃ s : State, ∃ c, ∃ uw, ∃ ma, (s.tracker c).running = true ∧ s.atLimit c uw ma = true ∧ (s.tracker c).limited =
    false) ∧
    (∃ s : State, ∃ c, ∃ uw, ∃ ma, s.atLimit c uw ma = false) :=
  ⟨⟨(wPar wBus P.hrvTegEn 1), 12000, by decide⟩,
    ⟨{ wBus with harvest := { wBus.harvest with teg := { Tracker.idle with running := true } } }, by decide⟩,
    ⟨(wPar wBus P.hrvVibEn 1), 24000000, 5, by decide⟩,
    ⟨{ wBus with harvest := { wBus.harvest with vib := { Tracker.idle with running := true } } }, by decide⟩,
    ⟨(wPar wBus P.hrvPvEn 1), 6000000, by decide⟩,
    ⟨{ wBus with harvest := { wBus.harvest with pv := { Tracker.idle with running := true } } }, by decide⟩,
    ⟨wPar wBus P.hrvNfcEn 1, 2501, by decide⟩,
    ⟨wPar wBus P.hrvNfcEn 1, 2500, by decide⟩,
    ⟨{ wBus with harvest := { wBus.harvest with teg := { Tracker.idle with running := true } } }, .teg, 400000, 0, by
    decide⟩,
    ⟨wBus, .vib, 299999, 0, by decide⟩⟩

theorem witness_TrackersFollowTheProcedure :
    (∃ s : State, ∃ c : HarvestCh, ∃ uw, (s.tracker c).running = true ∧ s.hrvHolds c = false ∧ s.rxBusy = false ∧
    (s.tracker c).limited = false ∧ s.hrvConducts c = true ∧ uw < maxPinUw c ∧ (c = .teg → 0 < s.param
    P.hrvTegIpk) ∧ (c = .pv → 1000 * uw < s.param P.hrvPvImaxMa * 400000)) ∧
    (∃ s : State, ∃ c : HarvestCh, (s.tracker c).running = true ∧ s.hrvHolds c = false ∧ s.rxBusy = false ∧ (s.tracker
    c).limited = true) ∧
    (∃ s : State, s.rxBusy = true) ∧
    (∃ s : State, ∃ c : HarvestCh, (s.tracker c).running = true ∧ 16 ≤ (s.tracker c).skips + 1) ∧
    (∃ s : State, ∃ c : HarvestCh, ∃ v, s.hrvMode = true ∧ s.isOn (hrvEn c) = true ∧ s.rxBusy = false ∧ (s.tracker
    c).running = true ∧ s.isOn (hrvVocS c) = true ∧ s.hrvHolds c = false ∧ (s.tracker c).limited = false ∧ 30 * v
    ≤ 100 * (s.tracker c).vop ∧ 100 * (s.tracker c).vop ≤ 95 * v) ∧
    (∃ s : State, ∃ c : HarvestCh, ∃ v, s.hrvMode = true ∧ s.isOn (hrvEn c) = true ∧ s.rxBusy = false ∧ (s.tracker
    c).running = true ∧ s.isOn (hrvVocS c) = true ∧ s.hrvHolds c = false ∧ (s.tracker c).limited = false ∧ (100 *
    (s.tracker c).vop < 30 * v ∨ 95 * v < 100 * (s.tracker c).vop)) ∧
    (∃ s : State, s.rxBusy = false) :=
  ⟨
    ⟨{ wBus with harvest := { wBus.harvest with teg := { Tracker.idle with running := true, vop := 50000, skips := 15 } } },
    .teg, 399999, by decide⟩,
    ⟨{ wBus with harvest := { wBus.harvest with teg := { Tracker.idle with running := true, limited := true } } },
    .teg, by decide⟩,
    ⟨{ wBus with line := { wBus.line with rxMs := 1 } }, by decide⟩,
    
    ⟨{ wBus with harvest := { wBus.harvest with teg := { Tracker.idle with running := true, vop := 50000, skips := 15 } } },
    .teg, by decide⟩,
    
    ⟨{ wPar wBus P.hrvTegEn 1 with harvest := { wBus.harvest with teg := { Tracker.idle with running := true, vop := 50000 } } },
    .teg, 100000, by decide⟩,
    
    ⟨{ wPar wBus P.hrvTegEn 1 with harvest := { wBus.harvest with teg := { Tracker.idle with running := true, vop := 50000 } } },
    .teg, 1000000, by decide⟩,
    ⟨wBus, by decide⟩⟩

theorem witness_HarvestBusAndFaultsAct :
    (∃ s : State, ∃ v, s.harvesting = true ∧ s.vhbTarget + 500 ≤ v ∧ (s.stoLimited = true ∨ s.harvest.storeOc = true)) ∧
    (∃ s : State, ∃ v, v ≤ s.vhbTarget) ∧
    (∃ s : State, 14000 < s.vhbTarget) ∧
    (∃ s : State, s.vhbTarget < 13500) ∧
    (∃ s : State, ∃ k, s.plinthOn = true ∧ k = true) ∧
    (∃ s : State, ∃ g, s.hrvMode = true ∧ s.isOn P.hrvTegOscchkEn = true ∧ s.harvest.teg.running = false ∧ 30000 ≤
    s.harvest.teg.voc ∧ s.harvest.tegOsc = false ∧ g = false) ∧
    (∃ s : State, s.harvest.lstoOpen = true) ∧
    (∃ s : State, ∃ st, ∃ c, stageCh st = some c ∧ (s.tracker c).running = true) ∧
    (∃ s : State, s.harvesting = true ∧ s.harvest.storeOc = false) ∧
    (∃ s : State, ∃ st, ∃ c, stageCh st = some c ∧ (s.tracker c).oc = true ∧ (s.tracker c).dead = false) ∧
    (∃ s : State, s.harvest.storeOc = true ∧ s.harvest.storeDead = false) ∧
    (∃ s : State, ∃ k, (k = true ∨ s.harvesting = true) ∧ k = false) ∧
    (∃ s : State, ∃ k, (k = true ∨ s.harvest.clamp = true) ∧ k = false) :=
  ⟨
    ⟨{ wBus with harvest := { wBus.harvest with teg := { Tracker.idle with running := true } }, power := { wBus.power with ended := true } },
    30000, by decide⟩,
    ⟨wBus, 0, by decide⟩,
    
    ⟨{ wPar wBus P.hrvVibMode 1 with harvest := { wBus.harvest with vib := { Tracker.idle with running := true, vop := 14001000 } } },
    by decide⟩,
    ⟨wBus, by decide⟩,
    ⟨wBus, true, by decide⟩,
    
    ⟨{ wPar wBus P.hrvTegOscchkEn 1 with harvest := { wBus.harvest with teg := { Tracker.idle with voc := 30000 } } },
    false, by decide⟩,
    ⟨{ wBus with harvest := { wBus.harvest with lstoOpen := true } }, by decide⟩,
    ⟨{ wBus with harvest := { wBus.harvest with teg := { Tracker.idle with running := true } } }, .teg, .teg, by
    decide⟩,
    ⟨{ wBus with harvest := { wBus.harvest with teg := { Tracker.idle with running := true } } }, by decide⟩,
    ⟨{ wBus with harvest := { wBus.harvest with teg := { Tracker.idle with oc := true } } }, .teg, .teg, by decide⟩,
    ⟨{ wBus with harvest := { wBus.harvest with storeOc := true } }, by decide⟩,
    ⟨{ wBus with harvest := { wBus.harvest with teg := { Tracker.idle with running := true } } }, false, by decide⟩,
    ⟨{ wBus with harvest := { wBus.harvest with clamp := true } }, false, by decide⟩⟩

theorem witness_LedgerCountsAndKeepsTheCalendar :
    (∃ s : State, s.plinthOn = true ∧ s.plinth.mode ≠ .field ∧ (s.ledger.fwStop = true ∨ s.camyx.ops = []) ∧
    s.ledger.fwStop = true) ∧
    (∃ s : State, s.isCap = false ∧ s.plinthOn = true ∧ s.power.ended = false ∧ (s.busCarries = true ∨ s.harvesting =
    true)) ∧
    (∃ s : State, s.plinthOn = true ∧ s.isOn P.nrgFcEn = true ∧ s.plinth.timeValid = true ∧ s.ledger.hourBad = false) ∧
    (∃ s : State, s.plinthOn = true ∧ (s.plinth.timeValid = false ∨ s.ledger.hourBad = true)) ∧
    (∃ s : State, s.seqRuns = true ∧ s.plinth.mode ≠ .field ∧ (s.ctr.wearNvm.step = 0 ∨ 6 ≤ s.ledger.calSkip) ∧
    s.canReserve .calendarSave (3 * mj) = true) ∧
    (∃ s : State, s.seqRuns = true ∧ s.plinth.mode ≠ .field ∧ s.ctr.wearNvm.step ≠ 0 ∧ s.ledger.calSkip < 6) ∧
    (∃ s : State, s.seqRuns = true ∧ s.plinth.mode ≠ .field ∧ (s.ctr.wearNvm.step = 0 ∨ 6 ≤ s.ledger.calSkip) ∧
    s.canReserve .calendarSave (3 * mj) = false) :=
  ⟨⟨{ wBus with ledger := { wBus.ledger with fwStop := true } }, by decide⟩,
    ⟨{ wBus with ident := { wBus.ident with sto := .lfp } }, by decide⟩,
    
    ⟨{ wPar wBus P.nrgFcEn 1 with plinth := { wBus.plinth with timeValid := true }, ledger := { wBus.ledger with hourBad := false } },
    by decide⟩,
    ⟨wBus, by decide⟩,
    ⟨wBus, by decide⟩,
    ⟨{ wBus with ctr := { wBus.ctr with wearNvm := { wBus.ctr.wearNvm with step := 1 } } }, by decide⟩,
    ⟨wSto, by decide⟩⟩

theorem witness_HoldRulesThePins :
    (∃ s : State, ∃ r, s.holdSensed = true ∧ s.ledger.hold = false ∧ s.power.vhostBreach = false ∧ s.hostAmount = some
    r) ∧
    (∃ s : State, s.holdSensed = true ∧ s.ledger.hold = false ∧ s.power.vhostBreach = true) ∧
    (∃ s : State, s.holdSensed = true ∧ s.ledger.hold = false ∧ s.power.vhostBreach = false ∧ s.hostAmount = none) ∧
    (∃ s : State, s.holdSensed = true ∧ s.ledger.hold = true) ∧
    (∃ s : State, s.ledger.rearm = true) ∧
    (∃ s : State, s.ledger.hold = true ∧ s.ledger.ignored = false ∧ s.ledger.overrun = false ∧ s.power.vhostBreach =
    false ∧ s.param P.nrgHoldMaxMs ≠ 0) ∧
    (∃ s : State, s.ledger.breach = true ∧ s.ledger.hold = true ∧ s.isOn P.nrgBreachVhostOff = true) ∧
    (∃ s : State, s.ledger.fwStop = true) :=
  ⟨⟨wPar wBus P.nrgBusGrant 1, 0, by decide⟩,
    ⟨{ wSto with power := { wSto.power with vhostBreach := true } }, by decide⟩,
    ⟨wSto, by decide⟩,
    ⟨{ wBus with ledger := { wBus.ledger with hold := true } }, by decide⟩,
    ⟨{ wBus with ledger := { wBus.ledger with rearm := true } }, by decide⟩,
    ⟨{ wPar wBus P.nrgHoldMaxMs 1000 with ledger := { wBus.ledger with hold := true } }, by decide⟩,
    ⟨{ wPar wBus P.nrgBreachVhostOff 1 with ledger := { wBus.ledger with hold := true, breach := true } }, by decide⟩,
    ⟨{ wBus with ledger := { wBus.ledger with fwStop := true } }, by decide⟩⟩

theorem witness_ReservationsAndForecastAct :
    (∃ s : State, ∃ j, ∃ n, j ≠ .shutdownCommit ∧ (jobWaits j = false ∨ s.busCarries = true) ∧ s.canReserve j
    (jobAmount j n) = true) ∧
    (∃ s : State, ∃ j, ∃ n, j ≠ .shutdownCommit ∧ jobWaits j = false ∧ s.canReserve j (jobAmount j n) = false) ∧
    (∃ s : State, ∃ j, j ≠ .shutdownCommit ∧ jobWaits j = true ∧ s.busCarries = false) ∧
    (∃ s : State, ∃ j, s.camyx.ops.find? (s.awaits j) = none) ∧
    (∃ s : State, ∃ j, ∃ o, s.camyx.ops.find? (s.awaits j) = some o) ∧
    (∃ s : State, ∃ j, j ≠ .shutdownCommit ∧ s.inUse j = false) ∧
    (∃ s : State, ∃ f, ∃ rest, s.ledger.checks = f :: rest ∧ f.deficit ≤ f.harvested) ∧
    (∃ s : State, ∃ f, ∃ rest, s.ledger.checks = f :: rest ∧ f.harvested < f.deficit ∧ s.ledger.misses < 2) ∧
    (∃ s : State, ∃ f, ∃ rest, s.ledger.checks = f :: rest ∧ f.harvested < f.deficit ∧ 2 ≤ s.ledger.misses) ∧
    (∃ s : State, s.ledger.suspended = true) :=
  ⟨⟨wBus, .calendarSave, 0, by decide⟩,
    ⟨wSto, .calendarSave, 1, by decide⟩,
    ⟨wSto, .configSave, by decide⟩,
    ⟨wBus, .calendarSave, by decide⟩,
    ⟨wOps { wBus with ledger := { wBus.ledger with waiting := [(.configSave, 5)] } } [wOp (.grant .configSave 5)
    .chOn], .configSave, wOp (.grant .configSave 5) .chOn, by decide⟩,
    ⟨wBus, .calendarSave, by decide⟩,
    ⟨{ wBus with ledger := { wBus.ledger with checks := [{ deficit := 5, harvested := 5 }] } },
    { deficit := 5, harvested := 5 }, [], by decide⟩,
    ⟨{ wBus with ledger := { wBus.ledger with checks := [{ deficit := 5, harvested := 4 }] } },
    { deficit := 5, harvested := 4 }, [], by decide⟩,
    ⟨{ wBus with ledger := { wBus.ledger with checks := [{ deficit := 5, harvested := 4 }], misses := 2 } },
    { deficit := 5, harvested := 4 }, [], by decide⟩,
    ⟨{ wBus with ledger := { wBus.ledger with suspended := true } }, by decide⟩⟩

theorem witness_RepliesGoToTheirTransport :
    (∃ w : Waiting, w.rq.cast = true) ∧
    (∃ w : Waiting, w.rq.cast = false ∧ (w.rq.via = .spi ∨ w.rq.via = .i2c ∨ w.rq.via = .uart ∨ w.rq.via = .gateway ∨
    w.rq.via = .line)) ∧
    (∃ w : Waiting, w.rq.cast = false ∧ (w.rq.via = .spi ∨ w.rq.via = .i2c)) ∧
    (∃ s : State, ∃ w : Waiting, w.rq.cast = false ∧ w.rq.via = .nfc ∧ s.nfc.st = .isoDep ∧ s.nfc.app = .camyx) ∧
    (∃ w : Waiting, w.rq.cast = false ∧ w.rq.via = .link) :=
  ⟨⟨{ wAsk 1 [] .owner with rq := { (wAsk 1 [] .owner).rq with via := .line, dst := 255 } }, by decide⟩,
    ⟨{ wAsk 1 [] .owner with rq := { (wAsk 1 [] .owner).rq with via := .line, dst := 0 } }, by decide⟩,
    ⟨{ wAsk 1 [] .owner with rq := { (wAsk 1 [] .owner).rq with via := .spi, dst := 0 } }, by decide⟩,
    ⟨{ wBus with nfc := { wBus.nfc with st := .isoDep, app := .camyx } },
    { wAsk 1 [] .owner with rq := { (wAsk 1 [] .owner).rq with via := .nfc, dst := 0 } }, by decide⟩,
    ⟨{ wAsk 1 [] .owner with rq := { (wAsk 1 [] .owner).rq with via := .link, dst := 0 } }, by decide⟩⟩

theorem witness_RequestsThatReadAreAnswered :
    (∃ s : State, ∃ rq : Request, ∃ w : Waiting, s.Ready 0x01 rq w) ∧
    (∃ s : State, ∃ rq : Request, ∃ w : Waiting, s.Ready 0x06 rq w) ∧
    (∃ s : State, ∃ rq : Request, ∃ w : Waiting, s.Ready 0x10 rq w ∧ (∀ id ∈ readIds (w.body.drop 1), (findDesc
    id).isSome = true) ∧ (fieldAt w.body 0 1 ≠ 2 ∨ s.activeBank.isSome = true)) ∧
    (∃ s : State, ∃ rq : Request, ∃ w : Waiting, s.Ready 0x15 rq w ∧ (∀ r ∈ runsOf (w.body.length / 3) w.body, r.2 = 1
    → isLiveId r.1 = true)) ∧
    (∃ s : State, ∃ rq : Request, ∃ w : Waiting, s.Ready 0x33 rq w ∧ s.ident.role = .head) ∧
    (∃ s : State, ∃ rq : Request, ∃ w : Waiting, s.Ready 0x33 rq w ∧ s.ident.role ≠ .head) ∧
    (∃ s : State, ∃ rq : Request, ∃ w : Waiting, ∃ n, ∃ b, s.Ready 0x16 rq w ∧ fieldAt w.body 0 1 = 0 ∧ s.activeBank =
    some (n, b)) ∧
    (∃ s : State, ∃ rq : Request, ∃ w : Waiting, s.Ready 0x16 rq w ∧ fieldAt w.body 0 1 ≠ 0) ∧
    (∃ s : State, ∃ rq : Request, ∃ w : Waiting, ∃ b, s.Ready 0x29 rq w ∧ (s.rail (fieldAt w.body 0 1)).ring[fieldAt
    w.body 1 1]? = some b ∧ recordOk b = true) ∧
    (∃ s : State, ∃ rq : Request, ∃ w : Waiting, s.Ready 0x41 rq w ∧ s.ctr.pseq < fieldAt w.body 0 4) ∧
    (∃ s : State, ∃ rq : Request, ∃ w : Waiting, ∃ l, s.Ready 0x41 rq w ∧ fieldAt w.body 0 4 ≤ s.ctr.pseq ∧ l =
    (s.patinaHeld.filter fun r => decide (fieldAt w.body 0 4 ≤ r.pseq)).take (fieldAt w.body 4 1)) ∧
    (∃ s : State, ∃ rq : Request, ∃ w : Waiting, s.Ready 0x40 rq w ∧ fieldAt w.body 0 1 = 1) ∧
    (∃ s : State, ∃ rq : Request, ∃ w : Waiting, s.Ready 0x40 rq w ∧ fieldAt w.body 0 1 = 0) ∧
    (∃ s : State, ∃ rq : Request, ∃ w : Waiting, s.Ready 0x42 rq w ∧ fieldAt w.body 0 1 = 2 ∧ s.trace.runs = false) ∧
    (∃ s : State, ∃ rq : Request, ∃ w : Waiting, s.Ready 0x52 rq w) :=
  ⟨⟨(wWith (wBus) (wAsk 0x01 ([]) .owner)), (wAsk 0x01 ([]) .owner).rq, (wAsk 0x01 ([]) .owner),
    (by unfold State.Ready; decide)⟩,
    ⟨(wWith (wBus) (wAsk 0x06 ([]) .owner)), (wAsk 0x06 ([]) .owner).rq, (wAsk 0x06 ([]) .owner),
    (by unfold State.Ready; decide)⟩,
    ⟨(wWith (wBus) (wAsk 0x10 ([0, 1, 0, 1]) .owner)), (wAsk 0x10 ([0, 1, 0, 1]) .owner).rq, (wAsk 0x10 ([0, 1, 0, 1])
    .owner), (by unfold State.Ready; decide)⟩,
    ⟨(wWith (wBus) (wAsk 0x15 ([0, 0, 0]) .owner)), (wAsk 0x15 ([0, 0, 0]) .owner).rq, (wAsk 0x15 ([0, 0, 0]) .owner),
    (by unfold State.Ready; decide)⟩,
    ⟨(wWith (wHead) (wAsk 0x33 ([]) .owner)), (wAsk 0x33 ([]) .owner).rq, (wAsk 0x33 ([]) .owner),
    (by unfold State.Ready; decide)⟩,
    ⟨(wWith (wBus) (wAsk 0x33 ([]) .owner)), (wAsk 0x33 ([]) .owner).rq, (wAsk 0x33 ([]) .owner),
    (by unfold State.Ready; decide)⟩,
    ⟨(wWith ({ wBus with config := { wBus.config with bankA := some wBank } }) (wAsk 0x16 ([0, 0]) .owner)), (wAsk
    0x16 ([0, 0]) .owner).rq, (wAsk 0x16 ([0, 0]) .owner), 1, wBank, (by unfold State.Ready; decide)⟩,
    ⟨(wWith (wBus) (wAsk 0x16 ([1, 0]) .owner)), (wAsk 0x16 ([1, 0]) .owner).rq, (wAsk 0x16 ([1, 0]) .owner),
    (by unfold State.Ready; decide)⟩,
    ⟨(wWith (wBus.onRail 0 fun x => { x with ring := [wRec] }) (wAsk 0x29 ([0, 0]) .owner)), (wAsk 0x29 ([0, 0])
    .owner).rq, (wAsk 0x29 ([0, 0]) .owner), wRec, (by unfold State.Ready; decide)⟩,
    ⟨(wWith (wBus) (wAsk 0x41 ([1, 0, 0, 0, 1]) .owner)), (wAsk 0x41 ([1, 0, 0, 0, 1]) .owner).rq, (wAsk 0x41 ([1, 0,
    0, 0, 1]) .owner), (by unfold State.Ready; decide)⟩,
    ⟨(wWith (wBus) (wAsk 0x41 ([0, 0, 0, 0, 1]) .owner)), (wAsk 0x41 ([0, 0, 0, 0, 1]) .owner).rq, (wAsk 0x41 ([0, 0,
    0, 0, 1]) .owner), [],
    (by unfold State.Ready; refine ⟨by decide, by decide, ?_⟩; rw [held_none (by decide)]; decide)⟩,
    ⟨(wWith (wBus) (wAsk 0x40 ([1, 1]) .owner)), (wAsk 0x40 ([1, 1]) .owner).rq, (wAsk 0x40 ([1, 1]) .owner),
    (by unfold State.Ready; decide)⟩,
    ⟨(wWith (wBus) (wAsk 0x40 ([0, 1]) .owner)), (wAsk 0x40 ([0, 1]) .owner).rq, (wAsk 0x40 ([0, 1]) .owner),
    (by unfold State.Ready; decide)⟩,
    ⟨(wWith (wBus) (wAsk 0x42 ([2, 0, 0]) .owner)), (wAsk 0x42 ([2, 0, 0]) .owner).rq, (wAsk 0x42 ([2, 0, 0]) .owner),
    (by unfold State.Ready; decide)⟩,
    ⟨(wWith (wBus) (wAsk 0x52 (List.replicate 16 0) .owner)), (wAsk 0x52 (List.replicate 16 0) .owner).rq, (wAsk 0x52
    (List.replicate 16 0) .owner), (by unfold State.Ready; decide)⟩⟩

theorem witness_SessionsAndAbortAct :
    (∃ s : State, ∃ rq : Request, ∃ w : Waiting, ∃ k, ∃ p, s.Ready 0x02 rq w ∧ rq.auth = false ∧ s.sessionSource
    (fieldAt w.body 0 1) (fieldAt w.body 1 1) = some (k, p) ∧ (rq.via = .gateway ∨ rq.via = .line → fieldAt w.body
    0 1 ≠ 3 ∧ p ≠ .claim)) ∧
    (∃ s : State, ∃ rq : Request, ∃ w : Waiting, ∃ x, s.Ready 0x03 rq w ∧ w.sid = some x.sid ∧ (s.port rq.via).est =
    some x) ∧
    (∃ s : State, ∃ rq : Request, ∃ w : Waiting, ∃ v, s.Ready 0x04 rq w ∧ ((s.taken w).port rq.via).waiting.find? (fun
    v => targets (fieldAt w.body 0 2) v.first v.rq.seq.toNat && v.sid == w.sid && !v.lineKeyed) = some v ∧
    immediate v.opc v.body = false ∧ readsOnly v.opc v.body = false) ∧
    (∃ s : State, ∃ rq : Request, ∃ w : Waiting, ∃ v, s.Ready 0x04 rq w ∧ ((s.taken w).port rq.via).waiting.find? (fun
    v => targets (fieldAt w.body 0 2) v.first v.rq.seq.toNat && v.sid == w.sid && !v.lineKeyed) = some v ∧
    (immediate v.opc v.body = true ∨ readsOnly v.opc v.body = true)) ∧
    (∃ s : State, ∃ rq : Request, ∃ w : Waiting, ∃ o, s.Ready 0x04 rq w ∧ ((s.taken w).port rq.via).waiting.find? (fun
    v => targets (fieldAt w.body 0 2) v.first v.rq.seq.toNat && v.sid == w.sid && !v.lineKeyed) = none ∧ (s.port
    rq.via).parts = [] ∧ s.camyx.ops.find? (fun o => (o.via == rq.via && targets (fieldAt w.body 0 2) o.first
    o.seq) && o.sid == w.sid && o.lineAddr.isNone) = some o ∧ (∀ m, o.kind ≠ .forward m) ∧ o.kind ≠ .shelf) ∧
    (∃ s : State, ∃ tr, ∃ x, (s.port tr).pend = some x ∧ 10000 ≤ since s.plinth.upMs x.verifiedAt) ∧
    (∃ s : State, ∃ tr, ∃ x, (s.port tr).est = some x ∧ 1000 * x.idleS ≤ since s.plinth.upMs x.verifiedAt) :=
  ⟨⟨wWith wBus (wAsk 2 ([1, 0] ++ List.replicate 16 0) .pub), (wAsk 2 ([1, 0] ++ List.replicate 16 0) .pub).rq, wAsk
    2 ([1, 0] ++ List.replicate 16 0) .pub, wBus.ident.claimKey, .claim, (by unfold State.Ready; decide)⟩,
    ⟨(wWith wBus ({ wAsk 3 [] .owner with sid := some 7 })).onPort .spi fun p => { p with est := some wSess },
    ({ wAsk 3 [] .owner with sid := some 7 }).rq, { wAsk 3 [] .owner with sid := some 7 }, wSess,
    (by unfold State.Ready; decide)⟩,
    ⟨(wWith wBus (wAsk 4 [2, 0] .owner)).onPort .spi fun p => { p with waiting := p.waiting ++ [wWrite] }, (wAsk 4 [2,
    0] .owner).rq, wAsk 4 [2, 0] .owner, wWrite, (by unfold State.Ready; decide)⟩,
    ⟨(wWith wBus (wAsk 4 [2, 0] .owner)).onPort .spi fun p => { p with waiting := p.waiting ++ [wLater] }, (wAsk 4 [2,
    0] .owner).rq, wAsk 4 [2, 0] .owner, wLater, (by unfold State.Ready; decide)⟩,
    ⟨wOps (wWith wBus (wAsk 4 [2, 0] .owner)) [wOp .tick .chOn], (wAsk 4 [2, 0] .owner).rq, wAsk 4 [2, 0] .owner, wOp
    .tick .chOn,
    (by refine ⟨?_, ?_, ?_, ?_, ?_, ?_⟩ <;> first | (unfold State.Ready; decide) | decide | (intro m h; cases h))⟩,
    ⟨wBus.onPort .spi fun p => { p with pend := some { wSess with verifiedAt := 4294957296 } }, .spi,
    { wSess with verifiedAt := 4294957296 }, by decide⟩,
    ⟨{ wBus with plinth := { wBus.plinth with upMs := 600000 } }.onPort .spi fun p => { p with est := some wSess },
    .spi, wSess, by decide⟩⟩

theorem witness_ConfigurationRequestsAct :
    (∃ s : State, ∃ rq : Request, ∃ w : Waiting, ∃ l : List (Nat × Nat × Nat), s.Ready 0x11 rq w ∧ parseEntries
    w.body.length w.body = some l ∧ s.entriesFault w.priv 0 l = none ∧ overflowAt (s.config.staged.map fun e =>
    e.1) 0 l = none) ∧
    (∃ s : State, ∃ rq : Request, ∃ w : Waiting, ∃ l : List (Nat × Nat × Nat), ∃ st, ∃ i, s.Ready 0x11 rq w ∧
    parseEntries w.body.length w.body = some l ∧ s.entriesFault w.priv 0 l = some (st, i)) ∧
    (∃ s : State, ∃ rq : Request, ∃ w : Waiting, s.Ready 0x12 rq w ∧ s.commitFault w.priv (fieldAt w.body 0 2) = none) ∧
    (∃ s : State, ∃ rq : Request, ∃ w : Waiting, ∃ st, ∃ d, s.Ready 0x12 rq w ∧ s.commitFault w.priv (fieldAt w.body 0
    2) = some (st, d)) ∧
    (∃ s : State, ∃ rq : Request, ∃ w : Waiting, s.Ready 0x13 rq w ∧ fieldAt w.body 0 1 = 0) ∧
    (∃ s : State, ∃ rq : Request, ∃ w : Waiting, ∃ n, ∃ b, s.Ready 0x13 rq w ∧ fieldAt w.body 0 1 = 1 ∧ s.activeBank =
    some (n, b)) ∧
    (∃ s : State, ∃ rq : Request, ∃ w : Waiting, s.Ready 0x14 rq w ∧ bitAt (fieldAt w.body 0 1) 0 = false ∧
    s.sameDigest s.snapshot = true) ∧
    (∃ s : State, ∃ rq : Request, ∃ w : Waiting, s.Ready 0x14 rq w ∧ bitAt (fieldAt w.body 0 1) 0 = false ∧
    s.sameDigest s.snapshot = false ∧ s.genFull = false) ∧
    (∃ s : State, ∃ rq : Request, ∃ w : Waiting, ∃ l : List (Nat × Nat × Nat), s.Ready 0x17 rq w ∧ fieldAt w.body 0 1
    = 0 ∧ s.imageFault w.priv (w.body.drop 1) = none ∧ parseImage (w.body.drop 1) = some l ∧ overflowAt
    (s.config.staged.map fun e => e.1) 0 l = none) ∧
    (∃ s : State, ∃ vs, s.config.armed = some vs) ∧
    (∃ s : State, ∃ b, s.config.baudNext = some b ∧ s.baudWaits = false) :=
  ⟨⟨(wWith (wBus) (wAsk 0x11 ([]) .owner)), (wAsk 0x11 ([]) .owner).rq, (wAsk 0x11 ([]) .owner), [],
    (by unfold State.Ready; decide)⟩,
    ⟨(wWith (wBus) (wAsk 0x11 ([0xFF, 0xFF, 1, 0]) .owner)), (wAsk 0x11 ([0xFF, 0xFF, 1, 0]) .owner).rq, (wAsk 0x11
    ([0xFF, 0xFF, 1, 0]) .owner), [(0xFFFF, 1, 0)], .unknownId, 0, (by unfold State.Ready; decide)⟩,
    ⟨(wWith (wBus) (wAsk 0x12 ([0, 0]) .owner)), (wAsk 0x12 ([0, 0]) .owner).rq, (wAsk 0x12 ([0, 0]) .owner),
    (by unfold State.Ready; decide)⟩,
    ⟨(wWith (wBus) (wAsk 0x12 ([9, 0]) .owner)), (wAsk 0x12 ([9, 0]) .owner).rq, (wAsk 0x12 ([9, 0]) .owner), .state,
    [1, 0], (by unfold State.Ready; decide)⟩,
    ⟨(wWith (wBus) (wAsk 0x13 ([0]) .owner)), (wAsk 0x13 ([0]) .owner).rq, (wAsk 0x13 ([0]) .owner),
    (by unfold State.Ready; decide)⟩,
    ⟨(wWith ({ wBus with config := { wBus.config with bankA := some wBank } }) (wAsk 0x13 ([1]) .owner)), (wAsk 0x13
    ([1]) .owner).rq, (wAsk 0x13 ([1]) .owner), 1, wBank, (by unfold State.Ready; decide)⟩,
    ⟨(wWith ({ wBus with config := { wBus.config with bankA := some wBank } }) (wAsk 0x14 ([0, 0, 0]) .owner)), (wAsk
    0x14 ([0, 0, 0]) .owner).rq, (wAsk 0x14 ([0, 0, 0]) .owner),
    (by refine ⟨by unfold State.Ready; decide, by decide, ?_⟩; unfold State.sameDigest; exact decide_eq_true rfl)⟩,
    ⟨(wWith (wBus) (wAsk 0x14 ([0, 0, 0]) .owner)), (wAsk 0x14 ([0, 0, 0]) .owner).rq, (wAsk 0x14 ([0, 0, 0]) .owner),
    (by unfold State.Ready; decide)⟩,
    ⟨(wWith (wBus) (wAsk 0x17 ([0] ++ wImg) .owner)), (wAsk 0x17 ([0] ++ wImg) .owner).rq, (wAsk 0x17 ([0] ++ wImg)
    .owner), [], (by unfold State.Ready; decide +kernel)⟩,
    ⟨{ wBus with config := { wBus.config with armed := some [(P.sysPortEn, 7)] } }, [(P.sysPortEn, 7)], by decide⟩,
    ⟨{ wBus with config := { wBus.config with baudNext := some 9600 } }, 9600, by decide⟩⟩

theorem witness_ChannelAndRailRequestsAct :
    (∃ s : State, ∃ rq : Request, ∃ w : Waiting, s.Ready 0x20 rq w ∧ s.isSelf (fieldAt w.body 0 1) = true ∧ (maskChans
    (fieldAt w.body 1 2)).any s.fenced = false ∧ (maskChans (fieldAt w.body 1 2)).any (s.chSetBarred 0) = false ∧
    fieldAt w.body 3 1 = 0) ∧
    (∃ s : State, ∃ rq : Request, ∃ w : Waiting, ∃ a, s.Ready 0x20 rq w ∧ s.isSelf (fieldAt w.body 0 1) = true ∧
    (maskChans (fieldAt w.body 1 2)).any s.fenced = false ∧ fieldAt w.body 3 1 = a ∧ (a = 1 ∨ a = 2) ∧ (maskChans
    (fieldAt w.body 1 2)).any (s.chSetBarred a) = false) ∧
    (∃ s : State, ∃ rq : Request, ∃ w : Waiting, s.Ready 0x21 rq w ∧ s.isSelf (fieldAt w.body 0 1) = true ∧ (maskChans
    (fieldAt w.body 1 2)).any s.fenced = false ∧ (maskChans (fieldAt w.body 1 2)).any s.pairOdd = false ∧
    s.fieldLimits rq.via = false) ∧
    (∃ s : State, ∃ rq : Request, ∃ w : Waiting, s.Ready 0x21 rq w ∧ s.isSelf (fieldAt w.body 0 1) = true ∧ (maskChans
    (fieldAt w.body 1 2)).any s.fenced = false ∧ (maskChans (fieldAt w.body 1 2)).any s.pairOdd = false ∧
    s.fieldLimits rq.via = true) ∧
    (∃ s : State, ∃ rq : Request, ∃ w : Waiting, ∃ r : Nat, s.Ready 0x28 rq w ∧ fieldAt w.body 1 1 = 0 ∧ fieldAt
    w.body 0 1 = r ∧ s.railHere r = true ∧ s.ganged r = false ∧ (s.rail r).st ≠ .ovLatched ∧ (s.rail r).st ≠
    .faulted) ∧
    (∃ s : State, ∃ rq : Request, ∃ w : Waiting, ∃ r : Nat, s.Ready 0x28 rq w ∧ fieldAt w.body 1 1 = 0 ∧ fieldAt
    w.body 0 1 = r ∧ s.railHere r = true ∧ s.ganged r = false ∧ (s.rail r).st = .faulted) ∧
    (∃ s : State, ∃ rq : Request, ∃ w : Waiting, ∃ r : Nat, s.Ready 0x28 rq w ∧ fieldAt w.body 1 1 = 1 ∧ fieldAt
    w.body 0 1 = r ∧ s.railHere r = true ∧ s.ganged r = false ∧ s.mayStart r = true ∧ (s.rail r).st = .stopped) ∧
    (∃ s : State, ∃ rq : Request, ∃ w : Waiting, ∃ r : Nat, s.Ready 0x28 rq w ∧ fieldAt w.body 1 1 = 2 ∧ fieldAt
    w.body 0 1 = r ∧ s.railHere r = true ∧ s.ganged r = false ∧ (s.rail r).st = .ovLatched ∧ 10 * (s.rail r).vos <
    s.targetMv r) :=
  ⟨⟨(wWith (wPar wBus (P.lswMode 0) 1) (wAsk 0x20 ([0, 1, 0, 0]) .owner)), (wAsk 0x20 ([0, 1, 0, 0]) .owner).rq,
    (wAsk 0x20 ([0, 1, 0, 0]) .owner), (by unfold State.Ready; decide)⟩,
    ⟨(wWith (wPar wBus (P.lswMode 0) 1) (wAsk 0x20 ([0, 1, 0, 1]) .owner)), (wAsk 0x20 ([0, 1, 0, 1]) .owner).rq,
    (wAsk 0x20 ([0, 1, 0, 1]) .owner), 1, (by unfold State.Ready; decide)⟩,
    ⟨(wWith (wPar wBus (P.lswMode 0) 1) (wAsk 0x21 ([0, 1, 0]) .owner)), (wAsk 0x21 ([0, 1, 0]) .owner).rq, (wAsk 0x21
    ([0, 1, 0]) .owner), (by unfold State.Ready; decide)⟩,
    ⟨(wWith ({ wBus with plinth := { wBus.plinth with mode := .field } }) (wAsk 0x21 ([0, 1, 0]) .owner)), (wAsk 0x21
    ([0, 1, 0]) .owner).rq, (wAsk 0x21 ([0, 1, 0]) .owner), (by unfold State.Ready; decide)⟩,
    ⟨(wWith ((wPar wBus (P.armEn 0) 1).onRail 0 fun x => { x with st := .regulating }) (wAsk 0x28 ([0, 0]) .owner)),
    (wAsk 0x28 ([0, 0]) .owner).rq, (wAsk 0x28 ([0, 0]) .owner), 0, (by unfold State.Ready; decide)⟩,
    ⟨(wWith ((wPar wBus (P.armEn 0) 1).onRail 0 fun x => { x with st := .faulted }) (wAsk 0x28 ([0, 0]) .owner)),
    (wAsk 0x28 ([0, 0]) .owner).rq, (wAsk 0x28 ([0, 0]) .owner), 0, (by unfold State.Ready; decide)⟩,
    ⟨(wWith (wPar wBus (P.armEn 0) 1) (wAsk 0x28 ([0, 1]) .owner)), (wAsk 0x28 ([0, 1]) .owner).rq, (wAsk 0x28 ([0,
    1]) .owner), 0, (by unfold State.Ready; decide)⟩,
    ⟨(wWith ((wPar wBus (P.armEn 0) 1).onRail 0 fun x => { x with st := .ovLatched }) (wAsk 0x28 ([0, 2]) .owner)),
    (wAsk 0x28 ([0, 2]) .owner).rq, (wAsk 0x28 ([0, 2]) .owner), 0, (by unfold State.Ready; decide)⟩⟩

theorem witness_LevelTimeAndTraceRequestsAct :
    (∃ s : State, ∃ rq : Request, ∃ w : Waiting, s.Ready 0x30 rq w ∧ s.authority w.priv = true ∧ s.fieldLimits rq.via
    = false) ∧
    (∃ s : State, ∃ rq : Request, ∃ w : Waiting, s.Ready 0x30 rq w ∧ s.authority w.priv = false) ∧
    (∃ s : State, ∃ rq : Request, ∃ w : Waiting, s.Ready 0x32 rq w ∧ s.authority w.priv = true ∧ s.fieldLimits rq.via
    = false) ∧
    (∃ s : State, ∃ rq : Request, ∃ w : Waiting, s.Ready 0x32 rq w ∧ s.authority w.priv = true ∧ s.fieldLimits rq.via
    = true) ∧
    (∃ s : State, ∃ rq : Request, ∃ w : Waiting, s.Ready 0x31 rq w) ∧
    (∃ s : State, ∃ rq : Request, ∃ w : Waiting, s.Ready 0x42 rq w ∧ fieldAt w.body 0 1 = 0) ∧
    (∃ s : State, ∃ rq : Request, ∃ w : Waiting, s.Ready 0x42 rq w ∧ fieldAt w.body 0 1 = 1 ∧ s.trace.runs = true) :=
  ⟨⟨(wWith (wHead) (wAsk 0x30 ([1, 0, 0]) .owner)), (wAsk 0x30 ([1, 0, 0]) .owner).rq, (wAsk 0x30 ([1, 0, 0])
    .owner), (by unfold State.Ready; decide)⟩,
    ⟨(wWith (wHead) (wAsk 0x30 ([1, 0, 0]) .line)), (wAsk 0x30 ([1, 0, 0]) .line).rq, (wAsk 0x30 ([1, 0, 0]) .line),
    (by unfold State.Ready; decide)⟩,
    ⟨(wWith (wHead) (wAsk 0x32 ([1, 0, 0, 0, 0]) .owner)), (wAsk 0x32 ([1, 0, 0, 0, 0]) .owner).rq, (wAsk 0x32 ([1, 0,
    0, 0, 0]) .owner), (by unfold State.Ready; decide)⟩,
    ⟨(wWith ({ wHead with plinth := { wHead.plinth with mode := .field } }) (wAsk 0x32 ([1, 0, 0, 0, 0]) .owner)),
    (wAsk 0x32 ([1, 0, 0, 0, 0]) .owner).rq, (wAsk 0x32 ([1, 0, 0, 0, 0]) .owner),
    (by unfold State.Ready; decide)⟩,
    ⟨(wWith (wBus) (wAsk 0x31 ([1, 0, 0, 0, 0x34, 0x92]) .owner)), (wAsk 0x31 ([1, 0, 0, 0, 0x34, 0x92]) .owner).rq,
    (wAsk 0x31 ([1, 0, 0, 0, 0x34, 0x92]) .owner), (by unfold State.Ready; decide)⟩,
    ⟨(wWith (wBus) (wAsk 0x42 ([0, 0, 0]) .owner)), (wAsk 0x42 ([0, 0, 0]) .owner).rq, (wAsk 0x42 ([0, 0, 0]) .owner),
    (by unfold State.Ready; decide)⟩,
    ⟨(wWith ({ wBus with trace := { wBus.trace with st := .armed } }) (wAsk 0x42 ([1, 0, 0]) .owner)), (wAsk 0x42 ([1,
    0, 0]) .owner).rq, (wAsk 0x42 ([1, 0, 0]) .owner), (by unfold State.Ready; decide)⟩⟩

theorem witness_KeyAndFirmwareRequestsAct :
    (∃ s : State, ∃ rq : Request, ∃ w : Waiting, ∃ role, ∃ slot, ∃ key, s.Ready 0x50 rq w ∧ fieldAt w.body 0 1 = role
    ∧ fieldAt w.body 1 1 = slot ∧ s.openKey w 2 ((w.body.drop 2).take 16) = some key ∧ kcvOf key = w.body.drop 18
    ∧ slot < slotCount role) ∧
    (∃ s : State, ∃ rq : Request, ∃ w : Waiting, ∃ role, ∃ slot, s.Ready 0x51 rq w ∧ fieldAt w.body 0 1 = role ∧
    fieldAt w.body 1 1 = slot ∧ (s.key? role slot).isSome = true ∧ ¬(role = 1 ∧ (s.key? 1 (1 - slot)).isNone =
    true) ∧ s.busCarries = true ∧ s.ledger.fwStop = false ∧ s.camyx.ops = [] ∧ s.ledger.waiting = [] ∧
    s.ledger.fresh = []) ∧
    (∃ s : State, ∃ rq : Request, ∃ w : Waiting, s.Ready 0x53 rq w ∧ fieldAt w.body 0 4 ≤ fwBankSize ∧ 192 ≤ fieldAt
    w.body 0 4 ∧ s.sec.trial = false) ∧
    (∃ s : State, ∃ rq : Request, ∃ w : Waiting, s.Ready 0x54 rq w ∧ s.sec.fwOpen = true ∧ fieldAt w.body 0 4 =
    s.sec.inactive.data.length ∧ fieldAt w.body 0 4 + (w.body.drop 4).length ≤ s.sec.inactive.size ∧ s.headerFails
    (w.body.drop 4) = false) ∧
    (∃ s : State, ∃ rq : Request, ∃ w : Waiting, s.Ready 0x55 rq w ∧ s.sec.inactive.complete = true ∧ s.unsaved =
    false ∧ s.sec.trial = false ∧ s.acceptable s.sec.inactive = true ∧ (s.sec.inactive.compat / 256 = ownCompat /
    256 ∨ s.activeBank = none)) ∧
    (∃ s : State, ∃ o, ∃ snap, s.camyx.ops.find? (fun o => o.wait == .nvm) = some o ∧ o.kind = .save false 0 snap) ∧
    (∃ s : State, ∃ o, ∃ size, ∃ version, s.camyx.ops.find? (fun o => o.wait == .nvm) = some o ∧ o.kind = .fwBegin
    size version) ∧
    (∃ s : State, ∃ o, ∃ off, ∃ data, s.camyx.ops.find? (fun o => o.wait == .nvm) = some o ∧ o.kind = .fwBlock off
    data ∧ off = s.sec.inactive.data.length) ∧
    (∃ s : State, ∃ o, ∃ role, ∃ slot, ∃ key, ∃ f, ∃ second, ∃ uw, ∃ mv, s.camyx.ops.find? (fun o => o.wait ==
    .surplus) = some o ∧ o.kind = .keyWrite role slot key f second ∧ s.isOn P.secFieldKeys = true ∧ 3000 ≤ uw ∧
    2500 ≤ mv) ∧
    (∃ s : State, ∃ o, ∃ uw, s.camyx.ops.find? (fun o => o.wait == .surplus) = some o ∧ uw < 3000) ∧
    (∃ s : State, s.sec.trial = true ∧ s.seqRuns = true ∧ s.param P.secFwTrialS * 1000 ≤ s.sec.trialMs) :=
  ⟨⟨wWith (wBus.onPort .spi fun p => { p with est := some wSess })
    ({ wAsk 0x50 ([1, 0] ++ List.replicate 16 0 ++ kcvOf wKey) .owner with sid := some 7 }),
    ({ wAsk 0x50 ([1, 0] ++ List.replicate 16 0 ++ kcvOf wKey) .owner with sid := some 7 }).rq,
    { wAsk 0x50 ([1, 0] ++ List.replicate 16 0 ++ kcvOf wKey) .owner with sid := some 7 }, 1, 0, wKey,
    (by refine ⟨wWith_ready _ _ (by decide) (by decide), rfl, rfl, ?_, ?_, by decide⟩ <;> rfl)⟩,
    ⟨(wWith ({ wBus with sec := wBus.sec.writeOlder 2 0 (some [1]) }) (wAsk 0x51 ([2, 0]) .owner)), (wAsk 0x51 ([2,
    0]) .owner).rq, (wAsk 0x51 ([2, 0]) .owner), 2, 0, (by unfold State.Ready; decide)⟩,
    ⟨(wWith (wBus) (wAsk 0x53 ([0, 1, 0, 0, 0, 0, 0, 0]) .owner)), (wAsk 0x53 ([0, 1, 0, 0, 0, 0, 0, 0]) .owner).rq,
    (wAsk 0x53 ([0, 1, 0, 0, 0, 0, 0, 0]) .owner), (by unfold State.Ready; decide)⟩,
    ⟨(wWith (wFw) (wAsk 0x54 ([0, 0, 0, 0, 1]) .owner)), (wAsk 0x54 ([0, 0, 0, 0, 1]) .owner).rq, (wAsk 0x54 ([0, 0,
    0, 0, 1]) .owner), (by unfold State.Ready; decide)⟩,
    ⟨wAct, (wAsk 0x55 [] .owner).rq, wAsk 0x55 [] .owner,
    (by refine ⟨by unfold State.Ready; decide, by decide, wAct_unsaved, by decide, wAct_acceptable, by decide⟩)⟩,
    ⟨wOps (wBus) [wOp (.nvm) (.save false 0 [])], wOp (.nvm) (.save false 0 []), [], by decide⟩,
    ⟨wOps (wBus) [wOp (.nvm) (.fwBegin 256 1)], wOp (.nvm) (.fwBegin 256 1), 256, 1, by decide⟩,
    ⟨wOps (wFw) [wOp (.nvm) (.fwBlock 0 [1])], wOp (.nvm) (.fwBlock 0 [1]), 0, [1], by decide⟩,
    ⟨wOps (wPar wBus P.secFieldKeys 1) [wOp (.surplus) (.keyWrite 1 0 [] false false)], wOp (.surplus) (.keyWrite 1 0
    [] false false), 1, 0, [], false, false, 3000, 2500, by decide⟩,
    ⟨wOps (wBus) [wOp (.surplus) (.keyWrite 1 0 [] false false)], wOp (.surplus) (.keyWrite 1 0 [] false false), 0, by
    decide⟩,
    ⟨{ wBus with sec := { wBus.sec with trial := true, trialMs := 1000000000 } }, by decide⟩⟩

theorem witness_ResetShelfAndForwardRequestsAct :
    (∃ s : State, ∃ rq : Request, ∃ w : Waiting, s.Ready 0x56 rq w) ∧
    (∃ s : State, ∃ rq : Request, ∃ w : Waiting, s.Ready 0x60 rq w) ∧
    (∃ s : State, ∃ p, s.camyx.resetOwed = some p ∧ s.resetWaits p = false ∧ s.plinth.seq = .running ∧ s.sec.fwActiveB
    = s.sec.fwRunningB) ∧
    (∃ s : State, ∃ rq : Request, ∃ w : Waiting, s.Ready 0x61 rq w ∧ s.power.bakQ = true ∧ s.life.shelfPend = false ∧
    s.life.st ≠ .decommissioning) ∧
    (∃ s : State, ∃ rq : Request, ∃ w : Waiting, s.Ready 0x61 rq w ∧ s.power.bakQ = false) ∧
    (∃ s : State, ∃ rq : Request, ∃ w : Waiting, s.Ready 0x62 rq w ∧ s.life.st ≠ .decommissioning) ∧
    (∃ s : State, ∃ rq : Request, ∃ w : Waiting, ∃ opc, s.Ready 0x07 rq w ∧ s.isSelf (fieldAt w.body 0 1) = true ∧
    fieldAt w.body 1 1 = opc ∧ (rolesOf opc).isSome = true ∧ admits w.priv (transportCode rq.via) opc (w.body.drop
    2) = true ∧ wellFormed opc (w.body.drop 2) = true ∧ s.gate opc rq.via (w.body.drop 2) = none) ∧
    (∃ s : State, ∃ rq : Request, ∃ w : Waiting, ∃ opc, ∃ m, ∃ x, s.Ready 0x07 rq w ∧ s.isSelf m = false ∧ fieldAt
    w.body 0 1 = m ∧ fieldAt w.body 1 1 = opc ∧ s.tab.inTab = true ∧ s.tab.lead = true ∧ m ≠ s.param P.tabIndex ∧
    s.tab.member.toList.getD m none = some x ∧ x.present = true) ∧
    (∃ s : State, ∃ rq : Request, ∃ w : Waiting, ∃ m, s.Ready 0x07 rq w ∧ s.isSelf m = false ∧ fieldAt w.body 0 1 = m
    ∧ s.tab.lead = false) :=
  ⟨⟨(wWith (wBus) (wAsk 0x56 ([1]) .owner)), (wAsk 0x56 ([1]) .owner).rq, (wAsk 0x56 ([1]) .owner),
    (by unfold State.Ready; decide)⟩,
    ⟨(wWith (wBus) (wAsk 0x60 ([]) .owner)), (wAsk 0x60 ([]) .owner).rq, (wAsk 0x60 ([]) .owner),
    (by unfold State.Ready; decide)⟩,
    ⟨{ wBus with camyx := { wBus.camyx with resetOwed := some .spi } }, .spi, by decide⟩,
    ⟨(wWith ({ wBus with power := { wBus.power with bakQ := true } }) (wAsk 0x61 ([0, 0]) .owner)), (wAsk 0x61 ([0,
    0]) .owner).rq, (wAsk 0x61 ([0, 0]) .owner), (by unfold State.Ready; decide)⟩,
    ⟨(wWith ({ wBus with power := { wBus.power with bakQ := false } }) (wAsk 0x61 ([0, 0]) .owner)), (wAsk 0x61 ([0,
    0]) .owner).rq, (wAsk 0x61 ([0, 0]) .owner), (by unfold State.Ready; decide)⟩,
    ⟨(wWith (wBus) (wAsk 0x62 ([]) .owner)), (wAsk 0x62 ([]) .owner).rq, (wAsk 0x62 ([]) .owner),
    (by unfold State.Ready; decide)⟩,
    ⟨(wWith (wBus) (wAsk 0x07 ([0, 1]) .owner)), (wAsk 0x07 ([0, 1]) .owner).rq, (wAsk 0x07 ([0, 1]) .owner), 1,
    (by unfold State.Ready; decide)⟩,
    ⟨(wWith (wLead) (wAsk 0x07 ([1, 1]) .owner)), (wAsk 0x07 ([1, 1]) .owner).rq, (wAsk 0x07 ([1, 1]) .owner), 1, 1,
    newMember (Vector.replicate 20 none) 0, (by unfold State.Ready; decide)⟩,
    ⟨(wWith (wBus) (wAsk 0x07 ([1, 1]) .owner)), (wAsk 0x07 ([1, 1]) .owner).rq, (wAsk 0x07 ([1, 1]) .owner), 1,
    (by unfold State.Ready; decide)⟩⟩

theorem witness_BytePortsAndTimersAct :
    (∃ s : State, ∃ b : List Byte, ∃ p : List Byte, s.portLive .spi = true ∧ s.rxFree .spi = true ∧ untilPacket (hunt
    b.length b) = [.packet p]) ∧
    (∃ s : State, s.portLive .spi = true ∧ s.rxFree .spi = false) ∧
    (∃ s : State, s.portLive .spi = true ∧ (s.port .spi).replies = []) ∧
    (∃ s : State, ∃ r, ∃ l, s.portLive .spi = true ∧ (s.port .spi).replies = r :: l) ∧
    (∃ s : State, ∃ h : Byte, s.portLive .spi = true ∧ h ≠ 0x5A#8 ∧ h ≠ 0xA5#8) ∧
    (∃ s : State, ∃ b : List Byte, ∃ p : List Byte, ∃ a : BitVec 7, s.portLive .i2c = true ∧ a.toNat = s.ident.i2cAddr
    ∧ s.rxFree .i2c = true ∧ untilPacket (hunt b.length b) = [.packet p]) ∧
    (∃ s : State, ∃ a : BitVec 7, s.portLive .i2c = true ∧ a.toNat = s.ident.i2cAddr ∧ (s.port .i2c).replies = []) ∧
    (∃ s : State, ∃ b : List Byte, ∃ p : List Byte, s.portLive s.uartAs = true ∧ s.plinth.mode = .doze ∧ bitAt
    (s.param P.sysWakeEn) 4 = true ∧ hunt b.length (b.drop ((50 * s.config.baud + 9999999) / 10000000)) = [.packet
    p]) ∧
    (∃ s : State, ∃ b : List Byte, ∃ p : List Byte, s.portLive s.uartAs = true ∧ s.plinth.mode ≠ .doze ∧ hunt b.length
    b = [.packet p]) ∧
    (∃ s : State, ∃ r, ∃ l, s.portLive s.uartAs = true ∧ s.camyx.u0TxMs = 0 ∧ (s.port s.uartAs).replies = r :: l ∧
    (s.plinthOn && !s.inReset) = true) ∧
    (∃ s : State, ∃ f, ∃ l, s.portLive s.uartAs = true ∧ s.camyx.u0TxMs = 0 ∧ (s.port s.uartAs).replies = [] ∧
    s.camyx.gwOut = f :: l) ∧
    (∃ s : State, ∃ c, ∃ l, s.seqRuns = true ∧ s.sw.staggerQ = c :: l) ∧
    (∃ s : State, (s.port .nfc).est.isSome = true ∧ s.power.path = .onSto) ∧
    (∃ s : State, s.seqRuns = true) :=
  ⟨⟨wPort, (frameLocal (packetBody 0 1 1 [] 0)), (packetBody 0 1 1 [] 0), by decide⟩,
    ⟨wPort.onPort .spi fun p => { p with waiting := List.replicate 32 wLater }, by decide⟩,
    ⟨wPort, by decide⟩,
    ⟨wPort.onPort .spi fun p =>
    { p with replies := [{ seq := 1, opc := 1, status := .ok, data := [], key := none, lineAddr := none, more := false, part := 0, sid := none, cut := false, drops := [] }] },
    { seq := 1, opc := 1, status := .ok, data := [], key := none, lineAddr := none, more := false, part := 0, sid := none, cut := false, drops := [] },
    [], by decide⟩,
    ⟨wPort, 0#8, by decide⟩,
    ⟨wPort, (frameLocal (packetBody 0 1 1 [] 0)), (packetBody 0 1 1 [] 0), BitVec.ofNat 7 wBus.ident.i2cAddr, by
    decide⟩,
    ⟨wPort, BitVec.ofNat 7 wBus.ident.i2cAddr, by decide⟩,
    
    ⟨{ wPort with plinth := { wPort.plinth with mode := .doze }, config := { wPort.config with inForce := wPort.config.inForce.put P.sysWakeEn 0x10, baud := 9600 } },
    [0#8] ++ (frameLocal (packetBody 0 1 1 [] 0)), (packetBody 0 1 1 [] 0), by decide⟩,
    ⟨wPort, (frameLocal (packetBody 0 1 1 [] 0)), (packetBody 0 1 1 [] 0), by decide⟩,
    ⟨wPort.onPort .uart fun p =>
    { p with replies := [{ seq := 1, opc := 1, status := .ok, data := [], key := none, lineAddr := none, more := false, part := 0, sid := none, cut := false, drops := [] }] },
    { seq := 1, opc := 1, status := .ok, data := [], key := none, lineAddr := none, more := false, part := 0, sid := none, cut := false, drops := [] },
    [], by decide⟩,
    ⟨{ wPort with camyx := { wBus.camyx with gwOut := [[1]] } }, [1], [], by decide⟩,
    ⟨{ wBus with sw := { wBus.sw with staggerQ := [0] } }, 0, [], by decide⟩,
    ⟨wSto.onPort .nfc fun p => { p with est := some wSess }, by decide⟩,
    ⟨wPort, by decide⟩⟩

theorem witness_BridgePartsAndApdusAct :
    (∃ s : State, ∃ b : List Byte, ∃ pkt : List Byte, ∃ a : Nat, s.portLive .gateway = true ∧ fieldAt b 0 1 = 0xAB ∧
    fieldAt b 1 1 = a ∧ b.length = fieldAt b 2 2 + 6 ∧ pkt = (b.drop 2).take (fieldAt b 2 2 + 2) ∧ packetOk pkt =
    true ∧ (crc16 ((b.drop 1).take (fieldAt b 2 2 + 3))).toNat = fieldAt b (fieldAt b 2 2 + 4) 2 ∧ s.plinth.mode ≠
    .doze ∧ a = 0) ∧
    (∃ s : State, ∃ b : List Byte, ∃ pkt : List Byte, ∃ a : Nat, s.portLive .gateway = true ∧ fieldAt b 0 1 = 0xAB ∧
    fieldAt b 1 1 = a ∧ b.length = fieldAt b 2 2 + 6 ∧ pkt = (b.drop 2).take (fieldAt b 2 2 + 2) ∧ packetOk pkt =
    true ∧ (crc16 ((b.drop 1).take (fieldAt b 2 2 + 3))).toNat = fieldAt b (fieldAt b 2 2 + 4) 2 ∧ s.plinth.mode ≠
    .doze ∧ 251 ≤ a ∧ s.line.stoodDown = false ∧ pkt.length ≤ 270 ∧ s.bridgeFull a = false) ∧
    (∃ s : State, ∃ b : List Byte, ∃ pkt : List Byte, ∃ a : Nat, s.portLive .gateway = true ∧ fieldAt b 0 1 = 0xAB ∧
    fieldAt b 1 1 = a ∧ b.length = fieldAt b 2 2 + 6 ∧ pkt = (b.drop 2).take (fieldAt b 2 2 + 2) ∧ packetOk pkt =
    true ∧ (crc16 ((b.drop 1).take (fieldAt b 2 2 + 3))).toNat = fieldAt b (fieldAt b 2 2 + 4) 2 ∧ s.plinth.mode ≠
    .doze ∧ a ≠ 0 ∧ a < 251 ∧ (s.line.stoodDown = true ∨ s.node? a = none)) ∧
    (∃ s : State, ∃ b : List Byte, ∃ pkt : List Byte, ∃ a : Nat, ∃ n, s.portLive .gateway = true ∧ fieldAt b 0 1 =
    0xAB ∧ fieldAt b 1 1 = a ∧ b.length = fieldAt b 2 2 + 6 ∧ pkt = (b.drop 2).take (fieldAt b 2 2 + 2) ∧ packetOk
    pkt = true ∧ (crc16 ((b.drop 1).take (fieldAt b 2 2 + 3))).toNat = fieldAt b (fieldAt b 2 2 + 4) 2 ∧
    s.plinth.mode ≠ .doze ∧ a ≠ 0 ∧ a < 251 ∧ s.line.stoodDown = false ∧ s.node? a = some n ∧ pkt.length ≤ 270 ∧
    s.bridgeFull a = false ∧ pkt.length ≤ lineLimit n.mode s.laneCount ∧ s.bridgeLoad + s.bridgeSlots n pkt.length
    ≤ 150) ∧
    (∃ s : State, ∃ b : List Byte, ∃ a : Nat, ∃ q, ∃ x, s.camyx.bridge.find? (fun b => b.addr == a && fieldAt b.pkt 3
    2 == q) = some x) ∧
    (∃ s : State, ∃ rq : Request, rq.more = true ∧ s.portLive rq.via = true) ∧
    (∃ s : State, ∃ opc : Byte, ∃ rq : Request, rq.more = true ∧ s.portLive rq.via = true ∧ rq.auth = false ∧ rq.cast
    = false ∧ (rq.via = .line → rq.origin = 0) ∧ rq.ctrl &&& 0xF9#8 = 0 ∧ rq.params.length ≤ paramLimit rq.via ∧
    (s.port rq.via).parts = [] ∧ (rolesOf opc.toNat).isSome = true ∧ admits (s.plainPriv rq.via) (transportCode
    rq.via) opc.toNat rq.params = true) ∧
    (∃ s : State, ∃ b : List Byte, ∃ pkt : List Byte, s.nfc.st = .isoDep ∧ s.camyx.apdu = false ∧ s.portLive .nfc =
    true ∧ s.nfc.app = .camyx ∧ fieldAt b 0 1 = 0x80 ∧ fieldAt b 1 1 = 0xCA ∧ fieldAt b 4 1 = 0 ∧ pkt = (b.drop
    7).take (ofBe ((b.drop 5).take 2)) ∧ b.length = ofBe ((b.drop 5).take 2) + 9 ∧ pkt.length = ofBe ((b.drop
    5).take 2) ∧ packetOk pkt = true) ∧
    (∃ s : State, ∃ b : List Byte, s.nfc.st = .isoDep ∧ s.camyx.apdu = false ∧ s.portLive .nfc = true ∧ fieldAt b 0 1
    ≠ 0x80) ∧
    (∃ s : State, s.nfc.st = .isoDep ∧ s.camyx.apdu = false ∧ s.portLive .nfc = false) ∧
    (∃ s : State, s.nfc.st = .isoDep ∧ (s.camyx.apdu = true ∨ s.nfc.held.isSome = true)) :=
  ⟨⟨wHead, frameBridge 0 (packetBody 0 1 1 [] 0), (packetBody 0 1 1 [] 0), 0, by decide⟩,
    ⟨wHead, frameBridge 255 (packetBody 0 1 1 [] 0), (packetBody 0 1 1 [] 0), 255, by decide⟩,
    ⟨wHead, frameBridge 5 (packetBody 0 1 1 [] 0), (packetBody 0 1 1 [] 0), 5, by decide⟩,
    ⟨{ wHead with line := { wHead.line with nodes := [newNode 5 [] 0] } }, frameBridge 5 (packetBody 0 1 1 [] 0),
    (packetBody 0 1 1 [] 0), 5, newNode 5 [] 0, by decide⟩,
    
    ⟨{ wHead with camyx := { wHead.camyx with bridge := [{ addr := 5, pkt := (packetBody 0 1 1 [] 0), sent := false }] } },
    [], 5, 1, { addr := 5, pkt := (packetBody 0 1 1 [] 0), sent := false }, by decide⟩,
    ⟨wPort, ({ (wAsk 1 [] .owner).rq with ctrl := 4#8 }), by decide⟩,
    ⟨wPort, 1, ({ (wAsk 1 [] .owner).rq with ctrl := 4#8 }), by decide⟩,
    ⟨{ wBus with nfc := { wBus.nfc with st := .isoDep, app := .camyx } }, ([0x80#8, 0xCA#8, 0#8, 0#8, 0#8, 0#8, 6#8]
    ++ (packetBody 0 1 1 [] 0) ++ [0#8, 0#8]), (packetBody 0 1 1 [] 0), by decide⟩,
    ⟨{ wBus with nfc := { wBus.nfc with st := .isoDep, app := .camyx } }, [0#8], by decide⟩,
    ⟨{ wBus with plinth := { wBus.plinth with seq := .coldBoot }, nfc := { wBus.nfc with st := .isoDep } }, by decide⟩,
    ⟨{ wBus with camyx := { wBus.camyx with apdu := true }, nfc := { wBus.nfc with st := .isoDep } }, by decide⟩⟩

theorem witness_NfcReaderCommandsAct :
    (∃ s : State, ∃ mv, s.power.path ≠ .shelf ∧ 2200 ≤ mv ∧ s.nfc.nfcid ≠ []) ∧
    (∃ s : State, ∃ mv, s.power.path ≠ .shelf ∧ 2200 ≤ mv ∧ s.nfc.nfcid = []) ∧
    (∃ s : State, ∃ mv, (s.power.path = .shelf ∨ mv < 2200)) ∧
    (∃ s : State, ∃ u : BitVec 32, s.nfc.st = .ready ∧ s.fieldAnswers = true ∧ toBe 4 u.toNat = s.nfc.nfcid) ∧
    (∃ s : State, ∃ u : BitVec 32, s.nfc.st = .ready ∧ s.fieldAnswers = true ∧ toBe 4 u.toNat ≠ s.nfc.nfcid) ∧
    (∃ s : State, ∃ p : Byte, s.nfc.st = .active ∧ s.fieldAnswers = true ∧ p.toNat % 16 = 0 ∧ p.toNat / 16 ≤ 8) ∧
    (∃ s : State, ∃ p : Byte, s.nfc.st = .active ∧ s.fieldAnswers = true ∧ (p.toNat % 16 ≠ 0 ∨ 8 < p.toNat / 16) ∧
    s.plinthOn = true) ∧
    (∃ s : State, ∃ p : Byte, s.nfc.st = .isoDep ∧ p.toNat % 16 = 0) ∧
    (∃ s : State, ∃ p : Byte, s.nfc.st = .isoDep ∧ p.toNat % 16 ≠ 0 ∧ s.plinthOn = true) ∧
    (∃ s : State, ∃ off, s.nfc.st = .isoDep ∧ s.portLive .nfc = true ∧ s.nfc.app = .type4 ∧ s.nfc.file = 0xE103 ∧ off
    < 15) ∧
    (∃ s : State, ∃ off, s.nfc.st = .isoDep ∧ s.portLive .nfc = true ∧ s.nfc.app = .type4 ∧ s.nfc.file = 0xE104 ∧ off
    < s.nfc.ndef.length) ∧
    (∃ s : State, s.nfc.st = .isoDep ∧ s.portLive .nfc = false) ∧
    (∃ s : State, s.plinthOn = true) ∧
    (∃ s : State, s.plinthOn = false) :=
  ⟨⟨{ wBus with nfc := { wBus.nfc with nfcid := [8, 1, 2, 3] } }, 2200, by decide⟩,
    ⟨wBus, 2200, by decide⟩,
    ⟨wBus, 2199, by decide⟩,
    
    ⟨{ wBus with nfc := { wBus.nfc with st := .ready, nfcid := [8, 1, 2, 3] }, power := { wBus.power with fieldMv := 2200 } },
    0x08010203, by decide⟩,
    
    ⟨{ wBus with nfc := { wBus.nfc with st := .ready, nfcid := [8, 1, 2, 3] }, power := { wBus.power with fieldMv := 2200 } },
    1, by decide⟩,
    ⟨{ wBus with nfc := { wBus.nfc with st := .active }, power := { wBus.power with fieldMv := 2200 } }, 0x80, by
    decide⟩,
    ⟨{ wBus with nfc := { wBus.nfc with st := .active }, power := { wBus.power with fieldMv := 2200 } }, 1, by decide⟩,
    ⟨{ wBus with nfc := { wBus.nfc with st := .isoDep } }, 0x30, by decide⟩,
    ⟨{ wBus with nfc := { wBus.nfc with st := .isoDep } }, 1, by decide⟩,
    ⟨{ wBus with nfc := { wBus.nfc with st := .isoDep, app := .type4, file := 0xE103 } }, 14, by decide⟩,
    ⟨{ wBus with nfc := { wBus.nfc with st := .isoDep, app := .type4, file := 0xE104, ndef := [1, 2] } }, 1, by
    decide⟩,
    ⟨{ wBus with plinth := { wBus.plinth with seq := .coldBoot }, nfc := { wBus.nfc with st := .isoDep } }, by decide⟩,
    ⟨wBus, by decide⟩,
    ⟨{ wBus with power := { wBus.power with path := .none } }, by decide⟩⟩

theorem witness_PwmAndMeasurementFollowTheRules :
    (∃ s : State, ∃ ch : Fin 16, ∃ tick, ∃ d, ∃ h, h = s.chan (s.lead ch.val) ∧ h.demand = .pwm d ∧ h.out = true ∧
    tick % max h.div 1 = 0 ∧ s.wantOn (s.lead ch.val) = true ∧ s.plinth.mode ≠ .doze) ∧
    (∃ s : State, ∃ ch : Fin 16, ∃ tick, ∃ d, ∃ h, h = s.chan (s.lead ch.val) ∧ h.demand = .pwm d ∧ h.out = true ∧
    tick % max h.div 1 = 0 ∧ s.wantOn (s.lead ch.val) = false ∧ s.inReset = false ∧ s.power.gndOpen = false ∧
    s.plinth.mode ≠ .doze) ∧
    (∃ s : State, ∃ ch : Fin 16, s.patternPends (s.lead ch.val) = true) ∧
    (∃ s : State, ∃ ch : Fin 16, s.patternPends (s.lead ch.val) = false) ∧
    (∃ s : State, ∃ ch : Fin 16, s.plinth.mode = .run ∧ s.param (P.lswMode (s.lead ch.val)) ≠ 0) ∧
    (∃ s : State, ∃ ch : Fin 16, s.param (P.lswRange ch.val) = 0 ∧ 6400 ≤ (s.chan ch.val).lowRun) ∧
    (∃ s : State, ∃ ch : Fin 16, s.param (P.lswMode (s.lead ch.val)) ≠ 0 ∧ s.pairOdd ch.val = false ∧ s.paired ch.val
    = false) ∧
    (∃ s : State, ∃ ch : Fin 16, s.param (P.lswMode (s.lead ch.val)) ≠ 0 ∧ s.pairOdd ch.val = false ∧ s.paired ch.val
    = true) ∧
    (∃ s : State, ∃ ch : Fin 16, s.plinth.mode = .doze ∧ s.param (P.lswMode (s.lead ch.val)) ≠ 0 ∧ (s.chan ch.val).out
    = true ∧ s.pairOdd ch.val = false ∧ s.paired ch.val = false) :=
  ⟨⟨(wPar wBus (P.lswMode 3) 2).onChan 3 fun h =>
    { h with demand := .pwm 50, out := true, bus := false, shut := false }, 3, 0, 50, ((wPar wBus (P.lswMode 3)
    2).onChan 3 fun h => { h with demand := .pwm 50, out := true, bus := false, shut := false }).chan (((wPar wBus
    (P.lswMode 3) 2).onChan 3 fun h =>
    { h with demand := .pwm 50, out := true, bus := false, shut := false }).lead 3), by decide⟩,
    ⟨wBus.onChan 3 fun h => { h with demand := .pwm 50, out := true }, 3, 0, 50, (wBus.onChan 3 fun h =>
    { h with demand := .pwm 50, out := true }).chan ((wBus.onChan 3 fun h =>
    { h with demand := .pwm 50, out := true }).lead 3), by decide⟩,
    ⟨wPar wBus (P.lswPwmDiv 3) 80, 3, by decide⟩,
    ⟨wBus, 3, by decide⟩,
    ⟨(wPar wBus (P.lswMode 3) 1), 3, by decide⟩,
    ⟨(wPar wBus (P.lswRange 3) 0).onChan 3 fun h => { h with lowRun := 6400 }, 3, by decide⟩,
    ⟨(wPar wBus (P.lswMode 3) 1), 3, by decide⟩,
    ⟨wPar (wPar wBus (P.lswMode 2) 1) (P.lswPair 2) 1, 2, by decide⟩,
    
    ⟨({ (wPar wBus (P.lswMode 3) 1) with plinth := { (wPar wBus (P.lswMode 3) 1).plinth with mode := .doze } }).onChan
    3 fun h => { h with out := true }, 3, by decide⟩⟩

theorem witness_OpenLoadAndWallSwitchesAct :
    (∃ s : State, ∃ ch : Fin 16, s.param (P.lswOlMa ch.val) ≠ 0 ∧ s.olFilter ch.val ≤ (s.chan ch.val).olMs ∧ (s.chan
    ch.val).out = true ∧ s.isOn (P.lswOlAction ch.val) = false) ∧
    (∃ s : State, ∃ ch : Fin 16, s.param (P.lswOlMa ch.val) ≠ 0 ∧ s.olFilter ch.val ≤ (s.chan ch.val).olMs ∧ (s.chan
    ch.val).out = true ∧ s.isOn (P.lswOlAction ch.val) = true) ∧
    (∃ s : State, ∃ ch : Fin 16, s.olFilter ch.val ≤ (s.chan ch.val).olClearMs) ∧
    (∃ s : State, ∃ ch : Fin 16, s.paired (ch.val / 2 * 2) = true ∧ 1000 ≤ (s.chan (ch.val / 2 * 2 + 1)).shareMs) ∧
    (∃ s : State, ∃ ch : Fin 16, s.paired (ch.val / 2 * 2) = true ∧ (s.chan (ch.val / 2 * 2 + 1)).shareMs < 1000 ∧
    10000 ≤ (s.chan (ch.val / 2 * 2 + 1)).shareOkMs) ∧
    (∃ s : State, ∃ ch : Fin 16, s.paired (ch.val / 2 * 2) = false) ∧
    (∃ s : State, ∃ g : Fin 8, ∃ hi, s.mapperRuns = true ∧ s.param (P.gpioMode g.val) = 2 ∧ s.gpioActive g.val hi =
    true ∧ (s.sw.gpio[g]).level ≠ hi ∧ s.sw.wallQ.length < 16) ∧
    (∃ s : State, ∃ g : Fin 8, ∃ hi, s.mapperRuns = true ∧ s.param (P.gpioMode g.val) = 3 ∧ (s.sw.gpio[g]).level ≠ hi
    ∧ 16 ≤ s.sw.wallQ.length) ∧
    (∃ s : State, ∃ g : Fin 8, s.param (P.gpioMode g.val) = 4 ∧ (s.sw.gpio[g]).pressed = true ∧ (s.sw.gpio[g]).long =
    false ∧ s.sw.wallQ.length < 16) ∧
    (∃ s : State, ∃ n, ∃ g, ∃ rest, s.seqRuns = true ∧ s.firstAtP5 n = true ∧ s.sw.wallQ = (n, .follow g false) ::
    rest) ∧
    (∃ s : State, ∃ n, ∃ g, ∃ rest, s.seqRuns = true ∧ s.firstAtP5 n = true ∧ s.sw.wallQ = (n, .follow g true) ::
    rest) ∧
    (∃ s : State, ∃ g : Fin 8, ∃ c, ∃ d, (s.sw.gpio[g]).ramp = true ∧ (s.sw.gpio[g]).pressed = true ∧ s.wallChans
    g.val = [c] ∧ s.param (P.lswMode c) = 2 ∧ (s.chan c).demand = .pwm d) ∧
    (∃ s : State, ∃ d : Fin 4, (s.sw.die[d]).supplied = true) :=
  ⟨⟨(wPar (wPar wBus (P.lswOlMa 3) 50) (P.lswOlAction 3) 0).onChan 3 fun h =>
    { h with out := true, olMs := 1000000 }, 3, by decide⟩,
    ⟨(wPar (wPar wBus (P.lswOlMa 3) 50) (P.lswOlAction 3) 1).onChan 3 fun h =>
    { h with out := true, olMs := 1000000 }, 3, by decide⟩,
    ⟨wBus.onChan 3 fun h => { h with olClearMs := 1000000 }, 3, by decide⟩,
    ⟨(wPar wBus (P.lswPair 2) 1).onChan 3 fun h => { h with shareMs := 1000 }, 3, by decide⟩,
    ⟨(wPar wBus (P.lswPair 2) 1).onChan 3 fun h => { h with shareOkMs := 10000 }, 3, by decide⟩,
    ⟨wBus, 3, by decide⟩,
    ⟨wPar wBus (P.gpioMode 2) 2, 2, false, by decide⟩,
    ⟨{ wPar wBus (P.gpioMode 2) 3 with sw := { wBus.sw with wallQ := List.replicate 16 (0, .toggle 0) } }, 2, false,
    by decide⟩,
    
    ⟨{ wPar wBus (P.gpioMode 2) 4 with sw := { wBus.sw with gpio := upd wBus.sw.gpio 2 fun g => { g with pressed := true } } },
    2, by decide⟩,
    ⟨{ wPar wBus (P.gpioMode 2) 2 with sw := { wBus.sw with wallQ := [(0, .follow 2 false)] } }, 0, 2, [], by decide⟩,
    ⟨{ wPar wBus (P.gpioMode 2) 2 with sw := { wBus.sw with wallQ := [(0, .follow 2 true)] } }, 0, 2, [], by decide⟩,
    ⟨(wPar (wPar
    { wBus with sw := { wBus.sw with gpio := upd wBus.sw.gpio 2 fun g => { g with pressed := true, ramp := true } } }
    (P.gpioMask 2) 8) (P.lswMode 3) 2).onChan 3 fun h => { h with demand := .pwm 50 }, 2, 3, 50, by decide⟩,
    ⟨{ wBus with sw := { wBus.sw with die := upd wBus.sw.die 1 fun d => { d with supplied := true } } }, 1, by decide⟩⟩

theorem witness_InrushAndTripsAct :
    (∃ s : State, ∃ ch : Fin 16, ∃ c : Nat, s.lead ch.val = c ∧ (s.chan c).inrRearm = true ∧ (s.chan c).out = true ∧
    1000 ≤ (s.chan c).idleMs) ∧
    (∃ s : State, ∃ ch : Fin 16, ∃ c : Nat, s.lead ch.val = c ∧ s.inReverse ch.val = false) ∧
    (∃ s : State, ∃ ch : Fin 16, ∃ c : Nat, s.lead ch.val = c ∧ s.seqRuns = true ∧ s.inReverse c = false ∧ (s.chan
    c).limiting = true ∧ (s.chan c).window = true ∧ (s.chan c).retries < (s.chan c).inrRetries) ∧
    (∃ s : State, ∃ ch : Fin 16, ∃ c : Nat, s.lead ch.val = c ∧ s.seqRuns = true ∧ s.inReverse c = false ∧ (s.chan
    c).limiting = true ∧ (s.chan c).window = false) ∧
    (∃ s : State, ∃ ch : Fin 16, ∃ c : Nat, s.lead ch.val = c ∧ s.seqRuns = true ∧ s.inReverse c = false ∧ (s.chan
    c).limiting = true ∧ (s.chan c).window = true ∧ (s.chan c).inrRetries ≤ (s.chan c).retries) ∧
    (∃ s : State, ∃ ch : Fin 16, ∃ c : Nat, s.lead ch.val = c ∧ (s.chan c).backoff = true ∧ (s.onChan c fun h =>
    { h with backoff := false, retries := h.retries + 1 }).wantOn c = true) :=
  ⟨⟨wBus.onChan 3 fun h => { h with out := true, idleMs := 1000, inrRearm := true }, 3, 3, by decide⟩,
    ⟨wBus.onChan 3 fun h => { h with out := true }, 3, 3, by decide⟩,
    ⟨wBus.onChan 3 fun h => { h with limiting := true, window := true, inrRetries := 2 }, 3, 3, by decide⟩,
    ⟨wBus.onChan 3 fun h => { h with limiting := true }, 3, 3, by decide⟩,
    ⟨wBus.onChan 3 fun h => { h with limiting := true, window := true, retries := 2, inrRetries := 2 }, 3, 3, by
    decide⟩,
    ⟨(wPar wBus (P.lswMode 3) 1).onChan 3 fun h => { h with backoff := true, demand := .on, bus := false }, 3, 3, by
    decide⟩⟩

theorem witness_ThermalAndClampAct :
    (∃ s : State, ∃ ch : Fin 16, ∃ c : Nat, ∃ x : Int, s.lead ch.val = c ∧ 170 ≤ x ∧ (s.chan c).thermOff = false ∧
    (s.chan c).thermLatch = false ∧ s.seqRuns = true ∧ s.inReverse c = false) ∧
    (∃ s : State, ∃ ch : Fin 16, ∃ c : Nat, ∃ x : Int, s.lead ch.val = c ∧ (s.onChan ch.val fun h =>
    { h with tjC := x }).cool c = true ∧ (s.chan c).thermOff = true) ∧
    (∃ s : State, ∃ ch : Fin 16, ∃ c : Nat, ∃ x : Int, s.lead ch.val = c ∧ 140 ≤ x) ∧
    (∃ s : State, ∃ ch : Fin 16, ∃ c : Nat, ∃ ma, ∃ us, ∃ mv, s.lead ch.val = c ∧ s.seqRuns = true ∧ s.inReverse c =
    false ∧ clampLimitMj ma * 2000000000 < mv * ma * us) ∧
    (∃ s : State, ∃ ch : Fin 16, ∃ c : Nat, ∃ ma, ∃ us, ∃ mv, s.lead ch.val = c ∧ s.inReverse c = false ∧ mv * ma * us
    ≤ clampLimitMj ma * 2000000000) ∧
    (∃ s : State, ∃ ch : Fin 16, ∃ c : Nat, ∃ d, s.lead ch.val = c ∧ s.seqRuns = true ∧ s.inReverse c = false ∧
    (s.chan c).demand = .pwm d ∧ (s.chan c).out = true ∧ s.isOn (P.lswClampGuard c) = false) ∧
    (∃ s : State, ∃ ch : Fin 16, ∃ c : Nat, ∃ d, s.lead ch.val = c ∧ s.seqRuns = true ∧ s.inReverse c = false ∧
    (s.chan c).demand = .pwm d ∧ (s.chan c).out = true ∧ s.isOn (P.lswClampGuard c) = true) :=
  ⟨⟨wBus, 3, 3, 170, by decide⟩,
    ⟨wBus.onChan 3 fun h => { h with thermOff := true }, 3, 3, 100, by decide⟩,
    ⟨wBus, 3, 3, 140, by decide⟩,
    ⟨wBus, 3, 3, 2000, 4000, 48000, by decide⟩,
    ⟨wBus, 3, 3, 2000, 10, 48000, by decide⟩,
    ⟨(wPar wBus (P.lswClampGuard 3) 0).onChan 3 fun h => { h with demand := .pwm 50, out := true }, 3, 3, 50, by
    decide⟩,
    ⟨(wPar wBus (P.lswClampGuard 3) 1).onChan 3 fun h => { h with demand := .pwm 50, out := true }, 3, 3, 50, by
    decide⟩⟩

theorem witness_DiesAreFencedAndSupplied :
    (∃ s : State, ∃ d : Fin 4, ∃ why : FenceReason, s.fence d.val = none ∧ why ≠ .absent ∧ why ≠ .repeated) ∧
    (∃ s : State, ∃ d : Fin 4, s.fence d.val = none ∧ satAdd 8 (s.ctr.dieFences[d]) 1 < 3) ∧
    (∃ s : State, ∃ d : Fin 4, s.plinth.seq = .coldBoot ∧ s.fence d.val = some .selftest) ∧
    (∃ s : State, ∃ d : Fin 4, s.dieLimitMa d.val < s.dieSumMa d.val) ∧
    (∃ s : State, ∃ d : Fin 4, s.dieSumMa d.val ≤ s.dieLimitMa d.val) ∧
    (∃ s : State, ∃ d : Fin 4, (s.sw.die[d]).supplied = false) :=
  ⟨⟨wBus, 1, .selftest, by decide⟩,
    ⟨wBus, 1, by decide⟩,
    
    ⟨{ wBus with plinth := { wBus.plinth with seq := .coldBoot }, ctr := { wBus.ctr with fences := upd wBus.ctr.fences 1 fun _ => some .selftest } },
    1, by decide⟩,
    ⟨wBus.onChan 5 fun h => { h with out := true, ionMa := 20000 }, 1, by decide⟩,
    ⟨wBus, 1, by decide⟩,
    ⟨wBus, 1, by decide⟩⟩

theorem witness_RegulationAndBalancingAct :
    (∃ s : State, ∃ r : Fin 2, ∃ dt, ∃ fb, ∃ iu, ∃ vos, ∃ vb : Nat, ∃ low, ∃ u : State, ∃ k, (s.rail r.val).st.live =
    true ∧ (s.rail r.val).braking = false ∧ s.running r.val ≠ [] ∧ u =
    ((({ s with power := { s.power with vbusMv := vb } }.onRail r.val fun x => { x with vos := vos }).emulate
    r.val dt vos vb).valleys r.val low) ∧ u.comparator r.val fb iu = true ∧ u.nextPhase r.val = some k) ∧
    (∃ s : State, ∃ r : Fin 2, ∃ dt, ∃ fb, ∃ iu, ∃ vos, ∃ vb : Nat, ∃ low, ∃ u : State, (s.rail r.val).st.live = true
    ∧ s.running r.val ≠ [] ∧ u = ((({ s with power := { s.power with vbusMv := vb } }.onRail r.val fun x =>
    { x with vos := vos }).emulate r.val dt vos vb).valleys r.val low) ∧ ((s.rail r.val).braking = true ∨
    u.comparator r.val fb iu = false ∨ u.nextPhase r.val = none)) ∧
    (∃ s : State, ∃ r : Fin 2, ((s.rail r.val).st.live = false ∨ s.running r.val = [])) ∧
    (∃ s : State, ∃ r : Fin 2, ∃ k, (s.rail r.val).st.live = true ∧ (s.rail r.val).locked ≠ k) ∧
    (∃ s : State, ∃ r : Fin 2, ∃ i : PhaseMeans, ∃ m : Int, m = ((s.running r.val).foldl (fun a p => a + s.senseMa p
    (i.uv.toList.getD p 0)) 0) / (max (s.running r.val).length 1 : Nat)) ∧
    (∃ s : State, ∃ p : Fin 8, s.trimLimit (s.railOf p.val) ≤ (s.phase p.val).trim.natAbs) ∧
    (∃ s : State, ∃ p : Fin 8, (∀ q : Fin 8, s.railOf q.val = s.railOf p.val → (s.phase q.val).trim.natAbs < max 1
    (s.trimLimit (s.railOf p.val)))) ∧
    (∃ s : State, s.param P.armSyncMode = 1 ∧ s.arm.sync = false) ∧
    (∃ s : State, s.arm.sync = true) ∧
    (∃ s : State, ∃ r : Fin 2, s.isOn (P.armBrakeEn r.val) = true ∧ (s.rail r.val).st.live = true ∧ (s.rail
    r.val).braking = false) :=
  ⟨⟨wFire, 0, 5000, 900, 0, 1000, 48000, 0, wFired wFire 0 5000 1000 48000 0, 0, by decide⟩,
    ⟨wArm, 0, 5000, 6000000, 0, 1000, 48000, 0, wFired wArm 0 5000 1000 48000 0, by decide⟩,
    ⟨wBus, 0, by decide⟩,
    ⟨wRail fun x => { x with locked := false }, 0, true, by decide⟩,
    ⟨wPar wArm (P.armBalEn 0) 1, 0, wMeans, 750, by decide⟩,
    ⟨{ wArm with arm := { wArm.arm with ph := upd wArm.arm.ph 0 fun x => { x with trim := 1000000000 } } }, 0, by
    decide⟩,
    ⟨wArm, 0, by decide⟩,
    ⟨wPar wArm P.armSyncMode 1, by decide⟩,
    ⟨{ wArm with arm := { wArm.arm with sync := true } }, by decide⟩,
    ⟨wPar wArm (P.armBrakeEn 0) 1, 0, by decide⟩⟩

theorem witness_RailsStartAndStop :
    (∃ s : State, ∃ r : Fin 2, ∃ chk : PreStart, chk.rail = r ∧ (s.rail r.val).st = .starting ∧ (s.rail
    r.val).waitLeader = false ∧ s.badPhases r.val chk = [] ∧ chk.fbOpen = false ∧ chk.preBias = false ∧
    s.enoughPhases r.val = true ∧ s.plinth.mode = .run) ∧
    (∃ s : State, ∃ r : Fin 2, ∃ chk : PreStart, chk.rail = r ∧ (s.rail r.val).st = .starting ∧ (s.rail
    r.val).waitLeader = false ∧ s.badPhases r.val chk = [] ∧ chk.fbOpen = false ∧ chk.preBias = false ∧
    s.enoughPhases r.val = true ∧ chk.trkHigh = true ∧ s.param (P.armTrackSrc r.val) = 2) ∧
    (∃ s : State, ∃ r : Fin 2, ∃ chk : PreStart, chk.rail = r ∧ (s.rail r.val).st = .starting ∧ (s.rail
    r.val).waitLeader = false ∧ chk.fbOpen = true) ∧
    (∃ s : State, ∃ r : Fin 2, (s.rail r.val).st = .starting ∧ (s.rail r.val).waitLeader = false ∧ s.running r.val ≠
    []) ∧
    (∃ s : State, ∃ r : Fin 2, (s.rail r.val).st = .stopping ∧ (s.rail r.val).stopReason = 0) ∧
    (∃ s : State, ∃ r : Fin 2, (s.rail r.val).st = .stopping ∧ (s.rail r.val).stopReason ≠ 0) ∧
    (∃ s : State, ∃ r : Fin 2, s.param (P.armTrackSrc r.val) = 2 ∧ (s.rail r.val).st = .starting) :=
  ⟨⟨wRail fun x => { x with st := .starting }, 0,
    { rail := 0, fbOpen := false, preBias := false, trkHigh := false, sense := 0, gate := 0, boot := 0 }, by
    decide⟩,
    ⟨wPar (wRail fun x => { x with st := .starting }) (P.armTrackSrc 0) 2, 0,
    { rail := 0, fbOpen := false, preBias := false, trkHigh := true, sense := 0, gate := 0, boot := 0 }, by
    decide⟩,
    ⟨wRail fun x => { x with st := .starting }, 0,
    { rail := 0, fbOpen := true, preBias := false, trkHigh := false, sense := 0, gate := 0, boot := 0 }, by
    decide⟩,
    ⟨wRail fun x => { x with st := .starting }, 0, by decide⟩,
    ⟨wRail fun x => { x with st := .stopping }, 0, by decide⟩,
    ⟨wRail fun x => { x with st := .stopping, stopReason := 7 }, 0, by decide⟩,
    ⟨wPar (wRail fun x => { x with st := .starting }) (P.armTrackSrc 0) 2, 0, by decide⟩⟩

theorem witness_RailLimitsAndRestartsAct :
    (∃ s : State, ∃ p : Fin 8, (s.phase p.val).running = true ∧ (s.phase p.val).scAt = none) ∧
    (∃ s : State, ∃ r : Fin 2, (s.rail r.val).st = .regulating ∧ s.param (P.armOlTMs r.val) ≤ (s.rail r.val).olMs) ∧
    (∃ s : State, ∃ r : Fin 2, ∃ a, (s.rail r.val).st = .faulted ∧ (s.rail r.val).reason = a ∧ s.shutBegun = false ∧
    s.railSupply = true ∧ (a = 3 ∨ a = 4) ∧ s.param (P.armOlRetryS r.val) ≠ 0) ∧
    (∃ s : State, ∃ r : Fin 2, ∃ a, (s.rail r.val).st = .faulted ∧ (s.rail r.val).reason = a ∧ s.shutBegun = false ∧
    s.railSupply = true ∧ a = 5) ∧
    (∃ s : State, ∃ r : Fin 2, s.uvActive r.val = true ∧ min ((s.rail r.val).hiccups + 1) 15 < s.param (P.armHiccupMax
    r.val)) ∧
    (∃ s : State, ∃ r : Fin 2, s.uvActive r.val = true ∧ s.param (P.armHiccupMax r.val) ≤ min ((s.rail r.val).hiccups
    + 1) 15) ∧
    (∃ s : State, ∃ r : Fin 2, (s.rail r.val).st.live = true) ∧
    (∃ s : State, ∃ r : Fin 2, (s.rail r.val).st = .faulted ∧ (s.rail r.val).reason = 7 ∧ s.shutBegun = false ∧
    s.busFullHigh = true) :=
  ⟨⟨wArm, 0, by decide⟩,
    ⟨wRail fun x => { x with olMs := 60000 }, 0, by decide⟩,
    ⟨wPar (wRail fun x => { x with st := .faulted, reason := 3 }) (P.armOlRetryS 0) 5, 0, 3, by decide⟩,
    ⟨wRail fun x => { x with st := .faulted, reason := 5 }, 0, 5, by decide⟩,
    ⟨wPar wArm (P.armHiccupMax 0) 3, 0, by decide⟩,
    ⟨wPar wArm (P.armHiccupMax 0) 1, 0, by decide⟩,
    ⟨wArm, 0, by decide⟩,
    ⟨wRail fun x => { x with st := .faulted, reason := 7 }, 0, by decide⟩⟩

theorem witness_RailFaultsAndRecordsAct :
    (∃ s : State, ∃ r : Fin 2, s.plinth.rc48 = true ∧ (s.rail r.val).st.live = true) ∧
    (∃ s : State, ∃ r : Fin 2, s.plinth.rc48 = false ∧ (s.rail r.val).st.live = true) ∧
    (∃ s : State, ∃ r : Fin 2, (s.rail r.val).st = .faulted ∧ (s.rail r.val).reason = 8 ∧ s.shutBegun = false ∧
    s.railSupply = true) ∧
    (∃ s : State, ∃ r : Fin 2, ∃ pk, (s.rail r.val).st ≠ .stopped ∧ (s.rail r.val).st ≠ .ovLatched ∧ s.param
    (P.armOvPct r.val) * max (s.vrefTarget r.val) (s.rail r.val).vref ≤ 100 * pk) ∧
    (∃ s : State, ∃ p : Fin 8, (s.phase p.val).running = true) ∧
    (∃ s : State, ∃ r : Fin 2, ∃ p : Fin 8, s.seqRuns = true ∧ (s.phase p.val).flagged = some .gate ∧ s.railOf p.val =
    r.val) ∧
    (∃ s : State, ∃ r : Fin 2, (s.rail r.val).st = .regulating ∧ s.targetMv r.val < 2 * (s.rail r.val).vos) ∧
    (∃ s : State, ∃ r : Fin 2, ∃ b, ∃ l, s.seqRuns = true ∧ (s.rail r.val).caps = b :: l ∧ s.canReserve .faultRecord
    (4 * mj) = true) ∧
    (∃ s : State, ∃ r : Fin 2, ∃ b, ∃ l, s.seqRuns = true ∧ (s.rail r.val).caps = b :: l ∧ s.canReserve .faultRecord
    (4 * mj) = false) :=
  ⟨⟨wArm, 0, by decide⟩,
    ⟨{ wArm with plinth := { wArm.plinth with rc48 := false } }, 0, by decide⟩,
    ⟨wRail fun x => { x with st := .faulted, reason := 8 }, 0, by decide⟩,
    ⟨wArm, 0, 60000, by decide⟩,
    ⟨wArm, 0, by decide⟩,
    ⟨{ wArm with arm := { wArm.arm with ph := upd wArm.arm.ph 0 fun x => { x with flagged := some .gate } } }, 0, 0,
    by decide⟩,
    ⟨wPar (wPar (wRail fun x => { x with vos := 1000 }) (P.armVrefMv 0) 1000) (P.armDivX1000 0) 1000, 0, by decide⟩,
    ⟨wRail fun x => { x with caps := [[1]] }, 0, [1], [], by decide⟩,
    
    ⟨{ wSto with ledger := { wSto.ledger with fwStop := true }, arm := (wRail fun x => { x with caps := [[1]] }).arm },
    0, [1], [], by decide⟩⟩

theorem witness_PilotCarriesLevelAndTime :
    (∃ s : State, s.pilotOn = true) ∧
    (∃ s : State, (s.lineReceives = false ∨ s.ident.role = .head ∨ s.follower = true)) ∧
    (∃ s : State, s.pilotOn = false) ∧
    (∃ s : State, ∃ w : BitVec 10, s.lineReceives = true ∧ s.ident.role ≠ .head ∧ s.follower = false ∧ s.line.lock =
    true ∧ wordParity w = false) ∧
    (∃ s : State, ∃ w : BitVec 10, s.lineReceives = true ∧ s.ident.role ≠ .head ∧ s.follower = false ∧ s.line.lock =
    false ∧ wordParity w = true ∧ s.line.good = 2 ∧ (s.line.lastSfn = none ∨ s.line.lastSfn = some ((w.toNat / 4 +
    7) % 8))) ∧
    (∃ s : State, ∃ w : BitVec 10, s.lineReceives = true ∧ s.ident.role ≠ .head ∧ s.follower = false ∧ s.line.lock =
    false ∧ wordParity w = true ∧ s.line.good = 0) ∧
    (∃ s : State, ∃ w : BitVec 10, s.lineReceives = true ∧ s.ident.role ≠ .head ∧ s.follower = false ∧ s.line.lock =
    true ∧ wordParity w = true ∧ s.line.lastSfn = none ∧ s.line.level < w.toNat % 4) ∧
    (∃ s : State, ∃ w : BitVec 10, s.lineReceives = true ∧ s.ident.role ≠ .head ∧ s.follower = false ∧ s.line.lock =
    true ∧ wordParity w = true ∧ s.line.lastSfn = none ∧ w.toNat % 4 < s.line.level ∧ s.line.fall = some (w.toNat
    % 4)) ∧
    (∃ s : State, ∃ w : BitVec 10, s.lineReceives = true ∧ s.ident.role ≠ .head ∧ s.follower = false ∧ s.line.lock =
    true ∧ wordParity w = true ∧ s.line.lastSfn = none ∧ w.toNat % 4 < s.line.level ∧ s.line.fall = none) ∧
    (∃ s : State, ∃ byWords, s.line.lock = true ∧ (byWords = true → 3 ≤ s.line.bad)) ∧
    (∃ s : State, ∃ x, s.line.applyT = some x ∧ s.line.lock = true ∧ s.plinth.timeValid = false) ∧
    (∃ s : State, ∃ x, s.line.applyT = some x ∧ s.line.lock = true ∧ s.plinth.timeValid = true ∧ s.plinth.rtcSub = 0 ∧
    (x = s.plinth.rtcSec + 3 ∨ x + 3 = s.plinth.rtcSec)) ∧
    (∃ s : State, ∃ x, s.line.applyT = some x ∧ s.line.lock = true ∧ s.plinth.timeValid = true ∧ s.plinth.rtcSub <
    32768 ∧ x = s.plinth.rtcSec + 1) :=
  ⟨⟨wPilot, by decide⟩,
    ⟨wPilot, by decide⟩,
    ⟨wBus, by decide⟩,
    ⟨{ wLocked with line := { wLocked.line with  } }, 1, by decide⟩,
    ⟨{ wBus with line := { wBus.line with good := 2 } }, 0, by decide⟩,
    ⟨{ wBus with line := { wBus.line with  } }, 0, by decide⟩,
    ⟨{ wLocked with line := { wLocked.line with lastSfn := none } }, 3, by decide⟩,
    ⟨{ wLocked with line := { wLocked.line with level := 3, fall := some 0 } }, 0, by decide⟩,
    ⟨{ wLocked with line := { wLocked.line with level := 3 } }, 0, by decide⟩,
    ⟨wLocked, false, by decide⟩,
    ⟨{ wLocked with line := { wLocked.line with applyT := some 10 } }, 10, by decide⟩,
    
    ⟨{ wLocked with plinth := { wLocked.plinth with timeValid := true, rtcSec := 7, rtcSub := 0 }, line := { wLocked.line with applyT := some 10 } },
    10, by decide⟩,
    
    ⟨{ wLocked with plinth := { wLocked.plinth with timeValid := true, rtcSec := 7, rtcSub := 5 }, line := { wLocked.line with applyT := some 8 } },
    8, by decide⟩⟩

theorem witness_FramesFollowTheSuperframe :
    (∃ s : State, ∃ n, s.seqRuns = true ∧ s.line.backoff = some n) ∧
    (∃ s : State, s.seqRuns = true ∧ s.line.backoff = none ∧ s.wantsJoin = true ∧ s.line.joinSent = false ∧
    s.line.conflict = false) ∧
    (∃ s : State, ∃ left, ∃ c : Cast, ∃ rest, ∃ x : List Byte × Bool, ∃ n : Nat, s.pilotOn = true ∧ s.seqRuns = true ∧
    s.line.exch < 4 ∧ s.line.nodes = [] ∧ s.line.joinAcks = [] ∧ s.line.castQ = c :: rest ∧ (∀ d ∈ s.line.castQ,
    d.ptype ≠ 2) ∧ x = c.piece s.castMode s.laneCount (min left (44 - s.line.used)) ∧ n = slotsOf s.castMode
    s.laneCount (17 + x.1.length) ∧ n ≤ min left (44 - s.line.used) ∧ (x.1 ≠ [] ∨ x.2 = true)) ∧
    (∃ s : State, (s.pilotOn = false ∨ s.seqRuns = false ∨ 4 ≤ s.line.exch)) ∧
    (∃ s : State, s.lineReceives = false) ∧
    (∃ s : State, ∃ d : Byte, s.lineReceives = true ∧ (descMode d.toNat = none ∨ s.seqRuns = false)) ∧
    (∃ s : State, ∃ d : Byte, ∃ bs, s.lineReceives = true ∧ (descMode d.toNat).isSome = true ∧ s.seqRuns = true ∧
    (crcOk bs = false ∨ fieldAt bs 1 2 ≠ s.param P.lineFeederId)) ∧
    (∃ s : State, ∃ d : Byte, ∃ bs, s.lineReceives = true ∧ (descMode d.toNat).isSome = true ∧ s.seqRuns = true ∧
    crcOk bs = true ∧ fieldAt bs 1 2 = s.param P.lineFeederId ∧ fieldAt bs 0 1 % 8 = 4 ∧ s.isHead = true) ∧
    (∃ s : State, s.isHead = false ∧ s.seqRuns = true ∧ (s.line.joined = false ∨ s.line.lock = false)) ∧
    (∃ s : State, (s.isHead = true ∨ s.seqRuns = false)) ∧
    (∃ s : State, ∃ rlen, s.isHead = false ∧ s.seqRuns = true ∧ s.line.joined = true ∧ s.mayBurst ∧ s.line.tx = none ∧
    slotsOf .robust s.laneCount 14 ≤ rlen) ∧
    (∃ s : State, s.line.backoff = some 0 ∧ s.seqRuns = true ∧ s.mayBurst ∧ s.line.joined = false ∧ s.wantsJoin =
    true) ∧
    (∃ s : State, ∃ g, ∃ rest, s.line.backoff = some 0 ∧ s.seqRuns = true ∧ s.mayBurst ∧ s.line.joined = true ∧
    s.line.alertDue = g :: rest) ∧
    (∃ s : State, s.line.backoff = some 0 ∧ s.seqRuns = true ∧ s.line.lock = true ∧ s.txFree = true ∧ s.plinth.mode =
    .run ∧ s.power.path = .onSto ∧ s.harvesting = false ∧ s.line.joined = false ∧ s.wantsJoin = true ∧
    s.canReserve .lineTxDark (4 * slotsOf .diversity s.laneCount (accessBody 3 (s.param P.lineFeederId) (s.param
    P.lineAddr) s.lineUid).length * mj) = false) ∧
    (∃ s : State, ∃ g : Fin 16, s.line.joined = true ∧ s.events.alert.getLsbD g.val = true) :=
  ⟨⟨{ wBus with line := { wBus.line with backoff := some 2 } }, 2, by decide⟩,
    ⟨wLocked, by decide⟩,
    ⟨{ wPilot with line := { wPilot.line with castQ := [newCast 255 1 [1] 1 false], lanes := 15 } }, 44, newCast 255 1
    [1] 1 false, [], ([1], true), 3, by decide⟩,
    ⟨wBus, by decide⟩,
    ⟨{ wBus with plinth := { wBus.plinth with mode := .plinth } }, by decide⟩,
    ⟨wBus, 0x1F, by decide⟩,
    ⟨wBus, 0x0F, [], by decide⟩,
    ⟨wNode5, 0x0F, accessBody 4 1 5 [0], by decide⟩,
    ⟨wBus, by decide⟩,
    ⟨wHead, by decide⟩,
    ⟨wJoined, 44, by decide⟩,
    ⟨{ wLocked with line := { wLocked.line with backoff := some 0 } }, by decide⟩,
    ⟨{ wJoined with line := { wJoined.line with backoff := some 0, alertDue := [3] } }, 3, [], by decide⟩,
    ⟨wDark, by decide⟩,
    ⟨{ wJoined with events := { wJoined.events with alert := 8 } }, 3, by decide⟩⟩

theorem witness_NodesJoinAndLeave :
    (∃ s : State, ∃ d : Byte, ∃ bs, s.isHead = true ∧ s.lineReceives = true ∧ s.seqRuns = true ∧ (descMode
    d.toNat).isSome = true ∧ crcOk bs = true ∧ fieldAt bs 1 2 = s.param P.lineFeederId ∧ fieldAt bs 0 1 % 8 = 3 ∧
    1 ≤ fieldAt bs 3 1 ∧ fieldAt bs 3 1 ≤ 250 ∧ (∀ n ∈ s.line.nodes, n.addr = fieldAt bs 3 1 → n.uid = (bs.drop
    4).take 8 ∨ s.param P.lineNodeLostS * 1000 ≤ since s.plinth.upMs n.heardAt)) ∧
    (∃ s : State, ∃ d : Byte, ∃ bs, ∃ n, s.isHead = true ∧ s.lineReceives = true ∧ s.seqRuns = true ∧ (descMode
    d.toNat).isSome = true ∧ crcOk bs = true ∧ fieldAt bs 1 2 = s.param P.lineFeederId ∧ fieldAt bs 0 1 % 8 = 3 ∧
    1 ≤ fieldAt bs 3 1 ∧ fieldAt bs 3 1 ≤ 250 ∧ s.node? (fieldAt bs 3 1) = some n ∧ n.uid ≠ (bs.drop 4).take 8 ∧
    since s.plinth.upMs n.heardAt < s.param P.lineNodeLostS * 1000) ∧
    (∃ s : State, s.line.joinSent = true ∧ s.line.joined = false) ∧
    (∃ s : State, s.isHead = false) ∧
    (∃ s : State, s.isHead = true) ∧
    (∃ s : State, ∃ l : Fin 4, s.isHead = true ∧ s.line.lanes.getLsbD l.val = true ∧ s.line.lanes &&& ~~~(BitVec.ofNat
    4 (2 ^ l.val)) ≠ 0) ∧
    (∃ s : State, ∃ l : Fin 4, s.line.lanes = BitVec.ofNat 4 (2 ^ l.val)) ∧
    (∃ s : State, ∃ a, ∃ n, s.node? a = some n ∧ s.param P.lineNodeLostS * 1000 ≤ since s.plinth.upMs n.heardAt) ∧
    (∃ s : State, s.line.joined = true ∧ s.param P.lineNodeLostS * 1000 ≤ since s.plinth.upMs s.line.grantAt) :=
  ⟨⟨wNode5, 0x0F, accessBody 3 1 5 (List.replicate 8 1), by decide⟩,
    ⟨wNode5, 0x0F, accessBody 3 1 5 (List.replicate 8 2), newNode 5 (List.replicate 8 1) 0, by decide⟩,
    ⟨{ wLocked with line := { wLocked.line with joinSent := true } }, by decide⟩,
    ⟨wBus, by decide⟩,
    ⟨wPilot, by decide⟩,
    ⟨{ wPilot with line := { wPilot.line with lanes := 15 } }, 2, by decide⟩,
    ⟨{ wBus with line := { wBus.line with lanes := 4 } }, 2, by decide⟩,
    ⟨{ wNode5 with plinth := { wNode5.plinth with upMs := 4000000000 } }, 5, newNode 5 (List.replicate 8 1) 0, by
    decide⟩,
    ⟨{ wJoined with plinth := { wJoined.plinth with upMs := 4000000000 } }, by decide⟩⟩

theorem witness_LevelsAndAllowancesAct :
    (∃ s : State, s.line.lock = false ∧ s.tab.leadLost = false) ∧
    (∃ s : State, s.line.lock = true ∧ s.tab.leadLost = true ∧ s.param P.linePilotHoldS * 1000 ≤ since s.plinth.upMs
    s.tab.leadAt) ∧
    (∃ s : State, ∃ x, s.line.cmdUntil = some x ∧ since s.plinth.upMs x < 2 ^ 31 ∧ s.levelFree = true) ∧
    (∃ s : State, ∃ l : Fin 4, ∃ v : Int, s.line.droop < l.val ∧ v < (s.droopMv l.val : Int) ∧ s.levelFree = true) ∧
    (∃ s : State, ∃ v : Int, s.levelFree = true ∧ 0 < s.line.droop ∧ ((s.droopMv s.line.droop + s.param
    P.lineDroopRelMv : Nat) : Int) < v ∧ s.line.droop = 1) ∧
    (∃ s : State, ∃ c : Fin 16, ∃ x, (s.chan c.val).pickAt = some x ∧ (s.chan c.val).inhibited = false) ∧
    (∃ s : State, ∃ k : Fin 8, s.classHit k.val = true ∧ s.line.hit.getLsbD k.val = false) ∧
    (∃ s : State, s.plinth.timeValid = true) :=
  ⟨⟨wBus, by decide⟩,
    
    ⟨{ wLocked with tab := { wLocked.tab with leadLost := true }, plinth := { wLocked.plinth with upMs := 4000000000 } },
    by decide⟩,
    ⟨{ wBus with plinth := { wBus.plinth with upMs := 10 }, line := { wBus.line with cmdUntil := some 5 } }, 5, by
    decide⟩,
    ⟨wBus, 2, 0, by decide⟩,
    ⟨{ wBus with line := { wBus.line with droop := 1 } }, 60000, by decide⟩,
    ⟨wBus.onChan 3 fun h => { h with pickAt := some 0, bus := false }, 3, 0, by decide⟩,
    ⟨{ wBus with ctr := { wBus.ctr with allowWh := upd wBus.ctr.allowWh 2 fun _ => 0 } }, 2, by decide⟩,
    ⟨{ wBus with plinth := { wBus.plinth with timeValid := true } }, by decide⟩⟩

theorem witness_TransmitterAndHeadsYield :
    (∃ s : State, s.line.txMs = 0) ∧
    (∃ s : State, s.isHead = true ∧ s.line.listening = true ∧ s.holds Ev.headClash = false) ∧
    (∃ s : State, s.isHead = true ∧ s.line.generating = true ∧ s.line.txMs = 0) ∧
    (∃ s : State, s.isHead = true ∧ s.line.listening = true ∧ s.holds Ev.headClash = true) ∧
    (∃ s : State, s.isHead = true ∧ s.line.stoodDown = true) :=
  ⟨⟨wBus, by decide⟩,
    ⟨{ wHead with line := { wHead.line with listening := true } }, by decide⟩,
    ⟨wPilot, by decide⟩,
    ⟨wClash, by decide⟩,
    ⟨{ wHead with line := { wHead.line with stoodDown := true } }, by decide⟩⟩

theorem witness_LinkFramesActOnTheGang :
    (∃ s : State, s.linkHears = true ∧ s.plinth.mode = .run ∧ s.tab.lead = true ∧ s.busCarries = true) ∧
    (∃ s : State, (s.linkHears = false ∨ s.plinth.mode ≠ .run ∨ (s.tab.lead = true ∧ s.busCarries = false) ∨
    (s.tab.lead = false ∧ (s.tab.inTab = false ∨ s.tab.tsync = false)))) ∧
    (∃ s : State, ∃ u : State, s.linkHears = true ∧ s.plinth.mode = .run ∧ s.tab.lead = false ∧ s.tab.inTab = true ∧
    s.tab.tsync = true ∧ u = { s with tab := { s.tab with cyc := (s.tab.cyc + 1) % 1000, framesOut := [] } } ∧
    s.tab.acked = true) ∧
    (∃ s : State, ∃ u : State, s.linkHears = true ∧ s.plinth.mode = .run ∧ s.tab.lead = false ∧ s.tab.inTab = true ∧
    s.tab.tsync = true ∧ u = { s with tab := { s.tab with cyc := (s.tab.cyc + 1) % 1000, framesOut := [] } } ∧
    s.tab.acked = false ∧ u.tab.cyc % 50 = 49 ∧ s.tab.joinWait = 0) ∧
    (∃ s : State, ∃ bs : List Byte, s.linkHears = true ∧ crcOk bs = false) ∧
    (∃ s : State, s.linkHears = false) ∧
    (∃ s : State, ∃ bs : List Byte, s.linkHears = true ∧ s.tab.lead = false ∧ bs.length = 26 ∧ crcOk bs = true ∧
    fieldAt bs 0 1 / 8 = 1) ∧
    (∃ s : State, ∃ bs, ∃ x, s.linkHears = true ∧ s.tab.lead = true ∧ bs.length = 12 ∧ crcOk bs = true ∧ fieldAt bs 0
    1 / 8 = 2 ∧ s.member? (fieldAt bs 0 1 % 8) = some x) ∧
    (∃ s : State, ∃ bs, s.linkHears = true ∧ s.tab.lead = false ∧ bs.length = 12 ∧ crcOk bs = true ∧ fieldAt bs 0 1 /
    8 = 2) ∧
    (∃ s : State, ∃ bs : List Byte, s.linkHears = true ∧ crcOk bs = true ∧ fieldAt bs 0 1 / 8 = 3 ∧ fieldAt bs 1 1 % 8
    ≠ s.param P.tabIndex) ∧
    (∃ s : State, ∃ bs : List Byte, s.linkHears = true ∧ crcOk bs = true ∧ fieldAt bs 0 1 / 8 = 3 ∧ fieldAt bs 1 1 % 8
    = s.param P.tabIndex ∧ bitAt (fieldAt bs 2 1) 6 = false) ∧
    (∃ s : State, ∃ bs : List Byte, s.linkHears = true ∧ crcOk bs = true ∧ fieldAt bs 0 1 / 8 = 3 ∧ fieldAt bs 1 1 % 8
    = s.param P.tabIndex ∧ bitAt (fieldAt bs 2 1) 5 = true ∧ bitAt (fieldAt bs 2 1) 6 = true ∧ s.tab.lead = false
    ∧ s.tab.inTab = true ∧ fieldAt bs 0 1 % 8 = s.tab.leadIdx ∧ ((bs.drop 5).take (fieldAt bs 3 2)).take 9 = toLe
    1 5 ++ s.ident.uid ∧ fieldAt ((bs.drop 5).take (fieldAt bs 3 2)) 9 1 = 0 ∧ s.ident.uid.length = 8) ∧
    (∃ s : State, ∃ bs : List Byte, s.linkHears = true ∧ s.tab.lead = true ∧ s.shutBegun = false ∧ bs.length = 43 ∧
    crcOk bs = true ∧ fieldAt bs 0 1 / 8 = 4 ∧ s.member? (fieldAt bs 32 1 % 8) = none ∧ fieldAt bs 32 1 % 8 ≠
    s.param P.tabIndex) ∧
    (∃ s : State, ∃ r : Fin 2, s.tab.leadLost = false ∧ s.carries r.val = true ∧ s.tab.stopPend[r] = true ∧ (s.rail
    r.val).st.live = true) ∧
    (∃ s : State, ∃ r : Fin 2, s.tab.leadLost = false ∧ s.carries r.val = true ∧ s.tab.stopPend[r] = false ∧
    s.tab.startPend[r] = true ∧ (s.mayRestart r.val = true ∨ s.mayStart r.val = true)) :=
  ⟨⟨wLead, by decide⟩,
    ⟨{ wLead with power := wSto.power }, by decide⟩,
    ⟨{ wFollow with tab := { wFollow.tab with tsync := true, acked := true } },
    { ({ wFollow with tab := { wFollow.tab with tsync := true, acked := true } }) with tab := { ({ wFollow with tab := { wFollow.tab with tsync := true, acked := true } }).tab with cyc := (({ wFollow with tab := { wFollow.tab with tsync := true, acked := true } }).tab.cyc + 1) % 1000, framesOut := [] } },
    by decide⟩,
    ⟨{ wFollow with tab := { wFollow.tab with tsync := true, cyc := 48 } },
    { ({ wFollow with tab := { wFollow.tab with tsync := true, cyc := 48 } }) with tab := { ({ wFollow with tab := { wFollow.tab with tsync := true, cyc := 48 } }).tab with cyc := (({ wFollow with tab := { wFollow.tab with tsync := true, cyc := 48 } }).tab.cyc + 1) % 1000, framesOut := [] } },
    by decide⟩,
    ⟨wLead, [1, 2, 3], by decide⟩,
    ⟨wBus, by decide⟩,
    ⟨wFollow, tabFrame ([8] ++ List.replicate 23 0), by decide⟩,
    ⟨wLead, tabFrame ([17] ++ List.replicate 9 0), wM, by decide⟩,
    ⟨wFollow, tabFrame ([17] ++ List.replicate 9 3), by decide⟩,
    ⟨wLead, tabFrame [24, 1, 0], by decide⟩,
    ⟨wLead, tabFrame [24, 0, 0], by decide⟩,
    ⟨wFollow, tabFrame ([24, 0, 0x60, 10, 0, 5] ++ List.replicate 9 0), by decide⟩,
    ⟨wLead, tabFrame ([32] ++ wJoin), by decide⟩,
    ⟨{ wPar (wPar wArm P.tabEn 1) P.tabGangA 1 with tab := { wLead.tab with stopPend := #v[true, false] } }, 0, by
    decide⟩,
    
    ⟨{ wPar (wPar (wRail fun x => { x with st := .stopped }) P.tabEn 1) P.tabGangA 1 with tab := { wLead.tab with startPend := #v[true, false] } },
    0, by decide⟩⟩

theorem witness_LeadIsElectedAndTimed :
    (∃ s : State, s.linkHears = true ∧ s.tab.lead = false ∧ s.busCarries = true ∧ (s.tab.inTab = false ∨ 100 ≤ since
    s.plinth.upMs s.tab.leadAt)) ∧
    (∃ s : State, s.linkHears = true ∧ s.tab.electing = true ∧ s.param P.tabLeadPrio ≠ 0) ∧
    (∃ s : State, s.tab.electing = true ∧ s.param P.tabLeadPrio = 0) ∧
    (∃ s : State, s.tab.lead = true ∧ s.tab.readFails = 1 ∧ s.tab.qualified = false) ∧
    (∃ s : State, s.tab.lead = true ∧ s.tab.readFails = 7 ∧ s.tab.qualified = true) ∧
    (∃ s : State, s.isOn P.tabEn = true ∧ s.tab.lead = false ∧ s.tab.tsync = false ∧ s.tab.inTab = true ∧
    s.plinth.mode ≠ .field) ∧
    (∃ s : State, s.tab.tsync = true) ∧
    (∃ s : State, s.tab.lead = true ∧ s.tab.drive = true) :=
  ⟨⟨wFollow2, by decide⟩,
    ⟨wPar ({ wFollow with tab := { wFollow.tab with electing := true } }) P.tabLeadPrio 1, by decide⟩,
    ⟨wPar ({ wFollow with tab := { wFollow.tab with electing := true } }) P.tabLeadPrio 0, by decide⟩,
    ⟨{ wLead with tab := { wLead.tab with readFails := 1, qualified := false } }, by decide⟩,
    ⟨{ wLead with tab := { wLead.tab with readFails := 7, qualified := true } }, by decide⟩,
    ⟨wFollow, by decide⟩,
    ⟨{ wLead with tab := { wLead.tab with tsync := true } }, by decide⟩,
    ⟨{ wLead with tab := { wLead.tab with drive := true } }, by decide⟩⟩

theorem witness_MembersAreLostAndReturn :
    (∃ s : State, ∃ m : Fin 8, ∃ x, s.tab.lead = true ∧ s.tab.member[m] = some x ∧ 3 ≤ x.missed ∧ x.silentAt = none) ∧
    (∃ s : State, ∃ m : Fin 8, ∃ x, ∃ u, s.tab.lead = true ∧ s.tab.member[m] = some x ∧ x.silentAt = some u ∧ x.lost =
    false ∧ s.param P.tabLostT ≤ since s.plinth.upMs u) ∧
    (∃ s : State, s.tab.inTab = true ∧ s.busCarries = true ∧ (s.tab.lead = false ∨ s.tab.qualified = false) ∧ s.param
    P.tabLostT ≤ since s.plinth.upMs s.tab.leadAt) ∧
    (∃ s : State, ∃ m : Fin 8, ∃ x, ∃ u, ∃ w, s.tab.lead = true ∧ s.tab.member[m] = some x ∧ x.silentAt = some u ∧
    x.lost = false ∧ since s.plinth.upMs u < s.param P.tabLostT ∧ recWords x.fresh 0 20 = some w ∧ recWords
    x.record 0 8 = some (w.take 8)) ∧
    (∃ s : State, ∃ m : Fin 8, ∃ x, ∃ u, ∃ w, s.tab.lead = true ∧ s.tab.member[m] = some x ∧ x.silentAt = some u ∧
    x.lost = true ∧ recWords x.fresh 0 20 = some w) ∧
    (∃ s : State, ∃ m : Fin 8, ∃ x, s.tab.lead = true ∧ s.tab.member[m] = some x ∧ x.lost = false ∧ s.recordFault
    x.record ≠ 0) ∧
    (∃ s : State, ∃ m : Fin 8, ∃ run, ∃ cfg, s.tab.lead = false ∧ s.tab.inTab = true ∧ m.val = s.param P.tabIndex ∧
    recWords s.tab.leadRec 4 4 = some run ∧ recWords s.tab.leadRec 8 4 = some cfg ∧ s.recordFault s.tab.leadRec =
    0 ∧ run ≠ s.ownWords 4 4 ∧ s.isOn P.tabAdopt = true ∧ (s.tab.aside = false ∨ s.tab.asideReason ≠ 4)) ∧
    (∃ s : State, ∃ m : Fin 8, ∃ run, ∃ cfg, s.tab.lead = false ∧ s.tab.inTab = true ∧ m.val = s.param P.tabIndex ∧
    recWords s.tab.leadRec 4 4 = some run ∧ recWords s.tab.leadRec 8 4 = some cfg ∧ s.recordFault s.tab.leadRec ≠
    0 ∧ s.tab.aside = false) :=
  ⟨⟨wMem (fun x => { x with missed := 3 }), 1, { wM with missed := 3 }, by decide⟩,
    
    ⟨{ (wMem (fun x => { x with silentAt := some 0 })) with plinth := { (wMem (fun x => { x with silentAt := some 0 })).plinth with upMs := 4000000000 } },
    1, { wM with silentAt := some 0 }, 0, by decide⟩,
    ⟨wFollow2, by decide⟩,
    ⟨wMem (fun x => { x with silentAt := some 0, record := wWords, fresh := wWords }), 1,
    { wM with silentAt := some 0, record := wWords, fresh := wWords }, 0, (List.range 20).map fun i => if i = 15
    then Role.home.code else if i = 12 then 0x0302 else 0, by decide⟩,
    ⟨wMem (fun x => { x with silentAt := some 0, lost := true, fresh := wWords }), 1,
    { wM with silentAt := some 0, lost := true, fresh := wWords }, 0, (List.range 20).map fun i => if i = 15 then
    Role.home.code else if i = 12 then 0x0302 else 0, by decide⟩,
    ⟨wMem (fun x => { x with record := Vector.replicate 20 (some 3) }), 1,
    { wM with record := Vector.replicate 20 (some 3) }, by decide⟩,
    ⟨wAdopt, 0, List.replicate 4 70000, List.replicate 4 70000,
    (by refine ⟨by decide, by decide, by decide, by decide, by decide, by decide, own_ne _, by decide, by decide⟩)⟩,
    ⟨wPar ({ wFollow with tab := { wFollow.tab with leadRec := Vector.replicate 20 (some 3) } }) P.tabIndex 0, 0, [3,
    3, 3, 3], [3, 3, 3, 3], by decide⟩⟩

theorem witness_FifoAndPinsAct :
    (∃ s : State, ∃ c, ∃ rest, s.events.caps = c :: rest ∧ s.events.fifo.length < 256) ∧
    (∃ s : State, ∃ c, ∃ rest, s.events.caps = c :: rest ∧ s.events.fifo.length = 256) ∧
    (∃ s : State, s.events.caps = []) ∧
    (∃ s : State, ∃ g : Fin 16, ∃ b : Fin 16, bitAt (s.param (P.evtQG g.val)) b.val = false) ∧
    (∃ s : State, ∃ g : Fin 16, ∃ b : Fin 16, bitAt (s.param (P.evtQG g.val)) b.val = true) :=
  ⟨
    ⟨{ wBus with events := { wBus.events with caps := [{ src := Ev.frameError, clear := false, reason := 0, detail := 0, up := 0, time := 0 }] } },
    { src := Ev.frameError, clear := false, reason := 0, detail := 0, up := 0, time := 0 }, [], by decide⟩,
    
    ⟨{ wBus with events := { wBus.events with caps := [{ src := Ev.frameError, clear := false, reason := 0, detail := 0, up := 0, time := 0 }], fifo := List.replicate 256 { cap := { src := Ev.frameError, clear := false, reason := 0, detail := 0, up := 0, time := 0 }, dropped := false, eseq := 0 } } },
    { src := Ev.frameError, clear := false, reason := 0, detail := 0, up := 0, time := 0 }, [], by decide⟩,
    ⟨wBus, by decide⟩,
    ⟨wPar wBus (P.evtQG 3) 0, 3, 2, by decide⟩,
    ⟨wPar wBus (P.evtQG 3) 4, 3, 2, by decide⟩⟩

theorem witness_PatinaAdmitsAndFlushes :
    (∃ s : State, ∃ c, ∃ rest, s.seqRuns = true ∧ s.patina.caps = c :: rest ∧ c.exempt = false ∧ s.patina.ram.length <
    64 ∧ 0 < s.patina.tokens) ∧
    (∃ s : State, ∃ c, ∃ rest, s.seqRuns = true ∧ s.patina.caps = c :: rest ∧ c.exempt = true ∧ s.patina.ram.length <
    64) ∧
    (∃ s : State, ∃ c, ∃ rest, s.seqRuns = true ∧ s.patina.caps = c :: rest ∧ c.exempt = false ∧ s.patina.tokens = 0) ∧
    (∃ s : State, s.patina.refused = none) ∧
    (∃ s : State, ∃ n, ∃ g, ∃ f, ∃ l, s.patina.refused = some (n, g, f, l) ∧ s.patina.ram.length < 64) ∧
    (∃ s : State, s.mayFlush = true ∧ s.flushDue = true ∧ s.canReserve .patinaFlush (6 * mj) = true ∧ (∀ r ∈
    s.patina.ram, r.pinned = false) ∧ s.patina.ring.length + s.patina.ram.length ≤ 4096) ∧
    (∃ s : State, s.mayFlush = true ∧ s.flushDue = true ∧ s.flushHeld = false ∧ (s.ledger.waiting.any fun e => e.1 ==
    .patinaFlush) = false ∧ s.canReserve .patinaFlush (6 * mj) = false) :=
  ⟨
    ⟨{ wBus with patina := { wBus.patina with caps := [{ pinned := false, up := 0, time := 0, grp := 0, body := .event 0 0 0 0 0 0 0 0 0 }], tokens := 1 } },
    { pinned := false, up := 0, time := 0, grp := 0, body := .event 0 0 0 0 0 0 0 0 0 }, [], by decide⟩,
    
    ⟨{ wBus with patina := { wBus.patina with caps := [{ pinned := true, up := 0, time := 0, grp := 0, body := .event 0 0 0 0 0 0 0 0 0 }] } },
    { pinned := true, up := 0, time := 0, grp := 0, body := .event 0 0 0 0 0 0 0 0 0 }, [], by decide⟩,
    
    ⟨{ wBus with patina := { wBus.patina with caps := [{ pinned := false, up := 0, time := 0, grp := 0, body := .event 0 0 0 0 0 0 0 0 0 }], tokens := 0 } },
    { pinned := false, up := 0, time := 0, grp := 0, body := .event 0 0 0 0 0 0 0 0 0 }, [], by decide⟩,
    ⟨wBus, by decide⟩,
    ⟨{ wBus with patina := { wBus.patina with refused := some (1, 1, 0, 0) } }, 1, 1, 0, 0, by decide⟩,
    ⟨{ wBus with patina := { wBus.patina with flushReq := true } }, by decide⟩,
    
    ⟨{ { wSto with power := { wSto.power with stoMv := 0 }, ledger := { wSto.ledger with fwStop := true } } with patina := { wBus.patina with flushReq := true } },
    by decide⟩⟩

theorem witness_TraceAndWearAct :
    (∃ s : State, s.plinth.mode = .run ∧ s.trace.st = .armed ∧ s.trace.buf.length < 4096) ∧
    (∃ s : State, s.trace.st = .triggered ∧ s.trace.left = 0) ∧
    (∃ s : State, s.trace.st = .armed ∧ s.trace.seen = true) ∧
    (∃ s : State, ∃ k : Int, s.seqRuns = true ∧ k < 5) ∧
    (∃ s : State, ∃ k : Int, s.seqRuns = true ∧ 5 ≤ k) ∧
    (∃ s : State, s.seqRuns = true) ∧
    (∃ s : State, s.seqRuns = true) :=
  ⟨⟨{ wBus with trace := { wBus.trace with st := .armed } }, by decide⟩,
    ⟨{ wBus with trace := { wBus.trace with st := .triggered, left := 0 } }, by decide⟩,
    ⟨{ wBus with trace := { wBus.trace with st := .armed, seen := true } }, by decide⟩,
    ⟨wBus, 4, by decide⟩,
    ⟨wBus, 5, by decide⟩,
    ⟨wBus, by decide⟩,
    ⟨wBus, by decide⟩⟩

theorem witness_SequencerResetsLeaveTheRestRunning :
    (∃ s : State, s.plinth.seq ≠ .off ∧ s.seqRuns = true ∧ s.sec.fwActiveB = s.sec.fwRunningB) ∧
    (∃ s : State, s.plinth.seq ≠ .off ∧ s.sec.fwActiveB ≠ s.sec.fwRunningB) ∧
    (∃ s : State, s.plinth.seq ≠ .off ∧ s.seqRuns = true ∧ s.plinth.mode ≠ .doze ∧ s.plinth.wdtMs = 0 ∧
    s.sec.fwActiveB = s.sec.fwRunningB ∧ s.sec.trial = false ∧ s.plinth.wdtAt = none ∧ 1 < s.param
    P.sysWdtFallback) ∧
    (∃ s : State, s.plinth.seq ≠ .off ∧ (s.plinth.mode = .doze ∨ s.plinth.wdtMs ≠ 0)) ∧
    (∃ s : State, ∃ u, s.plinth.seq ≠ .off ∧ s.seqRuns = true ∧ s.plinth.mode ≠ .doze ∧ s.plinth.wdtMs = 0 ∧
    s.plinth.wdtAt = some u ∧ since s.plinth.upMs u < 600000 ∧ s.param P.sysWdtFallback ≤ s.plinth.wdtRun + 1) ∧
    (∃ s : State, s.plinth.seq ≠ .off ∧ s.plinth.rc48 = true) :=
  ⟨⟨wBus, by decide⟩,
    ⟨{ wBus with sec := { wBus.sec with fwActiveB := true, fwRunningB := false } }, by decide⟩,
    ⟨wPar ({ wBus with plinth := { wBus.plinth with wdtAt := none, wdtMs := 0 } }) P.sysWdtFallback 3, by decide⟩,
    ⟨{ wBus with plinth := { wBus.plinth with mode := .doze } }, by decide⟩,
    ⟨wPar ({ wBus with plinth := { wBus.plinth with wdtAt := some 0, wdtRun := 2, upMs := 1000, wdtMs := 0 } })
    P.sysWdtFallback 3, 0, by decide⟩,
    ⟨wBus, by decide⟩⟩

theorem witness_DeviceAndPowerOnResetsAct :
    (∃ s : State, s.plinthOn = false) ∧
    (∃ s : State, s.plinth.rstLow = true ∧ s.plinthOn = true ∧ s.plinth.testHeld = false ∧ s.life.st ≠ .plinthStart) ∧
    (∃ s : State, s.plinthOn = true ∧ s.plinth.rc48 = false ∧ s.plinth.seq ≠ .off ∧ s.plinth.rstLow = false ∧
    s.plinth.testHeld = false) ∧
    (∃ s : State, ∃ straps : Straps, s.power.path = .none ∧ s.plinth.rstLow = false ∧ straps.test = false) ∧
    (∃ s : State, ∃ straps : Straps, s.power.path = .none ∧ 1000 ≤ s.power.stoMv ∧ straps.test = false) ∧
    (∃ s : State, ∃ straps : Straps, s.power.path = .none ∧ straps.test = true) ∧
    (∃ s : State, ∃ src, s.mayPowerOn src = false) :=
  ⟨⟨{ State.reset with power := { State.reset.power with path := .none } }, by decide⟩,
    ⟨{ wBus with plinth := { wBus.plinth with rstLow := true } }, by decide⟩,
    ⟨{ wBus with plinth := { wBus.plinth with rc48 := false } }, by decide⟩,
    ⟨{ State.reset with power := { State.reset.power with path := .none } }, wStraps, by decide⟩,
    ⟨{ State.reset with power := { State.reset.power with path := .none, stoMv := 1000 } }, wStraps, by decide⟩,
    ⟨{ State.reset with power := { State.reset.power with path := .none } }, { wStraps with test := true }, by decide⟩,
    ⟨wBus, .bus, by decide⟩⟩

theorem witness_BootsEndInFirmwareOrRecovery :
    (∃ s : State, ∃ chk : BootCheck, s.plinth.seq = .coldBoot ∧ s.life.prev = .plinthStart ∧ s.power.path = .onBus ∧
    s.power.busQ = true ∧ s.camyx.ops = [] ∧ s.nfc.held = none ∧ s.ctr.decomMark = false ∧ s.romPasses chk
    s.sec.fwActiveB = true ∧ s.sec.fallbackReq = false ∧ (s.sec.trial = true → s.plinth.cause ≠ 3 ∧ s.plinth.cause
    ≠ 4)) ∧
    (∃ s : State, ∃ chk : BootCheck, s.plinth.seq = .coldBoot ∧ s.romPasses chk s.sec.fwActiveB = false ∧ s.romPasses
    chk (!s.sec.fwActiveB) = true ∧ s.acceptable s.sec.inactive = true ∧ s.camyx.ops = [] ∧ s.nfc.held = none) ∧
    (∃ s : State, ∃ chk : BootCheck, s.plinth.seq = .coldBoot ∧ s.romPasses chk s.sec.fwActiveB = false ∧ s.romPasses
    chk (!s.sec.fwActiveB) = false) ∧
    (∃ s : State, s.plinth.seq ≠ .coldBoot) ∧
    (∃ s : State, s.plinth.seq = .warmRestart ∧ s.life.st = .running ∧ s.life.step ≠ 5 ∧ s.power.busQ = true ∧
    s.power.path = .onBus ∧ s.camyx.ops = [] ∧ s.nfc.held = none ∧ s.ctr.decomMark = false) :=
  ⟨⟨wCold, wChk, by decide⟩,
    ⟨wCold, { wChk with fwPass := 2 },
    (by refine ⟨by decide, by decide, by decide, ?_, by decide, by decide⟩; exact factory_acceptable _ _ (by decide) (by decide) (by decide))⟩,
    ⟨wCold, { wChk with fwPass := 0 }, by decide⟩,
    ⟨wBus, by decide⟩,
    ⟨{ wBus with plinth := { wBus.plinth with seq := .warmRestart } }, by decide⟩⟩

theorem witness_ClocksModesAndWakesAct :
    (∃ s : State, s.xoPowered = true ∧ s.plinth.xtalFail = true) ∧
    (∃ s : State, s.plinth.xo = true ∧ s.plinth.xtalFail = true) ∧
    (∃ s : State, s.plinth.mode = .run ∧ s.seqRuns = true ∧ s.workReady = false ∧ s.active = false ∧ s.power.path =
    .onBus) ∧
    (∃ s : State, s.plinth.mode = .run ∧ s.seqRuns = true ∧ s.workReady = false ∧ s.active = false ∧ s.power.path =
    .onSto) ∧
    (∃ s : State, s.active = true) ∧
    (∃ s : State, s.rests = true ∧ s.plinth.seq = .off ∧ s.plinth.rstLow = false ∧ s.plinth.testHeld = false ∧
    s.camyx.ops = []) ∧
    (∃ s : State, s.plinth.hk = true ∧ { s with plinth := { s.plinth with hk := false } }.holdsRun = false ∧
    s.power.path = .onSto) ∧
    (∃ s : State, ∃ w, s.wakeOn w = false ∧ w ≠ .rtcRun) ∧
    (∃ s : State, s.plinth.seq = .warmRestart ∧ s.wakeOn .gpioEdge = true) ∧
    (∃ s : State, s.plinth.mode = .doze ∧ s.plinth.seq = .running ∧ s.wakeOn .hostByte = true ∧ s.power.vhostOn = true
    ∧ bitAt (s.param P.sysPortEn) 0 = true) :=
  ⟨⟨{ wBus with plinth := { wBus.plinth with xtalFail := true } }, by decide⟩,
    ⟨{ wBus with plinth := { wBus.plinth with xo := true, xtalFail := true } }, by decide⟩,
    ⟨wPar wBus P.sysDozeEn 1, by decide⟩,
    ⟨wSto, by decide⟩,
    ⟨wPilot, by decide⟩,
    ⟨{ wSto with plinth := { wSto.plinth with mode := .plinth, seq := .off } }, by decide⟩,
    ⟨{ wSto with plinth := { wSto.plinth with hk := true } }, by decide⟩,
    ⟨wPar wBus P.sysWakeEn 0, .gpioEdge, by decide⟩,
    ⟨wPar ({ wBus with plinth := { wBus.plinth with seq := .warmRestart } }) P.sysWakeEn 0xFFFF, by decide⟩,
    ⟨wPar ({ wBus with plinth := { wBus.plinth with mode := .doze }, power := { wBus.power with vhostOn := true } })
    P.sysWakeEn 0xFFFF, by decide⟩⟩

theorem witness_ShutdownStepsAct :
    (∃ s : State, s.seqRuns = true ∧ s.life.st = .shut1 ∧ s.railsStopped = true ∧ s.config.armed = none) ∧
    (∃ s : State, s.seqRuns = true ∧ s.life.st = .shut1 ∧ s.railsStopped = false) ∧
    (∃ s : State, s.seqRuns = true ∧ s.life.st = .shut2 ∧ s.camyx.ops.any Op.holdsShut = true) ∧
    (∃ s : State, s.seqRuns = true ∧ (s.life.st = .shut2 ∨ s.life.st = .shut3) ∧ s.camyx.ops.any Op.holdsShut = false) ∧
    (∃ s : State, s.seqRuns = true ∧ s.life.st = .shut4 ∧ s.life.commit = .full ∧ s.life.again = false) ∧
    (∃ s : State, s.seqRuns = true ∧ s.life.st = .shut4 ∧ s.life.commit = .none) ∧
    (∃ s : State, s.seqRuns = true ∧ s.life.st = .shut5 ∧ s.life.shelfPend = false ∧ s.camyx.resetOwed = none ∧
    s.plinth.mode ≠ .field ∧ s.life.restart = false) ∧
    (∃ s : State, s.seqRuns = true ∧ s.life.st = .shut5 ∧ s.life.shelfPend = false ∧ s.camyx.resetOwed = none ∧
    s.plinth.mode ≠ .field ∧ s.life.restart = true) :=
  ⟨⟨wLife (fun x => { x with st := .shut1 }), by decide⟩,
    ⟨{ wArm with life := { wArm.life with st := .shut1 } }, by decide⟩,
    ⟨wOps (wLife (fun x => { x with st := .shut2 })) [{ wOp .nvm (.save false 0 []) with pnr := true }], by decide⟩,
    ⟨wLife (fun x => { x with st := .shut2 }), by decide⟩,
    ⟨wLife (fun x => { x with st := .shut4, commit := .full }), by decide⟩,
    ⟨wLife (fun x => { x with st := .shut4, commit := .none }), by decide⟩,
    ⟨wLife (fun x => { x with st := .shut5 }), by decide⟩,
    ⟨wLife (fun x => { x with st := .shut5, restart := true }), by decide⟩⟩

theorem witness_PickupsBringTheLoadBack :
    (∃ s : State, s.life.st = .pickup ∧ s.seqRuns = true ∧ s.life.railsUp = false) ∧
    (∃ s : State, ∃ r : Fin 2, (s.rail r.val).autoPend = true ∧ s.mayStart r.val = true) ∧
    (∃ s : State, ∃ c : Fin 16, s.power.busQ = true ∧ s.seqRuns = true ∧ s.life.st = .pickup ∧ (s.chan c.val).shut =
    true ∧ s.life.railsUp = true ∧ s.life.shelfPend = false ∧ (∀ d ∈ List.range s.chans, d ≠ c.val → (s.chan
    d).shut = false)) ∧
    (∃ s : State, s.shutBegun = true) ∧
    (∃ s : State, s.busCarries = true) ∧
    (∃ s : State, ∃ mv, s.life.st = .down ∧ s.power.path = .onSto ∧ mv ≤ s.param P.pwrStoFloorMv + 100) :=
  ⟨⟨wLife (fun x => { x with st := .pickup }), by decide⟩,
    ⟨wPar (wRail fun x => { x with st := .stopped, autoPend := true }) (P.armEn 0) 1, 0, by decide⟩,
    ⟨(wLife (fun x => { x with st := .pickup, railsUp := true })).onChan 3 fun h => { h with shut := true }, 3,
    (by refine ⟨by decide, by decide, by decide, by decide, by decide, by decide, ?_⟩; decide)⟩,
    ⟨wLife (fun x => { x with st := .shut1 }), by decide⟩,
    ⟨wBus, by decide⟩,
    ⟨{ wSto with life := { wSto.life with st := .down } }, 0, by decide⟩⟩

theorem witness_ShelfAndDecommissionAct :
    (∃ s : State, s.life.st = .shelfPending ∧ s.life.shelfPend = true ∧ s.power.path = .onSto ∧ s.power.busQ = false) ∧
    (∃ s : State, s.life.st = .shelfPending ∧ s.power.busQ = true) ∧
    (∃ s : State, s.life.st = .shut5 ∧ s.life.shelfPend = true) ∧
    (∃ s : State, ∃ straps : Straps, s.power.path = .shelf ∧ s.param P.sysShelfWakeD ≠ 0 ∧ straps.test = false ∧ 105 *
    s.keepEff ≤ 100 * s.eOfMv s.power.stoMv) ∧
    (∃ s : State, ∃ straps : Straps, s.power.path = .shelf ∧ s.param P.sysShelfWakeD ≠ 0 ∧ straps.test = false ∧ 100 *
    s.eOfMv s.power.stoMv < 105 * s.keepEff) ∧
    (∃ s : State, s.power.path = .shelf ∧ s.param P.sysShelfWakeD = 0) ∧
    (∃ s : State, s.shelfAgain = true ∧ s.life.st = .running ∧ s.plinthOn = true) ∧
    (∃ s : State, s.power.busQ = true) ∧
    (∃ s : State, s.life.st = .decommissioning ∧ s.life.step = 2 ∧ s.seqRuns = true) ∧
    (∃ s : State, s.life.st = .decommissioning ∧ s.life.step = 3 ∧ s.seqRuns = true ∧ s.railsStopped = true) ∧
    (∃ s : State, s.life.st = .decommissioning ∧ s.life.step = 4 ∧ s.seqRuns = true ∧ s.camyx.ops = [] ∧
    s.camyx.resetOwed = none) :=
  ⟨⟨{ wSto with life := { wSto.life with st := .shelfPending, shelfPend := true } }, by decide⟩,
    ⟨wLife (fun x => { x with st := .shelfPending }), by decide⟩,
    ⟨wLife (fun x => { x with st := .shut5, shelfPend := true }), by decide⟩,
    ⟨wPar ({ wSto with power := { wSto.power with path := .shelf, stoMv := 5000 } }) P.sysShelfWakeD 1, wStraps, by
    decide⟩,
    ⟨wPar ({ wSto with power := { wSto.power with path := .shelf, stoMv := 0 } }) P.sysShelfWakeD 1, wStraps, by
    decide⟩,
    ⟨wPar ({ wSto with power := { wSto.power with path := .shelf } }) P.sysShelfWakeD 0, by decide⟩,
    
    ⟨{ wSto with ctr := { wSto.ctr with shelfMark := true }, life := { wSto.life with shelfExit := some .nfcField } },
    by decide⟩,
    ⟨wBus, by decide⟩,
    ⟨wLife (fun x => { x with st := .decommissioning, step := 2 }), by decide⟩,
    ⟨wLife (fun x => { x with st := .decommissioning, step := 3 }), by decide⟩,
    ⟨wLife (fun x => { x with st := .decommissioning, step := 4 }), by decide⟩⟩

theorem witness_AbandonedCyclesStarveTheTracker :
    (∃ s : State, ∃ c : HarvestCh, (s.tracker c).running = true ∧ s.hrvHolds c = false ∧ s.rxBusy = false) :=
  ⟨{ wBus with harvest := { wBus.harvest with teg := { Tracker.idle with running := true, vop := 50000, skips := 15 } } }, .teg, by decide⟩

theorem witness_DieTemperatureWarns :
    (∃ x : Int, 140 ≤ x) ∧
    (∃ x : Int, x < 130) ∧
    (∃ x : Int, 130 ≤ x ∧ x < 140) :=
  ⟨⟨140, by decide⟩,
    ⟨129, by decide⟩,
    ⟨135, by decide⟩⟩

theorem witness_OutputSenseMismatchStopsTheRail :
    (∃ s : State, ∃ r : Fin 2, (s.rail r.val).st = .regulating ∧ s.targetMv r.val < 2 * (s.rail r.val).vos) ∧
    (∃ s : State, ∃ r : Fin 2, (s.rail r.val).st = .regulating ∧ 2 * (s.rail r.val).vos ≤ s.targetMv r.val) :=
  ⟨⟨wPar (wPar (wRail fun x => { x with vos := 1000 }) (P.armVrefMv 0) 1000) (P.armDivX1000 0) 1000, 0, by decide⟩,
    ⟨wPar (wPar (wRail fun x => { x with vos := 100 }) (P.armVrefMv 0) 1000) (P.armDivX1000 0) 1000, 0, by decide⟩⟩

theorem witness_FaultRecordsAreCheckedAndMarked :
    (∃ s : State, ∃ rq : Request, ∃ w : Waiting, ∃ b, s.Ready 0x29 rq w ∧ (s.rail (fieldAt w.body 0 1)).ring[fieldAt
    w.body 1 1]? = some b) ∧
    (∃ s : State, ∃ rq : Request, ∃ w : Waiting, s.Ready 0x29 rq w ∧ (s.rail (fieldAt w.body 0 1)).ring[fieldAt w.body
    1 1]? = none) ∧
    (∃ x : Rail, ∃ i : Nat, ∃ b : List Byte, x.ring[i]? = some b ∧ recordOk b = true ∧ ovRecord b = true) ∧
    (∃ x : Rail, ∃ i : Nat, ∃ b : List Byte, x.ring[i]? = some b ∧ ovRecord b = false) :=
  ⟨⟨(wWith (wBus.onRail 0 fun x => { x with ring := [wRec] }) (wAsk 0x29 ([0, 0]) .owner)), (wAsk 0x29 ([0, 0])
    .owner).rq, (wAsk 0x29 ([0, 0]) .owner), wRec, (by unfold State.Ready; decide)⟩,
    ⟨(wWith (wBus) (wAsk 0x29 ([0, 0]) .owner)), (wAsk 0x29 ([0, 0]) .owner).rq, (wAsk 0x29 ([0, 0]) .owner),
    (by unfold State.Ready; decide)⟩,
    ⟨{ Rail.initial with ring := [wRec] }, 0, wRec, by decide⟩,
    ⟨{ Rail.initial with ring := [[]] }, 0, [], by decide⟩⟩

theorem witness_IdleStepIsOneTick :
    (∃ s : State, s.pending = [] ∧ s.plinthOn = false) ∧
    (∃ s : State, s.pending = [] ∧ s.plinthOn = true ∧ s.plinth.slew = 0 ∧ s.rtcPpb = 0 ∧ s.plinth.rtcRem <
    1000000000000 ∧ s.plinth.rtcSub + 33 < 32768) ∧
    (∃ s : State, s.pending = [] ∧ s.plinthOn = true ∧ s.plinth.slew = 0 ∧ s.rtcPpb = 0 ∧ 32736 ≤ s.plinth.rtcSub ∧
    s.plinth.rtcSub < 32768 ∧ s.plinth.rtcRem < 1000000000000) ∧
    (∃ s : State, s.pending = [] ∧ s.plinthOn = true ∧ s.seqRuns = true ∧ s.plinth.mode = .run) ∧
    (∃ s : State, s.pending = [] ∧ s.plinthOn = true ∧ s.plinth.mode ≠ .doze ∧ s.tab.inTab = false) :=
  ⟨⟨{ State.reset with power := { State.reset.power with path := .none } }, by decide⟩,
    ⟨wBus, by decide⟩,
    ⟨{ wBus with plinth := { wBus.plinth with rtcSub := 32740 } }, by decide⟩,
    ⟨wBus, by decide⟩,
    ⟨wBus, by decide⟩⟩

theorem witness_EveryStepKeepsTheBounds :
    (∃ s : State, ∃ t : State, s.bounded ∧ step s = .next t) :=
  ⟨{ wBus with pending := [.busUvFall 20000] }, _, (by refine ⟨?_, rfl⟩; unfold State.bounded State.clockBounded State.logsBounded; decide)⟩

end Sys2Proof.Tests
end

section
/-! PROOFS. The Plinth power-on reset: what a boot of the Plinth leaves of the counter record, and the refutation of the
statement on device and power-on resets. -/

namespace Sys2Proof.Machine

/-! ### Steps that change the logs alone -/

/-- Nothing but the events, the Patina and the trace changes on the way from `s` to `t`. -/
def LogsOnly (s t : State) : Prop := t = s.withLogs t

theorem LogsOnly.refl (s : State) : LogsOnly s s := rfl

theorem LogsOnly.trans {s t u : State} (h : LogsOnly s t) (k : LogsOnly t u) : LogsOnly s u :=
  calc u = t.withLogs u := k
    _ = (s.withLogs t).withLogs u := congrArg (State.withLogs · u) h
    _ = s.withLogs u := rfl

theorem LogsOnly.raiseC {s t : State} (h : LogsOnly s t) (src : Src) (r d : Nat) : LogsOnly s (t.raiseC src r d) :=
  h.trans (raiseC_logs ..)

theorem LogsOnly.setC {s t : State} (h : LogsOnly s t) (src : Src) (on : Bool) (r d : Nat) :
    LogsOnly s (t.setC src on r d) :=
  h.trans (setC_logs ..)

theorem LogsOnly.ite {c : Prop} [Decidable c] {s a b : State} (ha : LogsOnly s a) (hb : LogsOnly s b) :
    LogsOnly s (if c then a else b) := by
  split
  · exact ha
  · exact hb

theorem LogsOnly.raiseC_if {s t : State} (h : LogsOnly s t) (c : Prop) [Decidable c] (src : Src) (r d : Nat) :
    LogsOnly s (if c then t.raiseC src r d else t) :=
  .ite (h.raiseC ..) h

theorem LogsOnly.foldl {α : Type} {f : State → α → State} {s t : State} (l : List α) (h : LogsOnly s t)
    (hf : ∀ u x, LogsOnly u (f u x)) : LogsOnly s (l.foldl f t) :=
  List.foldlRecOn l f h fun u hu x _ => hu.trans (hf u x)

/-- The raises of R452 at a power-on reset change nothing but the logs. -/
theorem raiseAfresh_logsOnly (s : State) (was : List Held) : LogsOnly s (s.raiseAfresh was) := by
  unfold State.raiseAfresh
  dsimp only
  refine .foldl _ (.foldl _ ?conditions fun u r => ?rail) fun u d => ?die
  case conditions =>
    iterate 8 refine .raiseC_if ?_ ..
    exact .foldl _ (.refl s) fun u h => .raiseC (.refl u) ..
  case rail => exact .raiseC_if (.refl u) ..
  case die =>
    split
    · exact .refl u
    · exact .raiseC (.refl u) ..
    · exact .refl u

/-- Beside the identity, sampling the straps changes nothing but the logs. -/
theorem sampleStraps_logsOnly (s : State) (p : Straps) (sdo : Bool) :
    ∃ k, LogsOnly { s with ident := k } (s.sampleStraps p sdo) := by
  unfold State.sampleStraps
  exact ⟨_, .setC (.ite (.setC (.setC (.refl _) ..) ..) (.setC (.refl _) ..)) ..⟩

/-! ### The counter record through a power-on reset -/

theorem LogsOnly.ctr {s t : State} (h : LogsOnly s t) : t.ctr = s.ctr :=
  calc t.ctr = (s.withLogs t).ctr := congrArg State.ctr h
    _ = s.ctr := withLogs_ctr s t

@[simp] theorem raiseAfresh_ctr (s : State) (was : List Held) : (s.raiseAfresh was).ctr = s.ctr :=
  (raiseAfresh_logsOnly s was).ctr

@[simp] theorem sampleStraps_ctr (s : State) (p : Straps) (sdo : Bool) : (s.sampleStraps p sdo).ctr = s.ctr := by
  obtain ⟨k, h⟩ := sampleStraps_logsOnly s p sdo
  exact h.ctr

@[simp] theorem raiseP_ctr (s : State) (src : Src) (r d : Nat) : (s.raiseP src r d).ctr = s.ctr :=
  LogsOnly.ctr (raiseP_logs ..)

/-- What a reset rolls back (Table 7.4) is no part of the counter record in NVM. -/
theorem rollBack_nvm (device : Bool) (s : State) (o : Op) : (s.rollBack device o).nvm = s.nvm := by
  unfold State.rollBack
  split
  case h_1 | h_2 | h_3 | h_4 | h_5 =>
    split <;> rfl
  case h_6 => rfl

/-- A power-on reset reads the counter record back from NVM (R459). -/
theorem powerOnReset_ctr (s : State) (src : Source) (p : Straps) : (s.powerOnReset src p).ctr = s.nvm := by
  unfold State.powerOnReset
  simp only [raiseAfresh_ctr, sampleStraps_ctr]
  exact List.foldlRecOn (motive := fun u => u.nvm = s.nvm) _ _ rfl fun u hu o _ => (rollBack_nvm true u o).trans hu

/-! ### The start from nothing on STO -/

theorem onTracker_ctr (s : State) (c : HarvestCh) (f : Tracker → Tracker) : (s.onTracker c f).ctr = s.ctr := by
  cases c <;> rfl

theorem regulate_ctr (s : State) : s.regulate.ctr = s.ctr := by
  unfold State.regulate; split <;> rfl

theorem takeOver_ctr (s : State) (c : HarvestCh) (voc point : Nat) : (s.takeOver c voc point).ctr = s.ctr := by
  unfold State.takeOver State.hrvStart
  split
  · simp only [onTracker_ctr, regulate_ctr]
  · rfl

/-- A start from nothing on STO takes the counter record from NVM and writes into it which sources delivered (R80). -/
theorem startFromSto_ctr (s : State) (delivering : BitVec 4) (p : Straps) :
    (s.startFromSto delivering p).ctr = { s.nvm with coldSrc := delivering.toNat } := by
  unfold State.startFromSto
  dsimp only
  split
  · simp only [powerOnReset_ctr]
  · rw [raiseP_ctr]
    split
    · simp only [takeOver_ctr, powerOnReset_ctr]
    · simp only [powerOnReset_ctr]

theorem exec_plinthPowerOnReset_sto (s : State) (p : Straps) (hpath : s.power.path = .none)
    (hsto : 1000 ≤ s.power.stoMv) :
    exec (.plinthPowerOnReset .sto p) s = .next (s.startFromSto s.cscDelivers p) := by
  have h : s.mayPowerOn .sto = true := by simp [State.mayPowerOn, hpath, hsto]
  show execPlinthPowerOnReset .sto p s = _
  simp [execPlinthPowerOnReset, h]

/-! ### The refutation -/

/-- A node that stands unpowered with STO at 1.00 V, which its CSC charges from a TEG of 40 mV open circuit: the state
just before the first start of its life. -/
def tegColdStart : State :=
  { State.reset with
    power := { State.reset.power with path := .none }
    harvest := { State.reset.harvest with csc := true, cscTegUv := 40000 } }

/-- Straps that all read open, with TEST low. -/
def openStraps : Straps := { gpio7Mv := 1800, gpio6Mv := 1800, sdoMv := 1800, u0deMv := 1800, test := false }

theorem tegColdStart_delivers : tegColdStart.cscDelivers = 1#4 := by decide

/-- Refutes O45: its clause on a power-on reset from STO has the counter record equal to the one in NVM, but R80 has the same
start write the sources that delivered into HRV_COLDSTART_SRC, which is part of that record (R459). At the first start
of a node by its TEG the record says 1 and NVM still says 0. -/
theorem not_deviceAndPowerOnResetsAct : ¬ Obligations.DeviceAndPowerOnResetsAct := by
  unfold Obligations.DeviceAndPowerOnResetsAct
  intro h
  obtain ⟨-, -, -, -, -, hsto, -, -⟩ := h tegColdStart openStraps
  obtain ⟨t, ht, -, -, -, -, hctr⟩ := hsto rfl (by decide) rfl
  rw [exec_plinthPowerOnReset_sto _ _ rfl (by decide)] at ht
  obtain rfl := Host.Outcome.next.inj ht
  rw [startFromSto_ctr, tegColdStart_delivers] at hctr
  exact absurd (congrArg Counters.coldSrc hctr) (by decide)

end Sys2Proof.Machine
end

section
/-! PROOFS. The state that a Plinth power-on reset leaves: each indexed block at its initial value, and every parameter
at its default. -/

namespace Sys2Proof.Machine

/-! ### The indexed blocks after reset -/

/-- Reading beyond the end of a uniform vector gives its one value too, when that is the fallback. -/
theorem getD_toList_replicate {α : Type} (n i : Nat) (d : α) : (Vector.replicate n d).toList.getD i d = d := by
  rw [Vector.toList_replicate, List.getD_eq_getElem?_getD, List.getElem?_replicate]
  split
  · rfl
  · rfl

@[simp] theorem reset_chan (c : Nat) : State.reset.chan c = Chan.initial := getD_toList_replicate 16 c _

@[simp] theorem reset_rail (r : Nat) : State.reset.rail r = Rail.initial := getD_toList_replicate 2 r _

@[simp] theorem reset_phase (p : Nat) : State.reset.phase p = Phase.initial := getD_toList_replicate 8 p _

@[simp] theorem reset_port (t : Transport) : State.reset.port t = Port.empty := getD_toList_replicate 7 (placeOf t) _

/-! ### Parameters and time after reset -/

/-- With nothing in force, a parameter reads its default (R224). -/
theorem param_of_inForce_nil {s : State} (h : s.config.inForce = []) (id : Nat) :
    s.param id = defaultOf s.ident.role s.ident.sto id := by
  simp only [State.param, Vals.get?, h, List.lookup_nil]

theorem stamp_of_time_invalid {s : State} (h : s.plinth.timeValid = false) : s.stamp = 0xFFFFFFFF := by
  simp only [State.stamp, h, Bool.false_eq_true, if_false]

/-! ### The statement -/

/-- Settles O60: the indexed blocks hold their initial values, the configuration has no entry in force, and every
other value stands in the reset state itself. -/
theorem resetLeavesThePowerOnState : Obligations.ResetLeavesThePowerOnState := by
  unfold Obligations.ResetLeavesThePowerOnState
  have hchan : ∀ c, (State.reset.chan c).out = false ∧ (State.reset.chan c).demand = .off := fun c => by
    rw [reset_chan]; exact ⟨rfl, rfl⟩
  have hrail : ∀ r, (State.reset.rail r).st = .stopped := fun r => by rw [reset_rail]; rfl
  have hphase : ∀ p, (State.reset.phase p).running = false := fun p => by rw [reset_phase]; rfl
  have hport : ∀ t, (State.reset.port t).est = none ∧ (State.reset.port t).replies = [] := fun t => by
    rw [reset_port]; exact ⟨rfl, rfl⟩
  have hstamp : State.reset.stamp = 0xFFFFFFFF := stamp_of_time_invalid rfl
  have hparam := param_of_inForce_nil (s := State.reset) rfl
  exact ⟨hchan, hrail, hphase, rfl, rfl, rfl, rfl, rfl, hstamp, rfl, rfl, rfl, rfl, hport, rfl, rfl, hparam⟩

end Sys2Proof.Machine
end

section
/-! PROOFS. What an operation may change: a list of parts of the state, beside which it leaves everything. One lemma per
operation that the power path, the modes and the shutdown share; a frame is then read off the list. -/

namespace Sys2Proof.Machine

/-! ### Parts of the state -/

/-- A part of the state: one of its blocks; the logs together; and within their blocks the power mode and
PWR_HO_COUNT, each left by most that changes the rest of its block. -/
inductive StatePart
  | ident | plinth | mode | power | harvest | ledger | config | camyx | nfc | sec | sw | arm | line | tab | logs | ctr
  | hoCount | nvm | life | free | pending
deriving DecidableEq

/-- A part reads the same in two states. -/
def StatePart.Same (s t : State) : StatePart → Prop
  | .ident => t.ident = s.ident
  | .plinth => t.plinth = s.plinth
  | .mode => t.plinth.mode = s.plinth.mode
  | .power => t.power = s.power
  | .harvest => t.harvest = s.harvest
  | .ledger => t.ledger = s.ledger
  | .config => t.config = s.config
  | .camyx => t.camyx = s.camyx
  | .nfc => t.nfc = s.nfc
  | .sec => t.sec = s.sec
  | .sw => t.sw = s.sw
  | .arm => t.arm = s.arm
  | .line => t.line = s.line
  | .tab => t.tab = s.tab
  | .logs => t.events = s.events ∧ t.patina = s.patina ∧ t.trace = s.trace
  | .ctr => t.ctr = s.ctr
  | .hoCount => t.ctr.hoCount = s.ctr.hoCount
  | .nvm => t.nvm = s.nvm
  | .life => t.life = s.life
  | .free => t.free = s.free
  | .pending => t.pending = s.pending

/-- Beside the parts listed, `t` is `s`. -/
structure ChangesOnly (ps : List StatePart) (s t : State) : Prop where
  same : ∀ p, p ∉ ps → p.Same s t

/-- The parts listed taken from `t`, everything else from `s`. -/
def State.copy (s : State) (ps : List StatePart) (t : State) : State :=
  { ident := if .ident ∈ ps then t.ident else s.ident
    plinth :=
      if .plinth ∈ ps then (if .mode ∈ ps then t.plinth else { t.plinth with mode := s.plinth.mode }) else s.plinth
    power := if .power ∈ ps then t.power else s.power
    harvest := if .harvest ∈ ps then t.harvest else s.harvest
    ledger := if .ledger ∈ ps then t.ledger else s.ledger
    config := if .config ∈ ps then t.config else s.config
    camyx := if .camyx ∈ ps then t.camyx else s.camyx
    nfc := if .nfc ∈ ps then t.nfc else s.nfc
    sec := if .sec ∈ ps then t.sec else s.sec
    sw := if .sw ∈ ps then t.sw else s.sw
    arm := if .arm ∈ ps then t.arm else s.arm
    line := if .line ∈ ps then t.line else s.line
    tab := if .tab ∈ ps then t.tab else s.tab
    events := if .logs ∈ ps then t.events else s.events
    patina := if .logs ∈ ps then t.patina else s.patina
    trace := if .logs ∈ ps then t.trace else s.trace
    ctr := if .ctr ∈ ps then (if .hoCount ∈ ps then t.ctr else { t.ctr with hoCount := s.ctr.hoCount }) else s.ctr
    nvm := if .nvm ∈ ps then t.nvm else s.nvm
    life := if .life ∈ ps then t.life else s.life
    free := if .free ∈ ps then t.free else s.free
    pending := if .pending ∈ ps then t.pending else s.pending }

variable {ps qs : List StatePart} {s t u : State}

theorem StatePart.Same.refl (p : StatePart) : p.Same s s := by
  cases p with
  | logs => exact ⟨rfl, rfl, rfl⟩
  | _ => rfl

theorem StatePart.Same.trans {p : StatePart} (h : p.Same s t) (k : p.Same t u) : p.Same s u := by
  cases p with
  | logs => exact ⟨k.1.trans h.1, k.2.1.trans h.2.1, k.2.2.trans h.2.2⟩
  | _ => exact Eq.trans k h

namespace ChangesOnly

theorem refl (s : State) : ChangesOnly ps s s := ⟨fun p _ => .refl p⟩

theorem mono (h : ChangesOnly ps s t) (sub : ps ⊆ qs) : ChangesOnly qs s t :=
  ⟨fun p hp => h.same p fun hq => hp (sub hq)⟩

/-- One operation after another changes what either may. -/
theorem trans (h : ChangesOnly ps s t) (k : ChangesOnly qs t u) : ChangesOnly (ps ++ qs) s u :=
  ⟨fun p hp => (h.same p fun hq => hp (List.mem_append_left _ hq)).trans
    (k.same p fun hq => hp (List.mem_append_right _ hq))⟩

theorem ite {c : Prop} [Decidable c] (h : ChangesOnly ps s t) (k : ChangesOnly qs s u) :
    ChangesOnly (ps ++ qs) s (if c then t else u) := by
  split
  · exact h.mono (List.subset_append_left ..)
  · exact k.mono (List.subset_append_right ..)

/-- An operation that takes place only under a condition. -/
theorem thenOnly {c : Prop} [Decidable c] (h : ChangesOnly ps s t) : ChangesOnly ps s (if c then t else s) := by
  split
  · exact h
  · exact .refl s

/-- An operation that takes place unless a condition holds. -/
theorem elseOnly {c : Prop} [Decidable c] (h : ChangesOnly ps s t) : ChangesOnly ps s (if c then s else t) := by
  split
  · exact .refl s
  · exact h

theorem foldl {α : Type} {f : State → α → State} (hf : ∀ u x, ChangesOnly ps u (f u x)) (l : List α) (s : State) :
    ChangesOnly ps s (l.foldl f s) :=
  List.foldlRecOn l f (.refl s) fun u hu x _ =>
    (hu.trans (hf u x)).mono (List.append_subset.2 ⟨List.Subset.refl _, List.Subset.refl _⟩)

/-! ### Lists of parts and record updates -/

/-- What writes the parts listed alone. -/
theorem write (ps : List StatePart) (h : t = s.copy ps t) : ChangesOnly ps s t := by
  refine ⟨fun p hp => ?_⟩
  rw [h]
  cases p with
  | logs => exact ⟨if_neg hp, if_neg hp, if_neg hp⟩
  | mode =>
    show (s.copy ps t).plinth.mode = _
    simp only [State.copy, if_neg hp]
    split
    · rfl
    · rfl
  | hoCount =>
    show (s.copy ps t).ctr.hoCount = _
    simp only [State.copy, if_neg hp]
    split
    · rfl
    · rfl
  | _ => exact if_neg hp

theorem eq_copy (h : ChangesOnly ps s t) : t = s.copy ps t := by
  have keep : ∀ {α : Type} {p : StatePart} {x y : α}, (p ∉ ps → x = y) → x = if p ∈ ps then x else y := by
    intro α p x y hxy
    split
    · rfl
    · exact hxy ‹_›
  have logs := h.same .logs
  refine State.ext_fields _ _ (keep (h.same .ident)) ?plinth (keep (h.same .power)) (keep (h.same .harvest))
    (keep (h.same .ledger)) (keep (h.same .config)) (keep (h.same .camyx)) (keep (h.same .nfc)) (keep (h.same .sec))
    (keep (h.same .sw)) (keep (h.same .arm)) (keep (h.same .line)) (keep (h.same .tab)) (keep fun hp => (logs hp).1)
    (keep fun hp => (logs hp).2.1) (keep fun hp => (logs hp).2.2) ?ctr (keep (h.same .nvm)) (keep (h.same .life))
    (keep (h.same .free)) (keep (h.same .pending))
  case plinth =>
    show _ = if _ then _ else _
    split
    · exact keep fun hp => by rw [← show t.plinth.mode = s.plinth.mode from h.same .mode hp]
    · exact h.same .plinth ‹_›
  case ctr =>
    show _ = if _ then _ else _
    split
    · exact keep fun hp => by rw [← show t.ctr.hoCount = s.ctr.hoCount from h.same .hoCount hp]
    · exact h.same .ctr ‹_›

/-! ### Reading a part that is not listed -/

theorem power (h : ChangesOnly ps s t) (hp : .power ∉ ps) : t.power = s.power := h.same .power hp

theorem life (h : ChangesOnly ps s t) (hp : .life ∉ ps) : t.life = s.life := h.same .life hp

theorem mode (h : ChangesOnly ps s t) (hp : .mode ∉ ps) : t.plinth.mode = s.plinth.mode := h.same .mode hp

theorem hoCount (h : ChangesOnly ps s t) (hp : .hoCount ∉ ps) : t.ctr.hoCount = s.ctr.hoCount :=
  h.same .hoCount hp

/-! ### Frames, as the statements write them -/

theorem frame_power_ledger (h : ChangesOnly [.power, .ledger, .logs] s t) :
    t = { s.withLogs t with power := t.power, ledger := t.ledger } := h.eq_copy

theorem frame_power_harvest (h : ChangesOnly [.power, .harvest, .logs] s t) :
    t = { s.withLogs t with power := t.power, harvest := t.harvest } := h.eq_copy

theorem frame_field (h : ChangesOnly [.power, .harvest] s t) :
    t = { s with power := t.power, harvest := t.harvest } := h.eq_copy

theorem frame_bak (h : ChangesOnly [.power, .ctr, .free] s t) :
    t = { s with power := t.power, ctr := t.ctr, free := t.free } :=
  (h.mono (qs := [.power, .ctr, .hoCount, .free]) (by decide)).eq_copy

theorem frame_store (h : ChangesOnly [.power, .harvest, .ledger, .logs] s t) :
    t = { s.withLogs t with power := t.power, harvest := t.harvest, ledger := t.ledger } := h.eq_copy

theorem frame_bus (h : ChangesOnly [.power, .plinth, .arm, .logs] s t) :
    t = { s.withLogs t with plinth := t.plinth, power := t.power, arm := t.arm } :=
  (h.mono (qs := [.mode, .power, .plinth, .arm, .logs]) (by decide)).eq_copy

theorem frame_power_sw (h : ChangesOnly [.power, .sw, .logs] s t) :
    t = { s.withLogs t with power := t.power, sw := t.sw } := h.eq_copy

end ChangesOnly

end Sys2Proof.Machine
end

section
/-! PROOFS. What the shared operations may change, one lemma per operation in the order of the model's files. -/

namespace Sys2Proof.Machine

variable {s : State}

/-! ### Logs -/

theorem raiseAs_changes (src : Src) (pulse : Bool) (r d : Nat) (pin : Bool) :
    ChangesOnly [.logs] s (s.raiseAs src pulse r d pin) := .write _ (raiseAs_logs ..)

theorem raiseC_changes (src : Src) (r d : Nat) : ChangesOnly [.logs] s (s.raiseC src r d) := raiseAs_changes ..

theorem raiseP_changes (src : Src) (r d : Nat) : ChangesOnly [.logs] s (s.raiseP src r d) := raiseAs_changes ..

theorem raiseOnce_changes (src : Src) (r d : Nat) : ChangesOnly [.logs] s (s.raiseOnce src r d) :=
  .write _ (raiseOnce_logs ..)

theorem clearIf_changes (src : Src) (p : Held → Bool) : ChangesOnly [.logs] s (s.clearIf src p) :=
  .write _ (clearIf_logs ..)

theorem clearE_changes (src : Src) : ChangesOnly [.logs] s (s.clearE src) := clearIf_changes ..

theorem clearR_changes (src : Src) (r : Nat) : ChangesOnly [.logs] s (s.clearR src r) := clearIf_changes ..

/-! ### Elements of a block -/

theorem onChan_changes (c : Nat) (f : Chan → Chan) : ChangesOnly [.sw] s (s.onChan c f) := .write _ rfl

theorem onRail_changes (r : Nat) (f : Rail → Rail) : ChangesOnly [.arm] s (s.onRail r f) := .write _ rfl

theorem onPort_changes (t : Transport) (f : Port → Port) : ChangesOnly [.camyx] s (s.onPort t f) := .write _ rfl

theorem onOps_changes (f : List Op → List Op) : ChangesOnly [.camyx] s (s.onOps f) := .write _ rfl

/-! ### Channels -/

theorem latch_changes (c : Nat) (b : Bool) : ChangesOnly [.sw] s (s.latch c b) := .write _ (latch_sw ..)

theorem refresh_changes (c : Nat) (fresh : Bool) : ChangesOnly [.sw] s (s.refresh c fresh) := .write _ (refresh_sw ..)

theorem inhibit_changes (c : Nat) (f : Chan → Chan) : ChangesOnly [.sw] s (s.inhibit c f) := .write _ (inhibit_sw ..)

theorem uninhibit_changes (c : Nat) (f : Chan → Chan) : ChangesOnly [.sw] s (s.uninhibit c f) :=
  .write _ (uninhibit_sw ..)

theorem cancelInrush_changes (c : Nat) : ChangesOnly [.sw] s (s.cancelInrush c) := .write _ (cancelInrush_sw ..)

theorem countLatch_changes (c : Nat) : ChangesOnly [.sw, .logs] s (s.countLatch c) :=
  .mono (.ite ((onChan_changes ..).trans (raiseAs_changes ..)) (onChan_changes ..)) (by decide)

theorem clearLatch_changes (c : Nat) : ChangesOnly [.sw, .logs] s (s.clearLatch c) :=
  .mono
    (.ite (((onChan_changes ..).trans (clearE_changes _)).trans (clearIf_changes ..)) (.elseOnly (clearR_changes ..)))
    (by decide)

theorem clearAllLatches_changes (c : Nat) : ChangesOnly [.sw, .logs] s (s.clearAllLatches c) := by
  have current : ∀ f p, ChangesOnly [.sw, .logs] s
      (if (s.chan c).curLatch || (s.chan c).escalated then
        ((s.onChan c f).clearE (Ev.lswOc c)).clearIf (Ev.lswRt c) p else s.clearR (Ev.lswRt c) 4) :=
    fun f p => .mono
      (.ite (((onChan_changes ..).trans (clearE_changes _)).trans (clearIf_changes ..)) (clearR_changes ..)) (by decide)
  exact .mono (.ite (((current ..).trans (onChan_changes ..)).trans (clearE_changes _)) (current ..)) (by decide)

theorem startCalm_changes (cs : List Nat) : ChangesOnly [.sw] s (s.startCalm cs) := by
  unfold State.startCalm
  split
  · exact .foldl (fun u c => refresh_changes ..) _ _
  · split
    · exact ((ChangesOnly.write [.sw] (by rfl)).trans (refresh_changes ..)).mono (by decide)
    · exact .write _ rfl

theorem clearMask_changes (mask : Nat) : ChangesOnly [.sw, .logs] s (s.clearMask mask) := by
  have cleared : ChangesOnly [.sw, .logs] s
      ((maskChans mask).foldl (fun (s : State) c => (s.group c).foldl State.clearAllLatches s) s) :=
    .foldl (fun u c => .foldl (fun v j => clearAllLatches_changes j) _ _) _ _
  exact (cleared.trans (startCalm_changes _)).mono (by decide)

theorem applyShed_changes : ChangesOnly [.sw] s s.applyShed :=
  .foldl (fun _ _ => .elseOnly (.mono (.ite (inhibit_changes ..) (uninhibit_changes ..)) (by decide))) _ _

theorem relevel_changes : ChangesOnly [.line, .sw, .logs] s s.relevel :=
  .elseOnly (.mono (((ChangesOnly.write [.line] (by rfl)).trans applyShed_changes).trans (raiseP_changes ..)) (by decide))

theorem applyAllowance_changes (k : Nat) : ChangesOnly [.line, .sw, .logs] s (s.applyAllowance k) := by
  have lift : ∀ (cs : List Nat) u, ChangesOnly [.sw] u
      (cs.foldl (fun (s : State) c => if (s.chan c).allow then s.uninhibit c fun h => { h with allow := false } else s) u) :=
    fun cs u => .foldl (fun v c => .thenOnly (uninhibit_changes ..)) cs u
  have reach : ∀ (cs : List Nat) u, ChangesOnly [.sw] u
      (cs.foldl (fun (s : State) c => s.inhibit c fun h => { h with allow := true }) u) :=
    fun cs u => .foldl (fun v c => inhibit_changes ..) cs u
  unfold State.applyAllowance
  refine .elseOnly (.mono (.ite (ps := [.line, .sw, .logs]) (qs := [.line, .sw, .logs]) ?reached ?lifted) (by decide))
  case reached =>
    exact (((ChangesOnly.write [.line] (by rfl)).trans (reach ..)).trans (raiseC_changes ..)).mono (by decide)
  case lifted =>
    have lifted := fun h => (ChangesOnly.write (t := { s with line := { s.line with hit := h } }) [.line] rfl).trans (lift
      ((List.range s.chans).filter fun c => s.param (P.lswShedClass c) == k) _)
    exact .mono (.ite ((lifted _).trans (clearE_changes _)) (lifted _)) (by decide)

/-- Once the Load dump region is left, only channels follow. -/
theorem dumpEnd_changes_after : ChangesOnly [.sw] { s with power := { s.power with busDump := false } } s.dumpEnd := by
  unfold State.dumpEnd
  exact .foldl (fun _ _ => .thenOnly (((onChan_changes ..).trans (refresh_changes ..)).mono (by decide))) _ _

theorem dumpEnd_changes : ChangesOnly [.power, .sw] s s.dumpEnd :=
  (ChangesOnly.write [.power] (by rfl)).trans dumpEnd_changes_after

theorem loseLatches_changes (c : Nat) : ChangesOnly [.sw, .logs] s (s.loseLatches c) :=
  ((((latch_changes ..).trans (clearLatch_changes _)).trans (onChan_changes ..)).trans (clearE_changes _)).mono (by decide)

theorem dieDown_changes (d : Nat) : ChangesOnly [.sw, .logs] s (s.dieDown d) := by
  have lost : ∀ (js : List Nat) u, ChangesOnly [.sw, .logs] u
      (js.foldl (fun (s : State) j => (s.loseLatches (4 * d + j)).cancelInrush (4 * d + j)) u) :=
    fun js u => .foldl (fun v j => ((loseLatches_changes _).trans (cancelInrush_changes _)).mono (by decide)) js u
  exact ((ChangesOnly.write [.sw] (by rfl)).trans (lost ..)).mono (by decide)

theorem flushDies_changes : ChangesOnly [.sw, .ctr, .logs] s s.flushDies := by
  have raised : ∀ (l : List (Src × Nat × Bool × Bool)) u, ChangesOnly [.logs] u
      (l.foldl (fun s e => s.raiseAs e.1 e.2.2.1 e.2.1 0 e.2.2.2) u) :=
    fun l u => .foldl (fun v e => raiseAs_changes ..) l u
  have counted : ∀ (latched : Nat → Bool) (l : List Nat) u, ChangesOnly [.sw, .logs] u
      (l.foldl (fun (s : State) c => if latched c then s.countLatch c else s) u) :=
    fun latched l u => .foldl (fun v c => .thenOnly (countLatch_changes _)) l u
  have overcurrent : ∀ (u : State) c, ChangesOnly [.logs] u (if (u.chan c).curLatch then u else u.clearE (Ev.lswOc c)) :=
    fun u c => .elseOnly (clearE_changes _)
  have ended : ∀ (l : List Nat) u, ChangesOnly [.logs] u
      (l.foldl (fun s c =>
        let h := s.chan c
        let s := if h.curLatch then s else s.clearE (Ev.lswOc c)
        if h.thermOff || h.thermLatch then s else s.clearE (Ev.lswTh c)) u) :=
    fun l u => .foldl
      (fun v c => .mono (.ite (overcurrent v c) ((overcurrent v c).trans (clearE_changes _))) (by decide)) l u
  exact ((((ChangesOnly.write [.sw, .ctr] (by rfl)).trans (raised ..)).trans (counted ..)).trans (ended ..)).mono (by decide)

/-! ### The ledger -/

theorem refuse_changes (j : Job) : ChangesOnly [.ctr, .logs] s (s.refuse j) :=
  ((ChangesOnly.write [.ctr] (by rfl)).trans (raiseP_changes ..)).mono (by decide)

theorem release_changes (j : Job) : ChangesOnly [.ledger] s (s.release j) := .write _ rfl

theorem releaseOf_changes (j : Job) (r : Nat) : ChangesOnly [.ledger] s (s.releaseOf j r) := .write _ rfl

theorem unwait_changes (j : Job) (r : Nat) : ChangesOnly [.ledger] s (s.unwait j r) :=
  .mono (.ite (.write [.ledger] rfl) (.write [.ledger] rfl)) (by decide)

theorem request_changes (j : Job) (r : Nat) : ChangesOnly [.ledger] s (s.request j r) :=
  .mono (.ite (.write [.ledger] rfl) (.write [.ledger] rfl)) (by decide)

theorem evalRequest_changes (e : Job × Nat) (new : Bool) :
    ChangesOnly [.ledger, .ctr, .logs] s (s.evalRequest e new) :=
  .mono (.ite (.write [.ledger] rfl) (.thenOnly ((refuse_changes _).trans (.write [.ledger] rfl)))) (by decide)

theorem regrant_changes : ChangesOnly [.ledger, .ctr, .logs] s s.regrant :=
  .elseOnly (.foldl (fun _ _ => evalRequest_changes ..) _ _)

theorem drivePins_changes (sprig bunch fc : Bool) : ChangesOnly [.ledger, .logs] s (s.drivePins sprig bunch fc) := by
  unfold State.drivePins
  extract_lets up l anew s1 s2
  have driven : ChangesOnly [.ledger] s s1 := .write _ rfl
  have sprigUp : ChangesOnly [.ledger, .logs] s s2 :=
    .mono (.ite (driven.trans (raiseP_changes ..)) driven) (by decide)
  exact .mono (.ite (sprigUp.trans (raiseP_changes ..)) sprigUp) (by decide)

theorem afterBus_changes : ChangesOnly [.ledger, .logs] s s.afterBus :=
  ((drivePins_changes ..).trans (.write [.ledger] rfl)).mono (by decide)

theorem evalPins_changes : ChangesOnly [.ledger, .logs] s s.evalPins := by
  have noted : ∀ g, ChangesOnly [.ledger] s { s with ledger := { s.ledger with busGrant := g } } := fun g => .write _ rfl
  have drive : ∀ g sprig bunch fc, ChangesOnly [.ledger, .logs] s
      ({ s with ledger := { s.ledger with busGrant := g } }.drivePins sprig bunch fc) :=
    fun g sprig bunch fc => ((noted g).trans (drivePins_changes ..)).mono (by decide)
  unfold State.evalPins
  dsimp only
  split
  · exact drive ..
  split
  · exact drive ..
  split
  · exact ((noted _).trans afterBus_changes).mono (by decide)
  split
  · exact (noted _).mono (by decide)
  · exact drive ..

theorem unreachEval_changes : ChangesOnly [.ledger, .logs] s s.unreachEval := by
  have raised : ∀ (out : Nat → Bool) (l : List Nat), ChangesOnly [.logs] s
      (l.foldl (fun (s : State) i =>
        if out i && !s.ledger.unreach.getLsbD i then s.raiseC Ev.unreachable 0 i else s) s) :=
    fun out l => .foldl (fun u i => .thenOnly (raiseC_changes ..)) l s
  have noted : ∀ {u : State} (m : BitVec 3), ChangesOnly [.ledger] u { u with ledger := { u.ledger with unreach := m } } :=
    fun m => .write _ rfl
  unfold State.unreachEval
  dsimp only
  split
  · exact ((raised ..).trans (noted _)).mono (by decide)
  · exact (((raised ..).trans (noted _)).trans (clearE_changes _)).mono (by decide)

theorem evalLedger_changes : ChangesOnly [.ledger, .logs] s s.evalLedger :=
  (unreachEval_changes.trans evalPins_changes).mono (by decide)

/-! ### Modes -/

theorem tb8Eval_changes : ChangesOnly [.plinth, .arm] s s.tb8Eval := .elseOnly (.write _ rfl)

theorem pllEval_changes : ChangesOnly [.plinth] s s.pllEval := .write _ rfl

theorem loseLock_changes : ChangesOnly [.line, .sw, .plinth, .arm, .logs] s s.loseLock := by
  have lost := fun l w => (((ChangesOnly.write (t := { s with line := l, sw := w }) [.line, .sw] rfl).trans
    tb8Eval_changes).trans (raiseP_changes Ev.pilotLock 2 0)).trans relevel_changes
  exact .elseOnly ((lost ..).mono (by decide))

theorem toMode_changes (m : Mode) :
    ChangesOnly [.mode, .plinth, .harvest, .ledger, .line, .sw, .arm, .logs] s (s.toMode m) := by
  have entered := fun h l p tr => ChangesOnly.write
    (t := { s with harvest := h, ledger := l, plinth := p, trace := tr }) [.mode, .plinth, .harvest, .ledger, .logs] rfl
  exact (((ChangesOnly.ite ((entered ..).trans loseLock_changes) (entered ..)).trans tb8Eval_changes).trans
    pllEval_changes).mono (by decide)

/-- A mode entered is the mode. -/
@[simp] theorem toMode_mode (m : Mode) : (s.toMode m).plinth.mode = m := by
  unfold State.toMode
  dsimp only
  rw [pllEval_changes.mode (by decide), tb8Eval_changes.mode (by decide)]
  split
  · exact loseLock_changes.mode (by decide)
  · rfl

theorem wdtService_changes : ChangesOnly [.plinth, .config] s s.wdtService := .write _ rfl

theorem wakeSeq_changes : ChangesOnly [.plinth, .config, .sw, .ctr, .logs] s s.wakeSeq :=
  .thenOnly
    ((((ChangesOnly.write [.plinth] (by rfl)).trans flushDies_changes).trans wdtService_changes).mono (by decide))

theorem toRun_changes :
    ChangesOnly [.mode, .plinth, .config, .harvest, .ledger, .line, .sw, .arm, .ctr, .logs] s s.toRun := by
  have woken : ChangesOnly [.mode, .plinth, .config, .harvest, .ledger, .line, .sw, .arm, .ctr, .logs] s
      (if s.plinth.mode = .run then s.wakeSeq else (s.toMode .run).wakeSeq) :=
    .mono (.ite wakeSeq_changes ((toMode_changes _).trans wakeSeq_changes)) (by decide)
  exact .mono (.ite (woken.trans (.write [.plinth] rfl)) woken) (by decide)

/-! ### Replies and operations in hand -/

theorem handOver_changes (l : List Nat) : ChangesOnly [.logs] s (s.handOver l) := by
  have left : ∀ u, ChangesOnly [.logs] u (l.foldl
      (fun (s : State) q => match s.events.fifo.find? fun e => e.eseq == q with
        | some e => { s with events := { s.events with fifo := s.events.fifo.erase e }.leave e.cap }
        | none => s) u) := by
    refine .foldl (fun u q => ?_) l
    split
    · exact .write _ rfl
    · exact .refl u
  have emptied : ∀ u : State, ChangesOnly [.logs] u u.fifoEmptied := fun u => .thenOnly (clearE_changes _)
  exact .elseOnly (((left s).trans (emptied _)).mono (by decide))

theorem deliver_changes (t : Transport) (r : Reply) : ChangesOnly [.camyx, .nfc, .tab, .logs] s (s.deliver t r) := by
  unfold State.deliver
  cases t with
  | nfc =>
    exact .thenOnly (((ChangesOnly.write [.nfc, .camyx] (by rfl)).trans (handOver_changes _)).mono (by decide))
  | link => exact ((ChangesOnly.write [.tab] (by rfl)).trans (handOver_changes _)).mono (by decide)
  | spi | i2c => exact ((onPort_changes ..).trans (raiseOnce_changes ..)).mono (by decide)
  | uart | gateway | line => exact (onPort_changes ..).mono (by decide)

theorem finish_changes (o : Op) (st : Status) (data : List Byte) :
    ChangesOnly [.camyx, .nfc, .tab, .logs] s (s.finish o st data) :=
  .mono (.ite (onOps_changes _) (((onOps_changes _).trans (onPort_changes ..)).trans (deliver_changes ..))) (by decide)

theorem cancelOp_changes (o : Op) : ChangesOnly [.ledger] s (s.cancelOp o) := by
  unfold State.cancelOp
  split
  · exact .mono (.ite ((unwait_changes ..).trans (releaseOf_changes ..)) (unwait_changes ..)) (by decide)
  · exact .refl s

theorem dropSession_changes (t : Transport) (x : Session) (reason : Nat) :
    ChangesOnly [.camyx, .ledger, .nfc, .logs] s (s.dropSession t x reason) := by
  unfold State.dropSession
  extract_lets s1 s2 s4 old s3
  have cut : ChangesOnly [.camyx] s s2 := ((onPort_changes ..).trans (onOps_changes _)).mono (by decide)
  have freed : ChangesOnly [.camyx, .ledger] s s4 :=
    .mono (.ite (cut.trans (release_changes _)) cut) (by decide)
  have ended : ChangesOnly [.camyx, .ledger, .nfc] s s3 :=
    .mono (.ite (freed.trans (.write [.nfc] rfl)) cut) (by decide)
  exact (ended.trans (raiseP_changes ..)).mono (by decide)

theorem endSession_changes (t : Transport) (reason : Nat) :
    ChangesOnly [.camyx, .ledger, .nfc, .logs] s (s.endSession t reason) := by
  unfold State.endSession
  split
  · exact ((onPort_changes ..).trans (dropSession_changes ..)).mono (by decide)
  · exact .refl s

theorem keyChanged_changes (role slot : Nat) :
    ChangesOnly [.camyx, .ledger, .nfc, .logs] s (s.keyChanged role slot) :=
  .foldl (fun _ _ => .mono (.ite ((onPort_changes ..).trans (endSession_changes ..)) (onPort_changes ..)) (by decide)) _ _

theorem onOp_changes (o : Op) (f : Op → Op) : ChangesOnly [.camyx] s (s.onOp o f) := onOps_changes _

theorem decomNext_changes (o : Op) : ChangesOnly [.camyx, .ledger, .ctr, .nvm, .life] s (s.decomNext o) := by
  unfold State.decomNext
  extract_lets key mark s1
  have marked : ∀ u o, ChangesOnly [.camyx, .ctr, .nvm, .life] u (mark u o) :=
    fun u o => ((onOp_changes ..).trans (.write [.ctr, .nvm, .life] rfl)).mono (by decide)
  have asked : ChangesOnly [.camyx, .ledger] s s1 := (onOp_changes ..).trans (request_changes ..)
  exact .mono (.ite (marked ..) (.ite (asked.trans (marked ..)) asked)) (by decide)

theorem keyEraseNow_changes (o : Op) (role slot : Nat) :
    ChangesOnly [.camyx, .ledger, .nfc, .tab, .sec, .logs] s (s.keyEraseNow o role slot) := by
  have refused := fun st d => (releaseOf_changes (s := s) .keyCommit (15 * mj)).trans (finish_changes o st d)
  have erased := fun x : Sec =>
    (((((releaseOf_changes (s := s) .keyCommit (15 * mj)).trans (.write (t := { s.releaseOf .keyCommit (15 * mj) with
      sec := x }) [.sec] rfl)).trans (raiseP_changes Ev.keyChange 0 (role * 16 + slot))).trans
      (finish_changes o .ok [])).trans (keyChanged_changes role slot))
  exact .mono (.ite (refused ..) (.ite (refused ..) (erased _))) (by decide)

theorem startOp_changes (o : Op) :
    ChangesOnly [.camyx, .ledger, .nfc, .tab, .sec, .ctr, .nvm, .life, .logs] s (s.startOp o) := by
  unfold State.startOp
  extract_lets go
  have begun : ChangesOnly [.camyx] s go := onOp_changes ..
  have refused := fun j r st d => (releaseOf_changes (s := s) j r).trans (finish_changes o st d)
  split
  · exact (begun.trans (.write [.sec] rfl)).mono (by decide)
  · exact .mono (.ite (refused ..) (.ite (refused ..) begun)) (by decide)
  · exact (decomNext_changes _).mono (by decide)
  · exact (keyEraseNow_changes ..).mono (by decide)
  · exact begun.mono (by decide)

theorem resumeOps_changes :
    ChangesOnly [.camyx, .ledger, .nfc, .tab, .sec, .ctr, .nvm, .life, .logs] s s.resumeOps := by
  refine .foldl (fun u o => ?_) _ _
  split
  · exact .thenOnly (startOp_changes _)
  · exact .refl u

/-! ### What a hand-over lets take effect -/

theorem nfcReserve_changes : ChangesOnly [.ledger, .nfc, .ctr, .logs] s s.nfcReserve :=
  .elseOnly (.mono (.ite (.write [.ledger, .nfc] rfl) ((refuse_changes _).trans (.write [.nfc] rfl))) (by decide))

theorem nfcAfterMake_changes (x : Source) : ChangesOnly [.ledger, .nfc, .ctr, .logs] s (s.nfcAfterMake x) := by
  refine .elseOnly ?_
  cases x with
  | bus => exact (ChangesOnly.write [.nfc] rfl).mono (by decide)
  | sto => exact nfcReserve_changes
  | field | bak => exact .refl s

theorem sendLine_changes (dst opc : Nat) (params : List Byte) (times : Nat) :
    ChangesOnly [.camyx, .line, .logs] s (s.sendLine dst opc params times) := by
  have own : ChangesOnly [.camyx, .logs] s (s.ownLinePkt dst opc params).2 := by
    unfold State.ownLinePkt
    split
    · exact (raiseP_changes ..).mono (by decide)
    · exact (ChangesOnly.write [.camyx] rfl).mono (by decide)
  unfold State.sendLine
  split
  next h => rw [h] at own; exact (own.trans (.write [.line] rfl)).mono (by decide)
  next h => rw [h] at own; exact own.mono (by decide)

theorem setAllowance_changes (cls wh : Nat) : ChangesOnly [.camyx, .line, .sw, .ctr, .logs] s (s.setAllowance cls wh) := by
  have applied := fun a => (ChangesOnly.write (t := { s with ctr := { s.ctr with allowWh := a } }) [.ctr] rfl).trans
    (applyAllowance_changes cls)
  exact .mono (.ite ((applied _).trans (sendLine_changes ..)) (applied _)) (by decide)

theorem setLevel_changes (level hold : Nat) : ChangesOnly [.line, .sw, .logs] s (s.setLevel level hold) :=
  ((ChangesOnly.write [.line] (by rfl)).trans relevel_changes).mono (by decide)

theorem applyLate_changes : ChangesOnly [.camyx, .line, .sw, .ctr, .logs] s s.applyLate := by
  unfold State.applyLate
  have emptied : ChangesOnly [.camyx] s { s with camyx := { s.camyx with late := [] } } := .write _ rfl
  refine (emptied.trans (.foldl (ps := [.camyx, .line, .sw, .ctr, .logs]) (fun u e => ?_) _ _)).mono (by decide)
  cases e with
  | chClear mask => exact (clearMask_changes _).mono (by decide)
  | shed level hold => exact (setLevel_changes ..).mono (by decide)
  | allow cls wh => exact setAllowance_changes ..

end Sys2Proof.Machine
end

section
/-! PROOFS. The power path: what a hand-over, a qualification, a reading of STO, a make and a stop of the supply do to the
block of the power path, and what they may change beside it. -/

namespace Sys2Proof.Machine

variable {s : State}

/-! ### Hand-overs -/

theorem bakDrawn_changes : ChangesOnly [.ctr, .free] s s.bakDrawn := .thenOnly (.write _ rfl)

/-- Nothing is drawn from BAK where it does not carry. -/
theorem bakDrawn_eq_self (h : s.power.path ≠ .onBak) : s.bakDrawn = s := if_neg h

theorem handover_changes (x : Option Source) : ChangesOnly [.power, .ctr, .free] s (s.handover x) :=
  (bakDrawn_changes.trans (.write [.power] (by rfl))).mono (by decide)

theorem handover_power (x : Option Source) :
    (s.handover x).power = { s.power with path := .handover, target := x } := by
  unfold State.handover
  dsimp only
  rw [bakDrawn_changes.power (by decide)]

theorem setQualified_changes (x : Source) (b : Bool) : ChangesOnly [.power] s (s.setQualified x b) := by
  cases x with
  | bus | sto | field | bak => exact .write _ rfl

theorem setQualified_path (x : Source) (b : Bool) : (s.setQualified x b).power.path = s.power.path := by
  cases x with
  | bus | sto | field | bak => rfl

theorem disqualify_changes (x : Source) : ChangesOnly [.power, .ctr, .free] s (s.disqualify x) :=
  .mono (.ite ((setQualified_changes ..).trans (handover_changes _)) (setQualified_changes ..)) (by decide)

/-- Only BAK has its charge counted when it is left. -/
theorem disqualify_changes_of_ne_bak {x : Source} (hx : x ≠ .bak) : ChangesOnly [.power] s (s.disqualify x) := by
  unfold State.disqualify State.downgrade State.handover
  dsimp only
  split
  case isTrue hpath =>
    have hbak : (s.setQualified x false).power.path ≠ .onBak := by
      rw [setQualified_path, hpath]
      cases x with
      | bak => exact absurd rfl hx
      | bus | sto | field => decide
    rw [bakDrawn_eq_self hbak]
    exact ((setQualified_changes ..).trans (.write [.power] rfl)).mono (by decide)
  case isFalse => exact setQualified_changes ..

/-- A disqualification touches path and target of the hand-over, beside the flag of the source. -/
theorem disqualify_power (x : Source) :
    ∃ p y, (s.disqualify x).power = { (s.setQualified x false).power with path := p, target := y } := by
  unfold State.disqualify State.downgrade
  dsimp only
  split
  · exact ⟨_, _, handover_power _⟩
  · exact ⟨_, _, rfl⟩

/-- The source that carries is left at once. -/
theorem disqualify_path {x : Source} (h : s.power.path = pathOf x) : (s.disqualify x).power.path = .handover := by
  unfold State.disqualify State.downgrade
  dsimp only
  rw [if_pos h, handover_power]

theorem upgrade_changes : ChangesOnly [.power, .ctr, .free] s s.upgrade := by
  unfold State.upgrade
  split
  · split
    · exact .elseOnly (handover_changes _)
    · exact .refl s
  · exact .refl s

theorem upgrade_power : ∃ p y, s.upgrade.power = { s.power with path := p, target := y } := by
  unfold State.upgrade
  split
  · split
    · split
      · exact ⟨_, _, rfl⟩
      · exact ⟨_, _, handover_power _⟩
    · exact ⟨_, _, rfl⟩
  · exact ⟨_, _, rfl⟩

/-- Nothing ranks above BUS. -/
theorem upgrade_onBus (h : s.power.path = .onBus) : s.upgrade = s := by
  have hbus : s.carrier = some .bus := by
    unfold State.carrier
    rw [h]
    rfl
  unfold State.upgrade
  rw [hbus]
  rfl

theorem qualify_changes (x : Source) : ChangesOnly [.power, .ctr, .free] s (s.qualify x) :=
  .mono
    (.ite ((setQualified_changes ..).trans (handover_changes _)) ((setQualified_changes ..).trans upgrade_changes))
    (by decide)

/-- A qualification touches path and target of the hand-over, beside the flag of the source. -/
theorem qualify_power (x : Source) :
    ∃ p y, (s.qualify x).power = { (s.setQualified x true).power with path := p, target := y } := by
  unfold State.qualify
  dsimp only
  split
  · exact ⟨_, _, handover_power _⟩
  · exact upgrade_power

/-- While BUS carries, a source that qualifies stands by. -/
theorem qualify_onBus {x : Source} (h : s.power.path = .onBus) : s.qualify x = s.setQualified x true := by
  have hpath : ¬ (s.power.path = .handover ∧ s.power.target = none) := by
    rw [h]
    exact fun k => absurd k.1 (by decide)
  unfold State.qualify
  dsimp only
  rw [if_neg hpath, upgrade_onBus ((setQualified_path ..).trans h)]

theorem loseBus_changes : ChangesOnly [.power, .logs] s s.loseBus :=
  ((clearE_changes _).trans (disqualify_changes_of_ne_bak (by decide))).mono (by decide)

theorem loseBus_power : ∃ p y, s.loseBus.power = { s.power with busQ := false, path := p, target := y } :=
  disqualify_power .bus

theorem loseBus_path (h : s.power.path = .onBus) : s.loseBus.power.path = .handover := disqualify_path h

/-! ### VHOST and the store -/

theorem vhostEval_changes : ChangesOnly [.power] s s.vhostEval := .write _ rfl

theorem vhostEval_power : ∃ on mv, s.vhostEval.power = { s.power with vhostOn := on, vhostMv := mv } := ⟨_, _, rfl⟩

theorem regulate_changes : ChangesOnly [.harvest] s s.regulate := .thenOnly (.write _ rfl)

theorem setSto_changes (mv : Nat) : ChangesOnly [.power, .harvest, .logs] s (s.setSto mv) := by
  have read : ChangesOnly [.power] s { s with power := s.power.readSto mv (s.param P.pwrStoVmaxMv) s.vFull } := .write _ rfl
  exact ((ChangesOnly.ite (read.trans (clearR_changes ..)) read).trans regulate_changes).mono (by decide)

theorem setSto_power (mv : Nat) : (s.setSto mv).power = s.power.readSto mv (s.param P.pwrStoVmaxMv) s.vFull := by
  unfold State.setSto
  dsimp only
  rw [regulate_changes.power (by decide)]
  split
  · exact (clearR_changes ..).power (by decide)
  · rfl

@[simp] theorem setSto_stoMv (mv : Nat) : (s.setSto mv).power.stoMv = mv := by
  rw [setSto_power]
  rfl

/-- A parameter reads what the configuration and the identity say. -/
theorem param_congr {t : State} (hc : t.config = s.config) (hi : t.ident = s.ident) (id : Nat) : t.param id = s.param id := by
  unfold State.param
  rw [hc, hi]

theorem setSto_param (mv id : Nat) : (s.setSto mv).param id = s.param id :=
  param_congr ((setSto_changes mv).same .config (by decide)) ((setSto_changes mv).same .ident (by decide)) id

theorem stoLost_changes (r : Nat) : ChangesOnly [.power, .ledger, .logs] s (s.stoLost r) :=
  ((((raiseOnce_changes ..).trans (disqualify_changes_of_ne_bak (by decide))).trans vhostEval_changes).trans
    evalPins_changes).mono (by decide)

theorem stoLost_power (r : Nat) : ∃ p y on mv,
    (s.stoLost r).power = { s.power with stoQ := false, path := p, target := y, vhostOn := on, vhostMv := mv } := by
  unfold State.stoLost
  rw [evalPins_changes.power (by decide)]
  obtain ⟨on, mv, hv⟩ := vhostEval_power (s := (s.raiseOnce Ev.stoFault r 0).disqualify .sto)
  obtain ⟨p, y, hd⟩ := disqualify_power (s := s.raiseOnce Ev.stoFault r 0) .sto
  refine ⟨p, y, on, mv, ?_⟩
  rw [hv, hd]
  show { (s.raiseOnce Ev.stoFault r 0).power with
    stoQ := false, path := p, target := y, vhostOn := on, vhostMv := mv } = _
  rw [(raiseOnce_changes ..).power (by decide)]

/-! ### The make of a hand-over -/

theorem modeOnMake_changes (x : Source) (h : s.life.st ≠ .plinthStart) :
    ChangesOnly [.mode, .plinth, .config, .harvest, .ledger, .line, .sw, .arm, .ctr, .logs] s (s.modeOnMake x) := by
  unfold State.modeOnMake
  rw [if_neg h]
  cases x with
  | bus => exact toRun_changes
  | field => exact ((toMode_changes _).trans wakeSeq_changes).mono (by decide)
  | sto | bak => exact .thenOnly toRun_changes

/-- A make with its target qualified: the target carries, the dwell starts, and the hand-over is counted once (R65). -/
theorem make_spec {x : Source} (hst : s.life.st ≠ .plinthStart) (hq : s.qualified x = true) : ∃ on mv,
    (s.make x).power = { s.power with
      path := pathOf x, target := none, dwell := true, dwellMs := s.param P.pwrDwellMs, vhostOn := on, vhostMv := mv } ∧
    (s.make x).ctr.hoCount = wrapAdd 32 s.ctr.hoCount 1 := by
  unfold State.make
  extract_lets power ctr life s1 s2 s3
  obtain ⟨on, mv, hv⟩ := vhostEval_power (s := s1.modeOnMake x)
  have entered := modeOnMake_changes (s := s1) x hst
  have served : ChangesOnly [.ledger, .nfc, .ctr, .logs] (s1.modeOnMake x).vhostEval s2 := nfcAfterMake_changes x
  have resumed : ChangesOnly [.camyx, .ledger, .line, .sw, .nfc, .tab, .sec, .ctr, .nvm, .life, .logs] s2 s3 :=
    .thenOnly ((((applyLate_changes.trans regrant_changes).trans resumeOps_changes).trans evalPins_changes).mono (by decide))
  have rest := (served.trans resumed).trans tb8Eval_changes
  have hpower : s3.tb8Eval.power = { s.power with
      path := pathOf x, target := none, dwell := true, dwellMs := s.param P.pwrDwellMs, vhostOn := on, vhostMv := mv } := by
    rw [rest.power (by decide), hv, entered.power (by decide)]
  have hstill : s3.tb8Eval.qualified x = true := by
    rw [← hq]
    cases x with
    | bus | sto | field | bak => simp only [State.qualified, hpower]
  rw [show s3.tb8Eval.recheck x = s3.tb8Eval from if_pos hstill]
  exact ⟨on, mv, hpower, ((entered.trans vhostEval_changes).trans rest).hoCount (by decide)⟩

/-! ### The end of the supply -/

theorem rollBack_changes (device : Bool) (o : Op) : ChangesOnly [.config, .sec, .life] s (s.rollBack device o) := by
  unfold State.rollBack
  split
  · exact .thenOnly ((ChangesOnly.write [.config] (by rfl)).mono (by decide))
  · exact .thenOnly ((ChangesOnly.write [.sec] (by rfl)).mono (by decide))
  · exact .thenOnly ((ChangesOnly.write [.sec] (by rfl)).mono (by decide))
  · exact .thenOnly ((ChangesOnly.write [.sec] (by rfl)).mono (by decide))
  · exact .elseOnly ((ChangesOnly.write [.life] (by rfl)).mono (by decide))
  · exact .refl s

theorem dropPorts_changes (device : Bool) :
    ChangesOnly [.config, .sec, .life, .camyx, .ledger, .nfc, .logs] s (s.dropPorts device) := by
  unfold State.dropPorts
  extract_lets s1 s2 camyx
  have rolled : ChangesOnly [.config, .sec, .life] s s1 := .foldl (fun _ _ => rollBack_changes ..) _ _
  have ended : ChangesOnly [.camyx, .ledger, .nfc, .logs] s1 s2 := .foldl (fun _ _ => endSession_changes ..) _ _
  exact (((rolled.trans ended).trans (.write [.camyx] rfl)).trans (clearE_changes _)).mono (by decide)

theorem resetClears_changes : ChangesOnly [.logs] s s.resetClears := by
  unfold State.resetClears
  exact .foldl (fun u src => clearE_changes src) _ s

theorem devReset_changes (cause : Nat) :
    ChangesOnly [.config, .sec, .life, .camyx, .ledger, .nfc, .logs, .plinth, .harvest, .arm, .sw, .line, .tab] s
      (s.devReset cause) := by
  unfold State.devReset
  extract_lets s1
  have ended : ChangesOnly [.config, .sec, .life, .camyx, .ledger, .nfc, .logs] s s1 :=
    ((dropPorts_changes true).trans resetClears_changes).mono (by decide)
  clear_value s1
  exact ((ended.trans (.write [.plinth, .config, .ledger, .harvest, .nfc, .arm, .sw, .line, .tab] rfl)).trans
    tb8Eval_changes).mono (by decide)

theorem supplyOff_mode (p : Path) (m : Mode) : (s.supplyOff p m).plinth.mode = m := by
  unfold State.supplyOff State.pinsLow
  dsimp only
  rw [(drivePins_changes ..).mode (by decide), (devReset_changes _).mode (by decide), toMode_mode]

/-! ### The shutdown -/

theorem stopOne_changes (r why : Nat) (track : Bool) : ChangesOnly [.arm] s (s.stopOne r why track) :=
  .thenOnly (onRail_changes ..)

theorem softStop_changes (r why : Nat) : ChangesOnly [.arm] s (s.softStop r why) :=
  .mono (.ite ((stopOne_changes ..).trans (stopOne_changes ..)) (stopOne_changes ..)) (by decide)

theorem leaveFault_changes (r : Nat) : ChangesOnly [.logs] s (s.leaveFault r) :=
  ((((clearE_changes _).trans (clearE_changes _)).trans (clearIf_changes ..)).trans (clearE_changes _)).mono (by decide)

theorem toIdle_changes (r : Nat) : ChangesOnly [.arm, .plinth, .logs] s (s.toIdle r) :=
  .thenOnly ((((leaveFault_changes _).trans (onRail_changes ..)).trans pllEval_changes).mono (by decide))

theorem shutAnswers_changes : ChangesOnly [.camyx, .ledger, .nfc, .tab, .logs] s s.shutAnswers :=
  .foldl (fun _ _ => .elseOnly (((cancelOp_changes _).trans (finish_changes ..)).mono (by decide))) _ _

/-- A shutdown that begins stands in its step 1 with nothing of it done, and leaves the power path as it is. -/
theorem shutdownBegin_spec :
    s.shutdownBegin.life.st = .shut1 ∧ s.shutdownBegin.life.step = 0 ∧ s.shutdownBegin.power = s.power := by
  unfold State.shutdownBegin
  extract_lets up inRestart retry camyx life s1
  have stopped : ∀ (l : List Nat) u, ChangesOnly [.arm, .plinth, .logs] u (l.foldl
      (fun (s : State) r => ((s.onRail r fun x => { x with autoPend := false }).softStop r 0).toIdle r) u) :=
    fun l u => .foldl
      (fun v r => (((onRail_changes ..).trans (softStop_changes ..)).trans (toIdle_changes _)).mono (by decide)) l u
  have rest := (shutAnswers_changes (s := s1)).trans (stopped (List.range 2) _)
  rw [rest.life (by decide), rest.power (by decide)]
  exact ⟨rfl, rfl, rfl⟩

end Sys2Proof.Machine
end

section
/-! PROOFS. The bus input: the refutation of the statement on the thresholds of VBUS. -/

namespace Sys2Proof.Machine

/-- A node that BUS carries, in DOZE while VBUS stands above BUS_OV, which has stopped rail A with VIN_OV (R335). -/
def dozingUnderBusOv : State :=
  { State.reset with
    plinth := { State.reset.plinth with mode := .doze, seq := .running, rc48 := true }
    power :=
      { State.reset.power with path := .onBus, busQ := true, busUv := false, busFull := true, busOv := true, vbusMv := 62000 }
    arm :=
      { State.reset.arm with
        vdrvOk := true, vdrvDv := 100
        rail := upd State.reset.arm.rail 0 fun x => { x with st := .faulted, reason := 2 } }
    life := { State.reset.life with st := .running, prev := .running, carried := true } }

/-- The power mode of the next state that an outcome answers. -/
def modeAfter : Host.Outcome State Fault Refusal → Option Mode
  | .next t => some t.plinth.mode
  | _ => none

/-- The rail starts again as VBUS falls below BUS_OV, and a start is a RUN condition (R138). -/
theorem busOvFall_wakes_dozing : modeAfter (exec (.busOvFall 60000) dozingUnderBusOv) = some .run := by
  decide +kernel

/-- Refutes O1: its clause on BUS_OV_FALL lets the power path, the Armature, the counters and the channels change, but not
the Plinth. A rail that BUS_OV stopped in a node now in DOZE restarts at the falling crossing (R335), which takes the node
to RUN (R137, R138). -/
theorem not_busThresholdsAct : ¬ Obligations.BusThresholdsAct := by
  unfold Obligations.BusThresholdsAct
  intro h
  obtain ⟨-, -, -, -, -, ⟨t, ht, -, hframe⟩, -⟩ := h dozingUnderBusOv 60000 rfl
  have hrun : t.plinth.mode = .run := by
    have hm := busOvFall_wakes_dozing
    rw [ht] at hm
    exact Option.some.inj hm
  have hdoze : t.plinth.mode = .doze := by rw [hframe]; rfl
  exact absurd (hrun.symm.trans hdoze) (by decide)

end Sys2Proof.Machine
end

section
/-! PROOFS. The faults of the bus: one lemma per clause, and the statement on them. -/

namespace Sys2Proof.Machine

/-! ### The loss of the bus -/

theorem mayShut_congr {s t : State} (hlife : t.life = s.life) (hplinth : t.plinth = s.plinth) : t.mayShut = s.mayShut := by
  unfold State.mayShut
  rw [hlife, hplinth]

/-- Only a node that the bus has carried shuts down for want of it (R473). -/
theorem carried_of_mayShut {s : State} (h : s.mayShut = true) : s.life.carried = true := by
  unfold State.mayShut at h
  simp only [Bool.and_eq_true] at h
  exact h.1.1.1.1

theorem busLost_acts {s : State} (hon : s.plinthOn = true) (hbus : s.power.busQ = false) (hcount : s.power.lossCount = true)
    (hshut : s.mayShut = true) :
    ∃ t, exec .busLost s = .next t ∧ t.life.st = .shut1 ∧ t.life.step = 0 ∧ t.power.lossCount = false := by
  let u : State := { s with power := { s.power with lossCount := false } }
  have raised : ChangesOnly [.logs] u (u.raiseOnce Ev.busLost 0 0) := raiseOnce_changes ..
  have hmay : (u.raiseOnce Ev.busLost 0 0).mayShut = true :=
    (mayShut_congr (raised.life (by decide)) (raised.same .plinth (by decide))).trans hshut
  have hcounts : ¬ (!s.plinthOn || s.power.busQ || !s.power.lossCount || !s.life.carried) = true := by
    simp [hon, hbus, hcount, carried_of_mayShut hshut]
  have hexec : exec .busLost s = .next (u.raiseOnce Ev.busLost 0 0).toRun.shutdownBegin :=
    (congrArg Host.Outcome.next (if_neg hcounts)).trans (congrArg Host.Outcome.next (if_pos hmay))
  obtain ⟨hst, hstep, hpower⟩ := shutdownBegin_spec (s := (u.raiseOnce Ev.busLost 0 0).toRun)
  refine ⟨_, hexec, hst, hstep, ?_⟩
  rw [hpower, (raised.trans toRun_changes).power (by decide)]

/-! ### A fault that disqualifies BUS -/

/-- A fault of the bus is written into the power path and raised, and BUS is disqualified (R59): what that leaves. -/
theorem busFault_acts (s : State) (p : Power) (src : Src) :
    let t := (({ s with power := p }.raiseOnce src 0 0).loseBus).tb8Eval
    (∃ x y, t.power = { p with busQ := false, path := x, target := y }) ∧
      (p.path = .onBus → t.power.path = .handover) ∧
      t = { s.withLogs t with plinth := t.plinth, power := t.power, arm := t.arm } := by
  intro t
  have raised : ChangesOnly [.logs] { s with power := p } ({ s with power := p }.raiseOnce src 0 0) := raiseOnce_changes ..
  have hpower : t.power = ({ s with power := p }.raiseOnce src 0 0).loseBus.power := tb8Eval_changes.power (by decide)
  have hchanges : ChangesOnly [.power, .plinth, .arm, .logs] s t :=
    ((((ChangesOnly.write [.power] rfl).trans raised).trans loseBus_changes).trans tb8Eval_changes).mono (by decide)
  refine ⟨?_, fun hpath => ?_, hchanges.frame_bus⟩
  · obtain ⟨x, y, hlost⟩ := loseBus_power (s := { s with power := p }.raiseOnce src 0 0)
    refine ⟨x, y, ?_⟩
    rw [hpower, hlost, raised.power (by decide)]
  · rw [hpower]
    exact loseBus_path ((congrArg Power.path (raised.power (by decide))).trans hpath)

/-- VREG10 is off under reverse bus (R70). -/
theorem vreg10Mv_of_busRev {s : State} (h : s.power.busRev = true) : s.vreg10Mv = 0 := by
  simp [State.vreg10Mv, h]

theorem pad_vreg10 (s : State) : s.pad .vreg10 = .volts s.vreg10Mv := rfl

theorem busReverse_acts (s : State) (v : Int) (hon : s.plinthOn = true) :
    ∃ t, exec (.busReverse v) s = .next t ∧ t.power.busRev = true ∧ t.power.vbusMv = v ∧ t.power.busQ = false ∧
      t.pad .vreg10 = .volts 0 ∧ (s.power.path = .onBus → t.power.path = .handover) ∧
      t = { s.withLogs t with plinth := t.plinth, power := t.power, arm := t.arm } := by
  let p : Power := { s.power with vbusMv := v, busRev := true }
  have hexec : exec (.busReverse v) s = .next (({ s with power := p }.raiseOnce Ev.busReverse 0 0).loseBus).tb8Eval :=
    congrArg Host.Outcome.next (if_pos hon)
  obtain ⟨⟨x, y, hpower⟩, hpath, hframe⟩ := busFault_acts s p Ev.busReverse
  refine ⟨_, hexec, ?_, ?_, ?_, ?_, hpath, hframe⟩
  · rw [hpower]
  · rw [hpower]
  · rw [hpower]
  · rw [pad_vreg10, vreg10Mv_of_busRev (by rw [hpower])]
    rfl

theorem gndOpen_acts (s : State) (hon : s.plinthOn = true) :
    ∃ t, exec .gndOpen s = .next t ∧ t.power.gndOpen = true ∧ t.power.busQ = false ∧
      (s.power.path = .onBus → t.power.path = .handover) ∧
      t = { s.withLogs t with plinth := t.plinth, power := t.power, arm := t.arm } := by
  let p : Power := { s.power with gndOpen := true }
  have hexec : exec .gndOpen s = .next (({ s with power := p }.raiseOnce Ev.gndOpen 0 0).loseBus).tb8Eval :=
    congrArg Host.Outcome.next (if_pos hon)
  obtain ⟨⟨x, y, hpower⟩, hpath, hframe⟩ := busFault_acts s p Ev.gndOpen
  refine ⟨_, hexec, ?_, ?_, hpath, hframe⟩
  · rw [hpower]
  · rw [hpower]

/-! ### The ends of the faults -/

theorem onChan_defWrites (s : State) (c : Nat) (f : Chan → Chan) : (s.onChan c f).sw.defWrites = s.sw.defWrites := by
  unfold State.onChan
  rfl

theorem latch_defWrites (s : State) (c : Nat) (b : Bool) : (s.latch c b).sw.defWrites = s.sw.defWrites := by
  unfold State.latch
  exact List.foldlRecOn (motive := fun u : State => u.sw.defWrites = s.sw.defWrites) _ _ rfl
    fun u hu j _ => (onChan_defWrites u j _).trans hu

theorem openWindow_defWrites (s : State) (c : Nat) : (s.openWindow c).sw.defWrites = s.sw.defWrites := by
  unfold State.openWindow
  exact onChan_defWrites ..

/-- With the ground closed a latch write is made, not recorded (R302). -/
theorem refresh_defWrites {s : State} (h : s.power.gndOpen = false) (c : Nat) (fresh : Bool) :
    (s.refresh c fresh).sw.defWrites = s.sw.defWrites := by
  have hclosed : ¬ s.power.gndOpen = true := by simp [h]
  unfold State.refresh
  dsimp only
  rw [if_neg hclosed]
  split
  · rfl
  · split
    · rw [openWindow_defWrites, latch_defWrites]
    · rw [latch_defWrites]

/-- The latch writes recorded, made in order. -/
theorem refreshes_changes (s : State) (l : List (Nat × Bool)) :
    ChangesOnly [.sw] s (l.foldl (fun (u : State) w => u.refresh w.1 w.2) s) :=
  .foldl (fun _ _ => refresh_changes ..) l s

theorem refreshes_defWrites {s : State} (h : s.power.gndOpen = false) (l : List (Nat × Bool)) :
    (l.foldl (fun (u : State) w => u.refresh w.1 w.2) s).sw.defWrites = s.sw.defWrites := by
  induction l generalizing s with
  | nil => rfl
  | cons w l ih =>
    have hopen : (s.refresh w.1 w.2).power.gndOpen = false := by
      rw [(refresh_changes ..).power (by decide)]
      exact h
    exact (ih hopen).trans (refresh_defWrites h ..)

/-- The latch writes that GND_OPEN deferred are made once it ends (R71, R302). -/
theorem gndOpenClear_acts (s : State) : ∃ t, exec .gndOpenClear s = .next t ∧
    t.power = { s.power with gndOpen := false } ∧ t.sw.defWrites = [] ∧
    t = { s.withLogs t with power := t.power, sw := t.sw } := by
  let u : State := { s with power := { s.power with gndOpen := false }, sw := { s.sw with defWrites := [] } }
  let t : State := s.sw.defWrites.foldl (fun (u : State) w => u.refresh w.1 w.2) (u.clearE Ev.gndOpen)
  have hexec : exec .gndOpenClear s = .next t := rfl
  have made : ChangesOnly [.logs, .sw] u t := (clearE_changes _).trans (refreshes_changes ..)
  have hnone : t.sw.defWrites = [] := refreshes_defWrites (s := u.clearE Ev.gndOpen) rfl _
  have hchanges : ChangesOnly [.power, .sw, .logs] s t :=
    ((ChangesOnly.write [.power, .sw] rfl).trans made).mono (by decide)
  exact ⟨t, hexec, made.power (by decide), hnone, hchanges.frame_power_sw⟩

theorem dumpEnd_power (s : State) : s.dumpEnd.power = { s.power with busDump := false } :=
  (dumpEnd_changes_after (s := s)).power (by decide)

theorem busDumpFall_acts (s : State) {v : Int} (hv : v < 64000) : ∃ t, exec (.busDumpFall v) s = .next t ∧
    t.power = { s.power with vbusMv := v, busDump := false } ∧ t = { s.withLogs t with power := t.power, sw := t.sw } := by
  have hchanges : ChangesOnly [.power, .sw, .logs] s { s with power := { s.power with vbusMv := v } }.dumpEnd :=
    ((ChangesOnly.write [.power] rfl).trans dumpEnd_changes).mono (by decide)
  exact ⟨_, congrArg Host.Outcome.next (if_pos hv), dumpEnd_power _, hchanges.frame_power_sw⟩

/-- Reverse ends: every die loses what its latches held, and the channels that want their output back raise LSW_RT (R300). -/
theorem busReverseRelease_acts (s : State) {v : Int} (hv : -1000 < v) : ∃ t, exec (.busReverseRelease v) s = .next t ∧
    t.power = { s.power with vbusMv := v, busRev := false } ∧ t = { s.withLogs t with power := t.power, sw := t.sw } := by
  let u : State := { { s with power := { s.power with vbusMv := v } }.reverseHold v with
    power := { s.power with vbusMv := v, busRev := false } }
  have dies : ∀ (l : List Nat), ChangesOnly [.sw, .logs] (u.clearE Ev.busReverse)
      (l.foldl (fun (s : State) d => s.dieDown d) (u.clearE Ev.busReverse)) :=
    fun l => .foldl (fun _ _ => dieDown_changes _) l _
  have raised : ∀ (l : List Nat) x, ChangesOnly [.logs] x
      (l.foldl (fun (s : State) c => if (s.chan c).demand = .off then s else s.raiseP (Ev.lswRt c) 6 0) x) :=
    fun l x => .foldl (fun _ _ => .elseOnly (raiseP_changes ..)) l x
  have after := ((clearE_changes (s := u) Ev.busReverse).trans (dies (List.range 4))).trans (raised (List.range s.chans) _)
  have hchanges := ((ChangesOnly.write (s := s) (t := u) [.power, .sw] rfl).trans after).mono
    (qs := [.power, .sw, .logs]) (by decide)
  exact ⟨_, congrArg Host.Outcome.next (if_neg (by omega)), after.power (by decide), hchanges.frame_power_sw⟩

/-- Settles O2: each fault and each end of one by its own lemma above; a reversal that stands only writes the reading and
what the dies hold. -/
theorem busFaultsDisqualify : Obligations.BusFaultsDisqualify := by
  unfold Obligations.BusFaultsDisqualify
  intro s v hon
  exact ⟨busLost_acts hon, busReverse_acts s v hon, gndOpen_acts s hon, gndOpenClear_acts s, busDumpFall_acts s,
    fun _ _ => ⟨_, rfl, rfl, rfl⟩, busReverseRelease_acts s⟩

end Sys2Proof.Machine
end

section
/-! PROOFS. Sources and their hand-overs: one lemma per clause, and the statement on them. -/

namespace Sys2Proof.Machine

theorem handoverMake_acts (s : State) (x : Source) (hst : s.life.st ≠ .plinthStart) (hpath : s.power.path = .handover)
    (htarget : s.power.target = some x) (hq : s.qualified x = true) :
    ∃ t, exec .handoverMake s = .next t ∧ t.power.path = pathOf x ∧ t.power.target = none ∧ t.power.dwell = true ∧
      t.ctr.hoCount = wrapAdd 32 s.ctr.hoCount 1 := by
  have hexec : exec .handoverMake s = .next (s.make x) := by
    show execHandoverMake s = _
    simp only [execHandoverMake, htarget, hpath, if_true]
  obtain ⟨on, mv, hpower, hcount⟩ := make_spec hst hq
  refine ⟨_, hexec, ?_, ?_, ?_, hcount⟩
  · rw [hpower]
  · rw [hpower]
  · rw [hpower]

/-- From STO the dwell's end hands over to a bus that is qualified (R62). -/
theorem dwellExpiry_acts (s : State) (hpath : s.power.path = .onSto) (hbus : s.power.busQ = true)
    (hdwell : s.power.dwellMs = 0) :
    exec .dwellExpiry s = .next
      { s with power := { s.power with dwell := false, path := .handover, target := some .bus } } := by
  let u : State := { s with power := { s.power with dwell := false } }
  have hcarrier : u.carrier = some .sto := by simp [State.carrier, ranked, pathOf, u, hpath]
  have hbest : (ranked.takeWhile fun y => y != .sto).find? u.qualified = some .bus := by
    simp [ranked, State.qualified, u, hbus]
  have hup : u.upgrade = u.handover (some .bus) := by
    unfold State.upgrade
    simp only [hcarrier, hbest]
    rfl
  calc exec .dwellExpiry s = .next u.upgrade := congrArg Host.Outcome.next (if_pos hdwell)
    _ = .next (u.handover (some .bus)) := by rw [hup]
    _ = _ := by
      unfold State.handover
      rw [bakDrawn_eq_self (s := u) (by simp [u, hpath])]

/-- A collapse on STO leaves it for the best source that is left, here the field (R62, R63). -/
theorem vselCollapse_acts (s : State) (hpath : s.power.path = .onSto) (hbus : s.power.busQ = false)
    (hfield : s.power.fieldQ = true) :
    exec .vselCollapseAfterMake s = .next
      { s with power := { s.power with stoQ := false, path := .handover, target := some .field } } := by
  let u : State := s.setQualified .sto false
  have hcarrier : s.carrier = some .sto := by simp [State.carrier, ranked, pathOf, hpath]
  have hbest : (ranked.find? fun y => y != .sto && u.qualified y) = some .field := by
    simp [ranked, State.qualified, State.setQualified, u, hbus, hfield]
  have hleft : s.disqualify .sto = u.handover (some .field) := by
    unfold State.disqualify State.downgrade
    dsimp only
    rw [if_pos (show s.power.path = pathOf .sto from hpath), hbest]
  calc exec .vselCollapseAfterMake s = .next (s.disqualify .sto) := by
        show execVselCollapseAfterMake s = _
        simp only [execVselCollapseAfterMake, hcarrier]
    _ = .next (u.handover (some .field)) := by rw [hleft]
    _ = _ := by
      unfold State.handover
      rw [bakDrawn_eq_self (s := u) (by simp [u, State.setQualified, hpath])]
      rfl

/-- Under BUS, STO qualifies 100 mV above its floor and stands by (R59, Table 2.6). -/
theorem stoQualify_acts (s : State) (mv : Nat) (hpath : s.power.path = .onBus)
    (hsto : s.power.stoQ = false) (hshort : s.power.fShort = false) (hopen : s.power.fOpen = false)
    (hmv : s.param P.pwrStoFloorMv + 100 ≤ mv) :
    ∃ t, exec (.stoQualify mv) s = .next t ∧ t.power.stoQ = true ∧ t.power.stoMv = mv ∧ t.power.path = .onBus ∧
      t = { s.withLogs t with power := t.power, harvest := t.harvest } := by
  have hread : (s.setSto mv).power.path = .onBus := by
    rw [setSto_power]
    exact hpath
  have hready : ((s.setSto mv).plinthOn && !(s.setSto mv).power.stoQ && (s.setSto mv).stoReady) = true := by
    simp [State.plinthOn, State.stoReady, State.busCarries, setSto_power, setSto_param, Power.readSto, hpath, hsto, hshort,
      hopen, hmv]
  have hexec : exec (.stoQualify mv) s = .next ((s.setSto mv).setQualified .sto true) :=
    (congrArg Host.Outcome.next (if_pos hready)).trans (congrArg Host.Outcome.next (qualify_onBus hread))
  have hchanges : ChangesOnly [.power, .harvest, .logs] s ((s.setSto mv).setQualified .sto true) :=
    ((setSto_changes mv).trans (setQualified_changes ..)).mono (by decide)
  exact ⟨_, hexec, rfl, setSto_stoMv mv, hread, hchanges.frame_power_harvest⟩

theorem stoDisqualify_acts (s : State) (hon : s.plinthOn = true) (mv : Nat) (hsusp : s.power.floorSusp = false)
    (hmv : mv < s.param P.pwrStoFloorMv) :
    ∃ t, exec (.stoDisqualify mv) s = .next t ∧ t.power.stoQ = false ∧ t.power.stoMv = mv ∧
      (s.power.path = .onSto → t.power.path = .handover) ∧
      t = { s.withLogs t with power := t.power, harvest := t.harvest } := by
  have hpath : (s.setSto mv).power.path = s.power.path := by
    rw [setSto_power]
    rfl
  have hlow : ((s.setSto mv).plinthOn && !(s.setSto mv).power.floorSusp &&
      decide (mv < (s.setSto mv).param P.pwrStoFloorMv)) = true := by
    have hon' : (s.setSto mv).plinthOn = true := by
      unfold State.plinthOn
      rw [hpath]
      exact hon
    simp [hon', setSto_param, setSto_power, Power.readSto, hsusp, hmv]
  have hexec : exec (.stoDisqualify mv) s = .next ((s.setSto mv).disqualify .sto).vhostEval :=
    congrArg Host.Outcome.next (if_pos hlow)
  have hchanges : ChangesOnly [.power, .harvest, .logs] s ((s.setSto mv).disqualify .sto).vhostEval :=
    (((setSto_changes mv).trans (disqualify_changes_of_ne_bak (by decide))).trans vhostEval_changes).mono (by decide)
  obtain ⟨p, y, hdis⟩ := disqualify_power (s := s.setSto mv) .sto
  obtain ⟨on, v, hv⟩ := vhostEval_power (s := (s.setSto mv).disqualify .sto)
  refine ⟨_, hexec, ?_, ?_, fun hsto => ?_, hchanges.frame_power_harvest⟩
  · rw [hv, hdis]
    rfl
  · rw [hv, hdis]
    exact setSto_stoMv mv
  · rw [hv]
    exact disqualify_path (hpath.trans hsto)

theorem fieldQualify_acts (s : State) (hon : s.plinthOn = true) :
    ∃ t, exec .fieldQualify s = .next t ∧ t.power.fieldQ = true ∧ 2200 ≤ t.power.fieldMv := by
  let u : State := { s with power := { s.power with fieldMv := max s.power.fieldMv 2200 } }
  let w : State := if ((u.qualify .field).plinth.mode = .plinth ∨ (u.qualify .field).plinth.mode = .doze) ∧
      (u.qualify .field).power.path ≠ .handover ∧ (u.qualify .field).life.st ≠ .plinthStart
    then (u.qualify .field).toRun else u.qualify .field
  have hoff : ¬ (!s.plinthOn) = true := by simp [hon]
  have hexec : exec .fieldQualify s = .next w := congrArg Host.Outcome.next (if_neg hoff)
  have woken : ChangesOnly [.mode, .plinth, .config, .harvest, .ledger, .line, .sw, .arm, .ctr, .logs] (u.qualify .field) w :=
    .thenOnly toRun_changes
  obtain ⟨p, y, hq⟩ := qualify_power (s := u) .field
  refine ⟨w, hexec, ?_, ?_⟩
  · rw [woken.power (by decide), hq]
    rfl
  · rw [woken.power (by decide), hq]
    exact Nat.le_max_right ..

theorem fieldDisqualify_acts (s : State) (hon : s.plinthOn = true) :
    ∃ t, exec .fieldDisqualify s = .next t ∧ t.power.fieldQ = false ∧ t.power.fieldMv ≤ 1900 ∧
      t.harvest = { s.harvest with nfc := false, nfcUw := 0 } ∧ t = { s with power := t.power, harvest := t.harvest } := by
  let u : State := { s with
    power := { s.power with fieldMv := min s.power.fieldMv 1900 }, harvest := { s.harvest with nfc := false, nfcUw := 0 } }
  have lost : ChangesOnly [.power] u (u.disqualify .field) := disqualify_changes_of_ne_bak (by decide)
  have hchanges : ChangesOnly [.power, .harvest] s (u.disqualify .field) :=
    ((ChangesOnly.write [.power, .harvest] rfl).trans lost).mono (by decide)
  obtain ⟨p, y, hdis⟩ := disqualify_power (s := u) .field
  refine ⟨_, congrArg Host.Outcome.next (if_pos hon), ?_, ?_, lost.same .harvest (by decide), hchanges.frame_field⟩
  · rw [hdis]
    rfl
  · rw [hdis]
    exact Nat.min_le_right ..

theorem bakQualifyChange_acts (s : State) (hon : s.plinthOn = true) (mv : Int) :
    ∃ t, exec (.bakQualifyChange mv) s = .next t ∧ t.power.bakMv = mv ∧
      t.power.bakQ = (s.isOn P.pwrBakEn && decide (2200 ≤ mv)) ∧
      t = { s with power := t.power, ctr := t.ctr, free := t.free } := by
  let u : State := { s with power := { s.power with bakMv := mv } }
  let want : Bool := s.isOn P.pwrBakEn && decide (2200 ≤ mv)
  have read : ChangesOnly [.power] s u := .write _ rfl
  have hexec : exec (.bakQualifyChange mv) s =
      .next (if want == s.power.bakQ then u else if want then u.qualify .bak else u.disqualify .bak) := by
    show execBakQualifyChange mv s = _
    simp only [execBakQualifyChange, hon, Bool.not_true, Bool.false_or, want, u]
  by_cases hsame : want = s.power.bakQ
  · rw [if_pos (beq_iff_eq.2 hsame)] at hexec
    exact ⟨u, hexec, rfl, hsame.symm, rfl⟩
  · rw [if_neg (by simpa using hsame)] at hexec
    cases hwant : want with
    | true =>
      rw [if_pos hwant] at hexec
      obtain ⟨p, y, hq⟩ := qualify_power (s := u) .bak
      refine ⟨_, hexec, ?_, ?_, ((read.trans (qualify_changes _)).mono (by decide)).frame_bak⟩
      · rw [hq]
        rfl
      · rw [hq]
        exact hwant.symm
    | false =>
      rw [if_neg (by simp [hwant])] at hexec
      obtain ⟨p, y, hdis⟩ := disqualify_power (s := u) .bak
      refine ⟨_, hexec, ?_, ?_, ((read.trans (disqualify_changes _)).mono (by decide)).frame_bak⟩
      · rw [hdis]
        rfl
      · rw [hdis]
        exact hwant.symm

/-- Settles O3: each command by its own lemma above. -/
theorem sourcesHandOver : Obligations.SourcesHandOver := by
  unfold Obligations.SourcesHandOver
  intro s hon
  exact ⟨handoverMake_acts s, dwellExpiry_acts s, vselCollapse_acts s, stoQualify_acts s, stoDisqualify_acts s hon,
    fieldQualify_acts s hon, fieldDisqualify_acts s hon, bakQualifyChange_acts s hon⟩

end Sys2Proof.Machine
end

section
/-! PROOFS. The store, the backup cell, VHOST and the end of the Plinth's supply: one lemma per clause, and the
statements on them. -/

namespace Sys2Proof.Machine

/-! ### The faults of the store -/

/-- A fault of R72 that the reading shows, and which disqualifies STO. -/
theorem stoLost_acts (s : State) (mv r : Nat) (f : Power → Power) :
    let t := { s.setSto mv with power := f (s.setSto mv).power }.stoLost r
    (∃ p y on v, t.power =
      { f (s.setSto mv).power with stoQ := false, path := p, target := y, vhostOn := on, vhostMv := v }) ∧
    t = { s.withLogs t with power := t.power, harvest := t.harvest, ledger := t.ledger } := by
  intro t
  have hchanges : ChangesOnly [.power, .harvest, .ledger, .logs] s t :=
    (((setSto_changes mv).trans (.write [.power] rfl)).trans (stoLost_changes r)).mono (by decide)
  exact ⟨stoLost_power r, hchanges.frame_store⟩

theorem stoShortDetect_acts (s : State) (mv : Nat) (hlong : 600000 ≤ s.power.shortMs) (hlow : mv < 200) :
    ∃ t, exec (.stoShortDetect mv) s = .next t ∧ t.power.fShort = true ∧ t.power.stoMv = mv ∧ t.power.stoQ = false ∧
      t = { s.withLogs t with power := t.power, harvest := t.harvest, ledger := t.ledger } := by
  have hshort : (s.setSto mv).power.shortMs = s.power.shortMs := by
    rw [setSto_power]
    exact if_neg (by omega)
  obtain ⟨⟨p, y, on, v, hpower⟩, hframe⟩ := stoLost_acts s mv 1 fun x => { x with fShort := true }
  refine ⟨_, congrArg Host.Outcome.next (if_pos ⟨hshort.symm ▸ hlong, hlow⟩), ?_, ?_, ?_, hframe⟩
  · rw [hpower]
  · rw [hpower, setSto_stoMv]
  · rw [hpower]

theorem stoOpenDetect_acts (s : State) (mv : Nat) :
    ∃ t, exec (.stoOpenDetect mv) s = .next t ∧ t.power.fOpen = true ∧ t.power.stoMv = mv ∧ t.power.stoQ = false ∧
      t = { s.withLogs t with power := t.power, harvest := t.harvest, ledger := t.ledger } := by
  obtain ⟨⟨p, y, on, v, hpower⟩, hframe⟩ := stoLost_acts s mv 2 fun x => { x with fOpen := true }
  refine ⟨_, rfl, ?_, ?_, ?_, hframe⟩
  · rw [hpower]
  · rw [hpower, setSto_stoMv]
  · rw [hpower]

theorem stoShortRetry_acts (s : State) (mv : Nat) (hshort : s.power.fShort = true) (hhigh : 500 < mv) :
    ∃ t, exec (.stoShortRetry mv) s = .next t ∧ t.power.fShort = false ∧ t.power.stoMv = mv ∧
      t = { s.withLogs t with power := t.power, harvest := t.harvest, ledger := t.ledger } := by
  let u : State := { s.setSto mv with power := { (s.setSto mv).power with fShort := false } }
  have cleared : ChangesOnly [.ledger, .logs] u (u.clearR Ev.stoFault 1).evalLedger :=
    ((clearR_changes ..).trans evalLedger_changes).mono (by decide)
  have hchanges : ChangesOnly [.power, .harvest, .ledger, .logs] s (u.clearR Ev.stoFault 1).evalLedger :=
    (((setSto_changes mv).trans (.write [.power] rfl)).trans cleared).mono (by decide)
  have hexec : exec (.stoShortRetry mv) s = .next (u.clearR Ev.stoFault 1).evalLedger :=
    congrArg Host.Outcome.next (if_pos ⟨hshort, hhigh⟩)
  refine ⟨_, hexec, ?_, ?_, hchanges.frame_store⟩
  · rw [cleared.power (by decide)]
  · rw [cleared.power (by decide)]
    exact setSto_stoMv mv

/-- A limit of a cell that only raises STO_FAULT: overvoltage and the end of a pre-charge (R72). -/
theorem stoFault_acts (s : State) (mv r : Nat) (f : Power → Power) :
    let t := { s.setSto mv with power := f (s.setSto mv).power }.raiseOnce Ev.stoFault r 0
    t.power = f (s.setSto mv).power ∧ t = { s.withLogs t with power := t.power, harvest := t.harvest } := by
  intro t
  have hchanges : ChangesOnly [.power, .harvest, .logs] s t :=
    (((setSto_changes mv).trans (.write [.power] rfl)).trans (raiseOnce_changes ..)).mono (by decide)
  exact ⟨(raiseOnce_changes ..).power (by decide), hchanges.frame_power_harvest⟩

theorem stoOvervoltage_acts (s : State) (mv : Nat) (h : s.param P.pwrStoVmaxMv + 200 < mv) :
    ∃ t, exec (.stoOvervoltage mv) s = .next t ∧ t.power.fOv = true ∧ t.power.stoMv = mv ∧
      t = { s.withLogs t with power := t.power, harvest := t.harvest } := by
  obtain ⟨hpower, hframe⟩ := stoFault_acts s mv 5 fun x => { x with fOv := true }
  refine ⟨_, congrArg Host.Outcome.next (if_pos h), ?_, ?_, hframe⟩
  · rw [hpower]
  · rw [hpower, setSto_stoMv]

theorem prechargeTimeout_acts (s : State) (mv : Nat) (h : mv < prechargeMv s.ident.sto) :
    ∃ t, exec (.prechargeTimeout mv) s = .next t ∧ t.power.fPre = true ∧ t.power.stoMv = mv ∧
      t = { s.withLogs t with power := t.power, harvest := t.harvest } := by
  obtain ⟨hpower, hframe⟩ := stoFault_acts s mv 3 fun x => { x with fPre := true }
  refine ⟨_, congrArg Host.Outcome.next (if_pos h), ?_, ?_, hframe⟩
  · rw [hpower]
  · rw [hpower, setSto_stoMv]

/-- A change of the power path alone, after which the ledger is evaluated anew. -/
theorem evalLedger_acts {s u : State} (p : Power) (h : ChangesOnly [.logs] { s with power := p } u) :
    u.evalLedger.power = p ∧
      u.evalLedger = { s.withLogs u.evalLedger with power := u.evalLedger.power, ledger := u.evalLedger.ledger } := by
  have hchanges : ChangesOnly [.power, .ledger, .logs] s u.evalLedger :=
    (((ChangesOnly.write [.power] rfl).trans h).trans evalLedger_changes).mono (by decide)
  exact ⟨(h.trans evalLedger_changes).power (by decide), hchanges.frame_power_ledger⟩

theorem midOpen_acts (s : State) (mv : Nat) (hsc : s.ident.sto = .sc2) (hv : 1000 < s.power.stoMv)
    (hmid : 4 * mv < s.power.stoMv ∨ 3 * s.power.stoMv < 4 * mv) :
    ∃ t, exec (.midOpen mv) s = .next t ∧ t.power = { s.power with midMv := mv, fMid := true, balancer := false } ∧
      t = { s.withLogs t with power := t.power, ledger := t.ledger } :=
  ⟨_, congrArg Host.Outcome.next (if_pos ⟨hsc, hv, hmid⟩), evalLedger_acts _ (raiseOnce_changes ..)⟩

theorem midOpenClear_acts (s : State) (mv : Nat) (hf : s.power.fMid = true) (hlo : 4 * s.power.stoMv ≤ 10 * mv)
    (hhi : 10 * mv ≤ 6 * s.power.stoMv) :
    ∃ t, exec (.midOpenClear mv) s = .next t ∧ t.power = { s.power with midMv := mv, fMid := false } ∧
      t = { s.withLogs t with power := t.power, ledger := t.ledger } := by
  have hexec : exec (.midOpenClear mv) s =
      .next ({ s with power := { s.power with midMv := mv, fMid := false } }.clearR Ev.stoFault 4).evalLedger :=
    congrArg Host.Outcome.next (if_pos ⟨hf, hlo, hhi⟩)
  exact ⟨_, hexec, evalLedger_acts _ (clearR_changes ..)⟩

/-- Settles O4: each fault, limit and clear of the store by its own lemma above; the imbalance of SC2 changes the logs
alone, and the balancer stops by definition. -/
theorem storeFaultsAct : Obligations.StoreFaultsAct := by
  unfold Obligations.StoreFaultsAct
  intro s mv
  refine ⟨stoShortDetect_acts s mv, stoShortRetry_acts s mv, stoOpenDetect_acts s mv, stoOvervoltage_acts s mv,
    prechargeTimeout_acts s mv, midOpen_acts s mv, midOpenClear_acts s mv, fun hsc hbal => ?imbalance, ?balanced,
    fun hstop => ?balancerStop⟩
  case imbalance =>
    have hraised : (if s.ident.sto = .sc2 ∧ s.power.balancer = true then s.raiseOnce Ev.stoImbalance 0 0 else s) =
        s.raiseOnce Ev.stoImbalance 0 0 := if_pos ⟨hsc, hbal⟩
    have hexec : exec (.stoImbalance false) s = .next (s.raiseOnce Ev.stoImbalance 0 0) :=
      congrArg Host.Outcome.next hraised
    exact ⟨_, hexec, raiseOnce_holds .., raiseOnce_logs ..⟩
  case balanced => exact ⟨_, rfl, clearE_holdsC .., clearIf_logs ..⟩
  case balancerStop => exact congrArg Host.Outcome.next (if_neg (Bool.eq_false_iff.1 hstop))

/-! ### Derating, the backup cell and VHOST -/

theorem scDerateChange_acts (s : State) (c : Int) : ∃ t, exec (.scDerateChange c) s = .next t ∧
    t.power = { s.power with
      tempC := c
      derated := s.isOn P.pwrScDerateEn && s.isCap && (decide (65 < c) || (s.power.derated && decide (60 ≤ c))) } ∧
    t = { s.withLogs t with power := t.power, ledger := t.ledger } :=
  ⟨_, rfl, evalLedger_acts _ (.refl _)⟩

/-- A measurement changes its reading and the logs alone, but for what BAK has given under load. -/
theorem bakMeasure_acts (s : State) (mv : Int) (ld : Bool) (hon : s.plinthOn = true)
    (hld : ld = false ∨ s.power.path ≠ .onBak) : ∃ t, exec (.bakMeasure mv ld) s = .next t ∧
      t = { s.withLogs t with power := { s.power with bakMv := mv } } ∧ (mv < -300 → t.holds Ev.bakAbsent = true) := by
  let u : State := { s with power := { s.power with bakMv := mv } }
  have hdrawn : (if ld then u.bakDrawn else u) = u := by
    split
    case isTrue h => exact bakDrawn_eq_self (hld.resolve_left (by simp [h]))
    case isFalse => rfl
  have hsupplied : ¬ (!s.plinthOn) = true := by simp [hon]
  have hexec : exec (.bakMeasure mv ld) s = .next (((u.setC Ev.bakLow (decide (mv < (s.param P.pwrBakLowMv : Int)))).setC
      Ev.bakAbsent (decide (mv < 1000 ∧ -300 ≤ mv))).setC Ev.bakAbsent (decide (mv < -300)) 1 0) := by
    show execBakMeasure mv ld s = _
    unfold execBakMeasure
    dsimp only
    rw [if_neg hsupplied, hdrawn]
  refine ⟨_, hexec, (((LogsOnly.refl u).setC ..).setC ..).setC .., fun habsent => ?_⟩
  rw [decide_eq_true habsent]
  exact setC_holds ..

theorem vhostRetry_fails (s : State) (hwait : s.power.vhostWait = true) (hn : s.power.vhostFails < 4) :
    exec (.vhostRetry true) s = .next { s with power := { s.power with vhostFails := s.power.vhostFails + 1 } } := by
  have hlast : s.power.vhostFails + 1 < 5 := by omega
  show execVhostRetry true s = _
  simp only [execVhostRetry, hwait, Bool.not_true, Bool.false_eq_true, if_false, if_pos hlast]

/-- The fifth failure in a row (R58). -/
theorem vhostRetry_gives_up (s : State) (hwait : s.power.vhostWait = true) (hn : s.power.vhostFails = 4) :
    ∃ t, exec (.vhostRetry true) s = .next t ∧ t = { s.withLogs t with
      power := { s.power with vhostWait := false, vhostFails := 5, vhostFault := true } } ∧
      t.holds Ev.vhostFault = true := by
  have hexec : exec (.vhostRetry true) s = .next ({ s with
      power := { s.power with vhostWait := false, vhostFails := 5, vhostFault := true } }.raiseOnce Ev.vhostFault 0 0) := by
    show execVhostRetry true s = _
    simp [execVhostRetry, hwait, hn]
  exact ⟨_, hexec, raiseOnce_logs .., raiseOnce_holds ..⟩

theorem vhostRetry_succeeds (s : State) (hwait : s.power.vhostWait = true) :
    ∃ t, exec (.vhostRetry false) s = .next t ∧ t.power.vhostWait = false ∧ t.power.vhostFails = 0 ∧
      t = { s with power := t.power } := by
  have hexec : exec (.vhostRetry false) s =
      .next { s with power := { s.power with vhostWait := false, vhostFails := 0 } }.vhostEval := by
    show execVhostRetry false s = _
    simp [execVhostRetry, hwait]
  exact ⟨_, hexec, rfl, rfl, rfl⟩

theorem plinthSupplyFail_acts (s : State) (hpath : s.power.path = .handover) (htarget : s.power.target = none) :
    ∃ t, exec .plinthSupplyFail s = .next t ∧ t.power.path = .none ∧ t.plinth.mode = .plinth ∧
      t.power.vhostOn = false := by
  have hexec : exec .plinthSupplyFail s = .next (s.supplyOff .none .plinth) := by
    show execPlinthSupplyFail s = _
    simp [execPlinthSupplyFail, hpath, htarget]
  exact ⟨_, hexec, rfl, supplyOff_mode .., rfl⟩

/-- Settles O5: each command by its lemma above; a current limit that VHOST meets turns it off by definition. -/
theorem backupAndHostSupplyAct : Obligations.BackupAndHostSupplyAct := by
  unfold Obligations.BackupAndHostSupplyAct
  intro s
  refine ⟨scDerateChange_acts s, bakMeasure_acts s, fun ma hvhost hma => ?limit, vhostRetry_gives_up s, vhostRetry_fails s,
    vhostRetry_succeeds s, plinthSupplyFail_acts s⟩
  case limit =>
    have hlimit : (s.power.vhostOn && decide (s.vhostLimitMa ≤ ma)) = true := by simp [hvhost, hma]
    exact congrArg Host.Outcome.next (if_pos hlimit)

end Sys2Proof.Machine
end

section
/-! PROOFS. The harvest block: what an update of one tracker, a regulation of VHB and the steps of Procedure 3.1 write, and
what they may change beside it. -/

namespace Sys2Proof.Machine

variable {s t : State} {c d : HarvestCh}

/-! ### The logs -/

theorem setC_changes (src : Src) (on : Bool) (r d : Nat) : ChangesOnly [.logs] s (s.setC src on r d) :=
  .write _ (setC_logs ..)

theorem clearD_changes (src : Src) (d : Nat) : ChangesOnly [.logs] s (s.clearD src d) := clearIf_changes ..

/-! ### One tracker -/

/-- The harvest block with another tracker for one channel. -/
def Harvest.withTracker (h : Harvest) (c : HarvestCh) (x : Tracker) : Harvest :=
  match c with
  | .teg => { h with teg := x }
  | .vib => { h with vib := x }
  | .pv => { h with pv := x }

theorem onTracker_eq (c : HarvestCh) (f : Tracker → Tracker) :
    s.onTracker c f = { s with harvest := s.harvest.withTracker c (f (s.tracker c)) } := by
  cases c <;> rfl

theorem onTracker_changes (c : HarvestCh) (f : Tracker → Tracker) : ChangesOnly [.harvest] s (s.onTracker c f) := by
  rw [onTracker_eq]
  exact .write _ rfl

theorem onTracker_harvest (c : HarvestCh) (f : Tracker → Tracker) :
    (s.onTracker c f).harvest = s.harvest.withTracker c (f (s.tracker c)) := by
  rw [onTracker_eq]

@[simp] theorem tracker_onTracker_same (c : HarvestCh) (f : Tracker → Tracker) :
    (s.onTracker c f).tracker c = f (s.tracker c) := by
  cases c <;> rfl

theorem tracker_onTracker_ne (h : d ≠ c) (f : Tracker → Tracker) : (s.onTracker c f).tracker d = s.tracker d := by
  cases c with
  | teg =>
    cases d with
    | teg => exact absurd rfl h
    | vib | pv => rfl
  | vib =>
    cases d with
    | vib => exact absurd rfl h
    | teg | pv => rfl
  | pv =>
    cases d with
    | pv => exact absurd rfl h
    | teg | vib => rfl

theorem tracker_congr (h : t.harvest = s.harvest) (c : HarvestCh) : t.tracker c = s.tracker c := by
  cases c <;> simp only [State.tracker, h]

/-- What leaves the harvest block alone leaves every tracker. -/
theorem ChangesOnly.tracker {ps : List StatePart} (h : ChangesOnly ps s t) (hp : .harvest ∉ ps) (c : HarvestCh) :
    t.tracker c = s.tracker c :=
  tracker_congr (h.same .harvest hp) c

/-! ### Regulation -/

/-- Of the harvest block, a regulation moves VHB alone (R76). -/
theorem regulate_harvest : s.regulate.harvest = { s.harvest with vhbMv := s.regulate.harvest.vhbMv } := by
  unfold State.regulate
  split
  · rfl
  · rfl

@[simp] theorem tracker_regulate (c : HarvestCh) : s.regulate.tracker c = s.tracker c := by
  unfold State.tracker
  rw [regulate_harvest]

/-! ### Frames, as the statements write them -/

namespace ChangesOnly

theorem frame_harvest (h : ChangesOnly [.harvest, .logs] s t) : t = { s.withLogs t with harvest := t.harvest } :=
  h.eq_copy

theorem frame_harvest_silent (h : ChangesOnly [.harvest] s t) : t = { s with harvest := t.harvest } := h.eq_copy

theorem frame_harvest_line (h : ChangesOnly [.harvest, .line] s t) :
    t = { s with harvest := t.harvest, line := t.line } := h.eq_copy

theorem frame_harvest_ctr (h : ChangesOnly [.harvest, .ctr, .hoCount, .logs] s t) :
    t = { s.withLogs t with harvest := t.harvest, ctr := t.ctr } := h.eq_copy

/-- The frame of a change whose harvest block is known. -/
theorem frame_of_harvest (h : ChangesOnly [.harvest, .logs] s t) {x : Harvest} (hx : t.harvest = x) :
    t = { s.withLogs t with harvest := x } := hx ▸ h.frame_harvest

end ChangesOnly

/-! ### Starts, stops and limits of a channel -/

theorem hrvStart_changes (c : HarvestCh) (voc : Nat) : ChangesOnly [.harvest] s (s.hrvStart c voc) :=
  ((onTracker_changes ..).trans regulate_changes).mono (by decide)

theorem hrvStart_harvest (c : HarvestCh) (voc : Nat) : (s.hrvStart c voc).harvest =
    { s.harvest.withTracker c ((s.hrvStart c voc).tracker c) with vhbMv := (s.hrvStart c voc).harvest.vhbMv } := by
  unfold State.hrvStart
  rw [tracker_regulate, tracker_onTracker_same, regulate_harvest, onTracker_harvest]

/-- A channel starts at its start fraction of the value sampled (Procedure 3.1). -/
theorem hrvStart_tracker (c : HarvestCh) (voc : Nat) : (s.hrvStart c voc).tracker c =
    { s.tracker c with
      running := true, vop := s.startVop c voc, voc := voc, up := true, pLast := 0, pin := 0, skips := 0
      limited := false, held := false } := by
  unfold State.hrvStart
  rw [tracker_regulate, tracker_onTracker_same]

theorem hrvStop_changes (c : HarvestCh) : ChangesOnly [.harvest] s (s.hrvStop c) := onTracker_changes ..

theorem limitHrv_changes (c : HarvestCh) : ChangesOnly [.harvest, .logs] s (s.limitHrv c) :=
  (((onTracker_changes ..).trans regulate_changes).trans (raiseOnce_changes ..)).mono (by decide)

/-- The tracker of a channel at its limit holds, on the side nearer the open-circuit value (R92). -/
theorem limitHrv_tracker (c : HarvestCh) : (s.limitHrv c).tracker c =
    { s.tracker c with
      limited := true
      vop := if (s.tracker c).limited || (s.tracker c).up then (s.tracker c).vop
        else s.clampVop c ((s.tracker c).vop + s.hrvStepUv c (s.tracker c).vop) } := by
  unfold State.limitHrv
  rw [(raiseOnce_changes ..).tracker (by decide), tracker_regulate, tracker_onTracker_same]

theorem limitHrv_tracker_ne (h : d ≠ c) : (s.limitHrv c).tracker d = s.tracker d := by
  unfold State.limitHrv
  rw [(raiseOnce_changes ..).tracker (by decide), tracker_regulate, tracker_onTracker_ne h]

theorem limitHrv_holds (c : HarvestCh) : (s.limitHrv c).holds Ev.mpptLimit = true := raiseOnce_holds ..

/-- Of the logs, a limit raises MPPT_LIMIT alone. -/
theorem limitHrv_raises (c : HarvestCh) : ∃ u : State, u.events = s.events ∧
    s.limitHrv c = u.raiseOnce Ev.mpptLimit 0 (hrvDetail c) :=
  ⟨_, (((onTracker_changes ..).trans regulate_changes).same .logs (by decide)).1, rfl⟩

end Sys2Proof.Machine
end

section
/-! PROOFS. The harvest channels: starts and losses, the field as a source, the limits, and the statement on them. -/

namespace Sys2Proof.Machine

/-! ### Starts and losses -/

/-- A channel starts and its event is raised: what TEG_UP, VIB_UP and PV_UP share. -/
theorem channelUp_acts (s : State) (c : HarvestCh) (v : Nat) (src : Src) :
    let t := (s.hrvStart c v).raiseP src 0 0
    (t.tracker c).running = true ∧ (t.tracker c).voc = v ∧ (t.tracker c).vop = s.startVop c v ∧ t.holds src = true ∧
      t = { s.withLogs t with
        harvest := { s.harvest.withTracker c (t.tracker c) with vhbMv := t.harvest.vhbMv } } := by
  intro t
  have raised : ChangesOnly [.logs] (s.hrvStart c v) t := raiseP_changes ..
  have hharvest : t.harvest = (s.hrvStart c v).harvest := raised.same .harvest (by decide)
  have htracker : t.tracker c = (s.hrvStart c v).tracker c := raised.tracker (by decide) c
  have hchanges : ChangesOnly [.harvest, .logs] s t := (hrvStart_changes c v).trans raised
  refine ⟨?_, ?_, ?_, raiseP_holds .., hchanges.frame_of_harvest ?_⟩
  · rw [htracker, hrvStart_tracker]
  · rw [htracker, hrvStart_tracker]
  · rw [htracker, hrvStart_tracker]
  · rw [htracker, hharvest]
    exact hrvStart_harvest c v

/-- A channel stops and its event is raised: what TEG_LOST, VIB_LOST and PV_LOST share. -/
theorem channelLost_acts (s : State) (c : HarvestCh) (src : Src) :
    let t := (s.hrvStop c).raiseP src 0 0
    t.holds src = true ∧
      t = { s.withLogs t with harvest := s.harvest.withTracker c (s.tracker c).stop } := by
  intro t
  have raised : ChangesOnly [.logs] (s.hrvStop c) t := raiseP_changes ..
  have hchanges : ChangesOnly [.harvest, .logs] s t := (hrvStop_changes c).trans raised
  have hharvest : t.harvest = (s.hrvStop c).harvest := raised.same .harvest (by decide)
  exact ⟨raiseP_holds .., hchanges.frame_of_harvest (hharvest.trans (onTracker_harvest ..))⟩

theorem tegUp_acts (s : State) (v : Nat) (hmay : s.hrvMayStart .teg = true) (hlo : 12000 ≤ v) (hhi : v ≤ 2500000) :
    ∃ t, exec (.tegUp v) s = .next t ∧ t.harvest.teg.running = true ∧ t.harvest.teg.voc = v ∧
      t.harvest.teg.vop = s.startVop .teg v ∧ t.holds Ev.tegUp = true ∧
      t = { s.withLogs t with harvest := { s.harvest with teg := t.harvest.teg, vhbMv := t.harvest.vhbMv } } := by
  have hcond : (s.hrvMayStart .teg && decide (12000 ≤ v ∧ v ≤ maxVocUv .teg)) = true := by
    simp [hmay, maxVocUv, hlo, hhi]
  exact ⟨_, congrArg Host.Outcome.next (if_pos hcond), channelUp_acts s .teg v Ev.tegUp⟩

theorem vibUp_acts (s : State) (v hz : Nat) (hmay : s.hrvMayStart .vib = true)
    (hlo : (if s.piezo then (s.vhbTarget + 200) * 1000 else 600000) ≤ v) (hhi : v ≤ 24000000) (hslow : 5 ≤ hz)
    (hfast : hz ≤ 2000) :
    ∃ t, exec (.vibUp v hz) s = .next t ∧ t.harvest.vib.running = true ∧ t.harvest.vib.voc = v ∧
      t.harvest.vib.vop = s.startVop .vib v ∧ t.holds Ev.vibUp = true ∧
      t = { s.withLogs t with harvest := { s.harvest with vib := t.harvest.vib, vhbMv := t.harvest.vhbMv } } := by
  have hcond : (s.hrvMayStart .vib && decide ((if s.piezo then (s.vhbTarget + 200) * 1000 else 600000) ≤ v ∧
      v ≤ maxVocUv .vib ∧ 5 ≤ hz ∧ hz ≤ 2000)) = true := by
    simp only [hmay, maxVocUv, hlo, hhi, hslow, hfast, and_self, decide_true, Bool.and_self]
  exact ⟨_, congrArg Host.Outcome.next (if_pos hcond), channelUp_acts s .vib v Ev.vibUp⟩

theorem pvUp_acts (s : State) (v : Nat) (hmay : s.hrvMayStart .pv = true) (hlo : 500000 ≤ v) (hhi : v ≤ 6000000) :
    ∃ t, exec (.pvUp v) s = .next t ∧ t.harvest.pv.running = true ∧ t.harvest.pv.voc = v ∧
      t.harvest.pv.vop = s.startVop .pv v ∧ t.holds Ev.pvUp = true ∧
      t = { s.withLogs t with harvest := { s.harvest with pv := t.harvest.pv, vhbMv := t.harvest.vhbMv } } := by
  have hcond : (s.hrvMayStart .pv && decide (500000 ≤ v ∧ v ≤ maxVocUv .pv)) = true := by
    simp [hmay, maxVocUv, hlo, hhi]
  exact ⟨_, congrArg Host.Outcome.next (if_pos hcond), channelUp_acts s .pv v Ev.pvUp⟩

theorem tegLost_acts (s : State) (hrun : s.harvest.teg.running = true) :
    ∃ t, exec .tegLost s = .next t ∧ t.holds Ev.tegLost = true ∧
      t = { s.withLogs t with harvest := { s.harvest with teg := s.harvest.teg.stop } } :=
  ⟨_, congrArg Host.Outcome.next (if_pos hrun), channelLost_acts s .teg Ev.tegLost⟩

theorem vibLost_acts (s : State) (hrun : s.harvest.vib.running = true) :
    ∃ t, exec .vibLost s = .next t ∧ t.holds Ev.vibLost = true ∧
      t = { s.withLogs t with harvest := { s.harvest with vib := s.harvest.vib.stop } } :=
  ⟨_, congrArg Host.Outcome.next (if_pos hrun), channelLost_acts s .vib Ev.vibLost⟩

theorem pvLost_acts (s : State) (hrun : s.harvest.pv.running = true) :
    ∃ t, exec .pvLost s = .next t ∧ t.holds Ev.pvLost = true ∧
      t = { s.withLogs t with harvest := { s.harvest with pv := s.harvest.pv.stop } } :=
  ⟨_, congrArg Host.Outcome.next (if_pos hrun), channelLost_acts s .pv Ev.pvLost⟩

/-! ### The field as a source (R87) -/

/-- The field's rectifier is read, with nothing else changed. -/
def State.readField (s : State) (mv : Nat) : State := { s with power := { s.power with fieldMv := mv } }

/-- Field harvest with the harvest permitted and no reply frame on the air: by the rectifier's voltage alone. -/
theorem exec_nfcHrv (s : State) (mv uw : Nat) (hmode : s.hrvMode = true) (hon : s.isOn P.hrvNfcEn = true)
    (hlsto : s.harvest.lstoOpen = false) (htx : s.nfc.txMs = 0) : exec (.nfcHrv mv uw) s = .next
      (if mv ≤ 2500 then { s.readField mv with harvest := { s.harvest with nfc := false, nfcUw := 0 } }
      else
        let u := { s.readField mv with harvest := { s.harvest with nfc := true, nfcUw := min uw 6000 } }.regulate
        if s.harvest.nfc then u else u.raiseP Ev.nfcHrv 0 0) := by
  have hmay : ¬ (!(s.hrvMode && s.isOn P.hrvNfcEn && !s.harvest.lstoOpen)) = true := by simp [hmode, hon, hlsto]
  exact congrArg Host.Outcome.next ((if_neg hmay).trans (if_neg (not_not_intro htx)))

theorem nfcHrv_starts (s : State) (mv uw : Nat) (hmode : s.hrvMode = true) (hon : s.isOn P.hrvNfcEn = true)
    (hlsto : s.harvest.lstoOpen = false) (htx : s.nfc.txMs = 0) (hnfc : s.harvest.nfc = false) (hmv : 2500 < mv) :
    ∃ t, exec (.nfcHrv mv uw) s = .next t ∧ t.harvest.nfc = true ∧ t.harvest.nfcUw = min uw 6000 ∧
      t.holds Ev.nfcHrv = true ∧
      t = { s.withLogs t with
        power := { s.power with fieldMv := mv }
        harvest := { s.harvest with nfc := true, nfcUw := min uw 6000, vhbMv := t.harvest.vhbMv } } := by
  let u : State := { s.readField mv with harvest := { s.harvest with nfc := true, nfcUw := min uw 6000 } }
  let t : State := u.regulate.raiseP Ev.nfcHrv 0 0
  have hexec : exec (.nfcHrv mv uw) s = .next t := by
    rw [exec_nfcHrv s mv uw hmode hon hlsto htx, if_neg (by omega), hnfc]
    rfl
  have raised : ChangesOnly [.logs] u.regulate t := raiseP_changes ..
  have hharvest : t.harvest = { u.harvest with vhbMv := t.harvest.vhbMv } := by
    rw [raised.same .harvest (by decide)]
    exact regulate_harvest
  have hchanges : ChangesOnly [.harvest, .logs] (s.readField mv) t :=
    (((ChangesOnly.write [.harvest] rfl).trans regulate_changes).trans raised).mono (by decide)
  refine ⟨t, hexec, ?_, ?_, raiseP_holds .., hchanges.frame_of_harvest hharvest⟩
  · rw [hharvest]
  · rw [hharvest]

theorem nfcHrv_stops (s : State) (mv uw : Nat) (hmode : s.hrvMode = true) (hon : s.isOn P.hrvNfcEn = true)
    (hlsto : s.harvest.lstoOpen = false) (htx : s.nfc.txMs = 0) (hmv : mv ≤ 2500) :
    exec (.nfcHrv mv uw) s = .next
      { s with power := { s.power with fieldMv := mv }, harvest := { s.harvest with nfc := false, nfcUw := 0 } } := by
  rw [exec_nfcHrv s mv uw hmode hon hlsto htx, if_pos hmv]
  rfl

/-! ### The limits of R92 -/

theorem mpptLimit_acts (s : State) (c : HarvestCh) (uw ma : Nat) (hrun : (s.tracker c).running = true)
    (hat : s.atLimit c uw ma = true) (hfree : (s.tracker c).limited = false) :
    ∃ t, exec (.mpptLimit c uw ma) s = .next t ∧ t.tracker c = { s.tracker c with
        limited := true,
        vop := if (s.tracker c).up = true then (s.tracker c).vop
          else s.clampVop c ((s.tracker c).vop + s.hrvStepUv c (s.tracker c).vop) } ∧
      (∀ d, d ≠ c → t.tracker d = s.tracker d) ∧ t.holds Ev.mpptLimit = true ∧
      t = { s.withLogs t with harvest := t.harvest } := by
  have hcond : ((s.tracker c).running && s.atLimit c uw ma) = true := by simp [hrun, hat]
  refine ⟨_, congrArg Host.Outcome.next (if_pos hcond), ?_, fun _ => limitHrv_tracker_ne, limitHrv_holds c,
    (limitHrv_changes c).frame_harvest⟩
  rw [limitHrv_tracker, hfree, Bool.false_or]

theorem mpptLimit_below (s : State) (c : HarvestCh) (uw ma : Nat) (hat : s.atLimit c uw ma = false) :
    exec (.mpptLimit c uw ma) s = .next s :=
  congrArg Host.Outcome.next (if_neg (by simp [hat]))

theorem mpptLimitClear_acts (s : State) (c : HarvestCh) :
    ∃ t, exec (.mpptLimitClear c) s = .next t ∧ t.tracker c = { s.tracker c with limited := false } ∧
      (∀ d, d ≠ c → t.tracker d = s.tracker d) ∧ t = { s.withLogs t with harvest := t.harvest } := by
  let u : State := s.onTracker c fun t => { t with limited := false }
  have cleared : ChangesOnly [.logs] u (u.clearD Ev.mpptLimit (hrvDetail c)) := clearD_changes ..
  have hchanges : ChangesOnly [.harvest, .logs] s (u.clearD Ev.mpptLimit (hrvDetail c)) :=
    (onTracker_changes ..).trans cleared
  refine ⟨_, rfl, ?_, fun d hd => ?_, hchanges.frame_harvest⟩
  · exact (cleared.tracker (by decide) c).trans (tracker_onTracker_same ..)
  · exact (cleared.tracker (by decide) d).trans (tracker_onTracker_ne hd _)

/-- Settles O7: each command by its lemma above. -/
theorem harvestChannelsStartAndStop : Obligations.HarvestChannelsStartAndStop := by
  unfold Obligations.HarvestChannelsStartAndStop
  intro s v
  exact ⟨tegUp_acts s v, tegLost_acts s, vibUp_acts s v, vibLost_acts s, pvUp_acts s v, pvLost_acts s,
    nfcHrv_starts s, nfcHrv_stops s, mpptLimit_acts s, mpptLimit_below s, mpptLimitClear_acts s⟩

end Sys2Proof.Machine
end

section
/-! PROOFS. The trackers: one cycle of Procedure 3.1, an abandoned cycle, an open-circuit sample, and the two statements on
them. -/

namespace Sys2Proof.Machine

/-! ### The names that hold after a raise and a clear -/

theorem held_raiseAs (s : State) (src : Src) (pulse : Bool) (r d : Nat) (pin : Bool) :
    (s.raiseAs src pulse r d pin).events.held =
      if ⟨src, r, d, pulse⟩ ∈ s.events.held then s.events.held else s.events.held ++ [⟨src, r, d, pulse⟩] := by
  unfold State.raiseAs
  dsimp only
  split
  · rfl
  · rfl

theorem mem_held_raiseC {s : State} {src : Src} {r d : Nat} {h : Held} :
    h ∈ (s.raiseC src r d).events.held ↔ h ∈ s.events.held ∨ h = ⟨src, r, d, false⟩ := by
  unfold State.raiseC
  rw [held_raiseAs]
  split
  case isTrue hheld => exact ⟨.inl, fun hor => hor.elim id fun heq => heq ▸ hheld⟩
  case isFalse => rw [List.mem_append, List.mem_singleton]

/-- A raise keeps every name that holds. -/
theorem held_subset_raiseOnce (s : State) (src : Src) (r d : Nat) :
    s.events.held ⊆ (s.raiseOnce src r d).events.held := by
  unfold State.raiseOnce
  split
  · exact List.Subset.refl _
  · exact fun _ hmem => mem_held_raiseC.2 (.inl hmem)

/-- A raise adds no name but its own. -/
theorem held_of_mem_raiseOnce {s : State} {src : Src} {r d : Nat} {h : Held}
    (hmem : h ∈ (s.raiseOnce src r d).events.held) : h ∈ s.events.held ∨ h.src = src := by
  unfold State.raiseOnce at hmem
  split at hmem
  · exact .inl hmem
  · exact (mem_held_raiseC.1 hmem).imp_right fun heq => by rw [heq]

/-- After a raise the name holds with the DETAIL it was raised with. -/
theorem exists_held_raiseOnce (s : State) (src : Src) (r d : Nat) :
    ∃ h ∈ (s.raiseOnce src r d).events.held, h.src = src ∧ h.detail = d := by
  unfold State.raiseOnce
  split
  case isTrue hany =>
    obtain ⟨h, hmem, heq⟩ := List.any_eq_true.1 hany
    simp only [Bool.and_eq_true, beq_iff_eq] at heq
    exact ⟨h, hmem, heq.1.1, heq.2⟩
  case isFalse => exact ⟨_, mem_held_raiseC.2 (.inr rfl), rfl, rfl⟩

/-- A clear takes away the conditions of its name and DETAIL, and nothing else. -/
theorem mem_held_clearD {s : State} {src : Src} {d : Nat} {h : Held} :
    h ∈ (s.clearD src d).events.held ↔ h ∈ s.events.held ∧ (h.src ≠ src ∨ h.pulse = true ∨ h.detail ≠ d) := by
  unfold State.clearD State.clearIf
  simp only [List.mem_filter, Bool.not_eq_true', Bool.and_eq_false_iff, Bool.not_eq_false', beq_eq_false_iff_ne, or_assoc]

/-! ### One cycle of Procedure 3.1 -/

/-- The mean input power that a cycle takes in: no more than the stage can, and none where the bridge does not conduct. -/
def State.cycleUw (s : State) (c : HarvestCh) (meanUw : Nat) : Nat :=
  if s.hrvConducts c then min meanUw (maxPinUw c) else 0

/-- The state after a cycle, before its limit is looked at (R88, R91). -/
def State.cycled (s : State) (c : HarvestCh) (meanUw : Nat) : State :=
  (s.perturb c meanUw).clearD Ev.mpptStarved (hrvDetail c)

/-- Whether a cycle finds the channel at its limit (R92); the input current of PV follows from its power and its point. -/
def State.cycleLimited (s : State) (c : HarvestCh) (meanUw : Nat) : Bool :=
  (s.cycled c meanUw).atLimit c meanUw
    (if c = .pv then 1000 * meanUw / max ((s.cycled c meanUw).tracker c).vop 1 else 0) &&
    s.hrvConducts c

theorem perturb_changes {s : State} (c : HarvestCh) (uw : Nat) : ChangesOnly [.harvest] s (s.perturb c uw) :=
  ((onTracker_changes ..).trans regulate_changes).mono (by decide)

theorem cycled_changes {s : State} (c : HarvestCh) (uw : Nat) : ChangesOnly [.harvest, .logs] s (s.cycled c uw) :=
  (perturb_changes c uw).trans (clearD_changes ..)

theorem cycled_tracker (s : State) (c : HarvestCh) (uw : Nat) : (s.cycled c uw).tracker c =
    { s.tracker c with
      vop := if (s.tracker c).limited then (s.tracker c).vop
        else s.clampVop c (if (s.tracker c).up then (s.tracker c).vop + s.hrvStepUv c (s.tracker c).vop
          else (s.tracker c).vop - s.hrvStepUv c (s.tracker c).vop)
      up := if decide (1000 * s.cycleUw c uw < (s.tracker c).pLast * (1000 - s.param P.hrvPoDeadband))
        then !(s.tracker c).up else (s.tracker c).up
      pLast := s.cycleUw c uw, pin := s.cycleUw c uw, skips := 0 } := by
  unfold State.cycled State.perturb
  rw [(clearD_changes ..).tracker (by decide), tracker_regulate, tracker_onTracker_same]
  rfl

theorem cycled_tracker_ne {s : State} {c d : HarvestCh} (hd : d ≠ c) (uw : Nat) :
    (s.cycled c uw).tracker d = s.tracker d := by
  unfold State.cycled State.perturb
  rw [(clearD_changes ..).tracker (by decide), tracker_regulate, tracker_onTracker_ne hd]

/-- A period of a running tracker in clean time: its cycle, and the limit that the cycle finds. -/
theorem exec_trackerPeriod (s : State) (c : HarvestCh) (uw : Nat) (hrun : (s.tracker c).running = true)
    (hhold : s.hrvHolds c = false) (hrx : s.rxBusy = false) : exec (.trackerPeriod c uw) s = .next
      (if s.cycleLimited c uw then (s.cycled c uw).limitHrv c else s.cycled c uw) := by
  have hclean : ¬ (!(s.tracker c).running || s.hrvHolds c || s.rxBusy) = true := by simp [hrun, hhold, hrx]
  exact congrArg Host.Outcome.next (if_neg hclean)

/-- Whatever its limit says, a period leaves what the cycle observed, and other trackers as they are. -/
theorem trackerPeriod_acts (s : State) (c : HarvestCh) (uw : Nat) (hrun : (s.tracker c).running = true)
    (hhold : s.hrvHolds c = false) (hrx : s.rxBusy = false) :
    ∃ t, exec (.trackerPeriod c uw) s = .next t ∧ (t.tracker c).skips = 0 ∧
      (t.tracker c).pin = (if s.hrvConducts c then min uw (maxPinUw c) else 0) ∧
      ((s.tracker c).limited = true → (t.tracker c).vop = (s.tracker c).vop) ∧
      (∀ d, d ≠ c → t.tracker d = s.tracker d) ∧ t = { s.withLogs t with harvest := t.harvest } := by
  refine ⟨_, exec_trackerPeriod s c uw hrun hhold hrx, ?_⟩
  split
  case isTrue =>
    have hchanges : ChangesOnly [.harvest, .logs] s ((s.cycled c uw).limitHrv c) :=
      ((cycled_changes c uw).trans (limitHrv_changes c)).mono (by decide)
    refine ⟨?_, ?_, fun hlim => ?_, fun d hd => ?_, hchanges.frame_harvest⟩
    · rw [limitHrv_tracker, cycled_tracker]
    · rw [limitHrv_tracker, cycled_tracker]
      rfl
    · rw [limitHrv_tracker, cycled_tracker]
      simp [hlim]
    · rw [limitHrv_tracker_ne hd, cycled_tracker_ne hd]
  case isFalse =>
    refine ⟨?_, ?_, fun hlim => ?_, fun d hd => cycled_tracker_ne hd uw, (cycled_changes c uw).frame_harvest⟩
    · rw [cycled_tracker]
    · rw [cycled_tracker]
      rfl
    · rw [cycled_tracker]
      exact if_pos hlim

/-! ### A cycle below every limit -/

/-- No point stands below the range of its channel (R88). -/
theorem hrvRange_le_clampVop (s : State) (c : HarvestCh) (uv : Nat) : (s.hrvRange c).1 ≤ s.clampVop c uv :=
  Nat.le_max_left ..

theorem cycled_param {s : State} (c : HarvestCh) (uw id : Nat) : (s.cycled c uw).param id = s.param id :=
  param_congr ((cycled_changes c uw).same .config (by decide)) ((cycled_changes c uw).same .ident (by decide)) id

/-- The input current of PV at the point that a free cycle steps to stays below its limit, for a power that does so at the
lowest point of its range. -/
theorem pvCurrent_below {s : State} {uw : Nat} (hfree : (s.tracker .pv).limited = false)
    (huw : 1000 * uw < s.param P.hrvPvImaxMa * 400000) :
    1000 * uw / max ((s.cycled .pv uw).tracker .pv).vop 1 < s.param P.hrvPvImaxMa := by
  have hvop : 400000 ≤ ((s.cycled .pv uw).tracker .pv).vop := by
    rw [cycled_tracker, hfree]
    exact hrvRange_le_clampVop s .pv _
  have hrange : 400000 ≤ max ((s.cycled .pv uw).tracker .pv).vop 1 := Nat.le_trans hvop (Nat.le_max_left ..)
  exact (Nat.div_lt_iff_lt_mul (by omega)).2 (Nat.lt_of_lt_of_le huw (Nat.mul_le_mul_left _ hrange))

theorem atLimit_eq_false {s : State} {c : HarvestCh} {uw ma : Nat} (huw : uw < maxPinUw c)
    (hma : ∀ m, s.maxMa c = some m → ma < m) : s.atLimit c uw ma = false := by
  unfold State.atLimit
  rw [decide_eq_false (Nat.not_le.2 huw), Bool.false_or]
  cases hmax : s.maxMa c with
  | none => rfl
  | some m => exact decide_eq_false (Nat.not_le.2 (hma m hmax))

theorem cycleLimited_eq_false {s : State} {c : HarvestCh} {uw : Nat} (hfree : (s.tracker c).limited = false)
    (huw : uw < maxPinUw c) (hteg : c = .teg → 0 < s.param P.hrvTegIpk)
    (hpv : c = .pv → 1000 * uw < s.param P.hrvPvImaxMa * 400000) : s.cycleLimited c uw = false := by
  refine Bool.and_eq_false_imp.2 fun hat => absurd hat (Bool.eq_false_iff.1 (atLimit_eq_false huw fun m hm => ?_))
  cases c with
  | teg =>
    obtain rfl : (s.cycled .teg uw).param P.hrvTegIpk * 10 = m := Option.some.inj hm
    rw [cycled_param]
    exact Nat.mul_pos (hteg rfl) (by decide)
  | vib => exact absurd hm (Option.some_ne_none m).symm
  | pv =>
    obtain rfl : (s.cycled .pv uw).param P.hrvPvImaxMa = m := Option.some.inj hm
    rw [cycled_param]
    exact pvCurrent_below hfree (hpv rfl)

/-- One step of Procedure 3.1: the point moves by the step in the channel's direction, and the direction turns where the power
has fallen by more than the deadband. -/
theorem trackerPeriod_steps (s : State) (c : HarvestCh) (uw : Nat) (hrun : (s.tracker c).running = true)
    (hhold : s.hrvHolds c = false) (hrx : s.rxBusy = false) (hfree : (s.tracker c).limited = false)
    (hcond : s.hrvConducts c = true) (huw : uw < maxPinUw c) (hteg : c = .teg → 0 < s.param P.hrvTegIpk)
    (hpv : c = .pv → 1000 * uw < s.param P.hrvPvImaxMa * 400000) :
    ∃ t, exec (.trackerPeriod c uw) s = .next t ∧
      (t.tracker c).vop = s.clampVop c (if (s.tracker c).up then (s.tracker c).vop + s.hrvStepUv c (s.tracker c).vop
        else (s.tracker c).vop - s.hrvStepUv c (s.tracker c).vop) ∧
      ((t.tracker c).up ≠ (s.tracker c).up ↔ 1000 * uw < (s.tracker c).pLast * (1000 - s.param P.hrvPoDeadband)) ∧
      (t.tracker c).pLast = uw ∧ (t.tracker c).pin = uw ∧ (t.tracker c).skips = 0 ∧
      (∀ d, d ≠ c → t.tracker d = s.tracker d) ∧ t = { s.withLogs t with harvest := t.harvest } := by
  have hexec : exec (.trackerPeriod c uw) s = .next (s.cycled c uw) := by
    rw [exec_trackerPeriod s c uw hrun hhold hrx, cycleLimited_eq_false hfree huw hteg hpv]
    rfl
  have huse : s.cycleUw c uw = uw := by
    unfold State.cycleUw
    rw [if_pos hcond]
    exact Nat.min_eq_left (Nat.le_of_lt huw)
  have htracker := cycled_tracker s c uw
  rw [huse, hfree] at htracker
  refine ⟨_, hexec, ?_, ?_, ?_, ?_, ?_, fun d hd => cycled_tracker_ne hd uw, (cycled_changes c uw).frame_harvest⟩
  · rw [htracker]
    rfl
  · rw [htracker]
    by_cases hworse : 1000 * uw < (s.tracker c).pLast * (1000 - s.param P.hrvPoDeadband) <;> simp [hworse]
  · rw [htracker]
  · rw [htracker]
  · rw [htracker]

/-! ### An abandoned cycle -/

/-- A cycle abandoned: counted in HRV_PO_SKIPS and in the channel's own run of skips (R91). -/
def State.skipped (s : State) (c : HarvestCh) : State :=
  { s with ctr := { s.ctr with poSkips := wrapAdd 32 s.ctr.poSkips 1 } }.onTracker c
    fun t => { t with skips := (s.tracker c).skips + 1 }

theorem exec_trackerSkip (s : State) (c : HarvestCh) (hrun : (s.tracker c).running = true) :
    exec (.trackerSkip c) s = .next (if 16 ≤ (s.tracker c).skips + 1
      then (s.skipped c).raiseOnce Ev.mpptStarved 0 (hrvDetail c) else s.skipped c) :=
  congrArg Host.Outcome.next (if_neg (by simp [hrun]))

theorem skipped_tracker (s : State) (c : HarvestCh) :
    (s.skipped c).tracker c = { s.tracker c with skips := (s.tracker c).skips + 1 } := by
  cases c <;> rfl

theorem skipped_ctr (s : State) (c : HarvestCh) :
    (s.skipped c).ctr = { s.ctr with poSkips := wrapAdd 32 s.ctr.poSkips 1 } :=
  onTracker_ctr ..

theorem skipped_changes {s : State} (c : HarvestCh) : ChangesOnly [.harvest, .ctr, .hoCount] s (s.skipped c) :=
  ((ChangesOnly.write [.ctr, .hoCount] (by rfl)).trans (onTracker_changes ..)).mono (by decide)

/-- What an abandoned cycle leaves: the counts, and from the sixteenth in a row on MPPT_STARVED of the channel. -/
theorem trackerSkip_acts (s : State) (c : HarvestCh) (hrun : (s.tracker c).running = true) :
    ∃ t, exec (.trackerSkip c) s = .next t ∧
      t.tracker c = { s.tracker c with skips := (s.tracker c).skips + 1 } ∧
      t.ctr = { s.ctr with poSkips := wrapAdd 32 s.ctr.poSkips 1 } ∧
      (16 ≤ (s.tracker c).skips + 1 → ∃ h ∈ t.events.held, h.src = Ev.mpptStarved ∧ h.detail = hrvDetail c) ∧
      ((s.tracker c).skips + 1 < 16 → t.events = s.events) ∧
      t = { s.withLogs t with harvest := t.harvest, ctr := t.ctr } := by
  refine ⟨_, exec_trackerSkip s c hrun, ?_⟩
  split
  case isTrue hmany =>
    have raised : ChangesOnly [.logs] (s.skipped c) ((s.skipped c).raiseOnce Ev.mpptStarved 0 (hrvDetail c)) :=
      raiseOnce_changes ..
    refine ⟨?_, ?_, fun _ => exists_held_raiseOnce .., fun hfew => absurd hmany (by omega),
      ((skipped_changes c).trans raised).frame_harvest_ctr⟩
    · rw [raised.tracker (by decide), skipped_tracker]
    · rw [raised.same .ctr (by decide), skipped_ctr]
  case isFalse hfew =>
    exact ⟨skipped_tracker s c, skipped_ctr s c, fun hmany => absurd hmany hfew,
      fun _ => ((skipped_changes c).same .logs (by decide)).1, ((skipped_changes c).mono (by decide)).frame_harvest_ctr⟩

/-! ### MPPT_STARVED ends -/

theorem perturb_events (s : State) (c : HarvestCh) (uw : Nat) : (s.perturb c uw).events = s.events :=
  ((perturb_changes c uw).same .logs (by decide)).1

theorem mem_held_cycled {s : State} {c : HarvestCh} {uw : Nat} {h : Held} : h ∈ (s.cycled c uw).events.held ↔
    h ∈ s.events.held ∧ (h.src ≠ Ev.mpptStarved ∨ h.pulse = true ∨ h.detail ≠ hrvDetail c) := by
  unfold State.cycled
  rw [mem_held_clearD, perturb_events]

/-- The names that hold after a period: MPPT_STARVED of the channel has cleared, and every other name holds on. -/
theorem held_after_cycle (s : State) (c : HarvestCh) (uw : Nat) (limited : Bool) :
    let t := if limited then (s.cycled c uw).limitHrv c else s.cycled c uw
    (∀ h ∈ t.events.held, h.src = Ev.mpptStarved → h.pulse = false → h.detail ≠ hrvDetail c) ∧
      (∀ h ∈ s.events.held, (h.src ≠ Ev.mpptStarved ∨ h.pulse = true ∨ h.detail ≠ hrvDetail c) →
        h ∈ t.events.held) := by
  have hcleared : ∀ h ∈ (s.cycled c uw).events.held, h.src = Ev.mpptStarved → h.pulse = false →
      h.detail ≠ hrvDetail c := by
    intro h hmem hsrc hpulse
    obtain hne | hp | hdetail := (mem_held_cycled.1 hmem).2
    · exact absurd hsrc hne
    · exact absurd hp (by simp [hpulse])
    · exact hdetail
  cases limited with
  | false => exact ⟨hcleared, fun h hmem hother => mem_held_cycled.2 ⟨hmem, hother⟩⟩
  | true =>
    obtain ⟨u, hevents, hraise⟩ := limitHrv_raises (s := s.cycled c uw) c
    have hlimit : ((s.cycled c uw).limitHrv c).events.held = (u.raiseOnce Ev.mpptLimit 0 (hrvDetail c)).events.held := by
      rw [hraise]
    refine ⟨fun h hmem hsrc => ?_, fun h hmem hother => ?_⟩
    · rcases held_of_mem_raiseOnce (hlimit ▸ hmem) with hbefore | hown
      · exact hcleared h (hevents ▸ hbefore) hsrc
      · exact absurd (hsrc.symm.trans hown) (by decide)
    · have hbefore : h ∈ u.events.held := hevents ▸ mem_held_cycled.2 ⟨hmem, hother⟩
      exact hlimit ▸ held_subset_raiseOnce u _ _ _ hbefore

/-! ### An open-circuit sample -/

/-- What a running channel in clean time is sampled in: with the carrier heard, the line is busy from now on. -/
def State.heardIf (s : State) (carrier : Bool) : State := if carrier then s.carrierHeard else s

theorem heardIf_changes {s : State} (k : Bool) : ChangesOnly [.line] s (s.heardIf k) := .thenOnly (.write _ rfl)

theorem exec_vocSample (s : State) (c : HarvestCh) (v : Nat) (k : Bool) (hmode : s.hrvMode = true)
    (hen : s.isOn (hrvEn c) = true) (hrx : s.rxBusy = false) (hrun : (s.tracker c).running = true)
    (hvoc : s.isOn (hrvVocS c) = true) :
    exec (.vocSample c v k) s = .next ((s.heardIf k).resample c v k).regulate := by
  have hclean : ¬ (!(s.hrvMode && s.isOn (hrvEn c)) || s.rxBusy || ((s.tracker c).running && !s.isOn (hrvVocS c))) = true := by
    simp [hmode, hen, hrx, hrun, hvoc]
  exact congrArg Host.Outcome.next ((if_neg hclean).trans (if_pos hrun))

/-- A tracker that may move after an open-circuit sample: a point outside 30 % to 95 % of the value goes back to the start
fraction (R88), and a carrier heard holds the stage (R90). -/
def State.sampleOf (s : State) (c : HarvestCh) (v : Nat) (k : Bool) : Tracker :=
  { s.tracker c with
    voc := v
    vop := if 100 * (s.tracker c).vop < 30 * v ∨ 95 * v < 100 * (s.tracker c).vop then s.startVop c v
      else (s.tracker c).vop
    pin := if k then 0 else (s.tracker c).pin
    held := k, heldAt := s.plinth.upMs }

theorem resample_tracker {s : State} {c : HarvestCh} (v : Nat) (k : Bool) (hhold : s.hrvHolds c = false)
    (hfree : (s.tracker c).limited = false) : (s.resample c v k).tracker c = s.sampleOf c v k := by
  unfold State.resample State.sampleOf
  rw [tracker_onTracker_same]
  by_cases hout : 100 * (s.tracker c).vop < 30 * v ∨ 95 * v < 100 * (s.tracker c).vop
  · simp [hhold, hfree, hout]
  · simp [hout]

/-- A carrier heard changes nothing that a sample looks at. -/
theorem sampled_tracker (s : State) (c : HarvestCh) (v : Nat) (k : Bool) (hhold : s.hrvHolds c = false)
    (hfree : (s.tracker c).limited = false) : ((s.heardIf k).resample c v k).tracker c = s.sampleOf c v k := by
  cases k with
  | false => exact resample_tracker v false hhold hfree
  | true => exact resample_tracker (s := s.carrierHeard) v true hhold hfree

theorem vocSample_acts (s : State) (c : HarvestCh) (v : Nat) (k : Bool) (hmode : s.hrvMode = true)
    (hen : s.isOn (hrvEn c) = true) (hrx : s.rxBusy = false) (hrun : (s.tracker c).running = true)
    (hvoc : s.isOn (hrvVocS c) = true) (hhold : s.hrvHolds c = false) (hfree : (s.tracker c).limited = false) :
    ∃ t, exec (.vocSample c v k) s = .next t ∧ (t.tracker c).voc = v ∧ (t.tracker c).held = k ∧
      (30 * v ≤ 100 * (s.tracker c).vop → 100 * (s.tracker c).vop ≤ 95 * v → (t.tracker c).vop = (s.tracker c).vop) ∧
      (100 * (s.tracker c).vop < 30 * v ∨ 95 * v < 100 * (s.tracker c).vop → (t.tracker c).vop = s.startVop c v) ∧
      t = { s with harvest := t.harvest, line := t.line } := by
  have htracker : ((s.heardIf k).resample c v k).regulate.tracker c = s.sampleOf c v k :=
    (tracker_regulate c).trans (sampled_tracker s c v k hhold hfree)
  have hchanges : ChangesOnly [.harvest, .line] s ((s.heardIf k).resample c v k).regulate :=
    (((heardIf_changes k).trans (onTracker_changes ..)).trans regulate_changes).mono (by decide)
  refine ⟨_, exec_vocSample s c v k hmode hen hrx hrun hvoc, ?_, ?_, fun hlo hhi => ?_, fun hout => ?_,
    hchanges.frame_harvest_line⟩
  · rw [htracker]
    rfl
  · rw [htracker]
    rfl
  · rw [htracker]
    exact if_neg (by omega)
  · rw [htracker]
    exact if_pos hout

theorem vocSampleRestart_acts (s : State) (c : HarvestCh) (hrx : s.rxBusy = false) :
    ∃ t, exec (.vocSampleRestart c) s = .next t ∧ t.tracker c = { s.tracker c with held := false } ∧
      t = { s with harvest := t.harvest } := by
  have hclean : ¬ (s.rxBusy && decide (since s.plinth.upMs (s.tracker c).heldAt < 40)) = true := by simp [hrx]
  exact ⟨_, congrArg Host.Outcome.next (if_neg hclean), tracker_onTracker_same ..,
    (onTracker_changes ..).frame_harvest_silent⟩

/-! ### The statements -/

/-- Settles O8: each command by its lemma above; a busy receiver leaves the tracker by definition. -/
theorem trackersFollowTheProcedure : Obligations.TrackersFollowTheProcedure := by
  unfold Obligations.TrackersFollowTheProcedure
  intro s c
  refine ⟨trackerPeriod_steps s c, trackerPeriod_acts s c, fun uw hrx => ?busy, fun hrun => ?skip, vocSample_acts s c,
    vocSampleRestart_acts s c⟩
  case busy => exact congrArg Host.Outcome.next (if_pos (by simp [hrx]))
  case skip =>
    obtain ⟨t, hexec, htracker, hctr, hstarved, -, hframe⟩ := trackerSkip_acts s c hrun
    refine ⟨t, hexec, htracker, hctr, fun hmany => ?_, hframe⟩
    obtain ⟨h, hmem, hsrc, -⟩ := hstarved hmany
    exact List.any_eq_true.2 ⟨h, hmem, beq_iff_eq.2 hsrc⟩

/-- Settles O51: an abandoned cycle by what it leaves; a completed one by the names that hold after it. -/
theorem abandonedCyclesStarveTheTracker : Obligations.AbandonedCyclesStarveTheTracker := by
  unfold Obligations.AbandonedCyclesStarveTheTracker
  intro s c hrun
  refine ⟨?skip, fun uw hhold hrx => ?period⟩
  case skip =>
    obtain ⟨t, hexec, htracker, hctr, hstarved, hquiet, hframe⟩ := trackerSkip_acts s c hrun
    have hskips : (t.tracker c).skips = (s.tracker c).skips + 1 := congrArg Tracker.skips htracker
    exact ⟨t, hexec, hctr, hskips, fun hmany => hstarved (hskips ▸ hmany), fun hfew => hquiet (hskips ▸ hfew), hframe⟩
  case period =>
    obtain ⟨t, hexec, hskips, -, -, -, hframe⟩ := trackerPeriod_acts s c uw hrun hhold hrx
    obtain rfl := Host.Outcome.next.inj ((exec_trackerPeriod s c uw hrun hhold hrx).symm.trans hexec)
    obtain ⟨hcleared, hkept⟩ := held_after_cycle s c uw (s.cycleLimited c uw)
    exact ⟨_, hexec, hskips, hcleared, hkept, hframe⟩

end Sys2Proof.Machine
end

section
/-! PROOFS. The harvest bus and the faults of Table 3.10: one lemma per clause, and the statement on them. -/

namespace Sys2Proof.Machine

/-! ### The stages stand still -/

theorem stagesStop_changes {s : State} (vib : Bool) : ChangesOnly [.harvest] s (s.stagesStop vib) := .write _ rfl

/-- A stage that stands still holds its operating point (R77, R93). -/
theorem stagesStop_vop (s : State) (vib : Bool) (c : HarvestCh) :
    ((s.stagesStop vib).tracker c).vop = (s.tracker c).vop := by
  cases c with
  | teg | pv => rfl
  | vib =>
    show (ite _ _ _ : Tracker).vop = _
    split
    · rfl
    · rfl

theorem storeFullStop_acts (s : State) (v : Nat) (hrun : s.harvesting = true) (hv : s.vhbTarget + 500 ≤ v)
    (hlim : s.stoLimited = true ∨ s.harvest.storeOc = true) :
    ∃ t, exec (.storeFullStop v) s = .next t ∧ t.harvest.full = true ∧ t.harvest.vhbMv = v ∧ t.harvest.teg.pin = 0 ∧
      t.harvest.pv.pin = 0 ∧ (∀ c, (t.tracker c).vop = (s.tracker c).vop) ∧ t = { s with harvest := t.harvest } := by
  let u : State := { s with harvest := { s.harvest with vhbMv := v, full := true } }
  have hcond : (s.harvesting && decide (s.vhbTarget + 500 ≤ v) && (s.stoLimited || s.harvest.storeOc)) = true := by
    simp [hrun, hv, hlim]
  have hchanges : ChangesOnly [.harvest] s (u.stagesStop true) :=
    ((ChangesOnly.write [.harvest] rfl).trans (stagesStop_changes true)).mono (by decide)
  have hpoint : ∀ c, ((u.stagesStop true).tracker c).vop = (s.tracker c).vop := fun c =>
    (stagesStop_vop ..).trans (by cases c <;> rfl)
  exact ⟨_, congrArg Host.Outcome.next (if_pos hcond), rfl, rfl, rfl, rfl, hpoint, hchanges.frame_harvest_silent⟩

theorem boostCeiling_rises (s : State) (hv : 14000 < s.vhbTarget) :
    ∃ t, exec (.boostCeiling true) s = .next t ∧ t.harvest.ceiling = true ∧ t.harvest.teg.pin = 0 ∧
      t.harvest.pv.pin = 0 ∧ (∀ c, (t.tracker c).vop = (s.tracker c).vop) ∧ t = { s with harvest := t.harvest } := by
  let u : State := { s with harvest := { s.harvest with ceiling := true } }
  have hexec : exec (.boostCeiling true) s = .next (u.stagesStop false) := by
    show execBoostCeiling true s = _
    simp [execBoostCeiling, hv, u]
  have hchanges : ChangesOnly [.harvest] s (u.stagesStop false) :=
    ((ChangesOnly.write [.harvest] rfl).trans (stagesStop_changes false)).mono (by decide)
  have hpoint : ∀ c, ((u.stagesStop false).tracker c).vop = (s.tracker c).vop := fun c =>
    (stagesStop_vop ..).trans (by cases c <;> rfl)
  exact ⟨_, hexec, rfl, rfl, rfl, hpoint, hchanges.frame_harvest_silent⟩

theorem boostCeiling_falls (s : State) (hv : s.vhbTarget < 13500) :
    exec (.boostCeiling false) s = .next { s with harvest := { s.harvest with ceiling := false } } := by
  show execBoostCeiling false s = _
  simp [execBoostCeiling, hv]

/-! ### Reference and clamp -/

theorem hbClamp_acts (s : State) (k : Bool) (hon : s.plinthOn = true) :
    ∃ t, exec (.hbClamp k) s = .next t ∧ t.harvest.clamp = k ∧
      (k = true → t.harvest.vhbMv = 26000 ∧ t.holds Ev.hbClamp = true) ∧
      t = { s.withLogs t with harvest := { s.harvest with clamp := k, vhbMv := t.harvest.vhbMv } } := by
  let u : State :=
    { s with harvest := { s.harvest with clamp := k, vhbMv := if k then 26000 else min s.harvest.vhbMv 26000 } }
  have set : ChangesOnly [.logs] u (u.setC Ev.hbClamp k 0 0) := setC_changes ..
  have hharvest : (u.setC Ev.hbClamp k 0 0).harvest = u.harvest := set.same .harvest (by decide)
  have hchanges : ChangesOnly [.harvest, .logs] s (u.setC Ev.hbClamp k 0 0) :=
    (ChangesOnly.write [.harvest] rfl).trans set
  refine ⟨_, congrArg Host.Outcome.next (if_pos hon), ?_, fun hk => ⟨?_, ?_⟩, hchanges.frame_of_harvest ?_⟩
  · rw [hharvest]
  · rw [hharvest]
    exact if_pos hk
  · rw [hk]
    exact setC_holds ..
  · rw [hharvest]

/-! ### Faults of a source and of the store stage -/

theorem tegOscCheck_acts (s : State) (g : Bool) (hmode : s.hrvMode = true) (hen : s.isOn P.hrvTegOscchkEn = true)
    (hstop : s.harvest.teg.running = false) (hvoc : 30000 ≤ s.harvest.teg.voc) (hosc : s.harvest.tegOsc = false) :
    ∃ t, exec (.tegOscCheck g) s = .next t ∧ (g = false → t.holds Ev.hrvFault = true) ∧
      t = { s.withLogs t with harvest := { s.harvest with tegOsc := !g } } := by
  let u : State := { s with harvest := { s.harvest with tegOsc := !g } }
  have hmay : ¬ (!(s.hrvMode && s.isOn P.hrvTegOscchkEn && !s.harvest.teg.running &&
      decide (30000 ≤ s.harvest.teg.voc))) = true := by simp [hmode, hen, hstop, hvoc]
  have hexec : exec (.tegOscCheck g) s = .next (if g then u.clearR Ev.hrvFault 1 else
      if s.harvest.tegOsc then s else u.raisePinC Ev.hrvFault 1 0) := congrArg Host.Outcome.next (if_neg hmay)
  rw [hosc] at hexec
  cases g with
  | true => exact ⟨_, hexec, fun hg => absurd hg (by decide), clearIf_logs ..⟩
  | false => exact ⟨_, hexec, fun _ => raisePinC_holds .., raisePinC_logs ..⟩

theorem lstoOpen_acts (s : State) (hrun : s.harvesting = true) :
    ∃ t, exec .lstoOpen s = .next t ∧ t.harvest.lstoOpen = true ∧ t.harvesting = false ∧ t.holds Ev.hrvFault = true ∧
      t = { s.withLogs t with harvest := t.harvest } := by
  let u : State := { s with harvest := { s.harvest with
    teg := s.harvest.teg.stop, vib := s.harvest.vib.stop, pv := s.harvest.pv.stop, nfc := false, nfcUw := 0
    lstoOpen := true } }
  have raised : ChangesOnly [.logs] u (u.raiseOnce Ev.hrvFault 2 0) := raiseOnce_changes ..
  have hharvest : (u.raiseOnce Ev.hrvFault 2 0).harvest = u.harvest := raised.same .harvest (by decide)
  have hchanges : ChangesOnly [.harvest, .logs] s (u.raiseOnce Ev.hrvFault 2 0) :=
    (ChangesOnly.write [.harvest] rfl).trans raised
  refine ⟨_, congrArg Host.Outcome.next (if_pos hrun), ?_, ?_, raiseOnce_holds .., hchanges.frame_harvest⟩
  · exact congrArg Harvest.lstoOpen hharvest
  · show State.harvesting (u.raiseOnce Ev.hrvFault 2 0) = false
    unfold State.harvesting
    rw [hharvest]
    rfl

theorem lstoRetry_acts (s : State) (hopen : s.harvest.lstoOpen = true) :
    ∃ t, exec (.lstoRetry true) s = .next t ∧
      t = { s.withLogs t with harvest := { s.harvest with lstoOpen := false } } := by
  have hcond : (s.harvest.lstoOpen && true) = true := by simp [hopen]
  exact ⟨_, congrArg Host.Outcome.next (if_pos hcond), clearIf_logs ..⟩

/-! ### Overcurrent of a stage -/

theorem stageOc_channel_acts (s : State) (st : Stage) (c : HarvestCh) (hst : stageCh st = some c)
    (hrun : (s.tracker c).running = true) :
    ∃ t, exec (.stageOc st) s = .next t ∧ t.tracker c = { (s.tracker c).stop with oc := true, ocFails := 0 } ∧
      t.holds Ev.hrvFault = true ∧ t = { s.withLogs t with harvest := t.harvest } := by
  let u : State := s.onTracker c fun t => { t.stop with oc := true, ocFails := 0 }
  have hexec : exec (.stageOc st) s = .next (u.raiseOnce Ev.hrvFault 3 0) := by
    show execStageOc st s = _
    simp only [execStageOc, hst, hrun, if_true, u]
  have raised : ChangesOnly [.logs] u (u.raiseOnce Ev.hrvFault 3 0) := raiseOnce_changes ..
  have hchanges : ChangesOnly [.harvest, .logs] s (u.raiseOnce Ev.hrvFault 3 0) := (onTracker_changes ..).trans raised
  exact ⟨_, hexec, (raised.tracker (by decide) c).trans (tracker_onTracker_same ..), raiseOnce_holds ..,
    hchanges.frame_harvest⟩

theorem stageOc_store_acts (s : State) (hrun : s.harvesting = true) (hoc : s.harvest.storeOc = false) :
    ∃ t, exec (.stageOc .store) s = .next t ∧ t.holds Ev.hrvFault = true ∧
      t = { s.withLogs t with harvest := { s.harvest with storeOc := true, storeFails := 0 } } := by
  have hcond : (s.harvesting && !s.harvest.storeOc) = true := by simp [hrun, hoc]
  exact ⟨_, congrArg Host.Outcome.next (if_pos hcond), raiseOnce_holds .., raiseOnce_logs ..⟩

/-- A stage whose retry works: its channel runs again where it may, from its operating point (R101). -/
def State.stageResumed (s : State) (c : HarvestCh) : State :=
  (s.onTracker c fun t =>
    { t with
      running := s.hrvMode && s.isOn (hrvEn c) && !s.harvest.lstoOpen && !(c == .vib && s.harvest.vibOv)
      oc := false, ocFails := 0, pLast := 0 }).regulate

/-- A stage whose retry fails, for good at the fifth time in a row (R101). -/
def State.stageFailed (s : State) (c : HarvestCh) : State :=
  s.onTracker c fun t => { t with ocFails := t.ocFails + 1, dead := decide (5 ≤ t.ocFails + 1) }

theorem exec_stageOcRetry_channel (s : State) (st : Stage) (c : HarvestCh) (works : Bool) (hst : stageCh st = some c)
    (hoc : (s.tracker c).oc = true) (hdead : (s.tracker c).dead = false) :
    exec (.stageOcRetry st works) s = .next (if works then s.stageResumed c else s.stageFailed c) := by
  have hstopped : ¬ (!(s.tracker c).oc || (s.tracker c).dead) = true := by simp [hoc, hdead]
  show execStageOcRetry st works s = _
  simp only [execStageOcRetry, hst, if_neg hstopped]
  rfl

theorem stageResumed_changes {s : State} (c : HarvestCh) : ChangesOnly [.harvest] s (s.stageResumed c) :=
  ((onTracker_changes ..).trans regulate_changes).mono (by decide)

theorem stageOcRetry_channel_acts (s : State) (st : Stage) (c : HarvestCh) (hst : stageCh st = some c)
    (hoc : (s.tracker c).oc = true) (hdead : (s.tracker c).dead = false) :
    (∃ t, exec (.stageOcRetry st true) s = .next t ∧ (t.tracker c).oc = false ∧
      (t.tracker c).running = (s.hrvMode && s.isOn (hrvEn c) && !s.harvest.lstoOpen &&
        !(c == .vib && s.harvest.vibOv)) ∧ t = { s with harvest := t.harvest }) ∧
    (∃ t, exec (.stageOcRetry st false) s = .next t ∧ (t.tracker c).oc = true ∧
      ((t.tracker c).dead = true ↔ 5 ≤ (s.tracker c).ocFails + 1) ∧ t = { s with harvest := t.harvest }) := by
  have hworks : exec (.stageOcRetry st true) s = .next (s.stageResumed c) :=
    exec_stageOcRetry_channel s st c true hst hoc hdead
  have hfails : exec (.stageOcRetry st false) s = .next (s.stageFailed c) :=
    exec_stageOcRetry_channel s st c false hst hoc hdead
  refine ⟨⟨_, hworks, ?_, ?_, (stageResumed_changes c).frame_harvest_silent⟩,
    ⟨_, hfails, ?_, ?_, (onTracker_changes ..).frame_harvest_silent⟩⟩
  · unfold State.stageResumed
    rw [tracker_regulate, tracker_onTracker_same]
  · unfold State.stageResumed
    rw [tracker_regulate, tracker_onTracker_same]
  · unfold State.stageFailed
    rw [tracker_onTracker_same]
    exact hoc
  · unfold State.stageFailed
    rw [tracker_onTracker_same]
    exact decide_eq_true_iff

theorem stageOcRetry_store (s : State) (hoc : s.harvest.storeOc = true) (hdead : s.harvest.storeDead = false) :
    exec (.stageOcRetry .store true) s = .next { s with harvest := { s.harvest with storeOc := false, storeFails := 0 } } :=
  congrArg Host.Outcome.next (if_neg (by simp [hoc, hdead]))

/-! ### VHB low, and too high at the VIB bridge -/

theorem withTracker_vhbLow (h : Harvest) (c : HarvestCh) (x : Tracker) : (h.withTracker c x).vhbLow = h.vhbLow := by
  cases c <;> rfl

theorem hrvAgain_changes {s : State} (c : HarvestCh) : ChangesOnly [.harvest] s (s.hrvAgain c) :=
  .thenOnly (hrvStart_changes ..)

theorem hrvAgain_vhbLow (s : State) (c : HarvestCh) : (s.hrvAgain c).harvest.vhbLow = s.harvest.vhbLow := by
  unfold State.hrvAgain
  split
  · rw [hrvStart_harvest]
    exact withTracker_vhbLow ..
  · rfl

theorem holds_congr {s t : State} (h : t.events = s.events) (src : Src) : t.holds src = s.holds src := by
  unfold State.holds
  rw [h]

/-- Every running channel goes back to its start fraction (R101). -/
def State.hrvAgainAll (s : State) : State := ((s.hrvAgain .teg).hrvAgain .vib).hrvAgain .pv

theorem hrvAgainAll_changes {s : State} : ChangesOnly [.harvest] s s.hrvAgainAll :=
  (((hrvAgain_changes .teg).trans (hrvAgain_changes .vib)).trans (hrvAgain_changes .pv)).mono (by decide)

theorem hrvAgainAll_vhbLow (s : State) : s.hrvAgainAll.harvest.vhbLow = s.harvest.vhbLow := by
  unfold State.hrvAgainAll
  rw [hrvAgain_vhbLow, hrvAgain_vhbLow, hrvAgain_vhbLow]

theorem vhbLow_acts (s : State) (k : Bool) (hk : k = true ∨ s.harvesting = true) :
    ∃ t, exec (.vhbLow k) s = .next t ∧ t.harvest.vhbLow = !k ∧ (k = false → t.holds Ev.hrvFault = true) ∧
      t = { s.withLogs t with harvest := t.harvest } := by
  let u : State := { s with harvest := { s.harvest with vhbLow := !k } }
  have noted : ChangesOnly [.harvest] s u := .write _ rfl
  cases k with
  | true =>
    have cleared : ChangesOnly [.logs] u (u.clearR Ev.hrvFault 4) := clearR_changes ..
    exact ⟨_, rfl, congrArg Harvest.vhbLow (cleared.same .harvest (by decide)), fun h => absurd h (by decide),
      (noted.trans cleared).frame_harvest⟩
  | false =>
    have hrun : s.harvesting = true := hk.resolve_left (by decide)
    have hexec : exec (.vhbLow false) s = .next (u.raiseOnce Ev.hrvFault 4 0).hrvAgainAll :=
      congrArg Host.Outcome.next (if_pos hrun)
    have raised : ChangesOnly [.logs] u (u.raiseOnce Ev.hrvFault 4 0) := raiseOnce_changes ..
    have hchanges : ChangesOnly [.harvest, .logs] s (u.raiseOnce Ev.hrvFault 4 0).hrvAgainAll :=
      ((noted.trans raised).trans hrvAgainAll_changes).mono (by decide)
    refine ⟨_, hexec, ?_, fun _ => ?_, hchanges.frame_harvest⟩
    · rw [hrvAgainAll_vhbLow, raised.same .harvest (by decide)]
    · rw [holds_congr (hrvAgainAll_changes.same .logs (by decide)).1]
      exact raiseOnce_holds ..

theorem vibDcOv_acts (s : State) (k : Bool) (hk : k = true ∨ s.harvest.clamp = true) :
    ∃ t, exec (.vibDcOv k) s = .next t ∧ t.harvest.vibOv = !k ∧
      (k = false → t.harvest.vib.running = false ∧ t.holds Ev.hrvFault = true) ∧
      t = { s.withLogs t with harvest := t.harvest } := by
  let u : State := { s with harvest := { s.harvest with vibOv := !k } }
  have noted : ChangesOnly [.harvest] s u := .write _ rfl
  cases k with
  | true =>
    have cleared : ChangesOnly [.logs] u (u.clearR Ev.hrvFault 5) := clearR_changes ..
    exact ⟨_, rfl, congrArg Harvest.vibOv (cleared.same .harvest (by decide)), fun h => absurd h (by decide),
      (noted.trans cleared).frame_harvest⟩
  | false =>
    have hclamp : s.harvest.clamp = true := hk.resolve_left (by decide)
    have hexec : exec (.vibDcOv false) s = .next ((u.hrvStop .vib).raiseOnce Ev.hrvFault 5 0) :=
      congrArg Host.Outcome.next (if_pos hclamp)
    have raised : ChangesOnly [.logs] (u.hrvStop .vib) ((u.hrvStop .vib).raiseOnce Ev.hrvFault 5 0) :=
      raiseOnce_changes ..
    have hharvest : ((u.hrvStop .vib).raiseOnce Ev.hrvFault 5 0).harvest =
        { s.harvest with vibOv := true, vib := s.harvest.vib.stop } := raised.same .harvest (by decide)
    have hchanges : ChangesOnly [.harvest, .logs] s ((u.hrvStop .vib).raiseOnce Ev.hrvFault 5 0) :=
      ((noted.trans (hrvStop_changes .vib)).trans raised).mono (by decide)
    refine ⟨_, hexec, ?_, fun _ => ⟨?_, raiseOnce_holds ..⟩, hchanges.frame_harvest⟩
    · rw [hharvest]
      rfl
    · rw [hharvest]
      rfl

/-- Settles O9: each command by its lemma above; a resumption and a refresh write one field by definition. -/
theorem harvestBusAndFaultsAct : Obligations.HarvestBusAndFaultsAct := by
  unfold Obligations.HarvestBusAndFaultsAct
  intro s
  exact ⟨storeFullStop_acts s, fun _ hv => congrArg Host.Outcome.next (if_pos hv), boostCeiling_rises s,
    boostCeiling_falls s, fun hon => congrArg Host.Outcome.next (if_pos hon), hbClamp_acts s, tegOscCheck_acts s,
    lstoOpen_acts s, lstoRetry_acts s, stageOc_channel_acts s, stageOc_store_acts s, stageOcRetry_channel_acts s,
    stageOcRetry_store s, vhbLow_acts s, vibDcOv_acts s⟩

end Sys2Proof.Machine
end

section
/-! PROOFS. The cold-start circuit, the start of the Plinth from STO and the cold boot: one lemma per clause, and the
statement on them. -/

namespace Sys2Proof.Machine

/-! ### The cold-start circuit (R79) -/

/-- The passive paths charge VHB to 2.0 V at least, and never past the clamp. -/
theorem cscStart_acts (s : State) (p : PassiveIn) (hpath : s.power.path = .none)
    (hstarts : tegStarts p = true ∨ vibStarts p = true ∨ pvStarts p = true) :
    ∃ t, exec (.cscStart p) s = .next t ∧ t.harvest.csc = true ∧ t.harvest.cscTegUv = p.tegVocUv ∧
      t.harvest.cscPvMv = p.pvVocMv ∧ (s.harvest.vhbMv ≤ 26000 → s.harvest.vhbMv ≤ t.harvest.vhbMv) ∧
      2000 ≤ t.harvest.vhbMv ∧ t = { s with harvest := t.harvest } := by
  have hmay : ¬ ((s.plinthOn && !s.inReset) || s.power.path == .shelf ||
      !(tegStarts p || vibStarts p || pvStarts p)) = true := by
    rcases hstarts with h | h | h <;> simp [State.plinthOn, hpath, h]
  have hcharged : 2000 ≤ min 26000 (max s.harvest.vhbMv (passiveVhbMv p)) :=
    Nat.le_min.2 ⟨by decide, Nat.le_trans (Nat.le_max_left 2000 _) (Nat.le_max_right ..)⟩
  exact ⟨_, congrArg Host.Outcome.next (if_neg hmay), rfl, rfl, rfl,
    fun hclamp => Nat.le_min.2 ⟨hclamp, Nat.le_max_left ..⟩, hcharged, rfl⟩

theorem cscStart_without_source (s : State) (p : PassiveIn) (hteg : tegStarts p = false) (hvib : vibStarts p = false)
    (hpv : pvStarts p = false) : exec (.cscStart p) s = .next s :=
  congrArg Host.Outcome.next (if_pos (by simp [hteg, hvib, hpv]))

/-! ### The Plinth starts from STO (R80) -/

theorem raiseAfresh_changes {s : State} (was : List Held) : ChangesOnly [.logs] s (s.raiseAfresh was) :=
  .write _ (raiseAfresh_logsOnly s was)

theorem sampleStraps_changes {s : State} (p : Straps) (sdo : Bool) :
    ChangesOnly [.ident, .logs] s (s.sampleStraps p sdo) := by
  obtain ⟨k, hlogs⟩ := sampleStraps_logsOnly s p sdo
  exact (ChangesOnly.write (t := { s with ident := k }) [.ident] rfl).trans (.write [.logs] hlogs)

/-- The last two steps of a power-on reset: the straps are sampled and the standing conditions raised afresh. -/
theorem sampledAfresh_changes {s : State} (p : Straps) (was : List Held) :
    ChangesOnly [.ident, .logs] s ((s.sampleStraps p true).raiseAfresh was) :=
  ((sampleStraps_changes ..).trans (raiseAfresh_changes _)).mono (by decide)

/-- What Table 7.4 rolls back at a device reset. -/
theorem rollBacks_changes {s : State} : ChangesOnly [.config, .sec, .life] s (s.camyx.ops.foldl (State.rollBack true) s) :=
  .foldl (fun _ _ => rollBack_changes ..) _ _

theorem powerOnReset_plinth (s : State) (src : Source) (p : Straps) : (s.powerOnReset src p).plinth =
    { State.reset.plinth with cause := if p.test then 2 else 0, testHeld := p.test, rstLow := s.plinth.rstLow } := by
  unfold State.powerOnReset
  dsimp only
  rw [(sampledAfresh_changes ..).same .plinth (by decide), rollBacks_changes.same .plinth (by decide)]

theorem powerOnReset_path (s : State) (src : Source) (p : Straps) : (s.powerOnReset src p).power.path = pathOf src := by
  unfold State.powerOnReset
  dsimp only
  rw [(sampledAfresh_changes ..).power (by decide)]

theorem powerOnReset_stoMv (s : State) (src : Source) (p : Straps) :
    (s.powerOnReset src p).power.stoMv = s.power.stoMv := by
  unfold State.powerOnReset
  dsimp only
  rw [(sampledAfresh_changes ..).power (by decide), rollBacks_changes.power (by decide)]

theorem powerOnReset_life (s : State) (src : Source) (p : Straps) : (s.powerOnReset src p).life.st = .plinthStart := by
  unfold State.powerOnReset
  dsimp only
  rw [(sampledAfresh_changes ..).life (by decide)]
  rfl

/-- A power-on reset leaves the device held where RST_N is low or TEST was high (R26). -/
theorem powerOnReset_inReset (s : State) (src : Source) (p : Straps) :
    (s.powerOnReset src p).inReset = (s.plinth.rstLow || p.test) := by
  unfold State.inReset
  rw [powerOnReset_plinth]

theorem takeOver_changes {s : State} (c : HarvestCh) (voc point : Nat) : ChangesOnly [.harvest] s (s.takeOver c voc point) :=
  .thenOnly (((hrvStart_changes ..).trans (onTracker_changes ..)).mono (by decide))

/-- Out of reset, a start on STO is a power-on reset with the sources recorded, the channels taken over and COLDSTART
raised. -/
theorem startFromSto_changes {s : State} (delivering : BitVec 4) (p : Straps)
    (hfree : (s.powerOnReset .sto p).inReset = false) :
    ChangesOnly [.harvest, .ctr, .hoCount, .logs] (s.powerOnReset .sto p) (s.startFromSto delivering p) ∧
      (s.startFromSto delivering p).holds Ev.coldStart = true := by
  unfold State.startFromSto
  extract_lets u _ recorded taken
  have hrecorded : ChangesOnly [.ctr, .hoCount] u recorded := .write _ rfl
  have htaken : ChangesOnly [.harvest] recorded taken :=
    .thenOnly ((((takeOver_changes ..).trans (takeOver_changes ..)).trans (takeOver_changes ..)).mono (by decide))
  have hrun : ¬ u.inReset = true := Bool.eq_false_iff.1 hfree
  rw [if_neg hrun]
  exact ⟨((hrecorded.trans htaken).trans (raiseP_changes ..)).mono (by decide), raiseP_holds ..⟩

theorem plinthStartFromSto_acts (s : State) (mv : Nat) (d : BitVec 4) (p : Straps) (hpath : s.power.path = .none)
    (hmv : 1000 ≤ mv) (htest : p.test = false) (hrst : s.plinth.rstLow = false) :
    ∃ t, exec (.plinthStartFromSto mv d p) s = .next t ∧ t.power.path = .onSto ∧ t.power.stoMv = mv ∧
      t.plinth.mode = .plinth ∧ t.life.st = .plinthStart ∧ t.ctr.coldSrc = d.toNat ∧ t.holds Ev.coldStart = true := by
  let u : State := { s with power := { s.power with stoMv := mv } }
  have hfree : (u.powerOnReset .sto p).inReset = false := by
    rw [powerOnReset_inReset, htest, Bool.or_false]
    exact hrst
  obtain ⟨hchanges, hholds⟩ := startFromSto_changes d p hfree
  refine ⟨_, congrArg Host.Outcome.next (if_pos ⟨hpath, hmv⟩), ?_, ?_, ?_, ?_, ?_, hholds⟩
  · rw [hchanges.power (by decide), powerOnReset_path]
    rfl
  · rw [hchanges.power (by decide), powerOnReset_stoMv]
  · rw [hchanges.mode (by decide), powerOnReset_plinth]
    rfl
  · rw [hchanges.life (by decide), powerOnReset_life]
  · rw [startFromSto_ctr]

/-! ### The cold boot (R469) -/

/-- Outside FIELD a cold boot begins in RUN; the power path is as before. -/
theorem bootBegin_spec {s : State} (htest : s.plinth.testHeld = false) (hrst : s.plinth.rstLow = false)
    (hmode : s.plinth.mode ≠ .field) :
    s.bootBegin.plinth.mode = .run ∧ s.bootBegin.plinth.seq = .coldBoot ∧ s.bootBegin.life.st = .boot ∧
      s.bootBegin.power = s.power := by
  have hfree : ¬ (s.plinth.testHeld || s.plinth.rstLow) = true := by simp [htest, hrst]
  have hrun : (s.toMode .run).plinth.mode = .run := toMode_mode .run
  have hpower : (s.toMode .run).power = s.power := (toMode_changes .run).power (by decide)
  unfold State.bootBegin
  rw [if_neg hfree, if_neg hmode]
  generalize s.toMode .run = u at hrun hpower ⊢
  exact ⟨hrun, rfl, rfl, hpower⟩

theorem coldBootTrigger_acts (s : State) (mv : Nat) (hlife : s.life.st = .plinthStart) (hpath : s.power.path = .onSto)
    (hmv : s.param P.pwrStoFloorMv + 100 ≤ mv) (htest : s.plinth.testHeld = false) (hrst : s.plinth.rstLow = false)
    (hmode : s.plinth.mode ≠ .field) :
    ∃ t, exec (.coldBootTrigger mv) s = .next t ∧ t.power.floorSusp = false ∧ t.power.stoQ = true ∧
      t.power.stoMv = mv ∧ t.plinth.mode = .run ∧ t.plinth.seq = .coldBoot ∧ t.life.st = .boot := by
  let u : State := { s.setSto mv with power := { (s.setSto mv).power with floorSusp := false, stoQ := true } }
  have hplinth : u.plinth = s.plinth := (setSto_changes mv).same .plinth (by decide)
  obtain ⟨hrun, hseq, hboot, hpower⟩ := bootBegin_spec (s := u) (by rw [hplinth, htest]) (by rw [hplinth, hrst])
    (by rw [hplinth]; exact hmode)
  refine ⟨_, congrArg Host.Outcome.next (if_pos ⟨hlife, hpath, hmv⟩), ?_, ?_, ?_, hrun, hseq, hboot⟩
  · rw [hpower]
  · rw [hpower]
  · rw [hpower]
    exact setSto_stoMv mv

/-- Settles O6: each command by its lemma above; a stop and a sample of the circuit write their fields by definition. -/
theorem coldStartActs : Obligations.ColdStartActs := by
  unfold Obligations.ColdStartActs
  intro s
  exact ⟨cscStart_acts s, cscStart_without_source s, fun hcsc => ⟨_, congrArg Host.Outcome.next (if_pos hcsc), rfl⟩,
    fun _ hcsc => ⟨_, congrArg Host.Outcome.next (if_pos hcsc), rfl⟩, plinthStartFromSto_acts s, coldBootTrigger_acts s⟩

end Sys2Proof.Machine
end

section
/-! PROOFS. The operations of the ledger that its statements share: which names a raise or a clear keeps, what the grant
pins write, and the frames of the ledger. -/

namespace Sys2Proof.Machine

variable {s t : State}

/-! ### Names that go on holding -/

theorem held_subset_raiseAs (src : Src) (pulse : Bool) (r d : Nat) (pin : Bool) :
    s.events.held ⊆ (s.raiseAs src pulse r d pin).events.held := by
  rw [held_raiseAs]
  split
  · exact List.Subset.refl _
  · exact List.subset_append_left ..

theorem holds_of_held_subset {src : Src} (hsub : s.events.held ⊆ t.events.held) (hs : s.holds src = true) :
    t.holds src = true := by
  obtain ⟨h, hmem, hsrc⟩ := List.any_eq_true.1 hs
  exact List.any_eq_true.2 ⟨h, hsub hmem, hsrc⟩

/-- A raise, of whatever name, leaves a name holding. -/
theorem holds_raiseAs {src : Src} (x : Src) (pulse : Bool) (r d : Nat) (pin : Bool) (hs : s.holds src = true) :
    (s.raiseAs x pulse r d pin).holds src = true :=
  holds_of_held_subset (held_subset_raiseAs ..) hs

/-- A clear leaves the other names holding. -/
theorem holds_clearE {src x : Src} (hne : src ≠ x) (hs : s.holds src = true) : (s.clearE x).holds src = true := by
  obtain ⟨h, hmem, hsrc⟩ := List.any_eq_true.1 hs
  obtain rfl : h.src = src := beq_iff_eq.1 hsrc
  refine List.any_eq_true.2 ⟨h, List.mem_filter.2 ⟨hmem, ?_⟩, hsrc⟩
  simp [hne]

/-! ### The grant pins -/

/-- Driving both pins low raises nothing and dates nothing. -/
theorem pinsLow_eq (s : State) : s.pinsLow =
    { s with ledger := { s.ledger with sprig := false, bunch := false, fc := false, fcRec := false } } := rfl

/-- The pins as driven; only a grant by forecast is recorded for its check (R125). -/
theorem drivePins_ledger (sprig bunch fc : Bool) : ∃ sa ba rec checks,
    (s.drivePins sprig bunch fc).ledger = { s.ledger with
      sprig := sprig, bunch := bunch, fc := fc, sprigAt := sa, bunchAt := ba, fcRec := rec, checks := checks } ∧
    (fc = false → checks = s.ledger.checks) := by
  unfold State.drivePins
  extract_lets up l anew s1 s2
  have hsprig : s2.ledger = s1.ledger := by
    unfold s2
    split
    · exact (raiseP_changes ..).same .ledger (by decide)
    · rfl
  have hbunch : (if (bunch && !l.bunch) = true then s2.raiseP Ev.bunchUp (if fc then 1 else 0) 0 else s2).ledger =
      s1.ledger := by
    split
    · exact Eq.trans ((raiseP_changes ..).same .ledger (by decide)) hsprig
    · exact hsprig
  refine ⟨_, _, _, _, hbunch, ?_⟩
  rintro rfl
  rfl

theorem held_subset_drivePins (sprig bunch fc : Bool) :
    s.events.held ⊆ (s.drivePins sprig bunch fc).events.held := by
  unfold State.drivePins
  extract_lets up l anew s1 s2
  have hsprig : s.events.held ⊆ s2.events.held := by
    unfold s2
    split
    · exact held_subset_raiseAs (s := s1) ..
    · exact List.Subset.refl _
  split
  · exact List.Subset.trans hsprig (held_subset_raiseAs ..)
  · exact hsprig

/-- The ledger with whether the bus grant holds noted, as an evaluation of the pins begins (R121). -/
def State.noteBus (s : State) : State := { s with ledger := { s.ledger with busGrant := s.busGrants } }

/-- What an evaluation of the pins can do: drive them, by forecast only where the forecast advances anything; see a bus
grant end; or leave them under a HOLD. -/
theorem evalPins_cases (s : State) :
    (∃ sprig bunch fc, s.evalPins = s.noteBus.drivePins sprig bunch fc ∧ (fc = true → 0 < s.advanceMj)) ∨
      s.evalPins = s.noteBus.afterBus ∨ s.evalPins = s.noteBus := by
  unfold State.evalPins
  dsimp only
  split
  · exact .inl ⟨false, false, false, rfl, nofun⟩
  split
  · exact .inl ⟨true, true, false, rfl, nofun⟩
  split
  · exact .inr (.inl rfl)
  split
  · exact .inr (.inr rfl)
  · refine .inl ⟨_, _, _, rfl, fun hfc => ?_⟩
    simp only [State.wantForecast, Bool.and_eq_true, decide_eq_true_eq] at hfc
    exact hfc.2.1.1.1.2

/-- A ledger with the grant pins of another, what dates and explains them, and the HOST reservation that they carry. -/
def Ledger.withPins (l p : Ledger) : Ledger :=
  { l with
    sprig := p.sprig, bunch := p.bunch, fc := p.fc, busGrant := p.busGrant, sprigAt := p.sprigAt, bunchAt := p.bunchAt
    fcRec := p.fcRec, checks := p.checks, host := p.host }

theorem drivePins_ledger_withPins (sprig bunch fc : Bool) :
    (s.drivePins sprig bunch fc).ledger = s.ledger.withPins (s.drivePins sprig bunch fc).ledger := by
  obtain ⟨sa, ba, rec, checks, hl, -⟩ := drivePins_ledger (s := s) sprig bunch fc
  rw [hl]
  rfl

theorem afterBus_ledger_withPins : s.afterBus.ledger = s.ledger.withPins s.afterBus.ledger := by
  unfold State.afterBus
  dsimp only
  rw [drivePins_ledger_withPins]
  rfl

/-- An evaluation of the pins leaves the rest of the ledger. -/
theorem evalPins_ledger (s : State) : s.evalPins.ledger = s.ledger.withPins s.evalPins.ledger := by
  obtain ⟨sprig, bunch, fc, he, -⟩ | he | he := evalPins_cases s
  · rw [he, drivePins_ledger_withPins]
    rfl
  · rw [he, afterBus_ledger_withPins]
    rfl
  · rw [he]
    rfl

/-- Where the forecast advances nothing, no grant by forecast is recorded. -/
theorem evalPins_checks (hadv : s.advanceMj = 0) : s.evalPins.ledger.checks = s.ledger.checks := by
  have kept : ∀ sprig bunch, (s.noteBus.drivePins sprig bunch false).ledger.checks = s.ledger.checks := by
    intro sprig bunch
    obtain ⟨sa, ba, rec, checks, hl, hchecks⟩ := drivePins_ledger (s := s.noteBus) sprig bunch false
    rw [hl]
    exact hchecks rfl
  obtain ⟨sprig, bunch, fc, he, hfc⟩ | he | he := evalPins_cases s
  · cases fc with
    | true => exact absurd (hfc rfl) (by omega)
    | false => rw [he, kept]
  · rw [he]
    exact kept ..
  · rw [he]
    rfl

theorem held_subset_evalPins (s : State) : s.events.held ⊆ s.evalPins.events.held := by
  obtain ⟨sprig, bunch, fc, he, -⟩ | he | he := evalPins_cases s
  · rw [he]
    exact held_subset_drivePins (s := s.noteBus) ..
  · rw [he]
    exact held_subset_drivePins (s := s.noteBus) ..
  · rw [he]
    exact List.Subset.refl _

/-- An evaluation of the pins raises, and clears nothing. -/
theorem holds_evalPins {src : Src} (hs : s.holds src = true) : s.evalPins.holds src = true :=
  holds_of_held_subset (held_subset_evalPins s) hs

/-! ### The thresholds -/

/-- Whether a threshold exceeds E_full: 0 KEEP_eff, 1 SPRIG, 2 BUNCH (R110). -/
def State.outOfReach (s : State) (i : Nat) : Bool :=
  if i = 0 then decide (s.eFull < s.keepEff)
  else !s.reachable (s.param (if i = 1 then P.nrgSprigMj else P.nrgBunchMj))

/-- UNREACHABLE raised for each threshold, of those listed, that has gone out of reach. -/
def State.raiseUnreach (s : State) (is : List Nat) : State :=
  is.foldl (fun (u : State) i =>
    if s.outOfReach i && !u.ledger.unreach.getLsbD i then u.raiseC Ev.unreachable 0 i else u) s

/-- A state in which the thresholds out of reach are noted. -/
def State.noteUnreach (s : State) (m : BitVec 3) : State := { s with ledger := { s.ledger with unreach := m } }

theorem unreachEval_eq (s : State) :
    let u := (s.raiseUnreach (List.range 3)).noteUnreach (BitVec.ofNat 3 (maskOf 3 s.outOfReach))
    s.unreachEval = if (List.range 3).any s.outOfReach then u else u.clearE Ev.unreachable := rfl

theorem raiseUnreach_changes (is : List Nat) : ChangesOnly [.logs] s (s.raiseUnreach is) :=
  .foldl (fun _ _ => .thenOnly (raiseC_changes ..)) is s

theorem noteUnreach_ledger (m : BitVec 3) : (s.noteUnreach m).ledger = { s.ledger with unreach := m } := rfl

theorem holds_noteUnreach (m : BitVec 3) (src : Src) : (s.noteUnreach m).holds src = s.holds src := rfl

/-- An evaluation of which thresholds can be reached writes that alone. -/
theorem unreachEval_ledger (s : State) :
    s.unreachEval.ledger = { s.ledger with unreach := BitVec.ofNat 3 (maskOf 3 s.outOfReach) } := by
  have noted : ∀ m, ((s.raiseUnreach (List.range 3)).noteUnreach m).ledger = { s.ledger with unreach := m } := by
    intro m
    rw [noteUnreach_ledger, (raiseUnreach_changes ..).same .ledger (by decide)]
  rw [unreachEval_eq]
  split
  · exact noted _
  · exact Eq.trans ((clearE_changes _).same .ledger (by decide)) (noted _)

theorem holds_raiseUnreach {src : Src} (is : List Nat) (hs : s.holds src = true) :
    (s.raiseUnreach is).holds src = true := by
  unfold State.raiseUnreach
  refine List.foldlRecOn (motive := fun u : State => u.holds src = true) is _ hs fun u hu i _ => ?_
  split
  · exact holds_raiseAs _ _ _ _ _ hu
  · exact hu

/-- Of the names that hold, that evaluation clears UNREACHABLE alone. -/
theorem holds_unreachEval {src : Src} (hne : src ≠ Ev.unreachable) (hs : s.holds src = true) :
    s.unreachEval.holds src = true := by
  have noted : ∀ m, ((s.raiseUnreach (List.range 3)).noteUnreach m).holds src = true := by
    intro m
    rw [holds_noteUnreach]
    exact holds_raiseUnreach _ hs
  rw [unreachEval_eq]
  split
  · exact noted _
  · exact holds_clearE hne (noted _)

/-- Pins and thresholds after a change leave the rest of the ledger. -/
theorem evalLedger_ledger (s : State) :
    ∃ m, s.evalLedger.ledger = Ledger.withPins { s.ledger with unreach := m } s.evalLedger.ledger := by
  have h : s.evalLedger.ledger = s.unreachEval.ledger.withPins s.evalLedger.ledger := evalPins_ledger s.unreachEval
  rw [unreachEval_ledger] at h
  exact ⟨_, h⟩

theorem holds_evalLedger {src : Src} (hne : src ≠ Ev.unreachable) (hs : s.holds src = true) :
    s.evalLedger.holds src = true :=
  holds_evalPins (holds_unreachEval hne hs)

/-! ### Frames, as the statements write them -/

namespace ChangesOnly

theorem frame_ledger (h : ChangesOnly [.ledger, .logs] s t) : t = { s.withLogs t with ledger := t.ledger } := h.eq_copy

theorem frame_ctr (h : ChangesOnly [.ctr, .logs] s t) : t = { s.withLogs t with ctr := t.ctr } :=
  (h.mono (qs := [.ctr, .hoCount, .logs]) (by decide)).eq_copy

theorem frame_reply (h : ChangesOnly [.ledger, .camyx, .nfc, .tab, .logs] s t) :
    t = { s.withLogs t with ledger := t.ledger, camyx := t.camyx, nfc := t.nfc, tab := t.tab } := h.eq_copy

theorem frame_power_ledger_ctr (h : ChangesOnly [.power, .ledger, .ctr, .logs] s t) :
    t = { s.withLogs t with power := t.power, ledger := t.ledger, ctr := t.ctr } :=
  (h.mono (qs := [.power, .ledger, .ctr, .hoCount, .logs]) (by decide)).eq_copy

end ChangesOnly

end Sys2Proof.Machine
end

section
/-! PROOFS. Reservations and forecasts: one lemma per clause, and the statement on them. -/

namespace Sys2Proof.Machine

/-! ### A request (R113 to R115) -/

/-- A request that the ledger grants is held: at once by a job that does not wait, and by any job while BUS carries. -/
theorem reservationRequest_held (s : State) (j : Job) (n : Nat) (hj : j ≠ .shutdownCommit)
    (hnow : jobWaits j = false ∨ s.busCarries = true) (hcan : s.canReserve j (jobAmount j n) = true) :
    exec (.reservationRequest j n) s = .next (s.hold j (jobAmount j n)) := by
  show execReservationRequest j n s = _
  simp only [execReservationRequest, if_neg hj, if_pos hcan]
  cases hwait : jobWaits j with
  | false => rfl
  | true =>
    have hbus : s.busCarries = true := hnow.resolve_left (by simp [hwait])
    simp only [State.request, hbus, hcan, Bool.and_self, if_true]

theorem refuse_resRefused (s : State) (j : Job) :
    (s.refuse j).ctr.resRefused = satAdd 16 s.ctr.resRefused 1 := by
  unfold State.refuse
  rw [raiseP_ctr]

/-- A refusal is counted and raised, and changes nothing else (R114). -/
theorem refuse_acts (s : State) (j : Job) : (s.refuse j).ctr.resRefused = satAdd 16 s.ctr.resRefused 1 ∧
    (s.refuse j).holds Ev.resRefused = true ∧ s.refuse j = { s.withLogs (s.refuse j) with ctr := (s.refuse j).ctr } :=
  ⟨refuse_resRefused s j, raiseP_holds .., (refuse_changes j).frame_ctr⟩

theorem reservationRequest_refused (s : State) (j : Job) (n : Nat) (hj : j ≠ .shutdownCommit)
    (hwait : jobWaits j = false) (hcan : s.canReserve j (jobAmount j n) = false) :
    ∃ t, exec (.reservationRequest j n) s = .next t ∧ t.ctr.resRefused = satAdd 16 s.ctr.resRefused 1 ∧
      t.holds Ev.resRefused = true ∧ t = { s.withLogs t with ctr := t.ctr } := by
  have hexec : exec (.reservationRequest j n) s = .next (s.refuse j) := by
    show execReservationRequest j n s = _
    simp only [execReservationRequest, if_neg hj, hwait, hcan, Bool.false_eq_true, if_false]
  exact ⟨_, hexec, refuse_acts s j⟩

/-- Away from BUS a job that waits is evaluated at the next update of the ledger. -/
theorem reservationRequest_queued (s : State) (j : Job) (n : Nat) (hj : j ≠ .shutdownCommit)
    (hwait : jobWaits j = true) (hbus : s.busCarries = false) : exec (.reservationRequest j n) s =
      .next { s with ledger := { s.ledger with fresh := s.ledger.fresh ++ [(j, jobAmount j n)] } } := by
  show execReservationRequest j n s = _
  simp only [execReservationRequest, if_neg hj, hwait, if_true, State.request, hbus, Bool.false_and, Bool.false_eq_true,
    if_false]

/-! ### The end of a wait -/

theorem reservationWaitExpiry_alone (s : State) (j : Job) (hnone : s.camyx.ops.find? (s.awaits j) = none) :
    exec (.reservationWaitExpiry j) s = .next { s with ledger := { s.ledger with
      waiting := dropJob j s.ledger.waiting, fresh := dropJob j s.ledger.fresh } } := by
  show execReservationWaitExpiry j s = _
  simp only [execReservationWaitExpiry, hnone]

/-- A delivery leaves the operations in hand. -/
theorem deliver_ops (s : State) (t : Transport) (r : Reply) : (s.deliver t r).camyx.ops = s.camyx.ops := by
  have handed : ∀ (u : State) l, (u.handOver l).camyx = u.camyx := fun u l => (handOver_changes l).same .camyx (by decide)
  have raised : ∀ (u : State) src d, (u.raiseOnce src 0 d).camyx = u.camyx :=
    fun u src d => (raiseOnce_changes ..).same .camyx (by decide)
  unfold State.deliver
  cases t with
  | nfc =>
    dsimp only
    split
    · rw [handed]
    · rfl
  | link => exact congrArg Camyx.ops (handed ..)
  | spi | i2c =>
    dsimp only
    rw [raised]
    rfl
  | uart | gateway | line => rfl

/-- An operation that ends is no longer in hand; the others are. -/
theorem finish_ops (s : State) (o : Op) (st : Status) (data : List Byte) :
    (s.finish o st data).camyx.ops = s.camyx.ops.erase o := by
  unfold State.finish
  dsimp only
  split
  · rfl
  · exact deliver_ops ..

theorem energyOut_changes {s : State} (o : Op) : ChangesOnly [.ledger, .camyx, .nfc, .tab, .logs] s (s.energyOut o) :=
  (cancelOp_changes o).trans (finish_changes ..)

theorem energyOut_ops (s : State) (o : Op) : (s.energyOut o).camyx.ops = s.camyx.ops.erase o := by
  unfold State.energyOut
  rw [finish_ops, (cancelOp_changes o).same .camyx (by decide)]

theorem reservationWaitExpiry_answered (s : State) (j : Job) (o : Op)
    (hsome : s.camyx.ops.find? (s.awaits j) = some o) :
    ∃ t, exec (.reservationWaitExpiry j) s = .next t ∧ t.camyx.ops = s.camyx.ops.erase o ∧
      t = { s.withLogs t with ledger := t.ledger, camyx := t.camyx, nfc := t.nfc, tab := t.tab } := by
  have hexec : exec (.reservationWaitExpiry j) s = .next (s.energyOut o) := by
    show execReservationWaitExpiry j s = _
    simp only [execReservationWaitExpiry, hsome]
  exact ⟨_, hexec, energyOut_ops s o, (energyOut_changes o).frame_reply⟩

theorem reservationRelease_acts (s : State) (j : Job) (hj : j ≠ .shutdownCommit) (huse : s.inUse j = false) :
    exec (.reservationRelease j) s = .next { s with ledger := { s.ledger with res := dropJob j s.ledger.res } } :=
  congrArg Host.Outcome.next (if_neg (by simp [hj, huse]))

/-! ### The check of a forecast (R125) -/

/-- The misses in a row once a forecast is checked. -/
def State.missesAfter (s : State) (f : Forecast) : Nat := if f.deficit ≤ f.harvested then 0 else s.ledger.misses + 1

/-- Fewer than three misses in a row only count. -/
theorem forecastCheck_counts (s : State) (f : Forecast) (rest : List Forecast) (hchecks : s.ledger.checks = f :: rest)
    (hfew : s.missesAfter f < 3) : exec .forecastCheck s =
      .next { s with ledger := { s.ledger with checks := rest, misses := s.missesAfter f } } := by
  have hless : ¬ 3 ≤ s.missesAfter f := by omega
  show execForecastCheck s = _
  simp only [execForecastCheck, hchecks]
  exact congrArg Host.Outcome.next (if_neg hless)

theorem forecastCheck_met (s : State) (f : Forecast) (rest : List Forecast) (hchecks : s.ledger.checks = f :: rest)
    (hmet : f.deficit ≤ f.harvested) :
    exec .forecastCheck s = .next { s with ledger := { s.ledger with checks := rest, misses := 0 } } := by
  have hn : s.missesAfter f = 0 := if_pos hmet
  rw [forecastCheck_counts s f rest hchecks (by omega), hn]

theorem forecastCheck_missed (s : State) (f : Forecast) (rest : List Forecast) (hchecks : s.ledger.checks = f :: rest)
    (hmiss : f.harvested < f.deficit) (hfew : s.ledger.misses < 2) : exec .forecastCheck s =
      .next { s with ledger := { s.ledger with checks := rest, misses := s.ledger.misses + 1 } } := by
  have hn : s.missesAfter f = s.ledger.misses + 1 := if_neg (by omega)
  rw [forecastCheck_counts s f rest hchecks (by omega), hn]

/-- A suspended forecast advances nothing. -/
theorem advanceMj_of_suspended {s : State} (h : s.ledger.suspended = true) : s.advanceMj = 0 := by
  simp [State.advanceMj, h]

/-- The third miss in a row suspends forecast grants; the pins are then evaluated without one. -/
theorem forecastCheck_suspends (s : State) (f : Forecast) (rest : List Forecast) (hchecks : s.ledger.checks = f :: rest)
    (hmiss : f.harvested < f.deficit) (hmany : 2 ≤ s.ledger.misses) :
    ∃ t, exec .forecastCheck s = .next t ∧ t.ledger.checks = rest ∧ t.ledger.misses = 0 ∧
      t.ledger.suspended = true ∧ t.holds Ev.fcSuspend = true ∧ t = { s.withLogs t with ledger := t.ledger } := by
  let u : State := { s with ledger := { s.ledger with checks := rest, misses := 0, suspended := true } }
  have hn : 3 ≤ s.missesAfter f := by
    have hcount : s.missesAfter f = s.ledger.misses + 1 := if_neg (by omega)
    omega
  have hexec : exec .forecastCheck s = .next (u.raiseOnce Ev.fcSuspend 0 0).evalPins := by
    show execForecastCheck s = _
    simp only [execForecastCheck, hchecks]
    exact congrArg Host.Outcome.next (if_pos hn)
  have raised : ChangesOnly [.logs] u (u.raiseOnce Ev.fcSuspend 0 0) := raiseOnce_changes ..
  have hledger : (u.raiseOnce Ev.fcSuspend 0 0).ledger = u.ledger := raised.same .ledger (by decide)
  have hadv : (u.raiseOnce Ev.fcSuspend 0 0).advanceMj = 0 := advanceMj_of_suspended (by rw [hledger])
  have hchanges : ChangesOnly [.ledger, .logs] s (u.raiseOnce Ev.fcSuspend 0 0).evalPins :=
    (((ChangesOnly.write [.ledger] rfl).trans raised).trans evalPins_changes).mono (by decide)
  refine ⟨_, hexec, ?_, ?_, ?_, holds_evalPins (raiseOnce_holds ..), hchanges.frame_ledger⟩
  · rw [evalPins_checks hadv, hledger]
  · rw [evalPins_ledger, hledger]
    rfl
  · rw [evalPins_ledger, hledger]
    rfl

theorem fcSuspendEnd_acts (s : State) (hsusp : s.ledger.suspended = true) :
    ∃ t, exec .fcSuspendEnd s = .next t ∧ t.holdsC Ev.fcSuspend = false ∧
      t = { s.withLogs t with ledger := { s.ledger with suspended := false } } :=
  ⟨_, congrArg Host.Outcome.next (if_pos hsusp), clearE_holdsC .., clearIf_logs ..⟩

/-- Settles O12: each command by its lemma above. -/
theorem reservationsAndForecastAct : Obligations.ReservationsAndForecastAct := by
  unfold Obligations.ReservationsAndForecastAct
  intro s
  exact ⟨reservationRequest_held s, reservationRequest_refused s, reservationRequest_queued s,
    reservationWaitExpiry_alone s, reservationWaitExpiry_answered s, reservationRelease_acts s, forecastCheck_met s,
    forecastCheck_missed s, forecastCheck_suspends s, fcSuspendEnd_acts s⟩

end Sys2Proof.Machine
end

section
/-! PROOFS. HOLD and the grant pins: one lemma per clause, and the statement on them. -/

namespace Sys2Proof.Machine

/-! ### HOLD rises (R117, R118) -/

/-- The ledger with HOLD high, and whether E_est stood at KEEP_eff when it rose (R120). -/
def State.holdHigh (s : State) : State :=
  { s with ledger := { s.ledger with hold := true, above := decide (s.keepEff ≤ s.eEst) } }

theorem exec_holdRise (s : State) (hsensed : s.holdSensed = true) (hlow : s.ledger.hold = false) :
    exec .holdRise s = .next (if s.power.vhostBreach then s.holdHigh else match s.hostAmount with
      | some r => { s.holdHigh with ledger := { s.holdHigh.ledger with host := some r } }
      | none => s.holdHigh.raiseP Ev.holdUngranted 0 0) :=
  congrArg Host.Outcome.next (if_neg (by simp [hsensed, hlow]))

theorem holdRise_granted (s : State) (r : Nat) (hsensed : s.holdSensed = true) (hlow : s.ledger.hold = false)
    (hvhost : s.power.vhostBreach = false) (hhost : s.hostAmount = some r) :
    ∃ t, exec .holdRise s = .next t ∧ t = { s with ledger := { s.ledger with
      hold := true, host := some r, above := decide (s.keepEff ≤ s.eEst) } } := by
  refine ⟨_, exec_holdRise s hsensed hlow, ?_⟩
  simp only [hvhost, hhost, Bool.false_eq_true, if_false]
  rfl

theorem holdRise_ignored (s : State) (hsensed : s.holdSensed = true) (hlow : s.ledger.hold = false)
    (hvhost : s.power.vhostBreach = true) :
    ∃ t, exec .holdRise s = .next t ∧ t = { s with ledger := { s.ledger with
      hold := true, above := decide (s.keepEff ≤ s.eEst) } } :=
  ⟨_, exec_holdRise s hsensed hlow, if_pos hvhost⟩

theorem holdRise_ungranted (s : State) (hsensed : s.holdSensed = true) (hlow : s.ledger.hold = false)
    (hvhost : s.power.vhostBreach = false) (hhost : s.hostAmount = none) :
    ∃ t, exec .holdRise s = .next t ∧ t.holds Ev.holdUngranted = true ∧
      t = { s.withLogs t with ledger := { s.ledger with hold := true, above := decide (s.keepEff ≤ s.eEst) } } := by
  have hexec : exec .holdRise s = .next (s.holdHigh.raiseP Ev.holdUngranted 0 0) := by
    rw [exec_holdRise s hsensed hlow]
    simp only [hvhost, hhost, Bool.false_eq_true, if_false]
  exact ⟨_, hexec, raiseP_holds .., raiseP_logs ..⟩

/-! ### HOLD falls, and the rearm (R117) -/

/-- A fall of HOLD writes the ledger alone: the reservation closes and both pins go low for the rearm. -/
theorem holdDown_eq (s : State) : s.holdDown = { s with ledger := { s.ledger with
    host := none, rearm := true, breach := false, overrun := false, ignored := false
    sprig := false, bunch := false, fc := false, fcRec := false } } := rfl

theorem holdFall_acts (s : State) (hsensed : s.holdSensed = true) (hhigh : s.ledger.hold = true) :
    ∃ t, exec .holdFall s = .next t ∧ t.ledger.hold = false ∧ t.ledger.host = none ∧ t.ledger.rearm = true ∧
      t.ledger.sprig = false ∧ t.ledger.bunch = false ∧ t = { s.withLogs t with ledger := t.ledger } := by
  have hexec : exec .holdFall s = .next (State.holdDown { s with ledger := { s.ledger with hold := false } }) :=
    congrArg Host.Outcome.next (if_neg (by simp [hsensed, hhigh]))
  rw [holdDown_eq] at hexec
  exact ⟨_, hexec, rfl, rfl, rfl, rfl, rfl, rfl⟩

theorem rearmEnd_acts (s : State) (hrearm : s.ledger.rearm = true) : ∃ t, exec .rearmEnd s = .next t ∧
    t.ledger.rearm = false ∧ t = { s.withLogs t with ledger := t.ledger } := by
  let u : State := { s with ledger := { s.ledger with rearm := false } }
  have hexec : exec .rearmEnd s = .next u.evalPins := congrArg Host.Outcome.next (if_pos hrearm)
  have hchanges : ChangesOnly [.ledger, .logs] s u.evalPins :=
    ((ChangesOnly.write [.ledger] rfl).trans evalPins_changes).mono (by decide)
  refine ⟨_, hexec, ?_, hchanges.frame_ledger⟩
  rw [evalPins_ledger]
  rfl

/-! ### Overrun, breach and a standing firmware (R119, R120, R128) -/

theorem holdOverrun_acts (s : State) (hhigh : s.ledger.hold = true) (hheard : s.ledger.ignored = false)
    (hfirst : s.ledger.overrun = false) (hvhost : s.power.vhostBreach = false) (hmax : s.param P.nrgHoldMaxMs ≠ 0) :
    ∃ t, exec .holdOverrun s = .next t ∧ t.ledger.overrun = true ∧ t.ledger.host = none ∧ t.ledger.sprig = false ∧
      t.ledger.bunch = false ∧ t.holds Ev.holdOverrun = true ∧ t = { s.withLogs t with ledger := t.ledger } := by
  let u : State := { s with ledger := { s.ledger with host := none, overrun := true } }
  have hexec : exec .holdOverrun s = .next (u.raiseP Ev.holdOverrun 0 0).pinsLow :=
    congrArg Host.Outcome.next (if_neg (by simp [hhigh, hheard, hfirst, hvhost, hmax]))
  have raised : ChangesOnly [.logs] u (u.raiseP Ev.holdOverrun 0 0) := raiseP_changes ..
  have hledger : (u.raiseP Ev.holdOverrun 0 0).ledger = u.ledger := raised.same .ledger (by decide)
  have hchanges : ChangesOnly [.ledger, .logs] s (u.raiseP Ev.holdOverrun 0 0).pinsLow :=
    (((ChangesOnly.write [.ledger] rfl).trans raised).trans (drivePins_changes ..)).mono (by decide)
  refine ⟨_, hexec, ?_, ?_, rfl, rfl, raiseP_holds .., hchanges.frame_ledger⟩
  · rw [pinsLow_eq, hledger]
  · rw [pinsLow_eq, hledger]

/-- A breach holds VHOST off. -/
theorem vhostEval_vhostOn {s : State} (h : s.power.vhostBreach = true) : s.vhostEval.power.vhostOn = false := by
  simp [State.vhostEval, h]

theorem breachGraceExpiry_acts (s : State) (hbreach : s.ledger.breach = true) (hhigh : s.ledger.hold = true)
    (hoff : s.isOn P.nrgBreachVhostOff = true) :
    ∃ t, exec .breachGraceExpiry s = .next t ∧ t.power.vhostBreach = true ∧ t.power.vhostOn = false ∧
      t = { s.withLogs t with power := t.power, ledger := t.ledger } := by
  let u : State := { s with power := { s.power with vhostBreach := true } }
  have hexec : exec .breachGraceExpiry s = .next u.vhostEval.evalPins :=
    congrArg Host.Outcome.next (if_pos (by simp [hbreach, hhigh, hoff]))
  have hchanges : ChangesOnly [.power, .ledger, .logs] s u.vhostEval.evalPins :=
    (((ChangesOnly.write [.power] rfl).trans vhostEval_changes).trans evalPins_changes).mono (by decide)
  refine ⟨_, hexec, ?_, ?_, hchanges.frame_power_ledger⟩
  · rw [evalPins_changes.power (by decide)]
    rfl
  · rw [evalPins_changes.power (by decide)]
    exact vhostEval_vhostOn rfl

theorem ledgerFirmwareTimeout_acts (s : State) (hstop : s.ledger.fwStop = true) :
    ∃ t, exec .ledgerFirmwareTimeout s = .next t ∧ t.ledger.coreLow = true ∧ t.ledger.sprig = false ∧
      t.ledger.bunch = false ∧ t = { s.withLogs t with ledger := t.ledger } :=
  ⟨_, congrArg Host.Outcome.next (if_pos hstop), rfl, rfl, rfl, rfl⟩

/-- Settles O11: each command by its lemma above. -/
theorem holdRulesThePins : Obligations.HoldRulesThePins := by
  unfold Obligations.HoldRulesThePins
  intro s
  exact ⟨holdRise_granted s, holdRise_ignored s, holdRise_ungranted s, holdFall_acts s, rearmEnd_acts s,
    holdOverrun_acts s, breachGraceExpiry_acts s, ledgerFirmwareTimeout_acts s⟩

end Sys2Proof.Machine
end

section
/-! PROOFS. The end of a cell's charge and the calendar of harvest: one lemma per clause. -/

namespace Sys2Proof.Machine

/-! ### The end of a cell's charge (R104) -/

theorem rebase_changes {s : State} (q : Int) : ChangesOnly [.ledger, .ctr, .logs] s (s.rebase q) :=
  (((ChangesOnly.write [.ledger, .ctr] (by rfl)).trans (clearE_changes _)).trans (raiseP_changes ..)).mono (by decide)

theorem rebase_ledger (s : State) (q : Int) :
    (s.rebase q).ledger = { (s.setCount q).ledger with disagree := false, unrested := false } := by
  unfold State.rebase
  dsimp only
  rw [(raiseP_changes ..).same .ledger (by decide), (clearE_changes _).same .ledger (by decide)]

theorem rebase_ctr (s : State) (q : Int) :
    (s.rebase q).ctr = { s.ctr with rebases := satAdd 16 s.ctr.rebases 1 } := by
  unfold State.rebase
  dsimp only
  rw [raiseP_ctr, (clearE_changes _).same .ctr (by decide)]
  rfl

theorem rebase_holds (s : State) (q : Int) : (s.rebase q).holds Ev.rebase = true := raiseP_holds ..

theorem chargeTermination_acts (s : State) (hcell : s.isCap = false) (hon : s.plinthOn = true)
    (hfirst : s.power.ended = false) (hsource : s.busCarries = true ∨ s.harvesting = true) :
    ∃ t, exec .chargeTermination s = .next t ∧ t.power = { s.power with ended := true } ∧
      t.ledger.qUc = 10 * s.cellSeg ∧ t.ledger.disagree = false ∧ t.ctr.rebases = satAdd 16 s.ctr.rebases 1 ∧
      t.holds Ev.rebase = true ∧ t = { s.withLogs t with power := t.power, ledger := t.ledger, ctr := t.ctr } := by
  let u : State := { s with power := { s.power with ended := true } }
  let q : Int := (10 * s.cellSeg : Nat)
  have hends : ¬ (s.isCap || !s.plinthOn || s.power.ended || !(s.busCarries || s.harvesting)) = true := by
    have hsome : (s.busCarries || s.harvesting) = true := Bool.or_eq_true .. ▸ hsource
    simp only [hcell, hon, hfirst, hsome, Bool.not_true, Bool.or_false, Bool.false_eq_true, not_false_eq_true]
  have hexec : exec .chargeTermination s = .next (u.rebase q).evalLedger := congrArg Host.Outcome.next (if_neg hends)
  have rebased : ChangesOnly [.ledger, .ctr, .logs] u (u.rebase q).evalLedger :=
    ((rebase_changes q).trans evalLedger_changes).mono (by decide)
  have hchanges : ChangesOnly [.power, .ledger, .ctr, .logs] s (u.rebase q).evalLedger :=
    (ChangesOnly.write [.power] rfl).trans rebased
  obtain ⟨m, hledger⟩ := evalLedger_ledger (u.rebase q)
  refine ⟨_, hexec, rebased.power (by decide), ?_, ?_, ?_, holds_evalLedger (by decide) (rebase_holds ..),
    hchanges.frame_power_ledger_ctr⟩
  · rw [hledger, rebase_ledger]
    exact Int.natCast_mul 10 s.cellSeg
  · rw [hledger, rebase_ledger]
    rfl
  · rw [evalLedger_changes.same .ctr (by decide), rebase_ctr]

/-! ### The calendar (R123) -/

theorem calendarHourEnd_counts (s : State) (hon : s.plinthOn = true) (hen : s.isOn P.nrgFcEn = true)
    (hvalid : s.plinth.timeValid = true) (hgood : s.ledger.hourBad = false) :
    ∃ t, exec .calendarHourEnd s = .next t ∧ t = { s with ledger := { s.ledger with
      outUj := 0,
      outHours := (s.ledger.outUj :: s.ledger.outHours).take 24,
      hourBad := false,
      cal := { bins := upd s.ledger.cal.bins (s.binOf ((s.plinth.rtcSec : Int) - 1)) fun v =>
                 binAfter v (min s.ledger.hourUj 655350000) (s.param P.nrgFcWeight),
               count := upd s.ledger.cal.count (s.binOf ((s.plinth.rtcSec : Int) - 1)) fun n => min 255 (n + 1) },
      hourUj := 0 } } := by
  refine ⟨_, congrArg Host.Outcome.next (if_neg (by simp [hon])), ?_⟩
  simp only [hen, hvalid, hgood, Bool.not_false, Bool.not_true, Bool.and_self, if_true]

/-- An hour in which the time was invalid or stepped leaves its bin. -/
theorem calendarHourEnd_drops (s : State) (hon : s.plinthOn = true)
    (hbad : s.plinth.timeValid = false ∨ s.ledger.hourBad = true) :
    ∃ t, exec .calendarHourEnd s = .next t ∧ t.ledger.cal = s.ledger.cal ∧ t.ledger.hourUj = 0 ∧
      t = { s with ledger := t.ledger } := by
  have hskip : ¬ (s.isOn P.nrgFcEn && s.plinth.timeValid && !s.ledger.hourBad) = true := by
    simp only [Bool.and_eq_true, Bool.not_eq_true', not_and, Bool.not_eq_false]
    rintro ⟨-, hvalid⟩
    exact hbad.resolve_left (by simp [hvalid])
  exact ⟨_, congrArg Host.Outcome.next (if_neg (by simp [hon])), if_neg hskip, rfl, rfl⟩

/-- The daily save with a readback that passes: a day in seven where the NVM is worn, and under its reservation. -/
theorem exec_calendarSave (s : State) (hrun : s.seqRuns = true) (hmode : s.plinth.mode ≠ .field) :
    exec (.calendarSave true) s = .next (
      if s.ctr.wearNvm.step ≠ 0 ∧ s.ledger.calSkip < 6 then
        { s with ledger := { s.ledger with calSkip := s.ledger.calSkip + 1 } }
      else if !s.canReserve .calendarSave (3 * mj) then s.refuse .calendarSave
      else { s with ledger := { s.ledger with nvmCal := s.ledger.cal, calSkip := 0 } }.clearD Ev.nvmFault 2) :=
  congrArg Host.Outcome.next (if_neg (by simp [hrun, hmode]))

/-- A day on which the save is due. -/
theorem not_skips {s : State} (hdue : s.ctr.wearNvm.step = 0 ∨ 6 ≤ s.ledger.calSkip) :
    ¬ (s.ctr.wearNvm.step ≠ 0 ∧ s.ledger.calSkip < 6) := by
  omega

theorem calendarSave_writes (s : State) (hrun : s.seqRuns = true) (hmode : s.plinth.mode ≠ .field)
    (hdue : s.ctr.wearNvm.step = 0 ∨ 6 ≤ s.ledger.calSkip) (hcan : s.canReserve .calendarSave (3 * mj) = true) :
    ∃ t, exec (.calendarSave true) s = .next t ∧
      t = { s.withLogs t with ledger := { s.ledger with nvmCal := s.ledger.cal, calSkip := 0 } } := by
  have hexec := exec_calendarSave s hrun hmode
  rw [if_neg (not_skips hdue), if_neg (by simp [hcan])] at hexec
  exact ⟨_, hexec, clearIf_logs ..⟩

theorem calendarSave_skips (s : State) (hrun : s.seqRuns = true) (hmode : s.plinth.mode ≠ .field)
    (hworn : s.ctr.wearNvm.step ≠ 0) (hskip : s.ledger.calSkip < 6) :
    ∃ t, exec (.calendarSave true) s = .next t ∧
      t = { s with ledger := { s.ledger with calSkip := s.ledger.calSkip + 1 } } :=
  ⟨_, exec_calendarSave s hrun hmode, if_pos ⟨hworn, hskip⟩⟩

theorem calendarSave_refused (s : State) (hrun : s.seqRuns = true) (hmode : s.plinth.mode ≠ .field)
    (hdue : s.ctr.wearNvm.step = 0 ∨ 6 ≤ s.ledger.calSkip) (hcan : s.canReserve .calendarSave (3 * mj) = false) :
    ∃ t, exec (.calendarSave true) s = .next t ∧ t.ctr.resRefused = satAdd 16 s.ctr.resRefused 1 ∧
      t.holds Ev.resRefused = true ∧ t = { s.withLogs t with ctr := t.ctr } := by
  have hexec := exec_calendarSave s hrun hmode
  rw [if_neg (not_skips hdue), if_pos (by simp [hcan])] at hexec
  exact ⟨_, hexec, refuse_acts s .calendarSave⟩

end Sys2Proof.Machine
end

section
/-! PROOFS. An instant of the ledger's grid: what it counts, and that gauge, thresholds, pins and grants leave those sums. -/

namespace Sys2Proof.Machine

variable {s t u : State}

/-! ### What an instant counts (R103, R116, R123, R129) -/

/-- The sums that an instant adds to: the charge, and the energies of the hour and since manufacture. -/
structure Sums where
  qUc : Int
  hourUj : Nat
  outUj : Nat
  thruUj : Nat
  thruJ : Nat
  eInJ : Nat

def State.sums (s : State) : Sums :=
  { qUc := s.ledger.qUc, hourUj := s.ledger.hourUj, outUj := s.ledger.outUj, thruUj := s.ledger.thruUj
    thruJ := s.ctr.thruJ, eInJ := s.ctr.eInJ }

theorem ChangesOnly.sums {ps : List StatePart} (h : ChangesOnly ps s t) (hl : .ledger ∉ ps) (hc : .ctr ∉ ps) :
    t.sums = s.sums := by
  unfold State.sums
  rw [h.same .ledger hl, h.same .ctr hc]

/-- An update of the ledger that keeps its sums. -/
theorem sums_withLedger {l : Ledger} (hq : l.qUc = s.ledger.qUc := by rfl)
    (hhour : l.hourUj = s.ledger.hourUj := by rfl) (hout : l.outUj = s.ledger.outUj := by rfl)
    (hthru : l.thruUj = s.ledger.thruUj := by rfl) : ({ s with ledger := l } : State).sums = s.sums := by
  unfold State.sums
  dsimp only
  rw [hq, hhour, hout, hthru]

theorem sums_ite {c : Prop} [Decidable c] (h : t.sums = s.sums) (k : u.sums = s.sums) :
    (if c then t else u).sums = s.sums := by
  split
  · exact h
  · exact k

theorem ChangesOnly.logs_sums (h : ChangesOnly [.logs] s t) : t.sums = s.sums := h.sums (by decide) (by decide)

/-- The reading of STO taken and the instant counted. -/
def State.counted (s : State) (g : Gauge) : State := (s.setSto g.stoMv).count g

theorem counted_changes (g : Gauge) : ChangesOnly [.power, .harvest, .ledger, .ctr, .hoCount, .logs] s (s.counted g) :=
  ((setSto_changes _).trans (.write [.ledger, .harvest, .power, .ctr, .hoCount] rfl)).mono (by decide)

theorem setSto_harvest (s : State) (mv : Nat) :
    (s.setSto mv).harvest = { s.harvest with vhbMv := (s.setSto mv).harvest.vhbMv } := by
  unfold State.setSto
  dsimp only
  rw [regulate_harvest]
  split
  · rfl
  · rfl

theorem counted_harvest (s : State) (g : Gauge) : (s.counted g).harvest = { s.harvest with
    inUj := (s.harvest.inUj + g.harvUj) % 1000000, outUa := g.harvUa, vhbMv := (s.counted g).harvest.vhbMv } := by
  unfold State.counted State.count
  dsimp only
  rw [setSto_harvest]

theorem counted_sums (s : State) (g : Gauge) : (s.counted g).sums =
    { qUc := s.ledger.qUc - g.dqUc
      hourUj := s.ledger.hourUj + g.harvUj
      outUj := s.ledger.outUj + g.outUj
      thruUj := (s.ledger.thruUj + g.hostUj + g.outUj) % 1000000
      thruJ := wrapAdd 32 s.ctr.thruJ ((s.ledger.thruUj + g.hostUj + g.outUj) / 1000000)
      eInJ := wrapAdd 32 s.ctr.eInJ ((s.harvest.inUj + g.harvUj) / 1000000) } := by
  unfold State.counted State.count State.sums
  dsimp only
  rw [setSto_harvest, (setSto_changes _).same .ledger (by decide), (setSto_changes _).same .ctr (by decide)]

theorem counted_stoMv (s : State) (g : Gauge) : (s.counted g).power.stoMv = g.stoMv := setSto_stoMv _

theorem counted_midMv (s : State) (g : Gauge) : (s.counted g).power.midMv = g.midMv := rfl

/-! ### The gauge (Table 4.4) -/

/-- A step of the gauge: it works on the ledger and its counters, and of the sums it may set the charge alone. -/
structure Gauged (s t : State) : Prop where
  changes : ChangesOnly [.ledger, .ctr, .logs] s t
  sums : t.sums = { s.sums with qUc := t.ledger.qUc }

namespace Gauged

theorem refl (s : State) : Gauged s s := ⟨.refl s, rfl⟩

theorem trans (h : Gauged s t) (k : Gauged t u) : Gauged s u :=
  ⟨(h.changes.trans k.changes).mono (by decide), by rw [k.sums, h.sums]⟩

theorem thenOnly {c : Prop} [Decidable c] (h : Gauged s t) : Gauged s (if c then t else s) := by
  split
  · exact h
  · exact .refl s

theorem ite {c : Prop} [Decidable c] (h : Gauged s t) (k : Gauged s u) : Gauged s (if c then t else u) := by
  split
  · exact h
  · exact k

theorem logs (h : ChangesOnly [.logs] s t) : Gauged s t :=
  ⟨h.mono (by decide), by rw [h.logs_sums, h.same .ledger (by decide)]; rfl⟩

/-- An update of the ledger that keeps its sums of energy. -/
theorem write {l : Ledger} (hhour : l.hourUj = s.ledger.hourUj := by rfl) (hout : l.outUj = s.ledger.outUj := by rfl)
    (hthru : l.thruUj = s.ledger.thruUj := by rfl) : Gauged s { s with ledger := l } :=
  ⟨(ChangesOnly.write [.ledger] rfl).mono (by decide), by unfold State.sums; dsimp only; rw [hhour, hout, hthru]⟩

end Gauged

theorem rebase_gauged (q : Int) : Gauged s (s.rebase q) :=
  ⟨rebase_changes q, by unfold State.sums; rw [rebase_ledger, rebase_ctr]; rfl⟩

theorem setDisagree_gauged (b : Bool) : Gauged s (s.setDisagree b) :=
  .trans .write (.logs (setC_changes ..))

theorem anchor_gauged : Gauged s s.anchor := .write

theorem firstReading_gauged (mv : Nat) : Gauged s (s.firstReading mv) :=
  .trans (.trans .write (setDisagree_gauged false)) anchor_gauged

theorem learned_gauged (m : Int) (nom hi : Nat) : Gauged s (s.learned m nom hi) :=
  .ite ⟨(ChangesOnly.write [.ctr] rfl).mono (by decide), rfl⟩ (.logs (raiseP_changes ..))

theorem learnCap_gauged (mv : Nat) : Gauged s (s.learnCap mv) := by
  have begun : Gauged s { s with ledger := { s.ledger with learn := some (mv, s.ledger.qUc) } } := .write
  unfold State.learnCap
  dsimp only
  split
  · exact begun.thenOnly
  · exact .ite (.refl s) (.ite (begun.trans (learned_gauged ..)) begun)

theorem learnCell_gauged (mv : Nat) : Gauged s (s.learnCell mv) := by
  have begun : Gauged s { s with ledger := { s.ledger with learn := some (mv, s.ledger.qUc) } } := .write
  unfold State.learnCell
  dsimp only
  split
  · exact begun
  · exact .ite (.refl s) (.ite (begun.trans (learned_gauged ..)) begun)

theorem gaugeCap_gauged (g : Gauge) (mv : Nat) : Gauged s (s.gaugeCap g mv) := by
  unfold State.gaugeCap
  extract_lets l s0 s2 s3 l3 s1
  have abandoned : Gauged s s0 := .thenOnly .write
  have rebased : Gauged s s2 := .ite (abandoned.trans (rebase_gauged _)) abandoned
  have anchored : Gauged s s1 :=
    .ite (((rebased.trans (learnCap_gauged mv)).trans .write).trans anchor_gauged) abandoned
  exact .ite (anchored.trans (setDisagree_gauged true)) anchored

theorem gaugeCell_gauged (g : Gauge) (mv : Nat) : Gauged s (s.gaugeCell g mv) := by
  unfold State.gaugeCell
  extract_lets apart s1
  have compared : Gauged s s1 := (setDisagree_gauged true).thenOnly
  have settled : ∀ c : Prop, [Decidable c] → Gauged s (if c then s1.rebase (s.ucOfMv mv) else s1.setDisagree false) :=
    fun c _ => .ite (compared.trans (rebase_gauged _)) (compared.trans (setDisagree_gauged false))
  exact .ite ((settled _).trans (learnCell_gauged mv)) (setDisagree_gauged true).thenOnly

theorem gauge_gauged (g : Gauge) : Gauged s (s.gauge g) := by
  unfold State.gauge
  extract_lets mv l s1 l1
  have read : Gauged s s1 := .write
  exact .ite (read.trans .write) (.ite (read.trans (firstReading_gauged mv))
    (.ite (read.trans (gaugeCap_gauged g mv)) (read.trans (gaugeCell_gauged g mv))))

/-! ### Thresholds, KEEP and VHOST (R108, R110, R120) -/

/-- What an update evaluates, with the firmware or without it: the thresholds, KEEP, a breach and VHOST. -/
def State.ruled (s : State) : State := (((s.unreachEval.keepEval).breachEval).breachReturn).vhostEval

theorem unreachEval_sums : s.unreachEval.sums = s.sums := by
  unfold State.sums
  rw [unreachEval_ledger, unreachEval_changes.same .ctr (by decide)]

theorem keepEval_changes : ChangesOnly [.ledger, .logs] s s.keepEval :=
  (ChangesOnly.write [.ledger] (by rfl)).trans (setC_changes ..)

theorem keepEval_sums : s.keepEval.sums = s.sums := (setC_changes ..).logs_sums.trans sums_withLedger

/-- The evaluation of a breach, given whether E_est now stands at KEEP_eff. -/
def State.breachGiven (s : State) (now : Bool) : State :=
  let s1 : State := { s with ledger := { s.ledger with above := now } }
  if s.ledger.hold && !s.ledger.ignored && !s.ledger.overrun && !s.ledger.breach && s.ledger.above && !now then
    { s1 with ledger := { s1.ledger with breach := true } }.raiseP Ev.keepBreach 0 0
  else s1

theorem breachEval_eq : s.breachEval = s.breachGiven (decide (s.keepEff ≤ s.eEst)) := rfl

theorem breachGiven_changes (now : Bool) : ChangesOnly [.ledger, .logs] s (s.breachGiven now) := by
  have noted : ChangesOnly [.ledger] s { s with ledger := { s.ledger with above := now } } := .write _ rfl
  exact .mono (.ite ((noted.trans (.write [.ledger] rfl)).trans (raiseP_changes ..)) noted) (by decide)

theorem breachGiven_sums (now : Bool) : (s.breachGiven now).sums = s.sums :=
  sums_ite ((raiseP_changes ..).logs_sums.trans sums_withLedger) sums_withLedger

theorem breachEval_changes : ChangesOnly [.ledger, .logs] s s.breachEval := by
  rw [breachEval_eq]
  exact breachGiven_changes _

theorem breachEval_sums : s.breachEval.sums = s.sums := by
  rw [breachEval_eq]
  exact breachGiven_sums _

theorem holdDown_changes : ChangesOnly [.ledger] s s.holdDown := by
  rw [holdDown_eq]
  exact .write _ rfl

theorem breachReturn_changes : ChangesOnly [.power, .ledger] s s.breachReturn := by
  have returned : ChangesOnly [.power] s { s with power := { s.power with vhostBreach := false } } := .write _ rfl
  exact .thenOnly
    ((((returned.trans vhostEval_changes).trans holdDown_changes).trans (.write [.ledger] rfl)).mono (by decide))

theorem breachReturn_sums : s.breachReturn.sums = s.sums := by
  unfold State.breachReturn
  dsimp only
  split
  · rfl
  · rfl

/-- VHOST may return after a breach; the readings of the power path stand. -/
theorem breachReturn_power : ∃ b on mv,
    s.breachReturn.power = { s.power with vhostBreach := b, vhostOn := on, vhostMv := mv } := by
  unfold State.breachReturn
  dsimp only
  split
  · exact ⟨_, _, _, rfl⟩
  · exact ⟨_, _, _, rfl⟩

theorem ruled_changes : ChangesOnly [.power, .ledger, .logs] s s.ruled :=
  ((((unreachEval_changes.trans keepEval_changes).trans breachEval_changes).trans breachReturn_changes).trans
    vhostEval_changes).mono (by decide)

theorem vhostEval_sums : s.vhostEval.sums = s.sums := rfl

theorem ruled_sums : s.ruled.sums = s.sums := by
  unfold State.ruled
  rw [vhostEval_sums, breachReturn_sums, breachEval_sums, keepEval_sums, unreachEval_sums]

theorem ruled_power : ∃ b on mv, s.ruled.power = { s.power with vhostBreach := b, vhostOn := on, vhostMv := mv } := by
  unfold State.ruled
  obtain ⟨on, mv, hv⟩ := vhostEval_power (s := ((s.unreachEval.keepEval).breachEval).breachReturn)
  obtain ⟨b, on', mv', hb⟩ := breachReturn_power (s := (s.unreachEval.keepEval).breachEval)
  have before : ChangesOnly [.ledger, .logs] s (s.unreachEval.keepEval).breachEval :=
    ((unreachEval_changes.trans keepEval_changes).trans breachEval_changes).mono (by decide)
  exact ⟨b, on, mv, by rw [hv, hb, before.power (by decide)]⟩

theorem evalPins_sums : s.evalPins.sums = s.sums := by
  unfold State.sums
  rw [evalPins_ledger, evalPins_changes.same .ctr (by decide)]
  rfl

/-! ### Requests that wait (R114, R115) -/

/-- What the firmware serves at an update: the requests that wait, the operations granted, and the NFC session. -/
def State.served (s : State) : State := (s.regrant.resumeOps).nfcRegrant

theorem refuse_sums (j : Job) : (s.refuse j).sums = s.sums := (raiseP_changes ..).logs_sums.trans rfl

theorem evalRequest_sums (e : Job × Nat) (new : Bool) : (s.evalRequest e new).sums = s.sums := by
  unfold State.evalRequest
  dsimp only
  split
  · rfl
  split
  · exact refuse_sums e.1
  · rfl

theorem regrant_sums : s.regrant.sums = s.sums := by
  unfold State.regrant
  dsimp only
  split
  · rfl
  · exact List.foldlRecOn (motive := fun v : State => v.sums = s.sums) _ _ rfl fun v hv x _ =>
      (evalRequest_sums ..).trans hv

theorem nfcRegrant_changes : ChangesOnly [.ledger, .nfc] s s.nfcRegrant := .thenOnly (.write _ rfl)

theorem nfcRegrant_sums : s.nfcRegrant.sums = s.sums := by
  unfold State.nfcRegrant
  split
  · rfl
  · rfl

/-- With no operation in hand none goes on. -/
theorem resumeOps_nil (h : s.camyx.ops = []) : s.resumeOps = s := by
  unfold State.resumeOps
  rw [h]
  rfl

theorem served_eq (h : s.camyx.ops = []) : s.served = s.regrant.nfcRegrant := by
  have hops : s.regrant.camyx.ops = [] := by rw [regrant_changes.same .camyx (by decide), h]
  unfold State.served
  rw [resumeOps_nil hops]

theorem served_changes (h : s.camyx.ops = []) : ChangesOnly [.ledger, .ctr, .nfc, .logs] s s.served := by
  rw [served_eq h]
  exact (regrant_changes.trans nfcRegrant_changes).mono (by decide)

theorem served_sums (h : s.camyx.ops = []) : s.served.sums = s.sums := by
  rw [served_eq h, nfcRegrant_sums, regrant_sums]

/-! ### The whole instant (R122) -/

theorem ledgerStep_eq (s : State) (g : Gauge) : s.ledgerStep g =
    if s.ledger.fwStop then (s.counted g).ruled.evalPins else ((s.counted g).gauge g).ruled.served.evalPins := by
  unfold State.ledgerStep
  dsimp only
  split
  · rfl
  · rfl

/-- What an instant leaves of the state that it has counted: beside the ledger and its counters, VHOST and the NFC session
all of it, and the sums but for a charge that the gauge sets. -/
structure InstantFrame (u t : State) : Prop where
  changes : ChangesOnly [.power, .ledger, .ctr, .nfc, .logs] u t
  power : ∃ b on mv, t.power = { u.power with vhostBreach := b, vhostOn := on, vhostMv := mv }
  sums : t.sums = { u.sums with qUc := t.ledger.qUc }

/-- While the firmware stands, the core's count of the charge stands too (R128). -/
theorem ledgerStep_stopped (s : State) (g : Gauge) (hstop : s.ledger.fwStop = true) :
    InstantFrame (s.counted g) (s.ledgerStep g) ∧ (s.ledgerStep g).sums = (s.counted g).sums := by
  have hstep : s.ledgerStep g = (s.counted g).ruled.evalPins := (ledgerStep_eq s g).trans (if_pos hstop)
  have hsums : (s.ledgerStep g).sums = (s.counted g).sums := by rw [hstep, evalPins_sums, ruled_sums]
  refine ⟨⟨?_, ?_, ?_⟩, hsums⟩
  · rw [hstep]
    exact (ruled_changes.trans evalPins_changes).mono (by decide)
  · rw [hstep, evalPins_changes.power (by decide)]
    exact ruled_power
  · rw [show (s.ledgerStep g).ledger.qUc = (s.counted g).sums.qUc from congrArg Sums.qUc hsums, hsums]

theorem ledgerStep_running (s : State) (g : Gauge) (hrun : s.ledger.fwStop = false) (hops : s.camyx.ops = []) :
    InstantFrame (s.counted g) (s.ledgerStep g) := by
  have hstep : s.ledgerStep g = ((s.counted g).gauge g).ruled.served.evalPins :=
    (ledgerStep_eq s g).trans (if_neg (by simp [hrun]))
  have gauged : Gauged (s.counted g) ((s.counted g).gauge g) := gauge_gauged g
  have ruled := gauged.changes.trans (ruled_changes (s := (s.counted g).gauge g))
  have hnone : ((s.counted g).gauge g).ruled.camyx.ops = [] := by
    rw [ruled.same .camyx (by decide), (counted_changes g).same .camyx (by decide), hops]
  have after : ChangesOnly [.ledger, .ctr, .nfc, .logs] ((s.counted g).gauge g).ruled (s.ledgerStep g) := by
    rw [hstep]
    exact ((served_changes hnone).trans evalPins_changes).mono (by decide)
  have hsums : (s.ledgerStep g).sums = ((s.counted g).gauge g).sums := by
    rw [hstep, evalPins_sums, served_sums hnone, ruled_sums]
  refine ⟨(ruled.trans after).mono (by decide), ?_, ?_⟩
  · rw [after.power (by decide), ← gauged.changes.power (by decide)]
    exact ruled_power
  · rw [hsums, gauged.sums, show (s.ledgerStep g).ledger.qUc = ((s.counted g).gauge g).ledger.qUc from
      congrArg Sums.qUc hsums]

theorem taskEnd_changes (level : Nat) : ChangesOnly [.plinth, .config] s (s.taskEnd level) :=
  .elseOnly (.mono (.ite wdtService_changes (.write [.plinth] rfl)) (by decide))

/-- A service of the watchdog takes its time from the configuration (R151). -/
theorem taskEnd_config (level : Nat) :
    (s.taskEnd level).config = { s.config with wdtLoadMs := (s.taskEnd level).config.wdtLoadMs } := by
  unfold State.taskEnd
  dsimp only
  split
  · rfl
  split
  · rfl
  · rfl

theorem taskEnd_quietMiss (level : Nat) : (s.taskEnd level).plinth.quietMiss = s.plinth.quietMiss := by
  unfold State.taskEnd
  dsimp only
  split
  · rfl
  split
  · rfl
  · rfl

/-- A sample of the instant that is noisy is counted as missed (R150). -/
def State.noteNoise (s : State) (g : Gauge) : State :=
  if s.gaugeNoisy g then { s with plinth := { s.plinth with quietMiss := satAdd 32 s.plinth.quietMiss 1 } } else s

theorem noteNoise_changes (g : Gauge) : ChangesOnly [.plinth] s (s.noteNoise g) := .thenOnly (.write _ rfl)

theorem noteNoise_quietMiss (s : State) (g : Gauge) : (s.noteNoise g).plinth.quietMiss =
    if s.gaugeNoisy g then satAdd 32 s.plinth.quietMiss 1 else s.plinth.quietMiss := by
  unfold State.noteNoise
  split
  · rfl
  · rfl

theorem exec_ledgerUpdate (s : State) (g : Gauge) (hon : s.plinthOn = true) (hmode : s.plinth.mode ≠ .field) :
    exec (.ledgerUpdate g) s = .next (((s.noteNoise g).ledgerStep g).taskEnd 3) :=
  congrArg Host.Outcome.next (if_pos (by simp [hon, hmode]))

theorem ledgerUpdate_acts (s : State) (g : Gauge) (hon : s.plinthOn = true) (hmode : s.plinth.mode ≠ .field)
    (hserve : s.ledger.fwStop = true ∨ s.camyx.ops = []) :
    ∃ t, exec (.ledgerUpdate g) s = .next t ∧ t.power.stoMv = g.stoMv ∧
      t.power.midMv = g.midMv ∧
      t.ctr.thruJ = wrapAdd 32 s.ctr.thruJ ((s.ledger.thruUj + g.hostUj + g.outUj) / 1000000) ∧
      t.ctr.eInJ = wrapAdd 32 s.ctr.eInJ ((s.harvest.inUj + g.harvUj) / 1000000) ∧
      t.ledger.thruUj = (s.ledger.thruUj + g.hostUj + g.outUj) % 1000000 ∧
      t.harvest = { s.harvest with
        inUj := (s.harvest.inUj + g.harvUj) % 1000000, outUa := g.harvUa, vhbMv := t.harvest.vhbMv } ∧
      t.ledger.hourUj = s.ledger.hourUj + g.harvUj ∧ t.ledger.outUj = s.ledger.outUj + g.outUj ∧
      t.plinth.quietMiss = (if s.gaugeNoisy g then satAdd 32 s.plinth.quietMiss 1 else s.plinth.quietMiss) ∧
      (s.ledger.fwStop = true → t.ledger.qUc = s.ledger.qUc - g.dqUc) ∧
      t.config = { s.config with wdtLoadMs := t.config.wdtLoadMs } ∧ t.sec = s.sec ∧ t.sw = s.sw ∧ t.arm = s.arm ∧
        t.line = s.line ∧ t.life = s.life := by
  let n : State := s.noteNoise g
  let u : State := n.ledgerStep g
  have noted : ChangesOnly [.plinth] s n := noteNoise_changes g
  have hledger : n.ledger = s.ledger := noted.same .ledger (by decide)
  have hops : n.camyx.ops = s.camyx.ops := congrArg Camyx.ops (noted.same .camyx (by decide))
  have frame : InstantFrame (n.counted g) u := by
    cases hstop : n.ledger.fwStop with
    | true => exact (ledgerStep_stopped n g hstop).1
    | false => exact ledgerStep_running n g hstop (hops.trans (hserve.resolve_left (by rw [← hledger, hstop]; nofun)))
  have ended : ChangesOnly [.plinth, .config] u (u.taskEnd 3) := taskEnd_changes 3
  have counted : (n.counted g).sums = (s.counted g).sums := by
    rw [counted_sums, counted_sums, hledger, noted.same .ctr (by decide), noted.same .harvest (by decide)]
  have hsums : (u.taskEnd 3).sums = { (s.counted g).sums with qUc := u.ledger.qUc } := by
    rw [ended.sums (by decide) (by decide), frame.sums, counted]
  have hstopped : s.ledger.fwStop = true → (u.taskEnd 3).sums = (s.counted g).sums := by
    intro hstop
    rw [ended.sums (by decide) (by decide), (ledgerStep_stopped n g (hledger ▸ hstop)).2, counted]
  rw [counted_sums] at hsums hstopped
  obtain ⟨b, on, mv, hpower⟩ := frame.power
  have rest := (noted.trans (counted_changes g)).trans frame.changes
  have all := rest.trans ended
  refine ⟨_, exec_ledgerUpdate s g hon hmode, ?_, ?_, congrArg Sums.thruJ hsums, congrArg Sums.eInJ hsums,
    congrArg Sums.thruUj hsums, ?_, congrArg Sums.hourUj hsums, congrArg Sums.outUj hsums, ?_,
    fun hstop => congrArg Sums.qUc (hstopped hstop), ?_, all.same .sec (by decide), all.same .sw (by decide),
    all.same .arm (by decide), all.same .line (by decide), all.life (by decide)⟩
  · rw [ended.power (by decide), hpower]
    exact counted_stoMv n g
  · rw [ended.power (by decide), hpower]
    exact counted_midMv n g
  · rw [(frame.changes.trans ended).same .harvest (by decide), counted_harvest, noted.same .harvest (by decide)]
  · rw [taskEnd_quietMiss, ((counted_changes g).trans frame.changes).same .plinth (by decide)]
    exact noteNoise_quietMiss s g
  · rw [taskEnd_config, rest.same .config (by decide)]

/-- Settles O10: each command by its lemma above. -/
theorem ledgerCountsAndKeepsTheCalendar : Obligations.LedgerCountsAndKeepsTheCalendar := by
  unfold Obligations.LedgerCountsAndKeepsTheCalendar
  intro s
  exact ⟨ledgerUpdate_acts s, chargeTermination_acts s, calendarHourEnd_counts s, calendarHourEnd_drops s,
    calendarSave_writes s, calendarSave_skips s, calendarSave_refused s⟩

end Sys2Proof.Machine
end

section
/-! PROOFS. Replies: what an answer leaves in the ports, and the statement on where a reply goes. -/

namespace Sys2Proof.Machine

variable {s t : State}

/-! ### Reading a port and a name -/

theorem ChangesOnly.port {ps : List StatePart} (h : ChangesOnly ps s t) (hp : .camyx ∉ ps) (u : Transport) :
    t.port u = s.port u := by
  unfold State.port
  rw [h.same .camyx hp]

theorem ChangesOnly.holds {ps : List StatePart} (h : ChangesOnly ps s t) (hp : .logs ∉ ps) (src : Src) :
    t.holds src = s.holds src := by
  unfold State.holds
  rw [(h.same .logs hp).1]

theorem onPort_port_same (s : State) (u : Transport) (f : Port → Port) : (s.onPort u f).port u = f (s.port u) := by
  rw [onPort_port, if_pos rfl]

/-! ### A delivery -/

/-- The transports whose replies wait in their port until they are read or sent (R164). -/
def queuesReplies : Transport → Bool
  | .nfc => false
  | .link => false
  | _ => true

theorem deliver_port_queued {u : Transport} (h : queuesReplies u = true) (r : Reply) :
    (s.deliver u r).port u = { s.port u with replies := (s.port u).replies ++ [r] } := by
  have raised : ∀ (v : State) d, (v.raiseOnce Ev.replyReady 0 d).port u = v.port u := fun v d =>
    (raiseOnce_changes ..).port (by decide) u
  cases u with
  | nfc | link => nomatch h
  | spi | i2c => exact (raised ..).trans (onPort_port_same ..)
  | uart | gateway | line => exact onPort_port_same ..

/-- REPLY_READY holds once SPI or I²C has a reply (Table 15.2). -/
theorem deliver_replyReady {u : Transport} (h : u = .spi ∨ u = .i2c) (r : Reply) :
    (s.deliver u r).holds Ev.replyReady = true := by
  rcases h with rfl | rfl
  · exact raiseOnce_holds ..
  · exact raiseOnce_holds ..

/-- The selected Camyx application sends the reply as its response APDU, and the command APDU is answered (R422). -/
theorem deliver_nfc (hst : s.nfc.st = .isoDep) (happ : s.nfc.app = .camyx) (r : Reply) :
    (s.deliver .nfc r).nfc = { s.nfc with out := r.all 1024 (r.data.length + 1) ++ [0x90#8, 0x00#8] } ∧
      (s.deliver .nfc r).camyx.apdu = false := by
  have sent : s.deliver .nfc r = { s with
      nfc := { s.nfc with out := r.all 1024 (r.data.length + 1) ++ [0x90#8, 0x00#8] }
      camyx := { s.camyx with apdu := false } }.handOver r.drops := if_pos ⟨hst, happ⟩
  rw [sent]
  exact ⟨(handOver_changes _).same .nfc (by decide), congrArg Camyx.apdu ((handOver_changes _).same .camyx (by decide))⟩

/-- Of its own port a delivery writes at most the replies. -/
theorem deliver_port (s : State) (u : Transport) (r : Reply) :
    ∃ l, (s.deliver u r).port u = { s.port u with replies := l } := by
  cases u with
  | nfc =>
    refine ⟨(s.port .nfc).replies, ?_⟩
    unfold State.deliver
    dsimp only
    split
    · exact (handOver_changes _).port (by decide) _
    · rfl
  | link => exact ⟨(s.port .link).replies, (handOver_changes _).port (by decide) _⟩
  | spi | i2c | uart | gateway | line => exact ⟨_, deliver_port_queued rfl r⟩

/-- Of the protocol's block a delivery writes at most the ports and the mark of an APDU in hand. -/
theorem deliver_camyx (s : State) (u : Transport) (r : Reply) :
    ∃ ports apdu, (s.deliver u r).camyx = { s.camyx with ports := ports, apdu := apdu } := by
  have handed : ∀ (v : State) l, (v.handOver l).camyx = v.camyx := fun v l => (handOver_changes l).same .camyx (by decide)
  have raised : ∀ (v : State) d, (v.raiseOnce Ev.replyReady 0 d).camyx = v.camyx := fun v d =>
    (raiseOnce_changes ..).same .camyx (by decide)
  cases u with
  | nfc =>
    unfold State.deliver
    dsimp only
    split
    · exact ⟨_, _, handed ..⟩
    · exact ⟨_, _, rfl⟩
  | link => exact ⟨_, _, handed ..⟩
  | spi | i2c => exact ⟨_, _, raised ..⟩
  | uart | gateway | line => exact ⟨_, _, rfl⟩

/-! ### An answer -/

/-- A session with the reply to its last accepted request stored for retries (R186). -/
def Reply.storeIn (r : Reply) (x : Session) : Session :=
  if r.sid = some x.sid ∧ r.seq = x.seq then { x with stored := some { r with drops := [] } } else x

theorem storeIn_sid (r : Reply) (x : Session) : (r.storeIn x).sid = x.sid := by
  unfold Reply.storeIn
  split
  · rfl
  · rfl

theorem answer_eq (s : State) (u : Transport) (r : Reply) :
    s.answer u r = (s.onPort u fun p => { p with est := p.est.map r.storeIn }).deliver u r := rfl

theorem answer_changes (u : Transport) (r : Reply) : ChangesOnly [.camyx, .nfc, .tab, .logs] s (s.answer u r) :=
  ((onPort_changes ..).trans (deliver_changes ..)).mono (by decide)

/-- Of its own port an answer writes at most the replies and the session's stored reply. -/
theorem answer_port (s : State) (u : Transport) (r : Reply) :
    ∃ l, (s.answer u r).port u = { s.port u with est := (s.port u).est.map r.storeIn, replies := l } := by
  obtain ⟨l, h⟩ := deliver_port (s.onPort u fun p => { p with est := p.est.map r.storeIn }) u r
  rw [onPort_port_same] at h
  exact ⟨l, h⟩

theorem answer_camyx (s : State) (u : Transport) (r : Reply) :
    ∃ ports apdu, (s.answer u r).camyx = { s.camyx with ports := ports, apdu := apdu } :=
  deliver_camyx (s.onPort u fun p => { p with est := p.est.map r.storeIn }) u r

/-! ### The reply to a request -/

/-- The reply to a waiting request, which carries no FIFO entries. -/
def State.replyTo (s : State) (w : Waiting) (st : Status) (data : List Byte) : Reply :=
  { seq := w.rq.seq.toNat, opc := w.opc, status := st, data := data, key := w.key,
    lineAddr := if w.lineKeyed then some (s.param P.lineAddr) else none, more := false, part := 0, sid := w.sid,
    cut := false, drops := [] }

theorem respond_of_cast {w : Waiting} (h : w.rq.cast = true) (st : Status) (data : List Byte) : s.respond w st data = s :=
  if_pos h

theorem respond_eq_answer {w : Waiting} (h : w.rq.cast = false) (st : Status) (data : List Byte) :
    s.respond w st data = s.answer w.rq.via (s.replyTo w st data) :=
  if_neg (by simp [h])

theorem respond_changes (w : Waiting) (st : Status) (data : List Byte) :
    ChangesOnly [.camyx, .nfc, .tab, .logs] s (s.respond w st data) :=
  .elseOnly (answer_changes ..)

/-- Of its port a reply writes at most the replies and the session's stored reply. -/
theorem respond_port (s : State) (w : Waiting) (st : Status) (data : List Byte) :
    ∃ f l, (∀ x, Session.sid (f x) = x.sid) ∧ (s.respond w st data).port w.rq.via =
      { s.port w.rq.via with est := (s.port w.rq.via).est.map f, replies := l } := by
  cases h : w.rq.cast with
  | true =>
    rw [respond_of_cast h]
    exact ⟨id, _, fun _ => rfl, by rw [Option.map_id]; rfl⟩
  | false =>
    rw [respond_eq_answer h]
    obtain ⟨l, hl⟩ := answer_port s w.rq.via (s.replyTo w st data)
    exact ⟨_, l, storeIn_sid _, hl⟩

theorem respond_camyx (s : State) (w : Waiting) (st : Status) (data : List Byte) :
    ∃ ports apdu, (s.respond w st data).camyx = { s.camyx with ports := ports, apdu := apdu } := by
  cases h : w.rq.cast with
  | true => exact ⟨_, _, congrArg State.camyx (respond_of_cast h ..)⟩
  | false =>
    rw [respond_eq_answer h]
    exact answer_camyx ..

/-! ### Where a reply goes -/

theorem respond_queued {w : Waiting} (hcast : w.rq.cast = false) (hq : queuesReplies w.rq.via = true) (st : Status)
    (data : List Byte) :
    ((s.respond w st data).port w.rq.via).replies = (s.port w.rq.via).replies ++ [s.replyTo w st data] := by
  rw [respond_eq_answer hcast, answer_eq, deliver_port_queued hq, onPort_port_same]

theorem respond_nfc {w : Waiting} (hcast : w.rq.cast = false) (hvia : w.rq.via = .nfc) (hst : s.nfc.st = .isoDep)
    (happ : s.nfc.app = .camyx) (st : Status) (data : List Byte) :
    (s.respond w st data).nfc = { s.nfc with
      out := (s.replyTo w st data).all 1024 (data.length + 1) ++ [0x90#8, 0x00#8] } ∧
      (s.respond w st data).camyx.apdu = false := by
  rw [respond_eq_answer hcast, hvia]
  exact deliver_nfc (s := s.onPort .nfc fun p => { p with est := p.est.map (s.replyTo w st data).storeIn }) hst happ _

theorem respond_link {w : Waiting} (hcast : w.rq.cast = false) (hvia : w.rq.via = .link) (st : Status)
    (data : List Byte) : (s.respond w st data).tab =
      { s.tab with bulkOut := s.tab.bulkOut ++ [(s.tab.leadIdx, toLe 1 2 ++ toLe 1 st.code ++ data)] } := by
  rw [respond_eq_answer hcast, hvia]
  rfl

/-- Settles O13: a reply is an answer on the transport of its request, and each transport takes it by its own lemma
above; only a request to a group or to broadcast has none. -/
theorem repliesGoToTheirTransport : Obligations.RepliesGoToTheirTransport := by
  unfold Obligations.RepliesGoToTheirTransport
  intro s w st d
  refine ⟨fun hcast => respond_of_cast hcast st d, fun hcast hvia => ?queued, fun hcast hvia => ?ready,
    fun hcast hvia hst happ => ⟨_, respond_nfc hcast hvia hst happ st d⟩,
    fun hcast hvia => respond_link hcast hvia st d⟩
  case queued =>
    have hq : queuesReplies w.rq.via = true := by
      rcases hvia with h | h | h | h | h
      all_goals rw [h]; rfl
    exact ⟨s.replyTo w st d, respond_queued hcast hq st d, rfl, rfl, rfl, rfl, rfl⟩
  case ready =>
    rw [respond_eq_answer hcast]
    exact deliver_replyReady hvia _

end Sys2Proof.Machine
end

section
/-! PROOFS. Sessions and ABORT: one lemma per command, and the statement on them. -/

namespace Sys2Proof.Machine

variable {s : State}

/-! ### A request that is taken, and the task that served it -/

theorem taken_port (s : State) (w : Waiting) : (s.taken w).port w.rq.via =
    { s.port w.rq.via with waiting := (s.port w.rq.via).waiting.erase w } :=
  onPort_port_same ..

theorem done_changes (w : Waiting) : ChangesOnly [.plinth, .config] s (s.done w) := taskEnd_changes _

theorem done_port (s : State) (w : Waiting) (u : Transport) : (s.done w).port u = s.port u :=
  (done_changes w).port (by decide) u

theorem done_camyx (s : State) (w : Waiting) : (s.done w).camyx = s.camyx := (done_changes w).same .camyx (by decide)

/-! ### OPEN_SESSION (R188 to R191) -/

/-- The SID and the draws from the TRNG that a new session takes. -/
def State.drawSid (s : State) : State :=
  { s with camyx := { s.camyx with sidNext := if s.camyx.sidNext = 65535 then 1 else s.camyx.sidNext + 1 }
           free := s.free + 8 }

/-- The state that holds a new pending session on a transport, over NFC with its reservation asked for. -/
def State.pendOn (s : State) (u : Transport) (x : Session) : State :=
  let held := s.drawSid.onPort u fun q => { q with pend := some x }
  if u = .nfc then held.nfcReserve else held

theorem pendOn_spec (s : State) (u : Transport) (x : Session) : (s.pendOn u x).free = s.free + 8 ∧
    ((s.pendOn u x).port u).pend = some x ∧
    (s.pendOn u x).camyx.sidNext = if s.camyx.sidNext = 65535 then 1 else s.camyx.sidNext + 1 := by
  let held := (s.drawSid).onPort u fun q => { q with pend := some x }
  have pend : held.port u = { s.drawSid.port u with pend := some x } := onPort_port_same ..
  have reserved : ChangesOnly [.ledger, .nfc, .ctr, .logs] held (s.pendOn u x) := .thenOnly nfcReserve_changes
  refine ⟨reserved.same .free (by decide), ?_, congrArg Camyx.sidNext (reserved.same .camyx (by decide))⟩
  rw [reserved.port (by decide), pend]

/-- What the answer to an OPEN_SESSION leaves of the state that holds the session. -/
theorem pendOn_answered (s : State) (x : Session) (v w : Waiting) (st : Status) (d : List Byte) :
    (((s.pendOn v.rq.via x).respond v st d).done w).free = s.free + 8 ∧
    ((((s.pendOn v.rq.via x).respond v st d).done w).port v.rq.via).pend = some x ∧
    (((s.pendOn v.rq.via x).respond v st d).done w).camyx.sidNext =
      if s.camyx.sidNext = 65535 then 1 else s.camyx.sidNext + 1 := by
  obtain ⟨hfree, hpend, hsid⟩ := pendOn_spec s v.rq.via x
  obtain ⟨f, l, -, hport⟩ := respond_port (s.pendOn v.rq.via x) v st d
  obtain ⟨ports, apdu, hcamyx⟩ := respond_camyx (s.pendOn v.rq.via x) v st d
  refine ⟨?_, ?_, ?_⟩
  · rw [(done_changes w).same .free (by decide), (respond_changes v st d).same .free (by decide), hfree]
  · rw [done_port, hport, hpend]
  · rw [done_camyx, hcamyx, hsid]

theorem cmdOpenSession_pends {w : Waiting} {k : List Byte} {p : Priv} (hauth : w.rq.auth = false)
    (hkey : s.sessionSource (fieldAt w.body 0 1) (fieldAt w.body 1 1) = some (k, p))
    (hfar : w.rq.via = .gateway ∨ w.rq.via = .line → fieldAt w.body 0 1 ≠ 3 ∧ p ≠ .claim) {x : Session}
    (hx : x = s.newSession w.rq.via (fieldAt w.body 0 1) (fieldAt w.body 1 1) (w.body.drop 2) k p) :
    s.cmdOpenSession w = (s.pendOn w.rq.via x).respond { w with key := some x.kMac } .ok
      (s.ident.uid ++ s.nonceD ++ toLe 2 x.sid) := by
  have near : ∀ c : Bool, (w.rq.via = .gateway ∨ w.rq.via = .line → c = false) →
      ((w.rq.via == .gateway || w.rq.via == .line) && c) = false := by
    intro c hc
    cases hvia : (w.rq.via == .gateway || w.rq.via == .line) with
    | false => rfl
    | true => rw [hc (by simpa using hvia)]; rfl
  have hrole := near (fieldAt w.body 0 1 == 3) fun h => by simpa using (hfar h).1
  have hclaim := near (p == .claim) fun h => by simpa using (hfar h).2
  unfold State.cmdOpenSession State.pendOn State.drawSid
  simp only [hauth, hrole, hkey, hclaim, Bool.or_self, Bool.false_eq_true, if_false, ← hx]

theorem openSession_acts (s : State) (rq : Request) (w : Waiting) (k : List Byte) (p : Priv) (hready : s.Ready 0x02 rq w)
    (hauth : rq.auth = false)
    (hkey : s.sessionSource (fieldAt w.body 0 1) (fieldAt w.body 1 1) = some (k, p))
    (hfar : rq.via = .gateway ∨ rq.via = .line → fieldAt w.body 0 1 ≠ 3 ∧ p ≠ .claim) :
    ∃ t, exec (.openSession rq) s = .next t ∧ t.free = s.free + 8 ∧
      (t.port rq.via).pend =
        some (s.newSession rq.via (fieldAt w.body 0 1) (fieldAt w.body 1 1) (w.body.drop 2) k p) ∧
      t.camyx.sidNext = (if s.camyx.sidNext = 65535 then 1 else s.camyx.sidNext + 1) := by
  obtain ⟨rfl, -⟩ := ready_rq hready
  have hexec : exec (.openSession w.rq) s = .next (((s.taken w).cmdOpenSession w).done w) :=
    congrArg Host.Outcome.next (serve_ready hready rfl)
  rw [cmdOpenSession_pends (s := s.taken w) hauth hkey hfar rfl] at hexec
  exact ⟨_, hexec, pendOn_answered (s.taken w) _ { w with key := _ } w ..⟩

/-! ### The end of a session (R197) -/

/-- What ends a session raises SESSION_END. -/
theorem dropSession_holds (s : State) (u : Transport) (x : Session) (reason : Nat) :
    (s.dropSession u x reason).holds Ev.sessionEnd = true :=
  raiseP_holds ..

theorem dropSession_est (s : State) (u : Transport) (x : Session) (reason : Nat) :
    ((s.dropSession u x reason).port u).est = (s.port u).est := by
  unfold State.dropSession
  extract_lets s1 s2 s4 old s3
  have filtered : s1.port u = { s.port u with
      waiting := (s.port u).waiting.filter fun w => w.sid != some x.sid
      parts := (s.port u).parts.filter fun q => q.sid != some x.sid } := onPort_port_same ..
  have cut : s2.port u = s1.port u := rfl
  have freed : s4.camyx = s2.camyx := by
    show (if _ then _ else _ : State).camyx = _
    split
    · rfl
    · rfl
  have ended : s3.camyx = s2.camyx := by
    show (if _ then _ else _ : State).camyx = _
    split
    · exact freed
    · rfl
  rw [(raiseP_changes ..).port (by decide), show s3.port u = s2.port u by unfold State.port; rw [ended],
    cut, filtered]

theorem endSession_of_est {u : Transport} {x : Session} (h : (s.port u).est = some x) (reason : Nat) :
    s.endSession u reason = (s.onPort u fun p => { p with est := none }).dropSession u x reason := by
  unfold State.endSession
  rw [h]

theorem endSession_ends {u : Transport} {x : Session} (h : (s.port u).est = some x) (reason : Nat) :
    ((s.endSession u reason).port u).est = none ∧ (s.endSession u reason).holds Ev.sessionEnd = true := by
  rw [endSession_of_est h, dropSession_est, onPort_port_same]
  exact ⟨rfl, dropSession_holds ..⟩

theorem closeSession_acts (s : State) (rq : Request) (w : Waiting) (x : Session) (hready : s.Ready 0x03 rq w)
    (hsid : w.sid = some x.sid) (hest : (s.port rq.via).est = some x) :
    ∃ t, exec (.closeSession rq) s = .next t ∧ (t.port rq.via).est = none ∧ t.holds Ev.sessionEnd = true := by
  obtain ⟨rfl, -⟩ := ready_rq hready
  obtain ⟨f, l, hf, hport⟩ := respond_port (s.taken w) w .ok []
  have answered : (((s.taken w).respond w .ok []).port w.rq.via).est = some (f x) := by
    rw [hport, taken_port]
    exact congrArg (Option.map f) hest
  have hcmd : (s.taken w).cmdCloseSession w = ((s.taken w).respond w .ok []).endSession w.rq.via 1 := by
    unfold State.cmdCloseSession
    simp only [hsid, answered, hf, if_true]
  have hexec : exec (.closeSession w.rq) s = .next (((s.taken w).cmdCloseSession w).done w) :=
    congrArg Host.Outcome.next (serve_ready hready rfl)
  obtain ⟨hnone, hend⟩ := endSession_ends answered 1
  rw [hcmd] at hexec
  exact ⟨_, hexec, by rw [done_port, hnone], by rw [(done_changes w).holds (by decide), hend]⟩

theorem sessionPendingLapse_acts (s : State) (u : Transport) (x : Session) (hpend : (s.port u).pend = some x)
    (hdue : 10000 ≤ since s.plinth.upMs x.verifiedAt) :
    ∃ t, exec (.sessionPendingLapse u) s = .next t ∧ (t.port u).pend = none ∧ (t.port u).est = (s.port u).est ∧
      t = { s with ledger := t.ledger, camyx := t.camyx, nfc := t.nfc } := by
  let lapsed : State := s.onPort u fun p => { p with pend := none }
  have hport : lapsed.port u = { s.port u with pend := none } := onPort_port_same ..
  have hexec : exec (.sessionPendingLapse u) s = .next
      (if u = .nfc ∧ (s.port .nfc).est.isNone = true ∧ s.nfc.sessionRes = true then
        { lapsed.release .nfcSession with nfc := { lapsed.nfc with sessionRes := false, fieldOnly := false } }
      else lapsed) := by
    have due : ((s.port u).pend.any fun x => decide (10000 ≤ since s.plinth.upMs x.verifiedAt)) = true := by
      rw [hpend, Option.any_some, decide_eq_true hdue]
    show execSessionPendingLapse u s = _
    unfold execSessionPendingLapse
    rw [due]
    rfl
  rw [hexec]
  split
  · have released : ({ lapsed.release .nfcSession with
        nfc := { lapsed.nfc with sessionRes := false, fieldOnly := false } } : State).port u = lapsed.port u := rfl
    exact ⟨_, rfl, by rw [released, hport], by rw [released, hport], rfl⟩
  · exact ⟨_, rfl, by rw [hport], by rw [hport], rfl⟩

theorem sessionIdleExpiry_acts (s : State) (u : Transport) (x : Session) (hest : (s.port u).est = some x)
    (hidle : 1000 * x.idleS ≤ since s.plinth.upMs x.verifiedAt) :
    ∃ t, exec (.sessionIdleExpiry u) s = .next t ∧ (t.port u).est = none ∧ t.holds Ev.sessionEnd = true ∧
      t = { s.withLogs t with ledger := t.ledger, camyx := t.camyx, nfc := t.nfc } := by
  have hexec : exec (.sessionIdleExpiry u) s = .next (s.endSession u 2) := by
    show execSessionIdleExpiry u s = _
    simp only [execSessionIdleExpiry, hest, Option.any_some, decide_eq_true hidle, if_true]
  obtain ⟨hnone, hend⟩ := endSession_ends hest 2
  exact ⟨_, hexec, hnone, hend, (endSession_changes u 2).eq_copy⟩

/-! ### ABORT (R205 to R207) -/

/-- What an ABORT looks for among the requests that wait: one of its own sender that TARGET_SEQ names. -/
def Waiting.namesRequest (w : Waiting) : Waiting → Bool := fun v =>
  targets (fieldAt w.body 0 2) v.first v.rq.seq.toNat && v.sid == w.sid && !v.lineKeyed

/-- What an ABORT looks for among the operations in hand. -/
def Waiting.namesOp (w : Waiting) : Op → Bool := fun o =>
  (o.via == w.rq.via && targets (fieldAt w.body 0 2) o.first o.seq) && o.sid == w.sid && o.lineAddr.isNone

theorem exec_abort {w : Waiting} (hready : s.Ready 0x04 w.rq w) :
    exec (.abort w.rq) s = .next (((s.taken w).cmdAbort w).done w) :=
  congrArg Host.Outcome.next (serve_ready hready rfl)

/-- A request that waits is taken out and answered, unless it is IMMEDIATE or changes no state (R207, R220). -/
theorem cmdAbort_waiting {w v : Waiting} (hfind : (s.port w.rq.via).waiting.find? w.namesRequest = some v) :
    s.cmdAbort w =
      if immediate v.opc v.body || readsOnly v.opc v.body then s.respond w .alreadyDone []
      else ((s.onPort w.rq.via fun p => { p with waiting := p.waiting.erase v }).respond v .aborted []).respond w
        .aborted [] := by
  unfold Waiting.namesRequest at hfind
  unfold State.cmdAbort
  simp only [hfind]

/-- With nothing of its own waiting, an ABORT comes to the operation in hand that it names (R206). -/
theorem cmdAbort_op {w : Waiting} {o : Op} (hnone : (s.port w.rq.via).waiting.find? w.namesRequest = none)
    (hparts : (s.port w.rq.via).parts = []) (hfind : s.camyx.ops.find? w.namesOp = some o) :
    s.cmdAbort w = s.abortOp w o := by
  unfold Waiting.namesRequest at hnone
  unfold Waiting.namesOp at hfind
  unfold State.cmdAbort
  simp only [hnone, hparts, List.find?_nil, hfind]

/-- An operation that is neither forwarded nor a SHELF ends with ABORTED before its point of no return, and is left
alone after it. -/
theorem abortOp_own (s : State) (w : Waiting) {o : Op} (hforward : ∀ m, o.kind ≠ .forward m) (hshelf : o.kind ≠ .shelf) :
    s.abortOp w o = if o.pnr then s.respond w .alreadyDone []
      else ((s.cancelOp o).finish o .aborted []).respond w .aborted [] := by
  unfold State.abortOp
  split
  next m h => exact absurd h (hforward m)
  next h => exact absurd h hshelf
  next => rfl

/-- Settles O15: each command by its lemma above; ABORT by where it finds its target. -/
theorem sessionsAndAbortAct : Obligations.SessionsAndAbortAct := by
  unfold Obligations.SessionsAndAbortAct
  intro s rq w
  refine ⟨openSession_acts s rq w, closeSession_acts s rq w, fun v hready hfind hslow hwrites => ?stopped,
    fun v hready hfind hkept => ?kept, fun o hready hnone hparts hfind hforward hshelf => ?operation,
    sessionPendingLapse_acts s, sessionIdleExpiry_acts s⟩
  all_goals obtain ⟨rfl, -⟩ := ready_rq hready
  case stopped =>
    rw [exec_abort hready, cmdAbort_waiting hfind, if_neg (by simp [hslow, hwrites])]
  case kept =>
    rw [exec_abort hready, cmdAbort_waiting hfind, if_pos (by simpa using hkept)]
  case operation =>
    have hempty : ((s.taken w).port w.rq.via).parts = [] := by rw [taken_port, hparts]
    have hop : (s.taken w).cmdAbort w = (s.taken w).abortOp w o := cmdAbort_op hnone hempty hfind
    rw [exec_abort hready, hop, abortOp_own _ _ hforward hshelf]

end Sys2Proof.Machine
end

section
/-! PROOFS. The configuration requests: the refutation of their statement, by what a change of SYS_U0_BAUD forgets. -/

namespace Sys2Proof.Machine

/-- A COMMIT over SPI with SEQ 1. -/
def spiCommit : Request :=
  { via := .spi, origin := 0, dst := 0, ctrl := 0, seq := 1, params := [0, 0], mac := [] }

/-- The same COMMIT as its port holds it. -/
def spiCommitWaiting : Waiting :=
  { n := 0, opc := 0x12, first := 1, rq := spiCommit, body := [0, 0], priv := .owner, sid := none, key := none
    lineKeyed := false }

/-- That COMMIT has brought 9,600 Bd, the transfer has taken place, and the reply has been read: no reply waits on SPI. -/
def baudDueOverSpi : State :=
  { State.reset with config := { State.reset.config with baudNext := some 9600, baudBy := some (.spi, 1) } }

theorem baudDueOverSpi_baudWaits : baudDueOverSpi.baudWaits = false := by decide

/-- A change of SYS_U0_BAUD forgets the COMMIT that brought it. -/
theorem exec_u0BaudChange {s : State} {b : Nat} (hnext : s.config.baudNext = some b) (hsent : s.baudWaits = false) :
    exec .u0BaudChange s =
      .next { s with config := { s.config with baud := b, baudNext := none, baudBy := none } } := by
  show execU0BaudChange s = _
  simp only [execU0BaudChange, hnext, hsent, Bool.false_eq_true, if_false]

/-- Refutes O16: its clause on U0_BAUD_CHANGE has nothing but the rate and the pending rate change, but the model also
drops the note of which COMMIT brought the rate, which has served once its reply has been sent (R176). After a COMMIT
over SPI with SEQ 1 the note is there before the change and gone after it. -/
theorem not_configurationRequestsAct : ¬ Obligations.ConfigurationRequestsAct := by
  unfold Obligations.ConfigurationRequestsAct
  intro h
  obtain ⟨-, -, -, -, -, -, -, -, -, -, hbaud⟩ := h baudDueOverSpi spiCommit spiCommitWaiting []
  have hclaimed := hbaud 9600 rfl baudDueOverSpi_baudWaits
  rw [exec_u0BaudChange rfl baudDueOverSpi_baudWaits] at hclaimed
  have hnote : none = some (Transport.spi, 1) := congrArg (fun t => t.config.baudBy) (Host.Outcome.next.inj hclaimed)
  nomatch hnote

end Sys2Proof.Machine
end

section
/-! PROOFS. The HEAD's bridge, the parts of a request and the command APDU: one lemma per command, and the statement on
them. -/

namespace Sys2Proof.Machine

variable {s : State}

/-! ### The HEAD's own answer to a bridge frame (R178) -/

theorem bridgeRefuse_changes (a : Nat) (pkt : List Byte) (st : Status) :
    ChangesOnly [.camyx, .logs] s (s.bridgeRefuse a pkt st) :=
  (ChangesOnly.elseOnly (.write [.camyx] rfl)).trans (raiseP_changes ..)

theorem bridgeRefuse_holds (a : Nat) (pkt : List Byte) (st : Status) :
    (s.bridgeRefuse a pkt st).holds Ev.bridgeDrop = true :=
  raiseP_holds ..

/-- A refusal writes at most the frames for the gateway. -/
theorem bridgeRefuse_camyx (a : Nat) (pkt : List Byte) (st : Status) :
    (s.bridgeRefuse a pkt st).camyx = { s.camyx with gwOut :=
      if 251 ≤ a then s.camyx.gwOut
      else s.camyx.gwOut ++
        [frameBridge a (packetBody 1 (fieldAt pkt 3 2) (fieldAt pkt 5 1) (toLe 1 st.code) 0)] } := by
  unfold State.bridgeRefuse
  dsimp only
  rw [(raiseP_changes ..).same .camyx (by decide)]
  split
  · rfl
  · rfl

/-! ### A packet for the line (R178, R179, R369, R371) -/

theorem bridgeIn_cast {a : Nat} {pkt : List Byte} (ha : 251 ≤ a) (hdown : s.line.stoodDown = false)
    (hlen : pkt.length ≤ 270) (hfull : s.bridgeFull a = false) :
    s.bridgeIn a pkt = { s with line := { s.line with
      castQ := s.line.castQ ++ [newCast a 1 pkt (s.param P.lineBcastRepeat) true] } } := by
  unfold State.bridgeIn
  simp only [hdown, if_pos ha, if_neg (Nat.not_lt.2 hlen), hfull, Bool.false_eq_true, if_false]

theorem bridgeIn_noRoute {a : Nat} (pkt : List Byte) (ha : a < 251)
    (hroute : s.line.stoodDown = true ∨ s.node? a = none) : s.bridgeIn a pkt = s.bridgeRefuse a pkt .noRoute := by
  unfold State.bridgeIn
  dsimp only
  split
  · rfl
  next hup =>
    have hnode : s.node? a = none := hroute.resolve_left hup
    rw [if_neg (Nat.not_le.2 ha), hnode]

theorem bridgeIn_node {a : Nat} {pkt : List Byte} {n : Node} (ha : a < 251) (hdown : s.line.stoodDown = false)
    (hnode : s.node? a = some n) (hlen : pkt.length ≤ 270) (hfull : s.bridgeFull a = false)
    (hfits : pkt.length ≤ lineLimit n.mode s.laneCount) (hload : s.bridgeLoad + s.bridgeSlots n pkt.length ≤ 150) :
    s.bridgeIn a pkt = { s with camyx := { s.camyx with
      bridge := s.camyx.bridge ++ [{ addr := a, pkt := pkt, sent := false }] } } := by
  have hroom : ¬(lineLimit n.mode s.laneCount < pkt.length ∨ 150 < s.bridgeLoad + s.bridgeSlots n pkt.length) := by
    omega
  unfold State.bridgeIn
  simp only [hdown, if_neg (Nat.not_le.2 ha), hnode, if_neg (Nat.not_lt.2 hlen), hfull, if_neg hroom,
    Bool.false_eq_true, if_false]

/-! ### A bridge frame (R177) -/

/-- A whole bridge frame at a HEAD that is not in DOZE: ADDR 0 is the HEAD itself, any other address is bridged. -/
theorem exec_bridgeFrame {b pkt : List Byte} {a : Nat} (hlive : s.portLive .gateway = true)
    (hsync : fieldAt b 0 1 = 0xAB) (haddr : fieldAt b 1 1 = a) (hlen : b.length = fieldAt b 2 2 + 6)
    (hpkt : pkt = (b.drop 2).take (fieldAt b 2 2 + 2)) (hok : packetOk pkt = true)
    (hcrc : (crc16 ((b.drop 1).take (fieldAt b 2 2 + 3))).toNat = fieldAt b (fieldAt b 2 2 + 4) 2)
    (hmode : s.plinth.mode ≠ .doze) : exec (.bridgeFrame b) s = .next
      (if a = 0 then s.receive (opcOf pkt) (requestOf .gateway 0 0 pkt) else s.bridgeIn a pkt) := by
  show execBridgeFrame b s = _
  unfold execBridgeFrame
  simp only [hlive, hmode, hsync, haddr, hlen, ← hpkt, hok, hcrc, beq_self_eq_true, Bool.and_self, Bool.not_true,
    Bool.false_eq_true, if_false]

theorem bridgeReplyTimeout_acts (s : State) (a q : Nat) (x : Bridged)
    (hfind : s.camyx.bridge.find? (fun b => b.addr == a && fieldAt b.pkt 3 2 == q) = some x) :
    ∃ t, exec (.bridgeReplyTimeout a q) s = .next t ∧ t.camyx.bridge = s.camyx.bridge.erase x ∧
      t.holds Ev.bridgeDrop = true ∧ t = { s.withLogs t with camyx := t.camyx } := by
  let dropped : State := { s with camyx := { s.camyx with bridge := s.camyx.bridge.erase x } }
  have hexec : exec (.bridgeReplyTimeout a q) s = .next (dropped.bridgeRefuse a x.pkt .timeout) := by
    show execBridgeReplyTimeout a q s = _
    unfold execBridgeReplyTimeout
    rw [hfind]
  have drop : ChangesOnly [.camyx] s dropped := .write _ rfl
  have frame : ChangesOnly [.camyx, .logs] s (dropped.bridgeRefuse a x.pkt .timeout) :=
    (drop.trans (bridgeRefuse_changes ..)).mono (by decide)
  exact ⟨_, hexec, by rw [bridgeRefuse_camyx], bridgeRefuse_holds .., frame.eq_copy⟩

/-! ### Parts of a request (R163) -/

/-- A request without AUTH as its transport takes it, before its checks. -/
def State.plainWaiting (s : State) (opc : Nat) (rq : Request) : Waiting :=
  { n := s.camyx.arrived, opc := opc, first := rq.seq.toNat, rq := rq, body := rq.params, priv := s.plainPriv rq.via
    sid := none, key := none, lineKeyed := false }

/-- A packet for this device is counted. -/
def State.countRx (s : State) : State := { s with camyx := { s.camyx with rx := wrapAdd 32 s.camyx.rx 1 } }

/-- A request without AUTH that is not too long, whose CTRL has neither REPLY nor a reserved bit, and which on the line
comes from address 0, goes on to the checks of its run of parts. -/
theorem arrive_plain {opc : Nat} {rq : Request} (hauth : rq.auth = false) (hline : rq.via = .line → rq.origin = 0)
    (hctrl : rq.ctrl &&& 0xF9#8 = 0) (hsize : rq.params.length ≤ paramLimit rq.via) :
    s.arrive opc rq = s.countRx.admit_ (s.plainWaiting opc rq) := by
  have hsigner : s.signer opc rq = .nobody := by
    unfold State.signer
    simp only [hauth, Bool.not_false, if_true]
  have horigin : ¬(rq.via = .line ∧ rq.origin ≠ 0) := fun h => h.2 (hline h.1)
  unfold State.arrive
  simp only [hsigner, if_neg horigin, hctrl, ne_eq, not_true, if_false, if_neg (Nat.not_lt.2 hsize),
    State.authorize, hauth, Bool.not_false, if_true]
  rfl

/-- The part with which a request in parts begins. -/
def Waiting.firstPart (w : Waiting) : Parts :=
  { opc := w.opc, first := w.rq.seq.toNat, next := wrapAdd 16 w.rq.seq.toNat 1, data := w.body, sid := w.sid
    lineKeyed := w.lineKeyed }

/-- A request with MORE that no run precedes is stored as the first part of one, and acknowledged with OK and MORE. -/
theorem admit_firstPart {w : Waiting} (hparts : (s.port w.rq.via).parts = []) (hopc : (rolesOf w.opc).isSome = true)
    (hadmits : admits w.priv (transportCode w.rq.via) w.opc w.body = true) (hmore : w.rq.more = true)
    (hcast : w.rq.cast = false) : ∃ r, Reply.status r = .ok ∧ r.more = true ∧ s.admit_ w =
      ((s.onPort w.rq.via fun p => { p with parts := [w.firstPart] }).answer w.rq.via r, none) := by
  have hdefined : (rolesOf w.opc).isNone = false := by rw [← Option.not_isSome, hopc]; rfl
  unfold State.admit_
  simp only [hparts, List.find?_nil]
  unfold State.admitRest
  simp only [hdefined, hadmits, hmore, hcast, hparts, List.filter_nil, List.nil_append, Bool.not_true,
    Bool.false_eq_true, if_false, if_true]
  exact ⟨_, rfl, rfl, rfl⟩

theorem exec_packetPart {opc : Byte} {rq : Request} (hmore : rq.more = true) (hlive : s.portLive rq.via = true) :
    exec (.packetPart opc rq) s = .next (s.receive opc.toNat rq) := by
  show execPacketPart opc rq s = _
  simp only [execPacketPart, hmore, hlive, Bool.and_self, if_true]

theorem packetPart_acts (s : State) (opc : Byte) (rq : Request) (hmore : rq.more = true)
    (hlive : s.portLive rq.via = true) (hauth : rq.auth = false) (hcast : rq.cast = false)
    (hline : rq.via = .line → rq.origin = 0) (hctrl : rq.ctrl &&& 0xF9#8 = 0)
    (hsize : rq.params.length ≤ paramLimit rq.via) (hparts : (s.port rq.via).parts = [])
    (hopc : (rolesOf opc.toNat).isSome = true)
    (hadmits : admits (s.plainPriv rq.via) (transportCode rq.via) opc.toNat rq.params = true) :
    ∃ t, exec (.packetPart opc rq) s = .next t ∧ (t.port rq.via).waiting = (s.port rq.via).waiting ∧
      (t.port rq.via).parts = [{ opc := opc.toNat, first := rq.seq.toNat, next := wrapAdd 16 rq.seq.toNat 1,
                                 data := rq.params, sid := none, lineKeyed := false }] := by
  obtain ⟨r, -, -, hadmit⟩ :=
    admit_firstPart (s := s.countRx) (w := s.plainWaiting opc.toNat rq) hparts hopc hadmits hmore hcast
  have hreceive : s.receive opc.toNat rq = (s.countRx.onPort rq.via fun p =>
      { p with parts := [(s.plainWaiting opc.toNat rq).firstPart] }).answer rq.via r := by
    unfold State.receive
    rw [arrive_plain hauth hline hctrl hsize, hadmit]
    rfl
  obtain ⟨l, hport⟩ := answer_port (s.countRx.onPort rq.via fun p =>
    { p with parts := [(s.plainWaiting opc.toNat rq).firstPart] }) rq.via r
  rw [← hreceive, onPort_port_same] at hport
  exact ⟨_, exec_packetPart hmore hlive, by rw [hport]; rfl, by rw [hport]; rfl⟩

/-! ### The command APDU (R181, R182, R421) -/

theorem exec_camyxApdu_live {b : List Byte} (hst : s.nfc.st = .isoDep) (hfree : s.camyx.apdu = false)
    (hlive : s.portLive .nfc = true) : exec (.camyxApdu b) s = .next (s.apdu b) := by
  show execCamyxApdu b s = _
  simp only [execCamyxApdu, hst, hfree, hlive, ne_eq, not_true, decide_false, Bool.or_self, Bool.false_eq_true, if_false,
    if_true]

theorem exec_camyxApdu_held {b : List Byte} (hst : s.nfc.st = .isoDep) (hfree : s.camyx.apdu = false)
    (hdead : s.portLive .nfc = false) :
    exec (.camyxApdu b) s = .next { s with nfc := { s.nfc with held := some b, out := [0xF2#8, 25#8] } } := by
  show execCamyxApdu b s = _
  simp only [execCamyxApdu, hst, hfree, hdead, ne_eq, not_true, decide_false, Bool.or_self, Bool.false_eq_true, if_false]
  rfl

/-- An APDU of the Camyx application that holds a packet hands it to the port. -/
theorem apdu_packet {b pkt : List Byte} (happ : s.nfc.app = .camyx) (hcla : fieldAt b 0 1 = 0x80)
    (hins : fieldAt b 1 1 = 0xCA) (hlc : fieldAt b 4 1 = 0) (hpkt : pkt = (b.drop 7).take (ofBe ((b.drop 5).take 2)))
    (hlen : b.length = ofBe ((b.drop 5).take 2) + 9) (hwhole : pkt.length = ofBe ((b.drop 5).take 2))
    (hok : packetOk pkt = true) : s.apdu b = { s with
      nfc := { s.nfc with out := [] }, camyx := { s.camyx with apdu := true } }.receive (opcOf pkt)
        (requestOf .nfc 0 0 pkt) := by
  unfold State.apdu
  simp only [hcla, hins, happ, hlc, hlen, ← hpkt, hwhole, hok, ne_eq, not_true, if_false, beq_self_eq_true,
    Bool.and_self, Bool.not_true, Bool.false_eq_true]

theorem apdu_otherClass {b : List Byte} (hcla : fieldAt b 0 1 ≠ 0x80) :
    s.apdu b = { s with nfc := { s.nfc with out := [0x6E#8, 0x00#8] } } := by
  unfold State.apdu
  simp only [ne_eq, hcla, not_false_iff, if_true]
  rfl

theorem exec_sWtx (hst : s.nfc.st = .isoDep) (hwaits : s.camyx.apdu = true ∨ s.nfc.held.isSome = true) :
    exec .sWtx s = .next { s with nfc := { s.nfc with out := [0xF2#8, 25#8] } } := by
  have hdue : (s.nfc.st == .isoDep && (s.camyx.apdu || s.nfc.held.isSome)) = true := by
    rw [hst, Bool.or_eq_true_iff.2 hwaits]
    rfl
  show execSWtx s = _
  simp only [execSWtx, hdue, if_true]
  rfl

/-- Settles O22: a bridge frame by what the bridge does with its address, the other commands by their lemmas above. -/
theorem bridgePartsAndApdusAct : Obligations.BridgePartsAndApdusAct := by
  unfold Obligations.BridgePartsAndApdusAct
  intro s b pkt a
  refine ⟨?frame, fun q x => bridgeReplyTimeout_acts s a q x, fun opc rq hmore hlive => exec_packetPart hmore hlive,
    packetPart_acts s, ?apdu, ?otherClass, fun hst hfree hdead => exec_camyxApdu_held hst hfree hdead,
    fun hst hwaits => exec_sWtx hst hwaits⟩
  case frame =>
    intro hlive hsync haddr hlen hpkt hok hcrc hmode
    rw [exec_bridgeFrame hlive hsync haddr hlen hpkt hok hcrc hmode]
    refine ⟨fun h0 => by rw [if_pos h0], fun hcast hdown hshort hfull => ?cast, fun h0 hnode hroute => ?noRoute,
      fun n h0 hnode hdown hfind hshort hfull hfits hload => ?bridged⟩
    case cast => rw [if_neg (by omega), bridgeIn_cast hcast hdown hshort hfull]
    case noRoute =>
      rw [if_neg h0, bridgeIn_noRoute pkt hnode hroute]
      exact ⟨_, rfl, bridgeRefuse_holds .., by rw [bridgeRefuse_camyx],
        by rw [bridgeRefuse_camyx, if_neg (Nat.not_le.2 hnode)]⟩
    case bridged => rw [if_neg h0, bridgeIn_node hnode hdown hfind hshort hfull hfits hload]
  case apdu =>
    intro hst hfree hlive happ hcla hins hlc hpkt hlen hwhole hok
    rw [exec_camyxApdu_live hst hfree hlive, apdu_packet happ hcla hins hlc hpkt hlen hwhole hok]
  case otherClass =>
    intro hst hfree hlive hcla
    rw [exec_camyxApdu_live hst hfree hlive, apdu_otherClass hcla]

end Sys2Proof.Machine
end

section
/-! PROOFS. The requests that read: what a request taken from its queue leaves of the values read, one lemma per opcode,
and the statement on them. -/

namespace Sys2Proof.Machine

variable {s : State} {w : Waiting}

/-! ### One element of a vector, read with a fallback -/

/-- An update of one place, read at any place. -/
theorem getD_upd {α : Type} {n : Nat} (v : Vector α n) (i j : Nat) (f : α → α) (d : α) :
    (upd v i f).toList.getD j d = if j = i ∧ i < n then f (v.toList.getD j d) else v.toList.getD j d := by
  rcases Nat.lt_or_ge j n with hj | hj
  · have inside : ∀ u : Vector α n, u.toList.getD j d = u[j] := fun u => by simp [List.getD_eq_getElem?_getD, hj]
    rw [inside, inside]
    by_cases hij : j = i
    · subst hij
      rw [upd_same _ _ _ hj, if_pos ⟨rfl, hj⟩]
    · rw [upd_other _ _ _ _ hj hij, if_neg fun h => hij h.1]
  · have outside : ∀ u : Vector α n, u.toList.getD j d = d := fun u => by simp [List.getD_eq_getElem?_getD, hj]
    rw [outside, outside, if_neg fun h => by omega]

/-! ### A ready request and the command of its row -/

/-- A ready request whose command answers `t` from the state without it leaves the completed task of `t`. -/
theorem served {o : Nat} {rq : Request} {own : List Byte → Bool} {body : State → Waiting → State} {t : State}
    (hready : s.Ready o rq w) (hown : own w.body = true) (hbody : body (s.taken w) w = t) :
    (Host.Outcome.next (s.serve o rq own body) : Host.Outcome State Fault Refusal) = .next (t.done w) := by
  rw [serve_ready hready hown, hbody]

/-! ### Values read (R214) -/

/-- A request that leaves its queue leaves every session. -/
theorem taken_est (s : State) (w : Waiting) (n : Nat) : ((s.taken w).camyx.ports.toList.getD n Port.empty).est =
    (s.camyx.ports.toList.getD n Port.empty).est := by
  show ((upd s.camyx.ports _ _).toList.getD n Port.empty).est = _
  rw [getD_upd]
  split
  · rfl
  · rfl

theorem taken_liveSys (s : State) (w : Waiting) (base i : Nat) : (s.taken w).liveSys base i = s.liveSys base i := by
  unfold State.liveSys
  simp only [taken_est]
  rfl

theorem taken_live (s : State) (w : Waiting) (d : PDesc) (i : Nat) : (s.taken w).live d i = s.live d i := by
  unfold State.live
  simp only [taken_liveSys]
  rfl

/-- A request that leaves its queue changes no value that a parameter has. -/
theorem taken_valueNow (s : State) (w : Waiting) (id : Nat) : (s.taken w).valueNow id = s.valueNow id := by
  unfold State.valueNow
  simp only [taken_live]
  rfl

theorem taken_readBytes (s : State) (w : Waiting) (source : Nat) (ids : List Nat) :
    (s.taken w).readBytes source ids = s.readBytes source ids := by
  unfold State.readBytes State.readValue
  simp only [taken_valueNow]
  rfl

theorem cmdReadParam_ok (hids : ∀ id ∈ readIds (w.body.drop 1), (findDesc id).isSome = true)
    (hbank : fieldAt w.body 0 1 ≠ 2 ∨ s.activeBank.isSome = true) :
    s.cmdReadParam w = s.respond w .ok (s.readBytes (fieldAt w.body 0 1) (readIds (w.body.drop 1))) := by
  have hdefined : ((readIds (w.body.drop 1)).any fun id => (findDesc id).isNone) = false :=
    List.any_eq_false.2 fun id hid => by simp [Option.isSome_iff_ne_none.1 (hids id hid)]
  have hsaved : ¬ (fieldAt w.body 0 1 = 2 ∧ s.activeBank.isNone = true) := by
    rintro ⟨hsource, hnone⟩
    rcases hbank with h | h
    · exact h hsource
    · simp [Option.isNone_iff_eq_none.1 hnone] at h
  unfold State.cmdReadParam
  dsimp only
  rw [hdefined, if_neg Bool.false_ne_true, if_neg hsaved]

theorem cmdReadLive_ok (hids : ∀ r ∈ runsOf (w.body.length / 3) w.body, r.2 = 1 → isLiveId r.1 = true) :
    s.cmdReadLive w = s.respond w .ok (s.readBytes 0 ((readIds w.body).filter isLiveId)) := by
  have hlive : ((runsOf (w.body.length / 3) w.body).any fun r => r.2 == 1 && !isLiveId r.1) = false := by
    simpa using fun a b h hb => hids (a, b) h hb
  unfold State.cmdReadLive
  dsimp only
  rw [hlive, if_neg Bool.false_ne_true]

/-! ### Nodes, images and records (R210, R240, R347, R458) -/

theorem cmdNodeList_head (hrole : s.ident.role = .head) :
    s.cmdNodeList w = s.respond w .ok (toLe 2 (s.param P.lineFeederId) ++ s.joinedBytes) :=
  if_pos hrole

theorem cmdNodeList_elsewhere (hrole : s.ident.role ≠ .head) : s.cmdNodeList w = s.respond w .role [] :=
  if_neg hrole

theorem cmdImageExport_saved {n : Nat} {b : Bank} (hsource : fieldAt w.body 0 1 = 0)
    (hbank : s.activeBank = some (n, b)) : s.cmdImageExport w =
      s.respond w .ok (s.image b.role b.sto b.vals (bitAt (fieldAt w.body 1 1) 0)) := by
  unfold State.cmdImageExport
  simp only [hsource, hbank]

theorem cmdImageExport_committed (hsource : fieldAt w.body 0 1 ≠ 0) : s.cmdImageExport w =
    s.respond w .ok (s.image s.ident.role s.ident.sto s.future (bitAt (fieldAt w.body 1 1) 0)) := by
  unfold State.cmdImageExport
  dsimp only
  split
  next h _ => exact absurd h hsource
  next h _ => exact absurd h hsource
  next => rfl

theorem cmdFaultRead_ok {b : List Byte} (hrec : (s.rail (fieldAt w.body 0 1)).ring[fieldAt w.body 1 1]? = some b)
    (hok : recordOk b = true) : s.cmdFaultRead w = s.respond w .ok b := by
  unfold State.cmdFaultRead
  simp only [hrec, hok, if_true]

theorem cmdPatinaRead_range (hfrom : s.ctr.pseq < fieldAt w.body 0 4) : s.cmdPatinaRead w = s.respond w .range [] :=
  if_pos hfrom

theorem cmdPatinaRead_ok {l : List PatRec} (hfrom : fieldAt w.body 0 4 ≤ s.ctr.pseq)
    (hl : l = (s.patinaHeld.filter fun r => decide (fieldAt w.body 0 4 ≤ r.pseq)).take (fieldAt w.body 4 1)) :
    s.cmdPatinaRead w = s.respond w .ok
      (toLe 4 ((l.getLast?.map fun r => r.pseq + 1).getD (fieldAt w.body 0 4)) ++ l.flatMap PatRec.bytes) := by
  unfold State.cmdPatinaRead
  dsimp only
  rw [if_neg (Nat.not_lt.2 hfrom), ← hl]
  cases l.getLast? with
  | none => rfl
  | some r => rfl

/-! ### Events and the trace (R452, R461) -/

/-- MODE 1 leaves the entries it shows, so that all are still to be read (DEDUCED, log 125). -/
theorem cmdEvtRead_keep (hmode : fieldAt w.body 0 1 = 1) : s.cmdEvtRead w = s.respond w .ok
    (toLe 2 s.events.fifo.length ++ (s.events.fifo.take (fieldAt w.body 1 1)).flatMap FifoEntry.bytes) := by
  have hkeeps : decide (fieldAt w.body 0 1 = 0) = false := decide_eq_false (by omega)
  unfold State.cmdEvtRead State.respond
  simp only [hkeeps, Bool.false_eq_true, if_false, Nat.sub_zero]

theorem cmdEvtRead_remove (hmode : fieldAt w.body 0 1 = 0) : s.cmdEvtRead w = s.respondWith w .ok
    (toLe 2 (s.events.fifo.length - (s.events.fifo.take (fieldAt w.body 1 1)).length) ++
      (s.events.fifo.take (fieldAt w.body 1 1)).flatMap FifoEntry.bytes)
    ((s.events.fifo.take (fieldAt w.body 1 1)).map fun e => e.eseq) := by
  unfold State.cmdEvtRead
  simp only [hmode, decide_true, if_true]

theorem cmdTraceRead_ok (hruns : s.trace.runs = false) : s.cmdTraceRead w = s.draw.respond w .ok
    (toLe 1 s.trace.st.byte ++ toLe 2 s.trace.trigIndex ++ toLe 4 s.traceT0 ++ toLe 2 s.trace.gaps ++
      ((s.trace.buf.drop (fieldAt w.body 1 2)).take 126).flatMap Sample.bytes) :=
  if_neg (by simp [hruns])

/-- Settles O14: each command by its lemma above, on the state without the request, which reads the same. -/
theorem requestsThatReadAreAnswered : Obligations.RequestsThatReadAreAnswered := by
  unfold Obligations.RequestsThatReadAreAnswered
  intro s rq w
  refine ⟨fun hready => served hready rfl rfl, fun hready => served hready rfl rfl,
    fun hready hids hbank => served hready rfl ?param,
    fun hready hids => served hready rfl (cmdReadLive_ok hids),
    fun hready hrole => served hready rfl (cmdNodeList_head (s := s.taken w) hrole),
    fun hready hrole => served hready rfl (cmdNodeList_elsewhere (s := s.taken w) hrole),
    fun n b hready hsource hbank => served hready rfl (cmdImageExport_saved (s := s.taken w) hsource hbank),
    fun hready hsource => served hready rfl (cmdImageExport_committed hsource),
    fun b hready hrec hok => served hready rfl (cmdFaultRead_ok (s := s.taken w) hrec hok),
    fun hready hfrom => served hready rfl (cmdPatinaRead_range (s := s.taken w) hfrom),
    fun l hready hfrom hl => served hready rfl (cmdPatinaRead_ok (s := s.taken w) hfrom hl),
    fun hready hmode => served hready rfl (cmdEvtRead_keep (s := s.taken w) hmode),
    fun hready hmode => served hready rfl (cmdEvtRead_remove (s := s.taken w) hmode),
    fun hready haction hruns => served hready (by simp [haction]) (cmdTraceRead_ok (s := s.taken w) hruns),
    fun hready => served hready rfl rfl⟩
  case param =>
    rw [← taken_readBytes s w]
    exact cmdReadParam_ok (s := s.taken w) hids hbank

end Sys2Proof.Machine
end

section
/-! PROOFS. CH_SET, CH_CLEAR and RAIL_CTRL: what the operations on channels leave of the demands, one lemma per command,
and the statement on them. -/

namespace Sys2Proof.Machine

variable {s t : State} {w : Waiting}

/-! ### Demands -/

/-- The demand of each channel. -/
def State.demandOf (s : State) (c : Nat) : Demand := (s.chan c).demand

/-- Demands with that of one channel set. -/
def withDemand (ds : Nat → Demand) (c : Nat) (d : Demand) (j : Nat) : Demand := if j = c then d else ds j

theorem withDemand_same (ds : Nat → Demand) (c : Nat) (d : Demand) : withDemand ds c d c = d := if_pos rfl

theorem withDemand_other {c j : Nat} (h : j ≠ c) (ds : Nat → Demand) (d : Demand) : withDemand ds c d j = ds j := if_neg h

/-! ### What leaves every demand -/

theorem ChangesOnly.demandOf {ps : List StatePart} (h : ChangesOnly ps s t) (hp : .sw ∉ ps) :
    t.demandOf = s.demandOf := by
  have hsw : t.sw = s.sw := h.same .sw hp
  unfold State.demandOf State.chan
  rw [hsw]

theorem onChan_chan (s : State) (c j : Nat) (f : Chan → Chan) :
    (s.onChan c f).chan j = if j = c ∧ c < 16 then f (s.chan j) else s.chan j := getD_upd ..

theorem onChan_demandOf_of_kept (c : Nat) {f : Chan → Chan} (hf : ∀ h, (f h).demand = h.demand) :
    (s.onChan c f).demandOf = s.demandOf := by
  funext j
  unfold State.demandOf
  rw [onChan_chan]
  split
  · exact hf _
  · rfl

theorem onChan_demandOf_of_set {c : Nat} (hc : c < 16) {f : Chan → Chan} {d : Demand} (hf : ∀ h, (f h).demand = d) :
    (s.onChan c f).demandOf = withDemand s.demandOf c d := by
  funext j
  by_cases hj : j = c
  · subst hj
    rw [withDemand_same]
    unfold State.demandOf
    rw [onChan_chan, if_pos ⟨rfl, hc⟩, hf]
  · rw [withDemand_other hj]
    unfold State.demandOf
    rw [onChan_chan, if_neg fun h => hj h.1]

/-- A fold of operations that leave every demand leaves every demand. -/
theorem foldl_demandOf {α : Type} {f : State → α → State} (hf : ∀ u x, (f u x).demandOf = u.demandOf)
    (l : List α) (s : State) : (l.foldl f s).demandOf = s.demandOf :=
  List.foldlRecOn (motive := fun u => u.demandOf = s.demandOf) l f rfl fun u hu x _ => (hf u x).trans hu

theorem latch_demandOf (s : State) (c : Nat) (b : Bool) : (s.latch c b).demandOf = s.demandOf := by
  refine foldl_demandOf (fun u j => ?_) _ s
  exact onChan_demandOf_of_kept j fun _ => rfl

theorem openWindow_demandOf (s : State) (c : Nat) : (s.openWindow c).demandOf = s.demandOf := by
  refine onChan_demandOf_of_kept _ fun h => ?_
  dsimp only
  split
  · rfl
  · rfl

theorem refresh_demandOf (s : State) (c : Nat) (fresh : Bool) : (s.refresh c fresh).demandOf = s.demandOf := by
  unfold State.refresh
  dsimp only
  split
  · rfl
  split
  · rfl
  split
  · rw [openWindow_demandOf, latch_demandOf]
  · exact latch_demandOf ..

theorem cancelInrush_demandOf (s : State) (c : Nat) : (s.cancelInrush c).demandOf = s.demandOf :=
  onChan_demandOf_of_kept c fun _ => rfl

theorem clearLatch_demandOf (s : State) (c : Nat) : (s.clearLatch c).demandOf = s.demandOf := by
  unfold State.clearLatch
  split
  · rw [(clearIf_changes ..).demandOf (by decide), (clearE_changes _).demandOf (by decide)]
    exact onChan_demandOf_of_kept c fun _ => rfl
  split
  · rfl
  · exact (clearR_changes ..).demandOf (by decide)

theorem endRamps_demandOf (s : State) (c : Nat) : (s.endRamps c).demandOf = s.demandOf := rfl

theorem clearGroup_demandOf (s : State) (c : Nat) : (s.clearGroup c).demandOf = s.demandOf :=
  foldl_demandOf clearLatch_demandOf _ s

theorem startStagger_demandOf (s : State) (cs : List Nat) : (s.startStagger cs).demandOf = s.demandOf := by
  unfold State.startStagger
  split
  · exact foldl_demandOf (fun u c => refresh_demandOf u c true) cs s
  split
  · exact refresh_demandOf ..
  · rfl

theorem settle_changes : ChangesOnly [.camyx, .nfc, .tab, .logs] s s.settle := by
  refine .foldl (fun u o => ?_) _ s
  split
  · exact finish_changes ..
  · exact .refl u

/-! ### What sets a demand (R216, R243) -/

theorem setDemand_demandOf (s : State) {c : Nat} (hc : c < 16) (d : Demand) :
    (s.setDemand c d).demandOf = withDemand s.demandOf c d := by
  unfold State.setDemand
  extract_lets h s1 s2 s3
  split
  next hoff =>
    have set : s1.demandOf = withDemand s.demandOf c d := by
      rw [(clearE_changes _).demandOf (by decide), clearLatch_demandOf, cancelInrush_demandOf]
      exact onChan_demandOf_of_set hc fun _ => hoff.symm
    have ramps : s2.demandOf = s1.demandOf := by
      clear_value s1
      unfold s2
      split
      · rfl
      · exact endRamps_demandOf ..
    clear_value s2
    rw [← set, ← ramps]
    split
    · exact onChan_demandOf_of_kept c fun _ => rfl
    · exact refresh_demandOf ..
  next =>
    rw [refresh_demandOf]
    exact onChan_demandOf_of_set hc fun _ => rfl

/-- A fold of operations that each set one demand sets the demands of the channels that it goes over. -/
theorem foldl_sets_demandOf {f : State → Nat → State} {d : Nat → Demand}
    (hf : ∀ u c, c < 16 → (f u c).demandOf = withDemand u.demandOf c (d c))
    {l : List Nat} (hl : ∀ c ∈ l, c < 16) (s : State) (j : Nat) : (l.foldl f s).demandOf j = if j ∈ l then d j else s.demandOf j := by
  induction l generalizing s with
  | nil => rfl
  | cons c l ih =>
    rw [List.foldl_cons, ih fun x hx => hl x (List.mem_cons_of_mem c hx), hf s c (hl c List.mem_cons_self)]
    by_cases hjl : j ∈ l
    · rw [if_pos hjl, if_pos (List.mem_cons_of_mem c hjl)]
    · rw [if_neg hjl]
      by_cases hjc : j = c
      · rw [hjc, withDemand_same, if_pos List.mem_cons_self]
      · rw [withDemand_other hjc, if_neg fun h => (List.mem_cons.1 h).elim hjc hjl]

theorem maskChans_lt {mask c : Nat} (h : c ∈ maskChans mask) : c < 16 :=
  List.mem_range.1 (List.mem_filter.1 h).1

theorem turnOff_demandOf (s : State) {mask c : Nat} (h : c ∈ maskChans mask) :
    (s.turnOff (maskChans mask)).demandOf c = .off :=
  (foldl_sets_demandOf (d := fun _ => .off) (fun u _ hc => setDemand_demandOf u hc .off) (fun _ => maskChans_lt) s
    c).trans (if_pos h)

theorem turnOn_demandOf (s : State) {mask c : Nat} (h : c ∈ maskChans mask) (d : Nat → Demand) :
    (s.turnOn (maskChans mask) d).demandOf c = d c := by
  unfold State.turnOn
  extract_lets q sw held s1 s2
  have set : s1.demandOf c = if c ∈ maskChans mask then d c else held.demandOf c :=
    foldl_sets_demandOf (fun u x hx => (setDemand_demandOf (u.clearGroup x) hx (d x)).trans
      (by rw [clearGroup_demandOf])) (fun _ => maskChans_lt) held c
  rw [startStagger_demandOf]
  exact set.trans (if_pos h)

/-! ### CH_SET and CH_CLEAR (R216) -/

theorem cmdChSet_off (hself : s.isSelf (fieldAt w.body 0 1) = true)
    (hfence : (maskChans (fieldAt w.body 1 2)).any s.fenced = false)
    (hbar : (maskChans (fieldAt w.body 1 2)).any (s.chSetBarred 0) = false) (haction : fieldAt w.body 3 1 = 0) :
    s.cmdChSet w = (s.turnOff (maskChans (fieldAt w.body 1 2))).respond w .ok
      (toLe 2 (s.turnOff (maskChans (fieldAt w.body 1 2))).outMask) := by
  unfold State.cmdChSet
  simp only [hself, hfence, haction, hbar, Bool.not_true, Bool.false_eq_true, if_false, if_true]

theorem cmdChSet_on (hself : s.isSelf (fieldAt w.body 0 1) = true)
    (hfence : (maskChans (fieldAt w.body 1 2)).any s.fenced = false) {a : Nat} (haction : fieldAt w.body 3 1 = a)
    (ha : a ≠ 0) (hbar : (maskChans (fieldAt w.body 1 2)).any (s.chSetBarred a) = false) :
    s.cmdChSet w = ((s.turnOn (maskChans (fieldAt w.body 1 2)) (s.chSetDemand a (fieldAt w.body 4 2))).begin_ w true
      .stagger .chOn).settle := by
  unfold State.cmdChSet
  simp only [hself, hfence, haction, ha, hbar, Bool.not_true, Bool.false_eq_true, if_false]

/-- Where field-only limits do not apply, the latches are released at once. -/
theorem cmdChClear_now (hself : s.isSelf (fieldAt w.body 0 1) = true)
    (hfence : (maskChans (fieldAt w.body 1 2)).any s.fenced = false)
    (hpair : (maskChans (fieldAt w.body 1 2)).any s.pairOdd = false) (hlimits : s.fieldLimits w.rq.via = false) :
    s.cmdChClear w = ((s.clearMask (fieldAt w.body 1 2)).begin_ w true .stagger
      (.chClear (fieldAt w.body 1 2))).settle := by
  unfold State.cmdChClear
  simp only [hself, hfence, hpair, hlimits, Bool.not_true, Bool.false_eq_true, if_false]

/-- Under field-only limits the request is recorded and answered with an empty LATCHED_MASK (DEDUCED, log 220). -/
theorem cmdChClear_late (hself : s.isSelf (fieldAt w.body 0 1) = true)
    (hfence : (maskChans (fieldAt w.body 1 2)).any s.fenced = false)
    (hpair : (maskChans (fieldAt w.body 1 2)).any s.pairOdd = false) (hlimits : s.fieldLimits w.rq.via = true) :
    s.cmdChClear w = ({ s with camyx := { s.camyx with
      late := s.camyx.late ++ [Late.chClear (fieldAt w.body 1 2)] } }).respond w .ok (toLe 2 0) := by
  unfold State.cmdChClear
  simp only [hself, hfence, hpair, hlimits, Bool.not_true, Bool.false_eq_true, if_false, if_true]

theorem respond_late (s : State) (w : Waiting) (st : Status) (d : List Byte) :
    (s.respond w st d).camyx.late = s.camyx.late := by
  obtain ⟨ports, apdu, h⟩ := respond_camyx s w st d
  rw [h]

theorem chSet_off_acts (hready : s.Ready 0x20 w.rq w) (hself : s.isSelf (fieldAt w.body 0 1) = true)
    (hfence : (maskChans (fieldAt w.body 1 2)).any s.fenced = false)
    (hbar : (maskChans (fieldAt w.body 1 2)).any (s.chSetBarred 0) = false) (haction : fieldAt w.body 3 1 = 0) :
    ∃ u t, exec (.chSet w.rq) s = .next t ∧ t = (u.respond w .ok (toLe 2 u.outMask)).done w ∧
      u = (s.taken w).turnOff (maskChans (fieldAt w.body 1 2)) ∧
      (∀ c ∈ maskChans (fieldAt w.body 1 2), (t.chan c).demand = .off) := by
  refine ⟨_, _, served hready rfl (cmdChSet_off (s := s.taken w) hself hfence hbar haction), rfl, rfl, fun c hc => ?_⟩
  have answered := (respond_changes (s := (s.taken w).turnOff (maskChans (fieldAt w.body 1 2))) w .ok
    (toLe 2 ((s.taken w).turnOff (maskChans (fieldAt w.body 1 2))).outMask)).trans (done_changes w)
  exact (congrFun (answered.demandOf (by decide)) c).trans (turnOff_demandOf _ hc)

theorem chSet_on_acts (hready : s.Ready 0x20 w.rq w) (hself : s.isSelf (fieldAt w.body 0 1) = true)
    (hfence : (maskChans (fieldAt w.body 1 2)).any s.fenced = false) {a : Nat} (haction : fieldAt w.body 3 1 = a)
    (ha : a ≠ 0) (hbar : (maskChans (fieldAt w.body 1 2)).any (s.chSetBarred a) = false) :
    ∃ t, exec (.chSet w.rq) s = .next t ∧
      (∀ c ∈ maskChans (fieldAt w.body 1 2), (t.chan c).demand = s.chSetDemand a (fieldAt w.body 4 2) c) := by
  refine ⟨_, served hready rfl (cmdChSet_on (s := s.taken w) hself hfence haction ha hbar), fun c hc => ?_⟩
  let on := (s.taken w).turnOn (maskChans (fieldAt w.body 1 2)) ((s.taken w).chSetDemand a (fieldAt w.body 4 2))
  have begun : ChangesOnly [.camyx] on (on.begin_ w true .stagger .chOn) := onOps_changes _
  have ended := (begun.trans settle_changes).trans (done_changes w)
  exact (congrFun (ended.demandOf (by decide)) c).trans (turnOn_demandOf _ hc _)

theorem chClear_late_acts (hready : s.Ready 0x21 w.rq w) (hself : s.isSelf (fieldAt w.body 0 1) = true)
    (hfence : (maskChans (fieldAt w.body 1 2)).any s.fenced = false)
    (hpair : (maskChans (fieldAt w.body 1 2)).any s.pairOdd = false) (hlimits : s.fieldLimits w.rq.via = true) :
    ∃ t, exec (.chClear w.rq) s = .next t ∧ t.camyx.late = s.camyx.late ++ [.chClear (fieldAt w.body 1 2)] ∧
      Answers t w .ok (toLe 2 0) := by
  refine ⟨_, served hready rfl (cmdChClear_late (s := s.taken w) hself hfence hpair hlimits), ?_, _, rfl⟩
  rw [done_camyx, respond_late]
  rfl

/-! ### RAIL_CTRL (R318, R326, R339, R345) -/

/-- A rail of its own shows its own state. -/
theorem railCode_own {r : Nat} (hgang : s.ganged r = false) : s.railCode r = (s.rail r).st.code := by
  unfold State.railCode
  rw [hgang]
  rfl

theorem code_beq_ovLatched {x : RailState} (h : x ≠ .ovLatched) : (x.code == 4) = false := by
  cases x with
  | ovLatched => exact absurd rfl h
  | stopped | starting | regulating | stopping | faulted => rfl

/-- ACTION 0 at a rail of its own: state 5 is left for state 0, any other but state 4 is soft-stopped. -/
theorem cmdRailStop_own {r : Nat} (hr : fieldAt w.body 0 1 = r) (hhere : s.railHere r = true)
    (hgang : s.ganged r = false) (hlatch : (s.rail r).st ≠ .ovLatched) {u : State}
    (hu : u = if (s.rail r).st = .faulted then s.toIdle r else s.softStop r 0) :
    s.cmdRailStop w = (u.respond w .ok (toLe 1 (u.railCode r))).settle := by
  have hcode : (s.railCode r == 4) = false := by rw [railCode_own hgang, code_beq_ovLatched hlatch]
  subst hu
  unfold State.cmdRailStop
  simp only [hr, hhere, hcode, beq_eq_false_iff_ne.2 hlatch, hgang, Bool.not_true, Bool.or_self, Bool.false_eq_true,
    if_false]
  split
  · rfl
  · rfl

theorem cmdRailStart_stopped {r : Nat} (hr : fieldAt w.body 0 1 = r) (hhere : s.railHere r = true)
    (hgang : s.ganged r = false) (hmay : s.mayStart r = true) (hst : (s.rail r).st = .stopped) :
    s.cmdRailStart w = (((s.onRail r fun x => { x with hiccups := 0 }).startRail r).begin_ w true
      (.rail (if r = 0 then 0 else 1)) (.railStart (if r = 0 then 0 else 1))).settle := by
  unfold State.cmdRailStart
  simp only [hr, hhere, hgang, hmay, hst, Bool.not_true, Bool.false_eq_true, if_false, true_or, if_true]

theorem cmdRailClear_own {r : Nat} (hr : fieldAt w.body 0 1 = r) (hhere : s.railHere r = true)
    (hgang : s.ganged r = false) (hlatch : (s.rail r).st = .ovLatched) (hlow : 10 * (s.rail r).vos < s.targetMv r) :
    s.cmdRailClear w = (s.clearOv r).respond w .ok (toLe 1 ((s.clearOv r).rail r).st.code) := by
  have hgone : decide (s.targetMv r ≤ 10 * (s.rail r).vos) = false := decide_eq_false (Nat.not_le.2 hlow)
  unfold State.cmdRailClear
  simp only [hr, hhere, hlatch, hgone, hgang, bne_self_eq_false, Bool.not_true, Bool.or_self, Bool.false_eq_true,
    if_false]

/-- Settles O17: each command by its lemma above, on the state without the request. -/
theorem channelAndRailRequestsAct : Obligations.ChannelAndRailRequestsAct := by
  unfold Obligations.ChannelAndRailRequestsAct
  intro s rq w r
  refine ⟨fun hready hself hfence hbar haction => ?off, fun a hready hself hfence haction ha hbar => ?on,
    fun hready hself hfence hpair hlimits => ?clear, fun hready hself hfence hpair hlimits => ?late,
    fun hready haction hr hhere hgang hlatch hfault => ?stop, fun hready haction hr hhere hgang hfault => ?idle,
    fun hready haction hr hhere hgang hmay hst => ?start, fun hready haction hr hhere hgang hlatch hlow => ?unlatch⟩
  all_goals obtain ⟨rfl, -⟩ := ready_rq hready
  case off => exact chSet_off_acts hready hself hfence hbar haction
  case on => exact chSet_on_acts hready hself hfence haction (by omega) hbar
  case clear => exact served hready rfl (cmdChClear_now (s := s.taken w) hself hfence hpair hlimits)
  case late => exact chClear_late_acts hready hself hfence hpair hlimits
  case stop =>
    exact served hready (by simp [haction])
      (cmdRailStop_own (s := s.taken w) hr hhere hgang hlatch (if_neg hfault).symm)
  case idle =>
    have hlatch : (s.rail r).st ≠ .ovLatched := by
      rw [hfault]
      decide
    exact served hready (by simp [haction])
      (cmdRailStop_own (s := s.taken w) hr hhere hgang hlatch (if_pos hfault).symm)
  case start =>
    exact served hready (by simp [haction]) (cmdRailStart_stopped (s := s.taken w) hr hhere hgang hmay hst)
  case unlatch =>
    exact served hready (by simp [haction]) (cmdRailClear_own (s := s.taken w) hr hhere hgang hlatch hlow)

end Sys2Proof.Machine
end

section
/-! PROOFS. Debug unlock, RESET and its execution, SHELF, DECOMMISSION and TAB_FORWARD: one lemma per command, and the
statement on them. -/

namespace Sys2Proof.Machine

variable {s : State} {w : Waiting}

/-! ### The reset that is owed (R152, R218) -/

/-- What a sequencer reset rolls back is no part of the configuration (Table 7.4). -/
theorem rollBack_config (s : State) (o : Op) : (s.rollBack false o).config = s.config := by
  unfold State.rollBack
  split
  case h_1 | h_6 => rfl
  case h_2 | h_3 | h_4 | h_5 =>
    split <;> rfl

theorem dropPorts_config (s : State) : (s.dropPorts false).config = s.config := by
  unfold State.dropPorts
  extract_lets s1 s2 camyx
  have rolled : s1.config = s.config := List.foldlRecOn (motive := fun u => u.config = s.config) _ _ rfl
    fun u hu o _ => (rollBack_config u o).trans hu
  have sessions : ChangesOnly [.camyx, .ledger, .nfc, .logs] s1 s2 := .foldl (fun _ _ => endSession_changes ..) _ _
  have ended : s2.config = s1.config := sessions.same .config (by decide)
  clear_value s2
  exact ended.trans rolled

/-- The ports are empty after a reset, and none is owed any more. -/
theorem dropPorts_camyx (s : State) (device : Bool) :
    (s.dropPorts device).camyx.ports = Vector.replicate 7 Port.empty ∧
      (s.dropPorts device).camyx.resetOwed = none := by
  have cleared : ∀ u : State, (u.clearE Ev.replyReady).camyx = u.camyx := fun u =>
    (clearE_changes _).same .camyx (by decide)
  exact ⟨congrArg Camyx.ports (cleared _), congrArg Camyx.resetOwed (cleared _)⟩

/-- The firmware that runs is the one to run again: a warm restart follows (R438). -/
theorem seqReset_warm (hseq : s.plinth.seq = .running) (hbank : s.sec.fwActiveB = s.sec.fwRunningB) (cause : Nat) :
    s.seqReset cause =
      { s.dropPorts false with
        plinth := { (s.dropPorts false).plinth with
          seq := .warmRestart, cause := cause, prevUp := (s.dropPorts false).plinth.upMs, hk := false, quietMiss := 0 }
        config := { (s.dropPorts false).config with staged := [], maqGen := 1 }
        ledger := { (s.dropPorts false).ledger with fwStop := true, waiting := [], fresh := [], res := s.ledger.res }
        line := { (s.dropPorts false).line with tx := none, rx := none }
        tab := { (s.dropPorts false).tab with bulkIn := [], bulkOut := [] } } := by
  have hon : ¬ s.plinth.seq = .off := by rw [hseq]; decide
  have hwarm : ((s.plinth.seq == .running || s.plinth.seq == .warmRestart) && s.sec.fwActiveB == s.sec.fwRunningB) =
      true := by
    rw [hseq, hbank, beq_self_eq_true, beq_self_eq_true]
    rfl
  unfold State.seqReset
  rw [if_neg hon]
  exact if_pos hwarm

theorem exec_resetExecute {u : Transport} (howed : s.camyx.resetOwed = some u) (hgone : s.resetWaits u = false) :
    exec .resetExecute s = .next (s.seqReset 7) := by
  show execResetExecute s = _
  simp only [execResetExecute, howed, hgone, Bool.false_eq_true, if_false]

theorem resetExecute_acts (s : State) (u : Transport) (howed : s.camyx.resetOwed = some u)
    (hgone : s.resetWaits u = false) (hseq : s.plinth.seq = .running) (hbank : s.sec.fwActiveB = s.sec.fwRunningB) :
    ∃ t, exec .resetExecute s = .next t ∧ t.plinth.seq = .warmRestart ∧ t.plinth.cause = 7 ∧
      t.plinth.prevUp = s.plinth.upMs ∧ t.config = { s.config with staged := [], maqGen := 1 } ∧
      t.ledger.fwStop = true ∧ t.camyx.ports = Vector.replicate 7 Port.empty ∧ t.camyx.resetOwed = none ∧
      t.sw = s.sw ∧ t.arm = s.arm ∧ t.power = s.power := by
  have dropped := dropPorts_changes (s := s) false
  have hconfig := dropPorts_config s
  obtain ⟨hports, hnone⟩ := dropPorts_camyx s false
  have hexec := exec_resetExecute howed hgone
  rw [seqReset_warm hseq hbank] at hexec
  generalize s.dropPorts false = d at dropped hconfig hports hnone hexec
  have hup : d.plinth = s.plinth := dropped.same .plinth (by decide)
  exact ⟨_, hexec, rfl, rfl, congrArg Plinth.upMs hup, by rw [hconfig], rfl, hports, hnone,
    dropped.same .sw (by decide), dropped.same .arm (by decide), dropped.power (by decide)⟩

/-! ### SHELF and DECOMMISSION (R489, R492) -/

theorem cmdShelf_accepted (hbak : s.power.bakQ = true) (hpend : s.life.shelfPend = false)
    (hdecom : s.life.st ≠ .decommissioning) : s.cmdShelf w =
      ({ s with life := { s.life with prev := s.life.st, st := .shelfPending, shelfPend := true } }.begin_ w false .tick
        .shelf).respond w .ok [] := by
  unfold State.cmdShelf
  simp only [hbak, hpend, beq_eq_false_iff_ne.2 hdecom, Bool.true_eq_false, Bool.false_eq_true, if_false]

theorem cmdShelf_unbacked (hbak : s.power.bakQ = false) : s.cmdShelf w = s.respond w .state [] := if_pos hbak

theorem cmdDecommission_reserves (hdecom : s.life.st ≠ .decommissioning) :
    s.cmdDecommission w = s.reserveOp w .configSave (25 * mj) .decommission := if_neg hdecom

/-! ### TAB_FORWARD (R213) -/

/-- An inner request that passes its checks here is executed as if it had come alone. -/
theorem cmdTabForward_here {opc : Nat} (hself : s.isSelf (fieldAt w.body 0 1) = true) (hopc : fieldAt w.body 1 1 = opc)
    (hknown : (rolesOf opc).isSome = true)
    (hadmits : admits w.priv (transportCode w.rq.via) opc (w.body.drop 2) = true)
    (hformed : wellFormed opc (w.body.drop 2) = true) (hgate : s.gate opc w.rq.via (w.body.drop 2) = none) :
    s.cmdTabForward w = s.inner { w with body := w.body.drop 2 } opc w.body := by
  have hdefined : ¬ (rolesOf opc).isNone = true := by simp [Option.isSome_iff_ne_none.1 hknown]
  unfold State.cmdTabForward
  dsimp only
  rw [hself, hopc, if_pos rfl]
  unfold State.innerHere
  simp only [if_neg hdefined, hadmits, hformed, hgate, Bool.not_true, Bool.false_eq_true, if_false]

/-- A lead passes a request on to a member that is there (R405). -/
theorem forward_present {m opc : Nat} {body : List Byte} {x : Member} (hin : s.tab.inTab = true)
    (hlead : s.tab.lead = true) (hother : m ≠ s.param P.tabIndex) (hx : s.tab.member.toList.getD m none = some x)
    (hpresent : x.present = true) : s.forward w m opc body =
      { s with tab := { s.tab with bulkOut := s.tab.bulkOut ++
        [(m, toLe 1 1 ++ toLe 1 w.priv.code ++ toLe 1 (transportCode w.rq.via) ++ toLe 1 opc ++ body)] } }.begin_
          w true .link (.forward m) := by
  have hlost : x.lost = false := by
    unfold Member.present at hpresent
    simp only [Bool.and_eq_true, Bool.not_eq_true'] at hpresent
    exact hpresent.1.1
  unfold State.forward
  simp only [hin, hlead, bne_iff_ne.2 hother, Bool.and_self, if_true, hx, hlost, hpresent, Bool.false_eq_true,
    Bool.true_eq_false, if_false]

/-- A device that leads nothing has no route to another. -/
theorem forward_noLead {m opc : Nat} {body : List Byte} (hlead : s.tab.lead = false) :
    s.forward w m opc body = s.respond w .noRoute [] := by
  unfold State.forward
  simp only [hlead, Bool.and_false, Bool.false_and, Bool.false_eq_true, if_false]

theorem cmdTabForward_elsewhere {m opc : Nat} (hself : s.isSelf m = false) (hm : fieldAt w.body 0 1 = m)
    (hopc : fieldAt w.body 1 1 = opc) : s.cmdTabForward w = s.forward w m opc (w.body.drop 2) := by
  unfold State.cmdTabForward
  simp only [hm, hopc, hself, Bool.false_eq_true, if_false]

/-- Settles O20: each command by its lemma above; TAB_FORWARD by where its member is. -/
theorem resetShelfAndForwardRequestsAct : Obligations.ResetShelfAndForwardRequestsAct := by
  unfold Obligations.ResetShelfAndForwardRequestsAct
  intro s rq w
  refine ⟨fun hready => served hready rfl rfl, rfl, fun hready => ?reset, resetExecute_acts s,
    fun hready hbak hpend hdecom => served hready rfl (cmdShelf_accepted (s := s.taken w) hbak hpend hdecom),
    fun hready hbak => served hready rfl (cmdShelf_unbacked (s := s.taken w) hbak),
    fun hready hdecom => served hready rfl (cmdDecommission_reserves (s := s.taken w) hdecom),
    fun opc hready hself hopc hknown hadmits hformed hgate => ?here,
    fun opc m x hready hself hm hopc hin hlead hother hx hpresent => ?member,
    fun m hready hself hm hlead => served hready rfl ?noRoute⟩
  case noRoute => exact (cmdTabForward_elsewhere (s := s.taken w) hself hm rfl).trans (forward_noLead hlead)
  all_goals obtain ⟨rfl, -⟩ := ready_rq hready
  case reset => exact served hready rfl rfl
  case here =>
    exact served hready rfl (cmdTabForward_here (s := s.taken w) hself hopc hknown hadmits hformed hgate)
  case member =>
    exact served hready rfl ((cmdTabForward_elsewhere (s := s.taken w) hself hm hopc).trans
      (forward_present hin hlead hother hx hpresent))

end Sys2Proof.Machine
end

section
/-! PROOFS. What the operations on outputs leave of what the channels are asked for: demands, inhibits of a start, the queue
of wall actions and the demands kept for a start, one lemma per operation in the order of the model's files. -/

namespace Sys2Proof.Machine

/-! ### What a channel is asked for -/

/-- What a channel is asked for: its demand, the last one that was not OFF, and the inhibits BUS and SHUTDOWN. -/
structure Asked where
  demand : Demand
  lastOn : Option Demand
  bus : Bool
  shut : Bool

/-- What a channel's record asks for. -/
def Chan.asked (h : Chan) : Asked := ⟨h.demand, h.lastOn, h.bus, h.shut⟩

/-- No channel at all. -/
def noChan (_ : Nat) : Prop := False

/-- Beside the logs `t` differs from `s` in the switch block alone, and there neither in the wall actions that wait nor in the
demands kept for a start (R270), nor in what any channel that is not of `cs` is asked for. -/
structure AsksOnly (cs : Nat → Prop) (s t : State) : Prop where
  changes : ChangesOnly [.sw, .logs] s t
  asked : ∀ j, ¬ cs j → (t.chan j).asked = (s.chan j).asked
  wallQ : t.sw.wallQ = s.sw.wallQ
  retained : t.sw.retained = s.sw.retained
  saved : t.sw.saved = s.sw.saved

variable {cs ds : Nat → Prop} {s t u : State}

namespace AsksOnly

theorem refl (s : State) : AsksOnly cs s s := ⟨.refl s, fun _ _ => rfl, rfl, rfl, rfl⟩

theorem mono (h : AsksOnly cs s t) (sub : ∀ j, cs j → ds j) : AsksOnly ds s t :=
  { h with asked := fun j hj => h.asked j fun hc => hj (sub j hc) }

theorem trans (h : AsksOnly cs s t) (k : AsksOnly cs t u) : AsksOnly cs s u where
  changes := (h.changes.trans k.changes).mono (by decide)
  asked j hj := (k.asked j hj).trans (h.asked j hj)
  wallQ := k.wallQ.trans h.wallQ
  retained := k.retained.trans h.retained
  saved := k.saved.trans h.saved

/-- What asks for nothing may follow. -/
theorem andThen (h : AsksOnly cs s t) (k : AsksOnly noChan t u) : AsksOnly cs s u := h.trans (k.mono fun _ hj => hj.elim)

theorem foldl {α : Type} {f : State → α → State} (l : List α) (s : State) (hf : ∀ u, ∀ x ∈ l, AsksOnly cs u (f u x)) :
    AsksOnly cs s (l.foldl f s) :=
  List.foldlRecOn l f (.refl s) fun u hu x hx => hu.trans (hf u x hx)

theorem of_logs (h : ChangesOnly [.logs] s t) : AsksOnly cs s t where
  changes := h.mono (by decide)
  asked j _ := by
    unfold State.chan
    rw [h.same .sw (by decide)]
  wallQ := by rw [h.same .sw (by decide)]
  retained := by rw [h.same .sw (by decide)]
  saved := by rw [h.same .sw (by decide)]

/-- A write to another part of the switch block asks for nothing. -/
theorem of_sw {w : Switch} (hch : w.ch = s.sw.ch := by rfl) (hwallQ : w.wallQ = s.sw.wallQ := by rfl)
    (hretained : w.retained = s.sw.retained := by rfl) (hsaved : w.saved = s.sw.saved := by rfl) :
    AsksOnly cs s { s with sw := w } where
  changes := .mono (.write [.sw] (by rfl)) (by decide)
  asked j _ := by
    unfold State.chan
    rw [hch]
  wallQ := hwallQ
  retained := hretained
  saved := hsaved

theorem frame (h : AsksOnly cs s t) : t = { s.withLogs t with sw := t.sw } := h.changes.eq_copy

theorem param (h : AsksOnly cs s t) (id : Nat) : t.param id = s.param id :=
  param_congr (h.changes.same .config (by decide)) (h.changes.same .ident (by decide)) id

end AsksOnly

/-! ### One channel's record -/

theorem onChan_asksOnly_self (c : Nat) (f : Chan → Chan) : AsksOnly (· = c) s (s.onChan c f) where
  changes := (onChan_changes c f).mono (by decide)
  asked j hj := by rw [onChan_chan, if_neg fun h => hj h.1]
  wallQ := rfl
  retained := rfl
  saved := rfl

theorem onChan_asksOnly_of_kept (c : Nat) {f : Chan → Chan} (hf : ∀ h, (f h).asked = h.asked) :
    AsksOnly noChan s (s.onChan c f) where
  changes := (onChan_changes c f).mono (by decide)
  asked j _ := by
    rw [onChan_chan]
    split
    · exact hf _
    · rfl
  wallQ := rfl
  retained := rfl
  saved := rfl

/-! ### Outputs and latches -/

theorem latch_asksOnly (c : Nat) (b : Bool) : AsksOnly noChan s (s.latch c b) := by
  refine .foldl _ _ fun u j _ => ?_
  exact onChan_asksOnly_of_kept j fun _ => rfl

theorem openWindow_asksOnly (c : Nat) : AsksOnly noChan s (s.openWindow c) := by
  refine onChan_asksOnly_of_kept _ fun h => ?_
  dsimp only
  split
  · rfl
  · rfl

theorem refresh_asksOnly (c : Nat) (fresh : Bool) : AsksOnly noChan s (s.refresh c fresh) := by
  unfold State.refresh
  dsimp only
  split
  · exact .refl s
  split
  · exact .of_sw
  split
  · exact (latch_asksOnly ..).trans (openWindow_asksOnly _)
  · exact latch_asksOnly ..

theorem cancelInrush_asksOnly (c : Nat) : AsksOnly noChan s (s.cancelInrush c) := onChan_asksOnly_of_kept c fun _ => rfl

theorem clearLatch_asksOnly (c : Nat) : AsksOnly noChan s (s.clearLatch c) := by
  have unlatched : AsksOnly noChan s (s.onChan c fun h => { h with curLatch := false }) :=
    onChan_asksOnly_of_kept c fun _ => rfl
  unfold State.clearLatch
  split
  · exact (unlatched.trans (.of_logs (clearE_changes _))).trans (.of_logs (clearIf_changes ..))
  split
  · exact .refl s
  · exact .of_logs (clearR_changes ..)

theorem onGpio_asksOnly (g : Nat) (f : Gpio → Gpio) : AsksOnly noChan s (s.onGpio g f) := .of_sw

theorem endRamps_asksOnly (c : Nat) : AsksOnly noChan s (s.endRamps c) := .of_sw

/-! ### Changes of demand (R243, R267, R270) -/

theorem setDemand_asksOnly (c : Nat) (d : Demand) : AsksOnly (· = c) s (s.setDemand c d) := by
  unfold State.setDemand
  extract_lets h s1 s2 s3
  split
  next =>
    have off : AsksOnly (· = c) s s1 := ((((onChan_asksOnly_self c _).andThen (cancelInrush_asksOnly c)).andThen
      (clearLatch_asksOnly c)).andThen (.of_logs (clearE_changes _)))
    clear_value s1
    have ramps : AsksOnly noChan s1 s2 := by
      unfold s2
      split
      · exact .refl s1
      · exact endRamps_asksOnly c
    clear_value s2
    split
    · exact (off.andThen ramps).andThen (onChan_asksOnly_of_kept c fun _ => rfl)
    · exact (off.andThen ramps).andThen (refresh_asksOnly ..)
  next => exact (onChan_asksOnly_self c _).andThen (refresh_asksOnly ..)

theorem wallDemand_asksOnly (c : Nat) (d : Demand) : AsksOnly (· = c) s (s.wallDemand c d) := by
  unfold State.wallDemand
  split
  · exact setDemand_asksOnly ..
  · exact ((clearLatch_asksOnly c).mono fun _ hj => hj.elim).trans
      ((setDemand_asksOnly ..).andThen (refresh_asksOnly ..))

theorem wallDemand_demandOf (s : State) {c : Nat} (hc : c < 16) (d : Demand) :
    (s.wallDemand c d).demandOf = withDemand s.demandOf c d := by
  unfold State.wallDemand
  split
  · exact setDemand_demandOf s hc d
  · rw [refresh_demandOf, setDemand_demandOf _ hc, clearLatch_demandOf]

/-- What follows the new record of a channel that is restored asks for nothing. -/
theorem restoreChan_after (c : Nat) : ∃ f : Chan → Chan, AsksOnly noChan (s.onChan c f) (s.restoreChan c) ∧
    ∀ h, (f h).demand = s.restoreDemand c ∧ (f h).bus = false ∧ (f h).shut = true := by
  unfold State.restoreChan
  extract_lets d s1
  refine ⟨_, AsksOnly.trans (t := s1) (refresh_asksOnly ..) ?cleared, fun _ => ⟨rfl, rfl, rfl⟩⟩
  case cleared =>
    clear_value s1
    split
    · exact .of_logs (clearE_changes _)
    · exact .refl s1

theorem restoreChan_asksOnly (c : Nat) : AsksOnly (· = c) s (s.restoreChan c) := by
  obtain ⟨f, after, -⟩ := restoreChan_after (s := s) c
  exact (onChan_asksOnly_self c f).andThen after

theorem restoreChan_asked {c : Nat} (hc : c < 16) : ((s.restoreChan c).chan c).demand = s.restoreDemand c ∧
    ((s.restoreChan c).chan c).bus = false ∧ ((s.restoreChan c).chan c).shut = true := by
  obtain ⟨f, after, hf⟩ := restoreChan_after (s := s) c
  have same := after.asked c id
  rw [onChan_chan, if_pos ⟨rfl, hc⟩] at same
  obtain ⟨hdemand, hbus, hshut⟩ := hf (s.chan c)
  exact ⟨(congrArg Asked.demand same).trans hdemand, (congrArg Asked.bus same).trans hbus,
    (congrArg Asked.shut same).trans hshut⟩

/-! ### What the demands of a turn-on and of a start depend on -/

/-- The demand of a turn-on rests on the parameters and on the channel's last demand (R267). -/
theorem AsksOnly.onDemand {c : Nat} (h : AsksOnly (· ≠ c) s t) : t.onDemand c = s.onDemand c := by
  have last : (t.chan c).lastOn = (s.chan c).lastOn := congrArg Asked.lastOn (h.asked c fun hn => hn rfl)
  simp only [State.onDemand, h.param, last]

theorem AsksOnly.inMode (h : AsksOnly cs s t) (c : Nat) (d : Demand) : t.inMode c d = s.inMode c d := by
  simp only [State.inMode, h.param]

/-- The demand of a start rests on the parameters, on the channel's demand and on what was kept for the start (R270). -/
theorem AsksOnly.restoreDemand {c : Nat} (h : AsksOnly (· ≠ c) s t) : t.restoreDemand c = s.restoreDemand c := by
  have demand : (t.chan c).demand = (s.chan c).demand := congrArg Asked.demand (h.asked c fun hn => hn rfl)
  simp only [State.restoreDemand, h.param, h.inMode, h.retained, h.saved, demand]

/-! ### One channel after another -/

/-- A fold that goes over each channel once: it comes to a channel with that one as it was, and leaves it as it made it. -/
theorem foldl_visits {f : State → Nat → State} (hf : ∀ u c, AsksOnly (· = c) u (f u c)) {l : List Nat} (hl : l.Nodup) {c : Nat}
    (hc : c ∈ l) (s : State) : ∃ u, AsksOnly (· ≠ c) s u ∧ AsksOnly (· ≠ c) (f u c) (l.foldl f s) := by
  have others : ∀ x, x ≠ c → ∀ u, AsksOnly (· ≠ c) u (f u x) := fun x hx u =>
    (hf u x).mono fun _ hj => hj ▸ hx
  induction l generalizing s with
  | nil => exact absurd hc List.not_mem_nil
  | cons x l ih =>
    obtain ⟨hx, hl⟩ := List.nodup_cons.1 hl
    rcases List.mem_cons.1 hc with rfl | hc
    · exact ⟨s, .refl s, .foldl l _ fun u y hy => others y (fun h => hx (h ▸ hy)) u⟩
    · obtain ⟨u, before, after⟩ := ih hl hc (f s x)
      exact ⟨u, (others x (fun h => hx (h ▸ hc)) s).trans before, after⟩

end Sys2Proof.Machine
end

section
/-! PROOFS. Open load, the share of a pair, wall switches, DIM ramps and restore at start: one lemma per clause, and the
statement on them. -/

namespace Sys2Proof.Machine

variable {s t : State}

/-! ### One element of a vector, read at a place that it has -/

theorem getD_toList {α : Type} {n : Nat} (v : Vector α n) (i : Fin n) (d : α) : v.toList.getD i.val d = v[i] := by
  simp [List.getD_eq_getElem?_getD]

/-! ### Open load (R264) -/

theorem clearR_chan (src : Src) (r c : Nat) : (s.clearR src r).chan c = s.chan c := rfl

theorem openLoadDetect_raises {ch : Fin 16} (hma : s.param (P.lswOlMa ch.val) ≠ 0)
    (hfilter : s.olFilter ch.val ≤ (s.chan ch.val).olMs) (hout : (s.chan ch.val).out = true)
    (haction : s.isOn (P.lswOlAction ch.val) = false) :
    ∃ t, exec (.openLoadDetect ch) s = .next t ∧ t.holds (Ev.lswOl ch.val) = true ∧ t = s.withLogs t := by
  refine ⟨s.raiseOnce (Ev.lswOl ch.val) 1 0, ?_, raiseOnce_holds .., raiseOnce_logs ..⟩
  refine congrArg Host.Outcome.next ((if_pos ⟨hma, hfilter, hout⟩).trans ?_)
  exact if_neg (by simp [haction])

theorem openLoadDetect_turnsOff {ch : Fin 16} (hma : s.param (P.lswOlMa ch.val) ≠ 0)
    (hfilter : s.olFilter ch.val ≤ (s.chan ch.val).olMs) (hout : (s.chan ch.val).out = true)
    (haction : s.isOn (P.lswOlAction ch.val) = true) :
    ∃ t, exec (.openLoadDetect ch) s = .next t ∧ (t.chan ch.val).demand = .off ∧ t = { s.withLogs t with sw := t.sw } := by
  have off := setDemand_demandOf (s.raiseOnce (Ev.lswOl ch.val) 1 0) ch.isLt .off
  refine ⟨(s.raiseOnce (Ev.lswOl ch.val) 1 0).setDemand ch.val .off, ?_,
    (congrFun off ch.val).trans (withDemand_same ..),
    ((AsksOnly.of_logs (raiseOnce_changes ..)).trans (setDemand_asksOnly ..)).frame⟩
  exact congrArg Host.Outcome.next ((if_pos ⟨hma, hfilter, hout⟩).trans (if_pos haction))

theorem openLoadClear_acts {ch : Fin 16} (hfilter : s.olFilter ch.val ≤ (s.chan ch.val).olClearMs) :
    ∃ t, exec (.openLoadClear ch) s = .next t ∧ t.chan ch.val = { s.chan ch.val with olMs := 0 } ∧
      (∀ j, j ≠ ch.val → t.chan j = s.chan j) ∧ t = { s.withLogs t with sw := t.sw } := by
  have cleared := (onChan_asksOnly_of_kept (s := s) ch.val (f := fun h => { h with olMs := 0 }) fun _ => rfl).trans
    (.of_logs (clearR_changes (Ev.lswOl ch.val) 1))
  have clears : exec (.openLoadClear ch) s = .next
      ((s.onChan ch.val fun h => { h with olMs := 0 }).clearR (Ev.lswOl ch.val) 1) :=
    congrArg Host.Outcome.next (if_pos hfilter)
  refine ⟨_, clears, ?own, fun j hj => ?others, cleared.frame⟩
  case own => rw [clearR_chan, onChan_chan, if_pos ⟨rfl, ch.isLt⟩]
  case others => rw [clearR_chan, onChan_chan, if_neg fun h => hj h.1]

/-! ### The share of a pair (R263) -/

/-- A clear takes away the conditions of its name and reason, and nothing else. -/
theorem mem_held_clearR {src : Src} {r : Nat} {h : Held} :
    h ∈ (s.clearR src r).events.held ↔ h ∈ s.events.held ∧ (h.src ≠ src ∨ h.pulse = true ∨ h.reason ≠ r) := by
  unfold State.clearR State.clearIf
  simp only [List.mem_filter, Bool.not_eq_true', Bool.and_eq_false_iff, Bool.not_eq_false', beq_eq_false_iff_ne, or_assoc]

theorem exec_pairShare {ch : Fin 16} (hpair : s.paired (ch.val / 2 * 2) = true) : exec (.pairShare ch) s = .next
    (if 1000 ≤ (s.chan (ch.val / 2 * 2 + 1)).shareMs then s.raiseOnce (Ev.lswOl (ch.val / 2 * 2 + 1)) 2 0
      else if 10000 ≤ (s.chan (ch.val / 2 * 2 + 1)).shareOkMs then s.clearR (Ev.lswOl (ch.val / 2 * 2 + 1)) 2 else s) :=
  congrArg Host.Outcome.next (if_neg (by simp [hpair]))

theorem pairShare_unpaired {ch : Fin 16} (hpair : s.paired (ch.val / 2 * 2) = false) :
    exec (.pairShare ch) s = .next s :=
  congrArg Host.Outcome.next (if_pos (by simp [hpair]))

theorem pairShare_raises {ch : Fin 16} (hpair : s.paired (ch.val / 2 * 2) = true)
    (hshare : 1000 ≤ (s.chan (ch.val / 2 * 2 + 1)).shareMs) : ∃ t, exec (.pairShare ch) s = .next t ∧
      t.holds (Ev.lswOl (ch.val / 2 * 2 + 1)) = true ∧ t = s.withLogs t :=
  ⟨_, (exec_pairShare hpair).trans (congrArg _ (if_pos hshare)), raiseOnce_holds .., raiseOnce_logs ..⟩

theorem pairShare_clears {ch : Fin 16} (hpair : s.paired (ch.val / 2 * 2) = true)
    (hshare : (s.chan (ch.val / 2 * 2 + 1)).shareMs < 1000)
    (hok : 10000 ≤ (s.chan (ch.val / 2 * 2 + 1)).shareOkMs) : ∃ t, exec (.pairShare ch) s = .next t ∧
      (∀ h ∈ t.events.held, h.src = Ev.lswOl (ch.val / 2 * 2 + 1) → h.pulse = false → h.reason ≠ 2) ∧
      t = s.withLogs t := by
  refine ⟨s.clearR (Ev.lswOl (ch.val / 2 * 2 + 1)) 2,
    (exec_pairShare hpair).trans (congrArg _ ((if_neg (Nat.not_le.2 hshare)).trans (if_pos hok))), fun h hh hsrc hpulse => ?_,
    clearIf_logs ..⟩
  obtain ⟨-, hother⟩ := mem_held_clearR.1 hh
  simpa [hsrc, hpulse] using hother

/-! ### Decoding a GPIO (R266 to R268) -/

theorem queueWall_room (hroom : s.sw.wallQ.length < 16) (a : WallAct) : s.queueWall a =
    { s with
      sw := { s.sw with wallQ := s.sw.wallQ ++ [(s.camyx.arrived, a)] }
      camyx := { s.camyx with arrived := s.camyx.arrived + 1 } } :=
  if_pos hroom

theorem queueWall_full (hfull : 16 ≤ s.sw.wallQ.length) (a : WallAct) :
    s.queueWall a = { s with sw := { s.sw with dropped := wrapAdd 16 s.sw.dropped 1 } } :=
  if_neg (Nat.not_lt.2 hfull)

theorem onGpio_gpio (g : Fin 8) (f : Gpio → Gpio) : (s.onGpio g.val f).sw.gpio[g] = f s.sw.gpio[g] :=
  upd_same _ _ _ g.isLt

theorem onGpio_chan (g : Nat) (f : Gpio → Gpio) (c : Nat) : (s.onGpio g f).chan c = s.chan c := rfl

/-- A GPIO takes the level that has been steady. -/
def State.levelled (s : State) (g : Fin 8) (hi : Bool) : State := s.onGpio g.val fun p => { p with level := hi }

theorem levelled_level (g : Fin 8) (hi : Bool) : ((s.levelled g hi).sw.gpio[g]).level = hi :=
  congrArg Gpio.level (onGpio_gpio g fun p => { p with level := hi })

theorem exec_gpioDebounceComplete (g : Fin 8) (hi : Bool) :
    exec (.gpioDebounceComplete g hi) s = .next (s.debounced g.val hi) := rfl

theorem debounced_toggle {g : Fin 8} {hi : Bool} (hruns : s.mapperRuns = true) (hmode : s.param (P.gpioMode g.val) = 2)
    (hactive : s.gpioActive g.val hi = true) (hlevel : (s.sw.gpio[g]).level ≠ hi) :
    s.debounced g.val hi = (s.levelled g hi).queueWall (.toggle g.val) := by
  have moved : (s.sw.gpio[g.val]).level ≠ hi := hlevel
  unfold State.debounced State.levelled
  simp [hruns, hmode, hactive, moved]

theorem debounced_follow {g : Fin 8} {hi : Bool} (hruns : s.mapperRuns = true) (hmode : s.param (P.gpioMode g.val) = 3)
    (hlevel : (s.sw.gpio[g]).level ≠ hi) :
    s.debounced g.val hi = (s.levelled g hi).queueWall (.follow g.val (s.gpioActive g.val hi)) := by
  have moved : (s.sw.gpio[g.val]).level ≠ hi := hlevel
  unfold State.debounced State.levelled
  simp [hruns, hmode, moved]

theorem gpioDebounceComplete_queues {g : Fin 8} {hi : Bool} (hruns : s.mapperRuns = true)
    (hmode : s.param (P.gpioMode g.val) = 2) (hactive : s.gpioActive g.val hi = true)
    (hlevel : (s.sw.gpio[g]).level ≠ hi) (hroom : s.sw.wallQ.length < 16) :
    ∃ t, exec (.gpioDebounceComplete g hi) s = .next t ∧
      t.sw.wallQ = s.sw.wallQ ++ [(s.camyx.arrived, .toggle g.val)] ∧ (t.sw.gpio[g]).level = hi ∧
      t = { s with sw := t.sw, camyx := { s.camyx with arrived := s.camyx.arrived + 1 } } :=
  ⟨_, (exec_gpioDebounceComplete g hi).trans (congrArg _ ((debounced_toggle hruns hmode hactive hlevel).trans
      (queueWall_room (s := s.levelled g hi) hroom _))), rfl, levelled_level g hi, rfl⟩

theorem gpioDebounceComplete_drops {g : Fin 8} {hi : Bool} (hruns : s.mapperRuns = true)
    (hmode : s.param (P.gpioMode g.val) = 3) (hlevel : (s.sw.gpio[g]).level ≠ hi) (hfull : 16 ≤ s.sw.wallQ.length) :
    ∃ t, exec (.gpioDebounceComplete g hi) s = .next t ∧ t.sw.wallQ = s.sw.wallQ ∧
      t.sw.dropped = wrapAdd 16 s.sw.dropped 1 ∧ t = { s with sw := t.sw } :=
  ⟨_, (exec_gpioDebounceComplete g hi).trans (congrArg _ ((debounced_follow hruns hmode hlevel).trans
      (queueWall_full (s := s.levelled g hi) hfull _))), rfl, rfl, rfl⟩

theorem dimHold_queues {g : Fin 8} (hmode : s.param (P.gpioMode g.val) = 4) (hpressed : (s.sw.gpio[g]).pressed = true)
    (hshort : (s.sw.gpio[g]).long = false) (hroom : s.sw.wallQ.length < 16) :
    ∃ t, exec (.dimHold g) s = .next t ∧ t.sw.wallQ = s.sw.wallQ ++ [(s.camyx.arrived, .dim g.val)] ∧
      (t.sw.gpio[g]).long = true ∧
      t = { s with sw := t.sw, camyx := { s.camyx with arrived := s.camyx.arrived + 1 } } := by
  let s1 := s.onGpio g.val fun p => { p with long := true }
  have held : exec (.dimHold g) s = .next (s1.queueWall (.dim g.val)) := by
    show execDimHold g s = _
    unfold execDimHold
    dsimp only
    rw [getD_toList, if_pos ⟨hmode, hpressed, hshort⟩]
  have long : (s1.sw.gpio[g]).long = true := congrArg Gpio.long (onGpio_gpio g fun p => { p with long := true })
  exact ⟨_, held.trans (congrArg _ (queueWall_room (s := s1) hroom _)), rfl, long, rfl⟩

/-! ### A wall action applied (R243, R269) -/

theorem wallChans_lt {g c : Nat} (h : c ∈ s.wallChans g) : c < 16 := by
  have hc : c < s.chans := List.mem_range.1 (List.mem_filter.1 h).1
  unfold State.chans at hc
  split at hc <;> omega

theorem wallChans_nodup (g : Nat) : (s.wallChans g).Nodup := List.nodup_range.filter _

theorem applyWall_follow_asksOnly (g : Nat) (act : Bool) :
    AsksOnly (· ∈ s.wallChans g) s (s.applyWall (.follow g act)) :=
  .foldl _ _ fun _ _ hc => (wallDemand_asksOnly ..).mono fun _ hj => hj ▸ hc

/-- FOLLOW gives each of its channels the demand of a turn-on, or OFF. -/
theorem applyWall_follow_demand {g c : Nat} (act : Bool) (hc : c ∈ s.wallChans g) :
    ((s.applyWall (.follow g act)).chan c).demand = if act then s.onDemand c else .off := by
  obtain ⟨u, before, after⟩ := foldl_visits
    (f := fun (s : State) c => s.wallDemand c (if act then s.onDemand c else .off))
    (fun _ _ => wallDemand_asksOnly ..) (wallChans_nodup g) hc s
  calc ((s.applyWall (.follow g act)).chan c).demand
      = (u.wallDemand c (if act then u.onDemand c else .off)).demandOf c :=
        congrArg Asked.demand (after.asked c fun hn => hn rfl)
    _ = if act then u.onDemand c else .off := by rw [wallDemand_demandOf u (wallChans_lt hc), withDemand_same]
    _ = if act then s.onDemand c else .off := by rw [before.onDemand]

theorem wallActionApply_follow {n g : Nat} {act : Bool} {rest : List (Nat × WallAct)} (hseq : s.seqRuns = true)
    (hfirst : s.firstAtP5 n = true) (hq : s.sw.wallQ = (n, .follow g act) :: rest) :
    ∃ t, exec .wallActionApply s = .next t ∧ t.sw.wallQ = rest ∧
      (∀ c ∈ s.wallChans g, (t.chan c).demand = if act then s.onDemand c else .off) ∧
      t = { s.withLogs t with sw := t.sw, plinth := t.plinth, config := t.config } := by
  let s1 : State := { s with sw := { s.sw with wallQ := rest } }
  have applied : exec .wallActionApply s = .next ((s1.applyWall (.follow g act)).taskEnd 5) := by
    show execWallActionApply s = _
    simp only [execWallActionApply, hq, hseq, hfirst, Bool.and_self, if_true]
    rfl
  have follow := applyWall_follow_asksOnly (s := s1) g act
  have ended : ChangesOnly [.plinth, .config] (s1.applyWall (.follow g act)) _ := taskEnd_changes 5
  have popped : ChangesOnly [.sw] s s1 := .write _ rfl
  refine ⟨_, applied, ?queue, fun c hc => ?demand,
    (((popped.trans follow.changes).trans ended).mono (qs := [.mode, .sw, .plinth, .config, .logs]) (by decide)).eq_copy⟩
  case queue => exact (congrArg Switch.wallQ (ended.same .sw (by decide))).trans follow.wallQ
  case demand => exact (congrFun (ended.demandOf (by decide)) c).trans (applyWall_follow_demand (s := s1) act hc)

/-! ### A step of a ramp (R267) -/

theorem dimStep_pwm {c d : Nat} (h : (s.chan c).demand = .pwm d) :
    s.dimStep c = s.setDemand c (.pwm (dimNext (s.chan c).dimUp d)) := by
  unfold State.dimStep
  rw [h]

theorem dimRampStep_acts {g : Fin 8} {c d : Nat} (hramp : (s.sw.gpio[g]).ramp = true)
    (hpressed : (s.sw.gpio[g]).pressed = true) (hchans : s.wallChans g.val = [c]) (hmode : s.param (P.lswMode c) = 2)
    (hdemand : (s.chan c).demand = .pwm d) : ∃ t, exec (.dimRampStep g) s = .next t ∧
      (t.chan c).demand = .pwm (dimNext (s.chan c).dimUp d) ∧ t = { s.withLogs t with sw := t.sw } := by
  have hc : c < 16 := wallChans_lt (s := s) (g := g.val) (by simp [hchans])
  have hdims : (s.wallChans g.val).filter (fun c => s.param (P.lswMode c) == 2) = [c] := by simp [hchans, hmode]
  let s1 := s.setDemand c (.pwm (dimNext (s.chan c).dimUp d))
  have stepped : ∃ f : Gpio → Gpio, exec (.dimRampStep g) s = .next (s1.onGpio g.val f) := by
    show ∃ f, execDimRampStep g s = _
    unfold execDimRampStep
    dsimp only
    rw [hdims, getD_toList, hramp, hpressed, List.foldl_cons, List.foldl_nil, dimStep_pwm hdemand]
    exact ⟨_, congrArg Host.Outcome.next (if_pos rfl)⟩
  obtain ⟨f, stepped⟩ := stepped
  have changed : AsksOnly (· = c) s (s1.onGpio g.val f) := (setDemand_asksOnly ..).andThen (onGpio_asksOnly ..)
  refine ⟨_, stepped, ?_, changed.frame⟩
  rw [onGpio_chan]
  exact (congrFun (setDemand_demandOf s hc _) c).trans (withDemand_same ..)

/-! ### Restore at start (R270) -/

/-- The four channels of a die. -/
def dieChans (d : Nat) : List Nat := (List.range 4).map fun j => 4 * d + j

theorem mem_dieChans {d j : Nat} (hj : j < 4) : 4 * d + j ∈ dieChans d :=
  List.mem_map.2 ⟨j, List.mem_range.2 hj, rfl⟩

theorem dieChans_nodup (d : Nat) : (dieChans d).Nodup :=
  List.Pairwise.map _ (fun _ _ hne heq => hne (Nat.add_left_cancel heq)) List.nodup_range

theorem restoreDie_supplied {d : Fin 4} (hsupplied : (s.sw.die[d]).supplied = true) :
    s.restoreDie d.val = (dieChans d.val).foldl State.restoreChan s := by
  unfold State.restoreDie dieChans
  rw [getD_toList, hsupplied, List.foldl_map]
  rfl

theorem restoreDie_asked {d : Fin 4} (hsupplied : (s.sw.die[d]).supplied = true) {j : Nat} (hj : j < 4) :
    ((s.restoreDie d.val).chan (4 * d.val + j)).demand = s.restoreDemand (4 * d.val + j) ∧
      ((s.restoreDie d.val).chan (4 * d.val + j)).bus = false ∧
      ((s.restoreDie d.val).chan (4 * d.val + j)).shut = true := by
  obtain ⟨u, before, after⟩ := foldl_visits (f := State.restoreChan) (fun _ _ => restoreChan_asksOnly _)
    (dieChans_nodup d.val) (mem_dieChans hj) s
  rw [← restoreDie_supplied hsupplied] at after
  have same := after.asked (4 * d.val + j) fun hn => hn rfl
  obtain ⟨hdemand, hbus, hshut⟩ := restoreChan_asked (s := u) (c := 4 * d.val + j) (by omega)
  exact ⟨(congrArg Asked.demand same).trans (hdemand.trans before.restoreDemand), (congrArg Asked.bus same).trans hbus,
    (congrArg Asked.shut same).trans hshut⟩

theorem restoreDie_asksOnly {d : Fin 4} (hsupplied : (s.sw.die[d]).supplied = true) :
    AsksOnly (fun _ => True) s (s.restoreDie d.val) := by
  rw [restoreDie_supplied hsupplied]
  exact .foldl _ _ fun _ _ _ => (restoreChan_asksOnly _).mono fun _ _ => trivial

theorem exec_restoreAtStart (d : Fin 4) : exec (.restoreAtStart d) s = .next (s.restoreDie d.val) := rfl

theorem restoreAtStart_acts {d : Fin 4} (hsupplied : (s.sw.die[d]).supplied = true) :
    ∃ t, exec (.restoreAtStart d) s = .next t ∧
      (∀ j, j < 4 → (t.chan (4 * d.val + j)).demand = s.restoreDemand (4 * d.val + j) ∧
        (t.chan (4 * d.val + j)).bus = false ∧ (t.chan (4 * d.val + j)).shut = true) ∧
      t = { s.withLogs t with sw := t.sw } :=
  ⟨_, exec_restoreAtStart d, fun _ hj => restoreDie_asked hsupplied hj, (restoreDie_asksOnly hsupplied).frame⟩

/-- Settles O25: each command by its lemmas above; FOLLOW gives OFF at an inactive level and the demand of a turn-on at an
active one. -/
theorem openLoadAndWallSwitchesAct : Obligations.OpenLoadAndWallSwitchesAct := by
  unfold Obligations.OpenLoadAndWallSwitchesAct
  intro s
  exact ⟨fun _ hma hfilter hout haction => openLoadDetect_raises hma hfilter hout haction,
    fun _ hma hfilter hout haction => openLoadDetect_turnsOff hma hfilter hout haction,
    fun _ hfilter => openLoadClear_acts hfilter,
    fun _ hpair hshare => pairShare_raises hpair hshare,
    fun _ hpair hshare hok => pairShare_clears hpair hshare hok,
    fun _ hpair => pairShare_unpaired hpair,
    fun _ _ hruns hmode hactive hlevel hroom => gpioDebounceComplete_queues hruns hmode hactive hlevel hroom,
    fun _ _ hruns hmode hlevel hfull => gpioDebounceComplete_drops hruns hmode hlevel hfull,
    fun _ hmode hpressed hshort hroom => dimHold_queues hmode hpressed hshort hroom,
    fun _ _ _ hseq hfirst hq => wallActionApply_follow hseq hfirst hq,
    fun _ _ _ hseq hfirst hq => wallActionApply_follow hseq hfirst hq,
    fun _ _ _ hramp hpressed hchans hmode hdemand => dimRampStep_acts hramp hpressed hchans hmode hdemand,
    fun _ hsupplied => restoreAtStart_acts hsupplied⟩

end Sys2Proof.Machine
end

section
/-! PROOFS. What the protection of the load switches does to a channel's record: the channel that leads a pair, a latch write,
and the entry into the current latch. -/

namespace Sys2Proof.Machine

variable {s t u : State} {c : Nat}

/-! ### The channel that leads (R261, R288) -/

theorem lead_le (s : State) (c : Nat) : s.lead c ≤ c := by
  unfold State.lead
  split
  · omega
  · exact Nat.le_refl c

theorem lead_lt (hc : c < 16) : s.lead c < 16 := Nat.lt_of_le_of_lt (lead_le s c) hc

/-- A pair stands on one die. -/
theorem dieOf_lead (s : State) (c : Nat) : dieOf (s.lead c) = dieOf c := by
  unfold dieOf State.lead
  split
  · omega
  · rfl

theorem inReverse_lead (s : State) (c : Nat) : s.inReverse (s.lead c) = s.inReverse c := by
  unfold State.inReverse
  rw [dieOf_lead]

theorem mem_group_self (s : State) (c : Nat) : c ∈ s.group c := by
  unfold State.group
  split
  · have parity : c = c / 2 * 2 ∨ c = c / 2 * 2 + 1 := by omega
    simpa using parity
  · exact List.mem_singleton.2 rfl

/-- A channel and the one that leads it share their latch. -/
theorem group_lead (s : State) (c : Nat) : s.group (s.lead c) = s.group c := by
  unfold State.lead
  split
  next hpair =>
    have even : c / 2 * 2 / 2 * 2 = c / 2 * 2 := by omega
    unfold State.group State.paired at *
    rw [even, if_pos hpair, if_pos hpair]
  next => rfl

/-! ### Reading channels and parameters across an operation -/

theorem ChangesOnly.chan {ps : List StatePart} (h : ChangesOnly ps s t) (hp : .sw ∉ ps) (j : Nat) : t.chan j = s.chan j := by
  unfold State.chan
  rw [h.same .sw hp]

theorem ChangesOnly.isOn {ps : List StatePart} (h : ChangesOnly ps s t) (hc : .config ∉ ps) (hi : .ident ∉ ps) (id : Nat) :
    t.isOn id = s.isOn id := by
  unfold State.isOn
  rw [param_congr (h.same .config hc) (h.same .ident hi)]

theorem ChangesOnly.seqRuns {ps : List StatePart} (h : ChangesOnly ps s t) (hp : .plinth ∉ ps) : t.seqRuns = s.seqRuns := by
  unfold State.seqRuns
  rw [h.same .plinth hp]

theorem onChan_self (hc : c < 16) (f : Chan → Chan) : (s.onChan c f).chan c = f (s.chan c) := by
  rw [onChan_chan, if_pos ⟨rfl, hc⟩]

/-- What a write to one channel's record leaves: every other record, and everything beside the channels. -/
theorem onChan_acts (hc : c < 16) (f : Chan → Chan) : (s.onChan c f).chan c = f (s.chan c) ∧
    (∀ j, j ≠ c → (s.onChan c f).chan j = s.chan j) ∧ s.onChan c f = { s with sw := (s.onChan c f).sw } := by
  refine ⟨onChan_self hc f, fun j hj => ?_, rfl⟩
  rw [onChan_chan, if_neg fun h => hj h.1]

/-- What a write leaves of a record it leaves of every record. -/
theorem onChan_keeps {α : Type} (g : Chan → α) {f : Chan → Chan} (hf : ∀ h, g (f h) = g h) (c j : Nat) :
    g ((s.onChan c f).chan j) = g (s.chan j) := by
  rw [onChan_chan]
  split
  · exact hf _
  · rfl

/-- A write to one die's record. -/
def State.onDie (s : State) (d : Nat) (f : Die → Die) : State := { s with sw := { s.sw with die := upd s.sw.die d f } }

theorem onDie_changes (d : Nat) (f : Die → Die) : ChangesOnly [.sw] s (s.onDie d f) := .write _ rfl

theorem onDie_self (d : Fin 4) (f : Die → Die) : (s.onDie d.val f).sw.die[d] = f s.sw.die[d] := upd_same _ _ _ d.isLt

theorem onDie_chan (d : Nat) (f : Die → Die) (j : Nat) : (s.onDie d f).chan j = s.chan j := rfl

/-! ### Frames, as the statements write them -/

theorem ChangesOnly.frame_sw (h : ChangesOnly [.sw, .logs] s t) : t = { s.withLogs t with sw := t.sw } := h.eq_copy

theorem ChangesOnly.frame_sw_silent (h : ChangesOnly [.sw] s t) : t = { s with sw := t.sw } := h.eq_copy

theorem ChangesOnly.frame_sw_ctr (h : ChangesOnly [.sw, .ctr, .hoCount, .logs] s t) :
    t = { s.withLogs t with sw := t.sw, ctr := t.ctr } := h.eq_copy

theorem ChangesOnly.frame_sw_ctr_silent (h : ChangesOnly [.sw, .ctr, .hoCount] s t) :
    t = { s with sw := t.sw, ctr := t.ctr } := h.eq_copy

/-! ### Latch writes (R246, R261) -/

/-- A channel's record after its latch is written: an output that goes off ends its limiting and its pattern. -/
def Chan.latched (h : Chan) (b : Bool) : Chan :=
  { h with
    out := b, limiting := h.limiting && b, running := h.running && b, fromOn := h.fromOn && b
    tail := if b then h.tail else 0, shift := if b then h.shift else 0, defOff := false }

theorem latch_chan (s : State) (c : Nat) (b : Bool) (j : Nat) :
    (s.latch c b).chan j = if j ∈ s.group c ∧ j < 16 then (s.chan j).latched b else s.chan j := by
  have write : ∀ (u : State) (i : Nat), (u.onChan i (·.latched b)).chan j =
      if j = i ∧ j < 16 then (u.chan j).latched b else u.chan j := fun u i => by
    rw [onChan_chan]
    by_cases hj : j = i
    · rw [hj]
    · rw [if_neg fun h => hj h.1, if_neg fun h => hj h.1]
  show ((s.group c).foldl (fun u i => u.onChan i (·.latched b)) s).chan j = _
  unfold State.group
  split
  case isTrue =>
    rw [List.foldl_cons, List.foldl_cons, List.foldl_nil, write, write]
    by_cases hfirst : j = c / 2 * 2
    · simp [hfirst]
    · simp [hfirst]
  case isFalse =>
    rw [List.foldl_cons, List.foldl_nil, write]
    simp

theorem latch_self (hc : c < 16) (b : Bool) : (s.latch c b).chan c = (s.chan c).latched b := by
  rw [latch_chan, if_pos ⟨mem_group_self s c, hc⟩]

/-- What a latch write leaves of a record it leaves of every record. -/
theorem latch_keeps {α : Type} (g : Chan → α) {b : Bool} (hg : ∀ h : Chan, g (h.latched b) = g h) (c j : Nat) :
    g ((s.latch c b).chan j) = g (s.chan j) := by
  rw [latch_chan]
  split
  · exact hg _
  · rfl

theorem latch_die (s : State) (c : Nat) (b : Bool) : (s.latch c b).sw.die = s.sw.die :=
  List.foldlRecOn (motive := fun u : State => u.sw.die = s.sw.die) _ _ rfl fun _ hu _ _ => hu

theorem hardOff_changes (c : Nat) : ChangesOnly [.sw] s (s.hardOff c) := latch_changes ..

theorem hardOff_self (hc : c < 16) : (s.hardOff c).chan c = (s.chan c).latched false := by
  unfold State.hardOff
  rw [latch_chan, group_lead, if_pos ⟨mem_group_self s c, hc⟩]

/-! ### What a die reports while the sequencer runs (R279, R290) -/

theorem dieRaise_running (h : s.seqRuns = true) (src : Src) (pulse : Bool) (r : Nat) (pin : Bool) :
    s.dieRaise src pulse r pin = s.raiseAs src pulse r 0 pin := if_pos h

theorem countTrip_running (h : s.seqRuns = true) (c : Nat) :
    s.countTrip c = { s with ctr := { s.ctr with trips := upd s.ctr.trips c fun n => wrapAdd 32 n 1 } } := if_pos h

/-! ### Entry into the current latch (R281, R282) -/

theorem countLatch_holds {src : Src} (hs : s.holds src = true) (c : Nat) : (s.countLatch c).holds src = true := by
  unfold State.countLatch
  dsimp only
  split
  · exact holds_raiseAs _ _ _ _ _ hs
  · exact hs

/-- Counting a latch writes the times of the latches and the escalation into the record, and nothing else. -/
theorem countLatch_self (s : State) (hc : c < 16) : ∃ ups esc,
    (s.countLatch c).chan c = { s.chan c with latchUps := ups, escalated := esc } := by
  unfold State.countLatch
  dsimp only
  split
  · exact ⟨_, _, ((raiseAs_changes ..).chan (by decide) c).trans (onChan_self hc _)⟩
  · exact ⟨_, _, onChan_self hc _⟩

/-- The current latch holds the output off and ends the window and the retries; its event is raised. -/
theorem enterLatch_acts (hseq : s.seqRuns = true) (hc : c < 16) (src : Src) (r : Nat) :
    ((s.enterLatch c src r).chan c).curLatch = true ∧ ((s.enterLatch c src r).chan c).out = false ∧
      ((s.enterLatch c src r).chan c).window = false ∧ ((s.enterLatch c src r).chan c).backoff = false ∧
      (s.enterLatch c src r).holds src = true ∧ ChangesOnly [.sw, .logs] s (s.enterLatch c src r) := by
  let f : Chan → Chan := fun h => { h with curLatch := true, backoff := false, window := false }
  let u := (s.hardOff c).onChan c f
  have off : ChangesOnly [.sw] s u := ((hardOff_changes c).trans (onChan_changes ..)).mono (by decide)
  have hrun : u.seqRuns = true := (off.seqRuns (by decide)).trans hseq
  have entered : s.enterLatch c src r = (u.raiseAs src false r 0 false).countLatch c :=
    (if_pos hseq).trans (congrArg (State.countLatch · c) (dieRaise_running hrun ..))
  obtain ⟨ups, esc, hchan⟩ := countLatch_self (u.raiseAs src false r 0 false) hc
  rw [(raiseAs_changes ..).chan (by decide), onChan_self hc, hardOff_self hc] at hchan
  rw [entered, hchan]
  exact ⟨rfl, rfl, rfl, rfl, countLatch_holds (raiseAs_holds ..) c,
    ((off.trans (raiseAs_changes ..)).trans (countLatch_changes c)).mono (by decide)⟩

end Sys2Proof.Machine
end

section
/-! PROOFS. Inrush, the current limit, trips and retries: one lemma per clause, and the statement on them. -/

namespace Sys2Proof.Machine

variable {s : State} {c : Nat} {ch : Fin 16}

/-! ### The window and the limit (R276 to R279) -/

theorem livePlugWindow_acts (hc : s.lead ch.val = c) (hrearm : (s.chan c).inrRearm = true) (hout : (s.chan c).out = true)
    (hidle : 1000 ≤ (s.chan c).idleMs) : ∃ t, exec (.livePlugWindow ch) s = .next t ∧
      t.chan c = { s.chan c with window := true, idleMs := 0 } ∧ (∀ j, j ≠ c → t.chan j = s.chan j) ∧
      t = { s with sw := t.sw } := by
  subst hc
  exact ⟨_, congrArg Host.Outcome.next (if_pos (by simp [hrearm, hout, hidle])), onChan_acts (lead_lt ch.isLt) _⟩

theorem inrushWindowClose_acts (hc : s.lead ch.val = c) : ∃ t, exec (.inrushWindowClose ch) s = .next t ∧
    t.chan c = { s.chan c with window := false } ∧ (∀ j, j ≠ c → t.chan j = s.chan j) ∧ t = { s with sw := t.sw } := by
  subst hc
  exact ⟨_, rfl, onChan_acts (lead_lt ch.isLt) _⟩

theorem currentLimitReached_acts (hc : s.lead ch.val = c) (hrev : s.inReverse ch.val = false) :
    ∃ t, exec (.currentLimitReached ch) s = .next t ∧
      t.chan c = { s.chan c with
        limiting := (s.chan c).out
        ilimHeld := if (s.chan c).limiting then (s.chan c).ilimHeld else s.param (P.lswIlim c) } ∧
      (∀ j, j ≠ c → t.chan j = s.chan j) ∧ t = { s with sw := t.sw } := by
  subst hc
  exact ⟨_, congrArg Host.Outcome.next (if_neg (by simp [hrev])), onChan_acts (lead_lt ch.isLt) _⟩

theorem limitTimerReset_acts (hc : s.lead ch.val = c) : ∃ t, exec (.limitTimerReset ch) s = .next t ∧
    t.chan c = { s.chan c with limiting := false } ∧ (∀ j, j ≠ c → t.chan j = s.chan j) ∧ t = { s with sw := t.sw } := by
  subst hc
  exact ⟨_, rfl, onChan_acts (lead_lt ch.isLt) _⟩

/-! ### Trips (R279 to R281) -/

/-- The end of a trip: the instant of a thermal cut that it answered is forgotten (R297). -/
def State.uncut (s : State) (c : Nat) : State := s.onChan c fun h => { h with cutAt := none }

theorem uncut_changes (c : Nat) : ChangesOnly [.sw] s (s.uncut c) := onChan_changes ..

theorem exec_limitTrip (hc : s.lead ch.val = c) (hrev : s.inReverse c = false) (hlimit : (s.chan c).limiting = true)
    (hard : Bool) : exec (.limitTrip ch hard) s = .next ((s.trip c hard).uncut c) := by
  subst hc
  exact congrArg Host.Outcome.next (if_pos (by simp [hrev, hlimit]))

theorem trip_retry (hwindow : (s.chan c).window = true) (hleft : (s.chan c).retries < (s.chan c).inrRetries) (hard : Bool) :
    s.trip c hard = ((s.countTrip c).hardOff c).onChan c fun h => { h with backoff := true } :=
  (if_pos hwindow).trans (if_pos hleft)

theorem trip_exhausted (hwindow : (s.chan c).window = true) (hspent : (s.chan c).inrRetries ≤ (s.chan c).retries)
    (hard : Bool) : s.trip c hard = (s.countTrip c).enterLatch c (Ev.lswRt c) 1 :=
  (if_pos hwindow).trans (if_neg (Nat.not_lt.2 hspent))

theorem trip_latches (hwindow : (s.chan c).window = false) (hard : Bool) :
    s.trip c hard = (s.countTrip c).enterLatch c (Ev.lswOc c) (if hard then 2 else 1) :=
  if_neg (by simp [hwindow])

theorem countTrip_changes_running (hseq : s.seqRuns = true) (c : Nat) : ChangesOnly [.ctr, .hoCount] s (s.countTrip c) := by
  rw [countTrip_running hseq]
  exact .write _ rfl

theorem limitTrip_retries (hc : s.lead ch.val = c) (hseq : s.seqRuns = true) (hrev : s.inReverse c = false)
    (hlimit : (s.chan c).limiting = true) (hwindow : (s.chan c).window = true)
    (hleft : (s.chan c).retries < (s.chan c).inrRetries) (hard : Bool) : ∃ t, exec (.limitTrip ch hard) s = .next t ∧
      (t.chan c).backoff = true ∧ (t.chan c).out = false ∧ (t.chan c).curLatch = (s.chan c).curLatch ∧
      t.ctr = { s.ctr with trips := upd s.ctr.trips c fun n => wrapAdd 32 n 1 } ∧
      t = { s with sw := t.sw, ctr := t.ctr } := by
  have hlt : c < 16 := hc ▸ lead_lt ch.isLt
  have counted := countTrip_changes_running hseq c
  have cut := ((hardOff_changes (s := s.countTrip c) c).trans (onChan_changes c fun h => { h with backoff := true })).trans
    (uncut_changes c)
  refine ⟨_, exec_limitTrip hc hrev hlimit hard, ?_⟩
  rw [trip_retry hwindow hleft]
  have own : ((((s.countTrip c).hardOff c).onChan c fun h => { h with backoff := true }).uncut c).chan c =
      { (s.chan c).latched false with backoff := true, cutAt := none } := by
    rw [State.uncut, onChan_self hlt, onChan_self hlt, hardOff_self hlt, counted.chan (by decide)]
  rw [own]
  refine ⟨rfl, rfl, rfl, ?counter, ((counted.trans cut).mono (by decide)).frame_sw_ctr_silent⟩
  case counter => rw [cut.same .ctr (by decide), countTrip_running hseq]

/-- A trip that enters the current latch: its event is raised, its record and the counter say so. -/
theorem tripLatch_acts (hseq : s.seqRuns = true) (hc : c < 16) (src : Src) (r : Nat) :
    let t := ((s.countTrip c).enterLatch c src r).uncut c
    (t.chan c).curLatch = true ∧ (t.chan c).out = false ∧ (t.chan c).window = false ∧ (t.chan c).backoff = false ∧
      t.holds src = true ∧ t.ctr = { s.ctr with trips := upd s.ctr.trips c fun n => wrapAdd 32 n 1 } ∧
      t = { s.withLogs t with sw := t.sw, ctr := t.ctr } := by
  intro t
  have counted := countTrip_changes_running hseq c
  obtain ⟨hlatch, hout, hwindow, hbackoff, hholds, entered⟩ :=
    enterLatch_acts ((counted.seqRuns (by decide)).trans hseq) hc src r
  have own : t.chan c = { ((s.countTrip c).enterLatch c src r).chan c with cutAt := none } := onChan_self hc _
  have done := entered.trans (uncut_changes c)
  rw [own]
  refine ⟨hlatch, hout, hwindow, hbackoff, hholds, ?counter,
    ((counted.trans done).mono (by decide)).frame_sw_ctr⟩
  case counter => rw [done.same .ctr (by decide), countTrip_running hseq]

theorem limitTrip_latches (hc : s.lead ch.val = c) (hseq : s.seqRuns = true) (hrev : s.inReverse c = false)
    (hlimit : (s.chan c).limiting = true) (hwindow : (s.chan c).window = false) (hard : Bool) :
    ∃ t, exec (.limitTrip ch hard) s = .next t ∧ (t.chan c).curLatch = true ∧ (t.chan c).out = false ∧
      (t.chan c).window = false ∧ (t.chan c).backoff = false ∧ t.holds (Ev.lswOc c) = true ∧
      t.ctr = { s.ctr with trips := upd s.ctr.trips c fun n => wrapAdd 32 n 1 } ∧
      t = { s.withLogs t with sw := t.sw, ctr := t.ctr } := by
  refine ⟨_, exec_limitTrip hc hrev hlimit hard, ?_⟩
  rw [trip_latches hwindow]
  exact tripLatch_acts hseq (hc ▸ lead_lt ch.isLt) ..

theorem limitTrip_exhausts (hc : s.lead ch.val = c) (hseq : s.seqRuns = true) (hrev : s.inReverse c = false)
    (hlimit : (s.chan c).limiting = true) (hwindow : (s.chan c).window = true)
    (hspent : (s.chan c).inrRetries ≤ (s.chan c).retries) (hard : Bool) : ∃ t, exec (.limitTrip ch hard) s = .next t ∧
      (t.chan c).curLatch = true ∧ (t.chan c).out = false ∧ t.holds (Ev.lswRt c) = true := by
  refine ⟨_, exec_limitTrip hc hrev hlimit hard, ?_⟩
  rw [trip_exhausted hwindow hspent]
  obtain ⟨hlatch, hout, -, -, hholds, -, -⟩ := tripLatch_acts hseq (hc ▸ lead_lt ch.isLt) (Ev.lswRt c) 1
  exact ⟨hlatch, hout, hholds⟩

theorem inrushRetry_acts (hc : s.lead ch.val = c) (hback : (s.chan c).backoff = true)
    (hwant : (s.onChan c fun h => { h with backoff := false, retries := h.retries + 1 }).wantOn c = true) :
    ∃ t, exec (.inrushRetry ch) s = .next t ∧ (t.chan c).out = true ∧ (t.chan c).backoff = false ∧
      (t.chan c).retries = (s.chan c).retries + 1 ∧ (t.chan c).window = (s.chan c).window ∧ t = { s with sw := t.sw } := by
  have hlt : c < 16 := hc ▸ lead_lt ch.isLt
  subst hc
  let retry : Chan → Chan := fun h => { h with backoff := false, retries := h.retries + 1 }
  have changed := (onChan_changes (s := s) (s.lead ch.val) retry).trans (latch_changes (s.lead ch.val) true)
  refine ⟨_, congrArg Host.Outcome.next ((if_pos hback).trans (if_pos hwant)), ?_⟩
  rw [latch_self hlt, onChan_self hlt]
  exact ⟨rfl, rfl, rfl, rfl, (changed.mono (by decide)).frame_sw_silent⟩

/-- Settles O26: each command by its lemmas above, a trip by whether the window stands and retries are left. -/
theorem inrushAndTripsAct : Obligations.InrushAndTripsAct := by
  unfold Obligations.InrushAndTripsAct
  intro s ch c hc
  exact ⟨livePlugWindow_acts hc, inrushWindowClose_acts hc, currentLimitReached_acts hc, limitTimerReset_acts hc,
    fun hard hseq hrev hlimit hwindow hleft => limitTrip_retries hc hseq hrev hlimit hwindow hleft hard,
    fun hard hseq hrev hlimit hwindow => limitTrip_latches hc hseq hrev hlimit hwindow hard,
    fun hard hseq hrev hlimit hwindow hspent => limitTrip_exhausts hc hseq hrev hlimit hwindow hspent hard,
    inrushRetry_acts hc⟩

end Sys2Proof.Machine
end

section
/-! PROOFS. Thermal protection, the active clamp and the temperature of a die: one lemma per clause, and the two statements on
them. -/

namespace Sys2Proof.Machine

variable {s t : State} {c : Nat} {ch : Fin 16}

theorem ChangesOnly.holdsC {ps : List StatePart} (h : ChangesOnly ps s t) (hp : .logs ∉ ps) (src : Src) :
    t.holdsC src = s.holdsC src := by
  unfold State.holdsC
  rw [(h.same .logs hp).1]

/-! ### Thermal shutdown (R283) -/

/-- The junction of a channel is read. -/
def State.readTj (s : State) (c : Nat) (x : Int) : State := s.onChan c fun h => { h with tjC := x }

theorem readTj_changes (c : Nat) (x : Int) : ChangesOnly [.sw] s (s.readTj c x) := onChan_changes ..

theorem readTj_tjC (hc : c < 16) (x : Int) : ((s.readTj c x).chan c).tjC = x := congrArg Chan.tjC (onChan_self hc _)

/-- What the reading of a junction leaves of a record. -/
theorem readTj_keeps {α : Type} (g : Chan → α) (hg : ∀ (h : Chan) x, g { h with tjC := x } = g h) (c j : Nat) (x : Int) :
    g ((s.readTj c x).chan j) = g (s.chan j) := onChan_keeps g (fun h => hg h x) c j

/-- Whether a thermal shutdown latches: by LSW_TH_MODE, or by how many went before it in 60 s. -/
def State.thermLatches (s : State) (l : Nat) : Bool :=
  s.isOn (P.lswThMode l) || decide (s.param (P.lswThMaxcyc l) ≤
    ((s.chan l).thermUps.filter fun u => since s.plinth.upMs u < 60000).length)

/-- A junction at 170 °C: the output goes off, the record says whether the channel restarts or latches, and the event is
raised. -/
theorem thermal_trips {x : Int} (hx : 170 ≤ x) (hoff : (s.chan (s.lead c)).thermOff = false)
    (hlatch : (s.chan (s.lead c)).thermLatch = false) (hrev : s.inReverse c = false) : ∃ (f : Chan → Chan) (r : Nat),
      s.thermal c x =
        (((s.readTj c x).hardOff (s.lead c)).onChan (s.lead c) f).dieRaise (Ev.lswTh (s.lead c)) false r false ∧
      ∀ h, (f h).out = h.out ∧ (f h).tjC = h.tjC ∧ (f h).thermLatch = s.thermLatches (s.lead c) ∧
        (f h).thermOff = !(f h).thermLatch := by
  have ups : ((s.readTj c x).chan (s.lead c)).thermUps = (s.chan (s.lead c)).thermUps :=
    readTj_keeps Chan.thermUps (fun _ _ => rfl) ..
  have runs : ¬ (decide (x < 170) || ((s.readTj c x).chan (s.lead c)).thermOff ||
      ((s.readTj c x).chan (s.lead c)).thermLatch || s.inReverse c) = true := by
    rw [readTj_keeps Chan.thermOff fun _ _ => rfl, readTj_keeps Chan.thermLatch fun _ _ => rfl]
    simp [hx, hoff, hlatch, hrev]
  unfold State.thermLatches
  rw [← ups]
  exact ⟨_, _, if_neg runs, fun _ => ⟨rfl, rfl, rfl, rfl⟩⟩

theorem thermalShutdown_acts (hc : s.lead ch.val = c) {x : Int} (hx : 170 ≤ x) (hoff : (s.chan c).thermOff = false)
    (hlatch : (s.chan c).thermLatch = false) (hseq : s.seqRuns = true) (hrev : s.inReverse c = false) :
    ∃ t, exec (.thermalShutdown ch x) s = .next t ∧ (t.chan c).out = false ∧ (t.chan ch.val).tjC = x ∧
      (t.chan c).thermLatch = s.thermLatches c ∧ (t.chan c).thermOff = !(t.chan c).thermLatch ∧
      t.holds (Ev.lswTh c) = true ∧ t = { s.withLogs t with sw := t.sw } := by
  subst hc
  have hlt : s.lead ch.val < 16 := lead_lt ch.isLt
  obtain ⟨f, r, trips, hf⟩ := thermal_trips hx hoff hlatch ((inReverse_lead ..).symm.trans hrev)
  let u := ((s.readTj ch.val x).hardOff (s.lead ch.val)).onChan (s.lead ch.val) f
  have cut : ChangesOnly [.sw] s u :=
    (((readTj_changes ..).trans (hardOff_changes _)).trans (onChan_changes ..)).mono (by decide)
  rw [dieRaise_running ((cut.seqRuns (by decide)).trans hseq)] at trips
  have raised : ChangesOnly [.logs] u (u.raiseAs (Ev.lswTh (s.lead ch.val)) false r 0 false) := raiseAs_changes ..
  refine ⟨_, congrArg Host.Outcome.next trips, ?_⟩
  rw [raised.chan (by decide), raised.chan (by decide)]
  have own : u.chan (s.lead ch.val) = f (((s.readTj ch.val x).chan (s.lead ch.val)).latched false) := by
    rw [← hardOff_self hlt]
    exact onChan_self hlt f
  have junction : (u.chan ch.val).tjC = x :=
    (onChan_keeps Chan.tjC (fun h => (hf h).2.1) ..).trans
      ((latch_keeps Chan.tjC (fun _ => rfl) ..).trans (readTj_tjC ch.isLt x))
  obtain ⟨hout, -, hlatched, hthermOff⟩ := hf (((s.readTj ch.val x).chan (s.lead ch.val)).latched false)
  rw [own]
  exact ⟨hout, junction, hlatched, hthermOff, raiseAs_holds .., (cut.trans raised).frame_sw⟩

/-! ### Thermal restart (R283, R290) -/

/-- An output that its demand asks for is turned on by the die, which opens no window (R290). -/
def State.rejoin (s : State) (c : Nat) : State := if s.wantOn c then s.latch c true else s

theorem rejoin_changes (c : Nat) : ChangesOnly [.sw] s (s.rejoin c) := .thenOnly (latch_changes ..)

/-- What a turn-on by the die leaves of a record. -/
theorem rejoin_keeps {α : Type} (g : Chan → α) (hg : ∀ h : Chan, g (h.latched true) = g h) (c j : Nat) :
    g ((s.rejoin c).chan j) = g (s.chan j) := by
  unfold State.rejoin
  split
  · exact latch_keeps g hg c j
  · rfl

/-- A channel leaves thermal off: its record says so and its event clears. -/
def State.cooled (s : State) (l : Nat) : State := (s.onChan l fun h => { h with thermOff := false }).clearE (Ev.lswTh l)

theorem cooled_changes (l : Nat) : ChangesOnly [.sw, .logs] s (s.cooled l) :=
  (onChan_changes ..).trans (clearE_changes _)

theorem cooled_chan (l j : Nat) : (s.cooled l).chan j = (s.onChan l fun h => { h with thermOff := false }).chan j :=
  (clearE_changes _).chan (by decide) j

theorem exec_thermalRestart {x : Int} (hcool : (s.readTj ch.val x).cool (s.lead ch.val) = true)
    (hoff : (s.chan (s.lead ch.val)).thermOff = true) : exec (.thermalRestart ch x) s =
      .next (((s.readTj ch.val x).cooled (s.lead ch.val)).rejoin (s.lead ch.val)) :=
  congrArg Host.Outcome.next (if_pos ⟨hcool, hoff⟩)

/-- What a thermal restart leaves of a record once the junction is read. -/
theorem rejoin_cooled_keeps {α : Type} (g : Chan → α) (hlatch : ∀ h : Chan, g (h.latched true) = g h)
    (htherm : ∀ h : Chan, g { h with thermOff := false } = g h) (l j : Nat) :
    g (((s.cooled l).rejoin l).chan j) = g (s.chan j) :=
  (rejoin_keeps g hlatch l j).trans ((congrArg g (cooled_chan l j)).trans (onChan_keeps g htherm l j))

theorem rejoin_cooled_thermOff (hc : c < 16) : (((s.cooled c).rejoin c).chan c).thermOff = false := by
  rw [rejoin_keeps Chan.thermOff fun _ => rfl, cooled_chan, onChan_self hc]

theorem thermalRestart_acts (hc : s.lead ch.val = c) {x : Int} (hcool : (s.readTj ch.val x).cool c = true)
    (hoff : (s.chan c).thermOff = true) : ∃ t, exec (.thermalRestart ch x) s = .next t ∧ (t.chan c).thermOff = false ∧
      (t.chan ch.val).tjC = x ∧ (t.chan c).thermLatch = (s.chan c).thermLatch ∧ (t.chan c).window = (s.chan c).window ∧
      t.holdsC (Ev.lswTh c) = false ∧ t = { s.withLogs t with sw := t.sw } := by
  subst hc
  have changed := ((readTj_changes (s := s) ch.val x).trans (cooled_changes (s.lead ch.val))).trans
    (rejoin_changes (s.lead ch.val))
  refine ⟨_, exec_thermalRestart hcool hoff, rejoin_cooled_thermOff (lead_lt ch.isLt), ?junction, ?latch, ?window, ?clears,
    (changed.mono (by decide)).frame_sw⟩
  case junction => exact (rejoin_cooled_keeps Chan.tjC (fun _ => rfl) (fun _ => rfl) ..).trans (readTj_tjC ch.isLt x)
  case latch =>
    exact (rejoin_cooled_keeps Chan.thermLatch (fun _ => rfl) (fun _ => rfl) ..).trans
      (readTj_keeps Chan.thermLatch (fun _ _ => rfl) ..)
  case window =>
    exact (rejoin_cooled_keeps Chan.window (fun _ => rfl) (fun _ => rfl) ..).trans
      (readTj_keeps Chan.window (fun _ _ => rfl) ..)
  case clears => exact ((rejoin_changes _).holdsC (by decide) _).trans (clearE_holdsC ..)

/-! ### The temperature of a die (R284) -/

/-- A die's sensor is read. -/
def State.readDie (s : State) (d : Nat) (x : Int) : State := s.onDie d fun y => { y with tempC := x }

/-- WARN TEMP of a die follows a reading: raised at 140 °C, cleared below 130 °C, as it was between them. -/
def State.warnTemp (s : State) (d : Nat) (x : Int) : State :=
  if 140 ≤ x then s.raiseOnce (Ev.dieWarn d) 1 0 else if x < 130 then s.clearR (Ev.dieWarn d) 1 else s

theorem exec_dieTempWarn (d : Fin 4) (x : Int) :
    exec (.dieTempWarn d x) s = .next ((s.readDie d.val x).warnTemp d.val x) := rfl

theorem warnTemp_hot {x : Int} (hx : 140 ≤ x) (d : Nat) : s.warnTemp d x = s.raiseOnce (Ev.dieWarn d) 1 0 := if_pos hx

theorem warnTemp_cold {x : Int} (hx : x < 130) (d : Nat) : s.warnTemp d x = s.clearR (Ev.dieWarn d) 1 :=
  (if_neg (by omega)).trans (if_pos hx)

theorem warnTemp_between {x : Int} (hlo : 130 ≤ x) (hhi : x < 140) (d : Nat) : s.warnTemp d x = s :=
  (if_neg (by omega)).trans (if_neg (by omega))

theorem warnTemp_changes (d : Nat) (x : Int) : ChangesOnly [.logs] s (s.warnTemp d x) :=
  .mono (.ite (raiseOnce_changes ..) (.thenOnly (clearR_changes ..))) (by decide)

theorem dieTempWarn_acts (s : State) (d : Fin 4) (x : Int) : ∃ t, exec (.dieTempWarn d x) s = .next t ∧
    t.sw = { s.sw with die := upd s.sw.die d.val fun y => { y with tempC := x } } ∧
    (140 ≤ x → t.holds (Ev.dieWarn d.val) = true) ∧ t = { s.withLogs t with sw := t.sw } := by
  have read : ChangesOnly [.sw] s (s.readDie d.val x) := onDie_changes ..
  have warned := warnTemp_changes (s := s.readDie d.val x) d.val x
  refine ⟨_, exec_dieTempWarn d x, warned.same .sw (by decide), fun hx => ?_, (read.trans warned).frame_sw⟩
  rw [warnTemp_hot hx]
  exact raiseOnce_holds ..

/-- After a raise the name holds with the reason it was raised with. -/
theorem exists_reason_raiseOnce (s : State) (src : Src) (r d : Nat) :
    ∃ h ∈ (s.raiseOnce src r d).events.held, h.src = src ∧ h.reason = r := by
  unfold State.raiseOnce
  split
  case isTrue hany =>
    obtain ⟨h, hmem, heq⟩ := List.any_eq_true.1 hany
    simp only [Bool.and_eq_true, beq_iff_eq] at heq
    exact ⟨h, hmem, heq.1⟩
  case isFalse => exact ⟨_, mem_held_raiseC.2 (.inr rfl), rfl, rfl⟩

/-- WARN TEMP touches no other name. -/
theorem held_warnTemp {d : Nat} {x : Int} {h : Held} (hmem : h ∈ s.events.held) (hsrc : h.src ≠ Ev.dieWarn d) :
    h ∈ (s.warnTemp d x).events.held := by
  unfold State.warnTemp
  split
  · exact held_subset_raiseOnce _ _ _ _ hmem
  split
  · exact mem_held_clearR.2 ⟨hmem, .inl hsrc⟩
  · exact hmem

/-- Settles O52: each range of the reading by what `warnTemp` does in it. -/
theorem dieTemperatureWarns : Obligations.DieTemperatureWarns := by
  unfold Obligations.DieTemperatureWarns
  intro s d x
  refine ⟨_, exec_dieTempWarn d x, fun hx => ?hot, fun hx h hmem hsrc hpulse => ?cold, fun hlo hhi => ?between, ?outputs,
    fun h hmem hsrc => held_warnTemp (s := s.readDie d.val x) hmem hsrc⟩
  case hot =>
    rw [warnTemp_hot hx]
    exact exists_reason_raiseOnce ..
  case cold =>
    rw [warnTemp_cold hx] at hmem
    obtain ⟨-, hother⟩ := mem_held_clearR.1 hmem
    simpa [hsrc, hpulse] using hother
  case between =>
    rw [warnTemp_between hlo hhi]
    rfl
  case outputs => rw [(warnTemp_changes ..).same .sw (by decide)]; rfl

/-! ### The active clamp (R287) -/

/-- A clamp event of a channel is counted. -/
def State.countClamp (s : State) (c : Nat) : State :=
  { s with ctr := { s.ctr with clamps := upd s.ctr.clamps c fun n => wrapAdd 32 n 1 } }

theorem exec_clampEvent (hc : s.lead ch.val = c) (hrev : s.inReverse c = false) (ma us mv : Nat) :
    exec (.clampEvent ch ma us mv) s = .next
      (if clampLimitMj ma * 2000000000 < mv * ma * us then (s.countClamp c).dieRaise (Ev.lswRt c) true 3 false
        else s.countClamp c) := by
  subst hc
  exact congrArg Host.Outcome.next (if_neg (by simp [hrev]))

theorem clampEvent_raises (hc : s.lead ch.val = c) {ma us mv : Nat} (hseq : s.seqRuns = true)
    (hrev : s.inReverse c = false) (hover : clampLimitMj ma * 2000000000 < mv * ma * us) :
    ∃ t, exec (.clampEvent ch ma us mv) s = .next t ∧ t.holds (Ev.lswRt c) = true ∧ t = { s.withLogs t with
      ctr := { s.ctr with clamps := upd s.ctr.clamps c fun n => wrapAdd 32 n 1 } } := by
  have raised := dieRaise_running (s := s.countClamp c) hseq (Ev.lswRt c) true 3 false
  exact ⟨_, (exec_clampEvent hc hrev ma us mv).trans (congrArg _ ((if_pos hover).trans raised)), raiseAs_holds ..,
    raiseAs_logs (s.countClamp c) ..⟩

theorem clampEvent_counts (hc : s.lead ch.val = c) {ma us mv : Nat} (hrev : s.inReverse c = false)
    (hwithin : mv * ma * us ≤ clampLimitMj ma * 2000000000) : exec (.clampEvent ch ma us mv) s = .next
      { s with ctr := { s.ctr with clamps := upd s.ctr.clamps c fun n => wrapAdd 32 n 1 } } :=
  (exec_clampEvent hc hrev ma us mv).trans (congrArg _ (if_neg (Nat.not_lt.2 hwithin)))

theorem exec_noFreewheel (hc : s.lead ch.val = c) {d : Nat} (hrev : s.inReverse c = false)
    (hdemand : (s.chan c).demand = .pwm d) (hout : (s.chan c).out = true) : exec (.noFreewheel ch) s = .next
      (if s.isOn (P.lswClampGuard c) then s.enterLatch c (Ev.lswRt c) 4 else s.dieRaise (Ev.lswRt c) false 4 false) := by
  subst hc
  show execNoFreewheel ch s = _
  unfold execNoFreewheel
  dsimp only
  rw [hdemand]
  exact congrArg Host.Outcome.next (if_neg (by simp [hout, hrev]))

theorem noFreewheel_raises (hc : s.lead ch.val = c) {d : Nat} (hseq : s.seqRuns = true) (hrev : s.inReverse c = false)
    (hdemand : (s.chan c).demand = .pwm d) (hout : (s.chan c).out = true) (hguard : s.isOn (P.lswClampGuard c) = false) :
    ∃ t, exec (.noFreewheel ch) s = .next t ∧ t.holds (Ev.lswRt c) = true ∧ t = s.withLogs t := by
  have raised := dieRaise_running hseq (Ev.lswRt c) false 4 false
  exact ⟨_, (exec_noFreewheel hc hrev hdemand hout).trans (congrArg _ ((if_neg (by simp [hguard])).trans raised)),
    raiseAs_holds .., raiseAs_logs ..⟩

theorem noFreewheel_latches (hc : s.lead ch.val = c) {d : Nat} (hseq : s.seqRuns = true) (hrev : s.inReverse c = false)
    (hdemand : (s.chan c).demand = .pwm d) (hout : (s.chan c).out = true) (hguard : s.isOn (P.lswClampGuard c) = true) :
    ∃ t, exec (.noFreewheel ch) s = .next t ∧ (t.chan c).curLatch = true ∧ (t.chan c).out = false ∧
      t.holds (Ev.lswRt c) = true ∧ t = { s.withLogs t with sw := t.sw } := by
  obtain ⟨hlatch, hoff, -, -, hholds, entered⟩ := enterLatch_acts hseq (hc ▸ lead_lt ch.isLt) (Ev.lswRt c) 4
  exact ⟨_, (exec_noFreewheel hc hrev hdemand hout).trans (congrArg _ (if_pos hguard)), hlatch, hoff, hholds,
    entered.frame_sw⟩

/-- Settles O27: each command by its lemmas above. -/
theorem thermalAndClampAct : Obligations.ThermalAndClampAct := by
  unfold Obligations.ThermalAndClampAct
  intro s ch c hc
  exact ⟨fun _ hx hoff hlatch hseq hrev => thermalShutdown_acts hc hx hoff hlatch hseq hrev,
    fun _ hcool hoff => thermalRestart_acts hc hcool hoff,
    dieTempWarn_acts s,
    fun _ _ _ hseq hrev hover => clampEvent_raises hc hseq hrev hover,
    fun _ _ _ hrev hwithin => clampEvent_counts hc hrev hwithin,
    fun _ hseq hrev hdemand hout hguard => noFreewheel_raises hc hseq hrev hdemand hout hguard,
    fun _ hseq hrev hdemand hout hguard => noFreewheel_latches hc hseq hrev hdemand hout hguard⟩

end Sys2Proof.Machine
end

section
/-! PROOFS. Operations that only take outputs and latches away from channels, and what they come to over the channels of a
die. -/

namespace Sys2Proof.Machine

variable {s t u : State} {c : Nat}

/-! ### Losing outputs and latches -/

/-- A record that has gained neither an output nor a latch of its die, and lost no inhibit of its supply or heartbeat. -/
structure Chan.Loses (h k : Chan) : Prop where
  out : h.out = false → k.out = false
  curLatch : h.curLatch = false → k.curLatch = false
  thermOff : h.thermOff = false → k.thermOff = false
  thermLatch : h.thermLatch = false → k.thermLatch = false
  bus : h.bus = true → k.bus = true
  orphan : h.orphan = true → k.orphan = true
  escalated : k.escalated = h.escalated

theorem Chan.Loses.refl (h : Chan) : h.Loses h := ⟨id, id, id, id, id, id, rfl⟩

theorem Chan.Loses.trans {h k l : Chan} (a : h.Loses k) (b : k.Loses l) : h.Loses l where
  out := b.out ∘ a.out
  curLatch := b.curLatch ∘ a.curLatch
  thermOff := b.thermOff ∘ a.thermOff
  thermLatch := b.thermLatch ∘ a.thermLatch
  bus := b.bus ∘ a.bus
  orphan := b.orphan ∘ a.orphan
  escalated := b.escalated.trans a.escalated

theorem Chan.latched_loses (h : Chan) : h.Loses (h.latched false) :=
  { Chan.Loses.refl h with out := fun _ => rfl }

/-- Beside the logs `t` differs from `s` in the channels alone, none of which has gained an output or a latch. -/
structure LosesOnly (s t : State) : Prop where
  changes : ChangesOnly [.sw, .logs] s t
  die : t.sw.die = s.sw.die
  chan : ∀ j, (s.chan j).Loses (t.chan j)

namespace LosesOnly

theorem refl (s : State) : LosesOnly s s := ⟨.refl s, rfl, fun _ => .refl _⟩

theorem trans (h : LosesOnly s t) (k : LosesOnly t u) : LosesOnly s u where
  changes := (h.changes.trans k.changes).mono (by decide)
  die := k.die.trans h.die
  chan j := (h.chan j).trans (k.chan j)

theorem foldl {α : Type} {f : State → α → State} (hf : ∀ u x, LosesOnly u (f u x)) (l : List α) (s : State) :
    LosesOnly s (l.foldl f s) :=
  List.foldlRecOn l f (.refl s) fun u hu x _ => hu.trans (hf u x)

theorem of_logs (h : ChangesOnly [.logs] s t) : LosesOnly s t where
  changes := h.mono (by decide)
  die := by rw [h.same .sw (by decide)]
  chan j := by
    rw [h.chan (by decide)]
    exact .refl _

theorem thenOnly {p : Prop} [Decidable p] (h : LosesOnly s t) : LosesOnly s (if p then t else s) := by
  split
  · exact h
  · exact .refl s

theorem elseOnly {p : Prop} [Decidable p] (h : LosesOnly s t) : LosesOnly s (if p then s else t) := by
  split
  · exact .refl s
  · exact h

end LosesOnly

/-- A fold that goes over a channel: what it does to that one comes between operations that only lose. -/
theorem foldl_loses_at {α : Type} {f : State → α → State} (hf : ∀ u x, LosesOnly u (f u x)) {l : List α} {x : α}
    (hx : x ∈ l) (s : State) : ∃ u, LosesOnly s u ∧ LosesOnly (f u x) (l.foldl f s) := by
  obtain ⟨before, after, rfl⟩ := List.append_of_mem hx
  rw [List.foldl_append, List.foldl_cons]
  exact ⟨_, .foldl hf before s, .foldl hf after _⟩

/-! ### The operations that lose -/

theorem onChan_loses (c : Nat) {f : Chan → Chan} (hf : ∀ h, Chan.Loses h (f h)) : LosesOnly s (s.onChan c f) where
  changes := (onChan_changes c f).mono (by decide)
  die := rfl
  chan j := by
    rw [onChan_chan]
    split
    · exact hf _
    · exact .refl _

theorem latch_off_loses (c : Nat) : LosesOnly s (s.latch c false) where
  changes := (latch_changes c false).mono (by decide)
  die := latch_die ..
  chan j := by
    rw [latch_chan]
    split
    · exact Chan.latched_loses _
    · exact .refl _

theorem hardOff_loses (c : Nat) : LosesOnly s (s.hardOff c) := latch_off_loses _

theorem cancelInrush_loses (c : Nat) : LosesOnly s (s.cancelInrush c) := onChan_loses c fun h => { Chan.Loses.refl h with }

theorem unlatch_loses (c : Nat) : LosesOnly s (s.onChan c fun h => { h with curLatch := false }) :=
  onChan_loses c fun h => { Chan.Loses.refl h with curLatch := fun _ => rfl }

theorem clearLatch_loses (c : Nat) : LosesOnly s (s.clearLatch c) := by
  unfold State.clearLatch
  split
  · exact ((unlatch_loses c).trans (.of_logs (clearE_changes _))).trans (.of_logs (clearIf_changes ..))
  · exact .elseOnly (.of_logs (clearR_changes ..))

/-- A latch that is not escalated is gone once it is cleared (R281). -/
theorem clearLatch_curLatch (hc : c < 16) (hesc : (s.chan c).escalated = false) :
    ((s.clearLatch c).chan c).curLatch = false := by
  unfold State.clearLatch
  by_cases hlatch : (s.chan c).curLatch = true
  · rw [if_pos (by simp [hlatch, hesc]), (clearIf_changes ..).chan (by decide), (clearE_changes _).chan (by decide),
      onChan_self hc]
  · rw [if_neg (by simp [hlatch]), if_neg hlatch, (clearR_changes ..).chan (by decide)]
    exact Bool.eq_false_iff.2 hlatch

end Sys2Proof.Machine
end

section
/-! PROOFS. Heartbeats, fences, the self-test, the die's current limit and its supply: one lemma per clause, and the statement
on them. -/

namespace Sys2Proof.Machine

variable {s t u : State} {c j : Nat} {d : Fin 4}

theorem dieChan_lt (d : Fin 4) (hj : j < 4) : 4 * d.val + j < 16 := by omega

/-! ### The heartbeat is lost (R291) -/

/-- Whether a die's heartbeat is absent is written. -/
def State.markHb (s : State) (d : Nat) (b : Bool) : State := s.onDie d fun x => { x with hbAbs := b }

theorem markHb_changes (d : Nat) (b : Bool) : ChangesOnly [.sw] s (s.markHb d b) := onDie_changes ..

theorem markHb_die (d : Fin 4) (b : Bool) : ((s.markHb d.val b).sw.die[d]).hbAbs = b := congrArg Die.hbAbs (onDie_self d _)

theorem markHb_chan (d : Nat) (b : Bool) (j : Nat) : (s.markHb d b).chan j = s.chan j := onDie_chan ..

/-- A channel is orphaned. -/
def State.setOrphan (s : State) (c : Nat) : State := s.onChan c fun h => { h with orphan := true }

theorem setOrphan_loses (c : Nat) : LosesOnly s (s.setOrphan c) :=
  onChan_loses c fun h => { Chan.Loses.refl h with orphan := fun _ => rfl }

/-- A channel without a heartbeat turns off where LSW_ORPHAN says so. -/
def State.orphanOff (s : State) (c : Nat) : State :=
  if s.isOn (P.lswOrphan (s.lead c)) && decide (c < s.chans) then (s.hardOff c).setOrphan (s.lead c) else s

theorem exec_heartbeatLoss (d : Fin 4) :
    exec (.heartbeatLoss d) s = .next ((dieChans d.val).foldl State.orphanOff (s.markHb d.val true)) := by
  unfold dieChans
  rw [List.foldl_map]
  rfl

theorem orphanOff_changes (c : Nat) : ChangesOnly [.sw] s (s.orphanOff c) :=
  .thenOnly (((hardOff_changes c).trans (onChan_changes ..)).mono (by decide))

theorem orphanOff_loses (c : Nat) : LosesOnly s (s.orphanOff c) :=
  .thenOnly ((hardOff_loses c).trans (setOrphan_loses _))

theorem orphanOff_acts (hc : c < 16) (hhere : c < s.chans) (horphan : s.isOn (P.lswOrphan (s.lead c)) = true) :
    ((s.orphanOff c).chan c).out = false ∧ ((s.orphanOff c).chan (s.lead c)).orphan = true := by
  unfold State.orphanOff
  rw [if_pos (by simp [hhere, horphan])]
  have off : ((s.hardOff c).chan c).out = false := congrArg Chan.out (hardOff_self hc)
  exact ⟨((setOrphan_loses _).chan c).out off,
    congrArg Chan.orphan (onChan_self (lead_lt hc) _)⟩

/-- Which channels lead rests on the parameters. -/
theorem ChangesOnly.lead {ps : List StatePart} (h : ChangesOnly ps s t) (hc : .config ∉ ps) (hi : .ident ∉ ps) (c : Nat) :
    t.lead c = s.lead c := by
  unfold State.lead State.paired
  rw [h.isOn hc hi]

theorem ChangesOnly.chans {ps : List StatePart} (h : ChangesOnly ps s t) (hi : .ident ∉ ps) : t.chans = s.chans := by
  unfold State.chans
  rw [h.same .ident hi]

theorem heartbeatLoss_acts (s : State) (d : Fin 4) : ∃ t, exec (.heartbeatLoss d) s = .next t ∧
    (t.sw.die[d]).hbAbs = true ∧
    (∀ j, j < 4 → 4 * d.val + j < s.chans → s.isOn (P.lswOrphan (s.lead (4 * d.val + j))) = true →
      (t.chan (4 * d.val + j)).out = false ∧ (t.chan (s.lead (4 * d.val + j))).orphan = true) ∧
    t = { s with sw := t.sw } := by
  have lost := LosesOnly.foldl (f := State.orphanOff) (fun _ _ => orphanOff_loses _) (dieChans d.val) (s.markHb d.val true)
  have changed := (markHb_changes (s := s) d.val true).trans
    (.foldl (f := State.orphanOff) (fun _ _ => orphanOff_changes _) (dieChans d.val) (s.markHb d.val true))
  refine ⟨_, exec_heartbeatLoss d, ?absent, fun j hj hhere horphan => ?off, (changed.mono (by decide)).frame_sw_silent⟩
  case absent =>
    rw [lost.die]
    exact markHb_die d true
  case off =>
    obtain ⟨u, before, after⟩ := foldl_loses_at (f := State.orphanOff) (fun _ _ => orphanOff_loses _) (mem_dieChans hj)
      (s.markHb d.val true)
    have upTo : ChangesOnly [.sw, .logs] s u := ((markHb_changes ..).trans before.changes).mono (by decide)
    rw [← upTo.chans (by decide)] at hhere
    rw [← upTo.lead (by decide) (by decide), ← upTo.isOn (by decide) (by decide)] at horphan
    rw [← upTo.lead (by decide) (by decide)]
    obtain ⟨hout, hset⟩ := orphanOff_acts (dieChan_lt d hj) hhere horphan
    exact ⟨(after.chan _).out hout, (after.chan _).orphan hset⟩

/-! ### The heartbeat returns (R291, R247) -/

/-- The dies and the orphaned channels are the same in two states. -/
structure SameHeartbeats (s t : State) : Prop where
  die : t.sw.die = s.sw.die
  orphan : ∀ j, (t.chan j).orphan = (s.chan j).orphan

theorem SameHeartbeats.refl (s : State) : SameHeartbeats s s := ⟨rfl, fun _ => rfl⟩

theorem SameHeartbeats.trans (h : SameHeartbeats s t) (k : SameHeartbeats t u) : SameHeartbeats s u :=
  ⟨k.die.trans h.die, fun j => (k.orphan j).trans (h.orphan j)⟩

theorem latch_heartbeats (c : Nat) (b : Bool) : SameHeartbeats s (s.latch c b) :=
  ⟨latch_die .., fun j => latch_keeps Chan.orphan (fun _ => rfl) c j⟩

theorem openWindow_heartbeats (c : Nat) : SameHeartbeats s (s.openWindow c) := by
  refine ⟨rfl, fun j => ?_⟩
  unfold State.openWindow
  refine onChan_keeps Chan.orphan (fun h => ?_) _ j
  dsimp only
  split
  · rfl
  · rfl

theorem refresh_heartbeats (c : Nat) (fresh : Bool) : SameHeartbeats s (s.refresh c fresh) := by
  unfold State.refresh
  dsimp only
  split
  · exact .refl s
  split
  · exact ⟨rfl, fun _ => rfl⟩
  split
  · exact (latch_heartbeats ..).trans (openWindow_heartbeats _)
  · exact latch_heartbeats ..

theorem startStagger_heartbeats (cs : List Nat) : SameHeartbeats s (s.startStagger cs) := by
  unfold State.startStagger
  split
  · exact List.foldlRecOn (motive := SameHeartbeats s) _ _ (.refl s) fun u hu c _ => hu.trans (refresh_heartbeats c true)
  split
  · refine SameHeartbeats.trans ?_ (refresh_heartbeats ..)
    exact ⟨rfl, fun _ => rfl⟩
  · exact ⟨rfl, fun _ => rfl⟩

theorem startStagger_changes (cs : List Nat) : ChangesOnly [.sw] s (s.startStagger cs) := by
  unfold State.startStagger
  split
  · exact .foldl (fun _ _ => refresh_changes ..) _ _
  split
  · exact ((ChangesOnly.write [.sw] (by rfl)).trans (refresh_changes ..)).mono (by decide)
  · exact .write _ rfl

/-- The orphaned channels of a die. -/
def State.orphans (s : State) (d : Nat) : List Nat := (dieChans d).filter fun c => (s.chan c).orphan

/-- LSW_RT ORPHAN is raised for channels. -/
def State.raiseOrphans (s : State) (cs : List Nat) : State :=
  cs.foldl (fun (s : State) c => s.raiseC (Ev.lswRt c) 5 0) s

/-- A channel is orphaned no more, and its name clears. -/
def State.adopt (s : State) (c : Nat) : State := (s.onChan c fun h => { h with orphan := false }).clearR (Ev.lswRt c) 5

theorem raiseOrphans_changes (cs : List Nat) : ChangesOnly [.logs] s (s.raiseOrphans cs) :=
  .foldl (fun _ _ => raiseC_changes ..) cs s

theorem adopt_changes (c : Nat) : ChangesOnly [.sw, .logs] s (s.adopt c) := (onChan_changes ..).trans (clearR_changes ..)

theorem exec_heartbeatReturn (d : Fin 4) : ∃ on, exec (.heartbeatReturn d) s = .next
    (((s.orphans d.val).foldl State.adopt ((s.markHb d.val false).raiseOrphans (s.orphans d.val))).startStagger on) :=
  ⟨_, rfl⟩

theorem adopt_orphan (hc : c < 16) (j : Nat) : ((s.adopt c).chan j).orphan = ((s.chan j).orphan && decide (j ≠ c)) := by
  unfold State.adopt
  rw [(clearR_changes ..).chan (by decide), onChan_chan]
  by_cases hj : j = c
  · simp [hj, hc]
  · simp [hj]

/-- Adopting channels takes them out of the orphaned ones. -/
theorem adopts_orphan {cs : List Nat} (hcs : ∀ c ∈ cs, c < 16) (s : State) (j : Nat) :
    ((cs.foldl State.adopt s).chan j).orphan = ((s.chan j).orphan && decide (j ∉ cs)) := by
  induction cs generalizing s with
  | nil => simp
  | cons c cs ih =>
    rw [List.foldl_cons, ih fun x hx => hcs x (List.mem_cons_of_mem c hx), adopt_orphan (hcs c List.mem_cons_self)]
    simp [Bool.and_assoc]

theorem adopts_die (cs : List Nat) (s : State) : (cs.foldl State.adopt s).sw.die = s.sw.die :=
  List.foldlRecOn (motive := fun u : State => u.sw.die = s.sw.die) _ _ rfl fun _ hu _ _ => hu

theorem orphans_lt {d : Fin 4} (h : c ∈ s.orphans d.val) : c < 16 := by
  obtain ⟨j, hj, rfl⟩ := List.mem_map.1 (List.mem_filter.1 h).1
  exact dieChan_lt d (List.mem_range.1 hj)

theorem heartbeatReturn_acts (s : State) (d : Fin 4) : ∃ t, exec (.heartbeatReturn d) s = .next t ∧
    (t.sw.die[d]).hbAbs = false ∧ (∀ j, j < 4 → (t.chan (4 * d.val + j)).orphan = false) ∧
    t = { s.withLogs t with sw := t.sw } := by
  obtain ⟨on, returned⟩ := exec_heartbeatReturn (s := s) d
  have marked := markHb_changes (s := s) d.val false
  have raised := raiseOrphans_changes (s := s.markHb d.val false) (s.orphans d.val)
  have adopted : ChangesOnly [.sw, .logs] _ _ := .foldl (f := State.adopt) (fun _ _ => adopt_changes _) (s.orphans d.val)
    ((s.markHb d.val false).raiseOrphans (s.orphans d.val))
  have started := startStagger_heartbeats (s := (s.orphans d.val).foldl State.adopt
    ((s.markHb d.val false).raiseOrphans (s.orphans d.val))) on
  have changed := ((marked.trans raised).trans adopted).trans (startStagger_changes on)
  refine ⟨_, returned, ?present, fun j hj => ?none, (changed.mono (by decide)).frame_sw⟩
  case present =>
    rw [started.die, adopts_die, raised.same .sw (by decide)]
    exact markHb_die d false
  case none =>
    rw [started.orphan, adopts_orphan fun c hc => orphans_lt hc, raised.chan (by decide), markHb_chan]
    simp [State.orphans, mem_dieChans hj]

/-! ### Fences (R292) -/

/-- A die that is not absent is one that the variant has (R15). -/
theorem variant_has_die {d : Nat} (h : s.fence d ≠ some .absent) : (s.ident.qb && decide (2 ≤ d)) = false :=
  Bool.eq_false_iff.2 fun hlacks => h (if_pos hlacks)

/-- The fence that the counter record holds for a die that the variant has. -/
theorem fence_of_record {x : Option FenceReason} (hhas : (s.ident.qb && decide (2 ≤ d.val)) = false)
    (hident : t.ident = s.ident) (hfences : t.ctr.fences = upd s.ctr.fences d.val fun _ => x) : t.fence d.val = x := by
  unfold State.fence
  rw [hident, hhas, if_neg Bool.false_ne_true, hfences, getD_upd, if_pos ⟨rfl, d.isLt⟩]

/-- The fences of a die since manufacture, with one more. -/
def State.nextFence (s : State) (d : Nat) : Nat := satAdd 8 (s.ctr.dieFences.toList.getD d 0) 1

/-- The reason that a new fence of a die takes: from the third on it is REPEAT (Table 9.4). -/
def State.fenceReason (s : State) (d : Nat) (why : FenceReason) : FenceReason := if 3 ≤ s.nextFence d then .repeated else why

/-- A fence enters the counter record. -/
def State.recordFence (s : State) (d : Nat) (why : FenceReason) : State :=
  { s with ctr := { s.ctr with
      fences := upd s.ctr.fences d fun _ => some (s.fenceReason d why)
      dieFences := upd s.ctr.dieFences d fun _ => s.nextFence d } }

theorem recordFence_changes (d : Nat) (why : FenceReason) : ChangesOnly [.ctr, .hoCount] s (s.recordFence d why) :=
  .write _ rfl

theorem fenceDie_eq {d : Nat} {why : FenceReason} (hnone : s.fence d = none) (hpresent : why ≠ .absent)
    (hfirst : why ≠ .repeated) : s.fenceDie d why =
      ((dieChans d).foldl State.hardOff (s.recordFence d why)).raisePinC (Ev.dieFence d)
        (fenceCode (s.fenceReason d why)) := by
  have unfenced : ¬ ((s.fence d).isSome || why = .absent || why = .repeated) = true := by simp [hnone, hpresent, hfirst]
  unfold dieChans
  rw [List.foldl_map]
  exact if_neg unfenced

/-- A fence that takes effect: its reason, its count, the outputs that it turns off, its event. -/
theorem fenceDie_acts (d : Fin 4) {why : FenceReason} (hnone : s.fence d.val = none) (hpresent : why ≠ .absent)
    (hfirst : why ≠ .repeated) : (s.fenceDie d.val why).fence d.val = some (s.fenceReason d.val why) ∧
      (s.fenceDie d.val why).ctr.dieFences = upd s.ctr.dieFences d.val (fun _ => s.nextFence d.val) ∧
      (∀ j, j < 4 → ((s.fenceDie d.val why).chan (4 * d.val + j)).out = false) ∧
      (s.fenceDie d.val why).holds (Ev.dieFence d.val) = true ∧
      ChangesOnly [.sw, .ctr, .hoCount, .logs] s (s.fenceDie d.val why) := by
  have recorded := recordFence_changes (s := s) d.val why
  have off := LosesOnly.foldl (f := State.hardOff) (fun _ _ => hardOff_loses _) (dieChans d.val) (s.recordFence d.val why)
  rw [fenceDie_eq hnone hpresent hfirst]
  have raised := raiseAs_changes (s := (dieChans d.val).foldl State.hardOff (s.recordFence d.val why)) (Ev.dieFence d.val)
    false (fenceCode (s.fenceReason d.val why)) 0 true
  have rest := off.changes.trans raised
  have hctr := rest.same .ctr (by decide)
  refine ⟨fence_of_record (variant_has_die (by simp [hnone])) ?ident (congrArg Counters.fences hctr),
    congrArg Counters.dieFences hctr, fun j hj => ?off, raisePinC_holds .., (recorded.trans rest).mono (by decide)⟩
  case ident => exact (recorded.trans rest).same .ident (by decide)
  case off =>
    obtain ⟨u, -, after⟩ := foldl_loses_at (f := State.hardOff) (fun _ _ => hardOff_loses _) (mem_dieChans hj)
      (s.recordFence d.val why)
    have hout : ((u.hardOff (4 * d.val + j)).chan (4 * d.val + j)).out = false :=
      congrArg Chan.out (hardOff_self (dieChan_lt d hj))
    rw [State.raisePinC, raised.chan (by decide)]
    exact (after.chan _).out hout

theorem nextFence_eq (d : Fin 4) : s.nextFence d.val = satAdd 8 (s.ctr.dieFences[d]) 1 := by
  unfold State.nextFence
  rw [getD_toList]

theorem dieFence_acts (s : State) (d : Fin 4) (why : FenceReason) (hnone : s.fence d.val = none) (hpresent : why ≠ .absent)
    (hfirst : why ≠ .repeated) : ∃ t, exec (.dieFence d why) s = .next t ∧ (t.fence d.val).isSome = true ∧
      t.ctr.dieFences = upd s.ctr.dieFences d.val (fun _ => satAdd 8 (s.ctr.dieFences[d]) 1) ∧
      (∀ j, j < 4 → (t.chan (4 * d.val + j)).out = false) ∧ t.holds (Ev.dieFence d.val) = true ∧
      t = { s.withLogs t with sw := t.sw, ctr := t.ctr } := by
  obtain ⟨hfence, hcount, hout, hholds, changed⟩ := fenceDie_acts d hnone hpresent hfirst
  rw [nextFence_eq] at hcount
  exact ⟨_, rfl, by rw [hfence]; rfl, hcount, hout, hholds, changed.frame_sw_ctr⟩

/-! ### The self-test (R293) -/

theorem dieSelfTest_fails (s : State) (d : Fin 4) (hnone : s.fence d.val = none)
    (hfew : satAdd 8 (s.ctr.dieFences[d]) 1 < 3) : ∃ t, exec (.dieSelfTest d false) s = .next t ∧
      t.fence d.val = some .selftest ∧ (∀ j, j < 4 → (t.chan (4 * d.val + j)).out = false) := by
  obtain ⟨hfence, -, hout, -, -⟩ := fenceDie_acts d (why := .selftest) hnone (by decide) (by decide)
  have reason : s.fenceReason d.val .selftest = .selftest := by
    unfold State.fenceReason
    rw [nextFence_eq, if_neg (Nat.not_le.2 hfew)]
  exact ⟨_, rfl, hfence.trans (congrArg some reason), hout⟩

/-- A fence leaves the counter record. -/
def State.forgetFence (s : State) (d : Nat) : State :=
  { s with ctr := { s.ctr with fences := upd s.ctr.fences d fun _ => none } }

/-- A fence of the self-test is lifted: the channels that it held return, and its event clears. -/
theorem liftFence_selftest {d : Nat} (hfence : s.fence d = some .selftest) : ∃ on,
    s.liftFence d = ((s.forgetFence d).startStagger on).clearE (Ev.dieFence d) := by
  unfold State.liftFence
  rw [hfence]
  exact ⟨_, rfl⟩

theorem dieSelfTest_passes (s : State) (d : Fin 4) (hboot : s.plinth.seq = .coldBoot)
    (hfence : s.fence d.val = some .selftest) : ∃ t, exec (.dieSelfTest d true) s = .next t ∧ t.fence d.val = none ∧
      t.holdsC (Ev.dieFence d.val) = false ∧ t = { s.withLogs t with sw := t.sw, ctr := t.ctr } := by
  obtain ⟨on, lifted⟩ := liftFence_selftest hfence
  have forgot : ChangesOnly [.ctr, .hoCount] s (s.forgetFence d.val) := .write _ rfl
  have rest := (startStagger_changes (s := s.forgetFence d.val) on).trans (clearE_changes (Ev.dieFence d.val))
  refine ⟨_, congrArg Host.Outcome.next ((if_neg (by decide)).trans ((if_pos hboot).trans lifted)), ?unfenced,
    clearE_holdsC .., ((forgot.trans rest).mono (by decide)).frame_sw_ctr⟩
  case unfenced =>
    exact fence_of_record (variant_has_die (by simp [hfence])) ((forgot.trans rest).same .ident (by decide))
      (congrArg Counters.fences (rest.same .ctr (by decide)))

/-! ### The current limit of a die (R296) -/

theorem dieSumWarn_raises (s : State) (d : Fin 4) (hover : s.dieLimitMa d.val < s.dieSumMa d.val) :
    ∃ t, exec (.dieSumWarn d true) s = .next t ∧ t.holds (Ev.dieWarn d.val) = true ∧ t = s.withLogs t :=
  ⟨_, congrArg Host.Outcome.next ((if_pos rfl).trans (if_pos hover)), raiseOnce_holds .., raiseOnce_logs ..⟩

theorem dieSumWarn_clears (s : State) (d : Fin 4) (hwithin : s.dieSumMa d.val ≤ s.dieLimitMa d.val) :
    ∃ t, exec (.dieSumWarn d false) s = .next t ∧ t = s.withLogs t :=
  ⟨_, congrArg Host.Outcome.next ((if_neg (by decide)).trans (if_pos hwithin)), clearIf_logs ..⟩

/-! ### The supply of a die (R301) -/

/-- Whether a die is supplied is written. -/
def State.markSupply (s : State) (d : Nat) (b : Bool) : State := s.onDie d fun x => { x with supplied := b }

theorem markSupply_changes (d : Nat) (b : Bool) : ChangesOnly [.sw] s (s.markSupply d b) := onDie_changes ..

/-- The supply inhibits a channel and takes its thermal states. -/
def State.unsupply (s : State) (c : Nat) : State := s.onChan c fun h =>
  { h with bus := true, pickAt := none, thermOff := false, thermLatch := false, thermUps := [] }

theorem unsupply_loses (c : Nat) : LosesOnly s (s.unsupply c) := onChan_loses c fun h =>
  { Chan.Loses.refl h with bus := fun _ => rfl, thermOff := fun _ => rfl, thermLatch := fun _ => rfl }

theorem loseLatches_eq (s : State) (c : Nat) :
    s.loseLatches c = (((s.latch c false).clearLatch c).unsupply c).clearE (Ev.lswTh c) := rfl

theorem loseLatches_loses (c : Nat) : LosesOnly s (s.loseLatches c) := by
  rw [loseLatches_eq]
  exact (((latch_off_loses c).trans (clearLatch_loses c)).trans (unsupply_loses c)).trans (.of_logs (clearE_changes _))

/-- What a channel's record says once its die has lost its supply. -/
theorem loseLatches_acts (hc : c < 16) : ((s.loseLatches c).chan c).out = false ∧ ((s.loseLatches c).chan c).bus = true ∧
    ((s.loseLatches c).chan c).thermOff = false ∧ ((s.loseLatches c).chan c).thermLatch = false ∧
    ((s.chan c).escalated = false → ((s.loseLatches c).chan c).curLatch = false) := by
  have off : (s.latch c false).chan c = (s.chan c).latched false := latch_self hc false
  have stays : (((s.latch c false).clearLatch c).chan c).out = false :=
    ((clearLatch_loses c).chan c).out (congrArg Chan.out off)
  rw [loseLatches_eq, (clearE_changes _).chan (by decide), State.unsupply, onChan_self hc]
  exact ⟨stays, rfl, rfl, rfl, fun hesc => clearLatch_curLatch hc ((congrArg Chan.escalated off).trans hesc)⟩

/-- A channel loses the supply of its die, with what its latches held and a turn-on in progress. -/
def State.depower (s : State) (c : Nat) : State := (s.loseLatches c).cancelInrush c

theorem depower_loses (c : Nat) : LosesOnly s (s.depower c) := (loseLatches_loses c).trans (cancelInrush_loses c)

theorem exec_dieSupplyLoss (d : Fin 4) :
    exec (.dieSupplyLoss d) s = .next ((dieChans d.val).foldl State.depower (s.markSupply d.val false)) := by
  unfold dieChans
  rw [List.foldl_map]
  rfl

theorem dieSupplyLoss_acts (s : State) (d : Fin 4) : ∃ t, exec (.dieSupplyLoss d) s = .next t ∧
    (t.sw.die[d]).supplied = false ∧
    (∀ j, j < 4 → (t.chan (4 * d.val + j)).out = false ∧ (t.chan (4 * d.val + j)).bus = true ∧
      (t.chan (4 * d.val + j)).thermOff = false ∧ (t.chan (4 * d.val + j)).thermLatch = false ∧
      ((s.chan (4 * d.val + j)).escalated = false → (t.chan (4 * d.val + j)).curLatch = false)) ∧
    t = { s.withLogs t with sw := t.sw } := by
  have lost := LosesOnly.foldl (f := State.depower) (fun _ _ => depower_loses _) (dieChans d.val) (s.markSupply d.val false)
  refine ⟨_, exec_dieSupplyLoss d, ?unsupplied, fun j hj => ?channel,
    (((markSupply_changes ..).trans lost.changes).mono (by decide)).frame_sw⟩
  case unsupplied =>
    rw [lost.die]
    exact congrArg Die.supplied (onDie_self d _)
  case channel =>
    obtain ⟨u, before, after⟩ := foldl_loses_at (f := State.depower) (fun _ _ => depower_loses _) (mem_dieChans hj)
      (s.markSupply d.val false)
    have since : ((u.loseLatches (4 * d.val + j)).chan (4 * d.val + j)).Loses _ :=
      ((cancelInrush_loses _).chan _).trans (after.chan (4 * d.val + j))
    obtain ⟨hout, hbus, hoff, hlatch, hcur⟩ := loseLatches_acts (s := u) (dieChan_lt d hj)
    have hesc : (u.chan (4 * d.val + j)).escalated = (s.chan (4 * d.val + j)).escalated := (before.chan _).escalated
    exact ⟨since.out hout, since.bus hbus, since.thermOff hoff, since.thermLatch hlatch,
      fun h => since.curLatch (hcur (hesc.trans h))⟩

/-- Beside the die, a return of its supply changes the logs alone. -/
theorem dieUp_changes {d : Fin 4} (hdown : (s.sw.die[d]).supplied = false) :
    ChangesOnly [.logs] (s.markSupply d.val true) (s.dieUp d.val) := by
  unfold State.dieUp
  rw [getD_toList, hdown]
  exact .foldl (fun _ _ => .elseOnly (raiseP_changes ..)) _ _

theorem dieSupplyReturn_acts (s : State) (d : Fin 4) (hdown : (s.sw.die[d]).supplied = false) :
    ∃ t, exec (.dieSupplyReturn d) s = .next t ∧
      t.sw = { s.sw with die := upd s.sw.die d.val fun x => { x with supplied := true } } ∧
      t = { s.withLogs t with sw := t.sw } := by
  have up := dieUp_changes hdown
  exact ⟨_, rfl, up.same .sw (by decide), ((markSupply_changes ..).trans up).frame_sw⟩

/-- Settles O28: each command by its lemma above; what befalls the channels of a die is read at each one of them from a fold of
operations that only lose. -/
theorem diesAreFencedAndSupplied : Obligations.DiesAreFencedAndSupplied := by
  unfold Obligations.DiesAreFencedAndSupplied
  intro s d
  exact ⟨heartbeatLoss_acts s d, heartbeatReturn_acts s d, dieFence_acts s d, dieSelfTest_fails s d, dieSelfTest_passes s d,
    dieSumWarn_raises s d, dieSumWarn_clears s d, dieSupplyLoss_acts s d, dieSupplyReturn_acts s d⟩

end Sys2Proof.Machine
end

section
/-! PROOFS. What the operations on the Armature write: one element of its rails and phases, what a rail's phases depend on, the
edge map, a change of the timebase and a stop on a fault. -/

namespace Sys2Proof.Machine

variable {s t : State} {r p : Nat} {ps : List StatePart}

/-! ### One rail and one phase -/

theorem onRail_rail (s : State) (r q : Nat) (f : Rail → Rail) :
    (s.onRail r f).rail q = if q = r ∧ r < 2 then f (s.rail q) else s.rail q := getD_upd ..

theorem onRail_self (hr : r < 2) (f : Rail → Rail) : (s.onRail r f).rail r = f (s.rail r) := by
  rw [onRail_rail, if_pos ⟨rfl, hr⟩]

theorem onRail_other {q : Nat} (hq : q ≠ r) (f : Rail → Rail) : (s.onRail r f).rail q = s.rail q := by
  rw [onRail_rail, if_neg fun h => hq h.1]

theorem onPhase_phase (s : State) (p q : Nat) (f : Phase → Phase) :
    (s.onPhase p f).phase q = if q = p ∧ p < 8 then f (s.phase q) else s.phase q := getD_upd ..

theorem onPhase_self (hp : p < 8) (f : Phase → Phase) : (s.onPhase p f).phase p = f (s.phase p) := by
  rw [onPhase_phase, if_pos ⟨rfl, hp⟩]

@[simp] theorem onRail_phase (s : State) (r q : Nat) (f : Rail → Rail) : (s.onRail r f).phase q = s.phase q := rfl

@[simp] theorem onPhase_rail (s : State) (p q : Nat) (f : Phase → Phase) : (s.onPhase p f).rail q = s.rail q := rfl

theorem phase_fin (s : State) (p : Fin 8) : s.phase p.val = s.arm.ph[p] := getD_toList ..

theorem phase_beyond (hp : 8 ≤ p) : s.phase p = Phase.initial := by
  simp [State.phase, List.getD_eq_getElem?_getD, hp]

theorem onPhase_changes (p : Nat) (f : Phase → Phase) : ChangesOnly [.arm] s (s.onPhase p f) := .write _ rfl

theorem draw_changes : ChangesOnly [.free] s s.draw := .write _ rfl

theorem ChangesOnly.rail (h : ChangesOnly ps s t) (hp : .arm ∉ ps) (q : Nat) : t.rail q = s.rail q := by
  unfold State.rail
  rw [h.same .arm hp]

theorem ChangesOnly.phase (h : ChangesOnly ps s t) (hp : .arm ∉ ps) (q : Nat) : t.phase q = s.phase q := by
  unfold State.phase
  rw [h.same .arm hp]

theorem ChangesOnly.param (h : ChangesOnly ps s t) (hc : .config ∉ ps) (hi : .ident ∉ ps) (id : Nat) :
    t.param id = s.param id := param_congr (h.same .config hc) (h.same .ident hi) id

/-- What every step of a fold keeps, the fold keeps. -/
theorem foldl_keeps {α β : Type} {f : State → α → State} (g : State → β) (hf : ∀ v x, g (f v x) = g v) (l : List α)
    (s : State) : g (l.foldl f s) = g s :=
  List.foldlRecOn (motive := fun v => g v = g s) l f rfl fun v hv x _ => (hf v x).trans hv

/-! ### The phases of a rail -/

theorem isOn_congr (hparam : ∀ id, t.param id = s.param id) : t.isOn = s.isOn :=
  funext fun id => congrArg (· != 0) (hparam id)

theorem railOf_congr (hparam : ∀ id, t.param id = s.param id) : t.railOf = s.railOf := by
  unfold State.railOf State.merged
  rw [isOn_congr hparam]

/-- The slots of a rail rest on the parameters alone (R304). -/
theorem slots_congr (hparam : ∀ id, t.param id = s.param id) (r : Nat) : t.slots r = s.slots r := by
  unfold State.slots State.railExists State.merged
  rw [isOn_congr hparam, railOf_congr hparam]

theorem running_congr (hparam : ∀ id, t.param id = s.param id)
    (hrun : ∀ q, (t.phase q).running = (s.phase q).running) (r : Nat) : t.running r = s.running r := by
  simp only [State.running, slots_congr hparam, hrun]

theorem lt_of_mem_slots (h : p ∈ s.slots r) : p < 8 := by
  unfold State.slots at h
  split at h
  · exact List.mem_range.1 (List.mem_filter.1 h).1
  · exact absurd h List.not_mem_nil

theorem lt_of_mem_running (h : p ∈ s.running r) : p < 8 := lt_of_mem_slots (List.mem_filter.1 h).1

/-- Every place of the rotation names a phase. -/
theorem running_getD_lt (s : State) (r k : Nat) : (s.running r).getD k 0 < 8 := by
  rw [List.getD_eq_getElem?_getD]
  rcases hk : (s.running r)[k]? with _ | q
  · exact Nat.zero_lt_succ 7
  · exact lt_of_mem_running (List.mem_of_getElem? hk)

/-! ### The edge map (R313) -/

/-- The map written, before QUIET_PLAN is evaluated by it. -/
def State.mapped (s : State) : State :=
  { s with arm := { s.arm with quiet := min (s.quietSlots s.power.vbusMv.toNat) 255, mapMv := s.power.vbusMv.toNat } }

theorem mapped_changes : ChangesOnly [.arm] s s.mapped := .write _ rfl

theorem remap_changes_after : ChangesOnly [.logs] s.mapped s.remap := .foldl (fun _ _ => setC_changes ..) _ _

theorem remap_changes : ChangesOnly [.arm, .logs] s s.remap := mapped_changes.trans remap_changes_after

theorem remap_arm : s.remap.arm = s.mapped.arm := remap_changes_after.same .arm (by decide)

@[simp] theorem remap_rail (s : State) (q : Nat) : s.remap.rail q = s.rail q := remap_changes_after.rail (by decide) q

@[simp] theorem remap_phase (s : State) (q : Nat) : s.remap.phase q = s.phase q := remap_changes_after.phase (by decide) q

/-- A selective clear leaves the other names holding. -/
theorem holds_clearIf {src x : Src} (hne : src ≠ x) (sel : Held → Bool) (hs : s.holds src = true) :
    (s.clearIf x sel).holds src = true := by
  obtain ⟨h, hmem, hsrc⟩ := List.any_eq_true.1 hs
  obtain rfl : h.src = src := beq_iff_eq.1 hsrc
  refine List.any_eq_true.2 ⟨h, List.mem_filter.2 ⟨hmem, ?_⟩, hsrc⟩
  simp [hne]

/-- A condition that is set or cleared leaves the other names holding. -/
theorem holds_setC {src x : Src} (hne : src ≠ x) (on : Bool) (n d : Nat) (hs : s.holds src = true) :
    (s.setC x on n d).holds src = true := by
  unfold State.setC
  split
  · exact holds_of_held_subset (held_subset_raiseOnce ..) hs
  · exact holds_clearIf hne _ hs

/-- The edge map speaks of QUIET_PLAN alone. -/
theorem holds_remap {src : Src} (hne : ∀ q, src ≠ Ev.quietPlan q) (hs : s.holds src = true) : s.remap.holds src = true :=
  List.foldlRecOn (motive := fun v : State => v.holds src = true) _ _ hs fun _ hv q _ => holds_setC (hne q) _ _ _ hv

/-! ### A stop on a fault (R345) -/

theorem otherRail_ne (r : Nat) : otherRail r ≠ r := by
  unfold otherRail
  omega

theorem stopOne_other {q : Nat} (hq : q ≠ r) (why : Nat) (track : Bool) : (s.stopOne r why track).rail q = s.rail q := by
  unfold State.stopOne
  split
  · exact onRail_other hq _
  · rfl

/-- What befalls the follower leaves its leader (R320). -/
theorem leaderFault_leader (s : State) (r : Nat) : (s.leaderFault r).rail r = s.rail r := by
  unfold State.leaderFault
  dsimp only
  split
  · exact ((raiseP_changes ..).rail (by decide) r).trans (stopOne_other (otherRail_ne r).symm ..)
  · rfl

theorem faultNow_self (hr : r < 2) (reason : Nat) :
    ((s.faultNow r reason).rail r).st = .faulted ∧ ((s.faultNow r reason).rail r).reason = reason := by
  unfold State.faultNow
  rw [leaderFault_leader, remap_rail, pllEval_changes.rail (by decide), onRail_self hr]
  exact ⟨rfl, rfl⟩

theorem railStop_self (hr : r < 2) (reason detail : Nat) : ((s.railStop r reason detail).rail r).st = .faulted ∧
    ((s.railStop r reason detail).rail r).reason = reason ∧ (s.railStop r reason detail).holds (Ev.railStop r) = true := by
  have faulted := faultNow_self (s := s.capture r reason (s.runMask r) detail) hr reason
  unfold State.railStop
  rw [(raiseC_changes ..).rail (by decide)]
  exact ⟨faulted.1, faulted.2, raiseC_holds ..⟩

/-! ### Frames, as the statements write them -/

theorem ChangesOnly.frame_arm (h : ChangesOnly [.arm, .logs] s t) : t = { s.withLogs t with arm := t.arm } := h.eq_copy

end Sys2Proof.Machine
end

section
/-! PROOFS. Firings, lock changes, the edge map, balancing, SYNC and braking: one lemma per clause, and the statement on
them. -/

namespace Sys2Proof.Machine

variable {s u : State} {r : Fin 2}

/-! ### Firings (R307 to R309, R324, R330) -/

/-- What ADC-A measures at an evaluation of a rail's comparator, whatever its state. -/
def State.measured (s : State) (r vos vb : Nat) : State :=
  { s with power := { s.power with vbusMv := vb } }.onRail r fun x => { x with vos := vos }

/-- A rail whose phases switch, at an evaluation: the emulated currents and the ends of its limits up to now. -/
def State.evaluated (s : State) (r dt vos vb : Nat) (low : BitVec 8) : State :=
  ((s.measured r vos vb).emulate r dt vos vb).valleys r low

/-- A phase at its firing, with its on-time. -/
def Phase.fired (on : Nat) (x : Phase) : Phase :=
  { x with onLeft := on, offFor := 0, scRun := if x.scNow then x.scRun else 0, scNow := false }

/-- Phase `p` of a rail fires with an on-time; the rotation goes on at `next`. -/
def State.fired (s : State) (r p on next fsw : Nat) : State :=
  ((s.onPhase p (Phase.fired on)).onRail r fun x => { x with onTime := on, next := next, fsw := fsw }).draw

/-- The phase whose turn it is in the rotation `l` fires, where one may. -/
def State.fireNext (s : State) (r vos vb : Nat) (l : List Nat) (fsw : Nat) : State :=
  match s.nextPhase r with
  | none => s
  | some k => s.fired r (l.getD k 0) (s.onTime r (l.getD k 0) vos vb) ((k + 1) % max l.length 1) fsw

theorem fireNext_none {r : Nat} (h : s.nextPhase r = none) (vos vb : Nat) (l : List Nat) (fsw : Nat) :
    s.fireNext r vos vb l fsw = s := by
  unfold State.fireNext
  rw [h]

theorem fireNext_some {r k : Nat} (h : s.nextPhase r = some k) (vos vb : Nat) (l : List Nat) (fsw : Nat) :
    s.fireNext r vos vb l fsw =
      s.fired r (l.getD k 0) (s.onTime r (l.getD k 0) vos vb) ((k + 1) % max l.length 1) fsw := by
  unfold State.fireNext
  rw [h]

theorem emulate_changes (r dt vos vb : Nat) : ChangesOnly [.arm] s (s.emulate r dt vos vb) :=
  ((ChangesOnly.foldl (fun _ _ => onPhase_changes ..) _ _).trans (onRail_changes ..)).mono (by decide)

theorem valleys_changes (r : Nat) (low : BitVec 8) : ChangesOnly [.arm] s (s.valleys r low) :=
  .foldl (fun _ _ => .thenOnly (onPhase_changes ..)) _ _

/-- Of its rail's record an emulation writes the emulated sums alone, of the other's nothing. -/
theorem emulate_rail (s : State) (r dt vos vb q : Nat) : ∃ area len mean, (s.emulate r dt vos vb).rail q =
    { s.rail q with emuArea := area, emuLen := len, emuMeanNa := mean } ∧
      (q ≠ r → (s.emulate r dt vos vb).rail q = s.rail q) := by
  unfold State.emulate
  dsimp only
  rw [onRail_rail, foldl_keeps (State.rail · q) fun _ _ => onPhase_rail ..]
  split
  · exact ⟨_, _, _, rfl, fun hq => absurd ‹_ ∧ _›.1 hq⟩
  · exact ⟨_, _, _, rfl, fun _ => rfl⟩

theorem valleys_rail (s : State) (r : Nat) (low : BitVec 8) (q : Nat) : (s.valleys r low).rail q = s.rail q := by
  refine foldl_keeps (State.rail · q) (fun v p => ?_) _ s
  split
  · exact onPhase_rail ..
  · rfl

theorem evaluated_changes (r dt vos vb : Nat) (low : BitVec 8) :
    ChangesOnly [.arm] { s with power := { s.power with vbusMv := vb } } (s.evaluated r dt vos vb low) :=
  (((onRail_changes ..).trans (emulate_changes ..)).trans (valleys_changes ..)).mono (by decide)

theorem evaluated_vos (s : State) (r : Fin 2) (dt vos vb : Nat) (low : BitVec 8) :
    ((s.evaluated r.val dt vos vb low).rail r.val).vos = vos := by
  obtain ⟨_, _, _, h, -⟩ := emulate_rail (s.measured r.val vos vb) r.val dt vos vb r.val
  unfold State.evaluated State.measured at *
  rw [valleys_rail, h, onRail_self r.isLt]

theorem evaluated_other {q r : Nat} (hq : q ≠ r) (dt vos vb : Nat) (low : BitVec 8) :
    (s.evaluated r dt vos vb low).rail q = s.rail q := by
  obtain ⟨_, _, _, -, h⟩ := emulate_rail (s.measured r vos vb) r dt vos vb q
  unfold State.evaluated
  rw [valleys_rail, h hq]
  exact onRail_other hq _

/-- No on-time is shorter than 40 ns (R308). -/
theorem le_onTime (s : State) (r p vos vb : Nat) : 16 ≤ s.onTime r p vos vb := by
  unfold State.onTime
  exact Nat.le_max_left ..

theorem fired_changes (r p on next fsw : Nat) : ChangesOnly [.arm, .free] s (s.fired r p on next fsw) :=
  (((onPhase_changes ..).trans (onRail_changes ..)).trans draw_changes).mono (by decide)

theorem fired_rail (s : State) (r : Fin 2) (p on next fsw : Nat) : (s.fired r.val p on next fsw).rail r.val =
    { s.rail r.val with onTime := on, next := next, fsw := fsw } := onRail_self r.isLt _

theorem fired_phase (s : State) (r : Nat) {p : Nat} (hp : p < 8) (on next fsw : Nat) :
    (s.fired r p on next fsw).phase p = Phase.fired on (s.phase p) := by
  unfold State.fired
  rw [draw_changes.phase (by decide), onRail_phase, onPhase_self hp]

theorem fired_evaluated_other {q : Fin 2} (hq : q ≠ r) {dt vos vb : Nat} {low : BitVec 8} {p on next fsw : Nat} :
    ((s.evaluated r.val dt vos vb low).fired r.val p on next fsw).rail q.val = s.rail q.val := by
  have hqr : q.val ≠ r.val := fun h => hq (Fin.ext h)
  exact (onRail_other hqr _).trans (evaluated_other hqr ..)

theorem fired_evaluated_frame (s : State) (r dt vos vb : Nat) (low : BitVec 8) (p on next fsw : Nat) :
    (s.evaluated r dt vos vb low).fired r p on next fsw = { s with
      power := { s.power with vbusMv := vb }
      arm := ((s.evaluated r dt vos vb low).fired r p on next fsw).arm, free := s.free + 1 } := by
  have evaluated := evaluated_changes (s := s) r dt vos vb low
  have drawn : s.free + 1 = ((s.evaluated r dt vos vb low).fired r p on next fsw).free :=
    congrArg (· + 1) (evaluated.same .free (by decide)).symm
  rw [drawn]
  exact ((evaluated.trans (fired_changes ..)).mono (qs := [.arm, .free]) (by decide)).eq_copy

theorem fire_idle {r : Nat} (h : (s.rail r).st.live = false ∨ s.running r = []) (dt fb : Nat) (iu : Int) (vos vb : Nat)
    (low : BitVec 8) : s.fire r dt fb iu vos vb low = s.measured r vos vb :=
  if_pos (by rcases h with h | h <;> simp [h])

section Live

variable (hlive : (s.rail r.val).st.live = true) (hrun : s.running r.val ≠ []) {dt fb : Nat} {iu : Int} {vos vb : Nat}
  {low : BitVec 8} (hu : u = s.evaluated r.val dt vos vb low)

include hlive hrun hu

theorem fire_live : s.fire r.val dt fb iu vos vb low =
    if (s.rail r.val).braking || !u.comparator r.val fb iu then u
    else u.fireNext r.val vos vb (s.running r.val) (8000 * s.param (P.armN r.val)) := by
  subst hu
  exact if_neg (by simp [hlive, hrun])

theorem railFiring_silent
    (hno : (s.rail r.val).braking = true ∨ u.comparator r.val fb iu = false ∨ u.nextPhase r.val = none) :
    exec (.railFiring r dt fb iu vos vb low) s = .next u := by
  refine congrArg Host.Outcome.next ((fire_live hlive hrun hu).trans ?_)
  rcases hno with h | h | h
  · exact if_pos (by simp [h])
  · exact if_pos (by simp [h])
  · rw [fireNext_none h]
    exact ite_self u

theorem exec_railFiring (hbrake : (s.rail r.val).braking = false) (hcomp : u.comparator r.val fb iu = true) {k : Nat}
    (hnext : u.nextPhase r.val = some k) : exec (.railFiring r dt fb iu vos vb low) s = .next
      (u.fired r.val ((s.running r.val).getD k 0) (u.onTime r.val ((s.running r.val).getD k 0) vos vb)
        ((k + 1) % (s.running r.val).length) (8000 * s.param (P.armN r.val))) := by
  have hlen : max (s.running r.val).length 1 = (s.running r.val).length :=
    Nat.max_eq_left (List.length_pos_iff.2 hrun)
  refine congrArg Host.Outcome.next ((fire_live hlive hrun hu).trans ((if_neg (by simp [hbrake, hcomp])).trans ?_))
  rw [fireNext_some hnext, hlen]

theorem railFiring_fires (hbrake : (s.rail r.val).braking = false) (hcomp : u.comparator r.val fb iu = true) {k : Nat}
    (hnext : u.nextPhase r.val = some k) : ∃ t, exec (.railFiring r dt fb iu vos vb low) s = .next t ∧
      (t.rail r.val).vos = vos ∧ (t.rail r.val).onTime = u.onTime r.val ((s.running r.val).getD k 0) vos vb ∧
      16 ≤ (t.rail r.val).onTime ∧ (t.phase ((s.running r.val).getD k 0)).onLeft = (t.rail r.val).onTime ∧
      (t.phase ((s.running r.val).getD k 0)).offFor = 0 ∧ (t.rail r.val).next = (k + 1) % (s.running r.val).length ∧
      (t.rail r.val).fsw = 8000 * s.param (P.armN r.val) ∧ (∀ q : Fin 2, q ≠ r → t.rail q.val = s.rail q.val) ∧
      t = { s with power := { s.power with vbusMv := vb }, arm := t.arm, free := s.free + 1 } := by
  refine ⟨_, exec_railFiring hlive hrun hu hbrake hcomp hnext, ?_⟩
  subst hu
  have hrail := fired_rail (s.evaluated r.val dt vos vb low) r
  have hphase := fired_phase (s.evaluated r.val dt vos vb low) r.val (running_getD_lt s r.val k)
  rw [hrail, hphase]
  exact ⟨evaluated_vos .., rfl, le_onTime .., rfl, rfl, rfl, rfl, fun q hq => fired_evaluated_other hq,
    fired_evaluated_frame ..⟩

end Live

/-! ### Lock changes and the edge map (R312, R313) -/

theorem lockChange_acts (s : State) (r : Fin 2) (k l : Bool) (hlive : (s.rail r.val).st.live = true) :
    ∃ t, exec (.lockChange r k l) s = .next t ∧ t.rail r.val = { s.rail r.val with locked := k, corrLim := l } ∧
      ((s.rail r.val).locked ≠ k → t.holds (Ev.lockChange r.val) = true) ∧ t = { s.withLogs t with arm := t.arm } := by
  have noted := onRail_changes (s := s) r.val fun x => { x with locked := k, corrLim := l }
  have hrail := onRail_self (s := s) r.isLt fun x => { x with locked := k, corrLim := l }
  refine ⟨_, congrArg Host.Outcome.next (if_neg (by simp [hlive])), ?_⟩
  by_cases hsame : (s.rail r.val).locked = k
  · rw [if_pos hsame]
    exact ⟨hrail, fun hne => absurd hsame hne, (noted.mono (by decide)).frame_arm⟩
  · rw [if_neg hsame]
    exact ⟨((raiseP_changes ..).rail (by decide) _).trans hrail, fun _ => raiseP_holds ..,
      (noted.trans (raiseP_changes ..)).frame_arm⟩

/-- The edges rest on the parameters, the Tableau and the phases that run, not on what ADC-A has measured (R313). -/
theorem quietSlots_withPower (s : State) (x : Power) (mv : Nat) : { s with power := x }.quietSlots mv = s.quietSlots mv := rfl

theorem quietMapRecompute_acts (s : State) (vb : Nat) : ∃ t, exec (.quietMapRecompute vb) s = .next t ∧
    t.arm = { s.arm with quiet := min (s.quietSlots vb) 255, mapMv := vb } ∧
    t = { s.withLogs t with power := { s.power with vbusMv := vb }, arm := t.arm } := by
  refine ⟨_, rfl, ?_, remap_changes.eq_copy⟩
  rw [remap_arm, State.mapped, quietSlots_withPower]
  rfl

/-! ### Balancing (R314, R315, R332) -/

section Balance

variable {i : PhaseMeans} {p : Fin 8}

theorem balance_out (hout : (s.running r.val).contains p.val = false) : (s.balance r.val i).arm.ph[p] = s.arm.ph[p] :=
  (Vector.getElem_ofFn p.isLt).trans (if_neg (Bool.eq_false_iff.1 hout))

theorem balance_in {m : Int} (hm : m = ((s.running r.val).foldl (fun a p => a + s.senseMa p (i.uv.toList.getD p 0)) 0) /
      (max (s.running r.val).length 1 : Nat)) (hin : (s.running r.val).contains p.val = true) :
    (s.balance r.val i).arm.ph[p] = { s.arm.ph[p] with
      meanMa := s.senseMa p.val i.uv[p]
      trim := if s.isOn (P.armBalEn r.val) && s.seqRuns && decide (500 ≤ m) then
          trimClip (s.trimLimit r.val) (trimStep m (s.senseMa p.val i.uv[p] - m) s.arm.ph[p].trim)
        else s.arm.ph[p].trim } := by
  have huv : i.uv.toList.getD p.val 0 = i.uv[p] := getD_toList ..
  rw [← huv]
  subst hm
  exact (Vector.getElem_ofFn p.isLt).trans (if_pos hin)

/-- A phase that balancing leaves where its rail runs it or not. -/
theorem balance_running (s : State) (r : Fin 2) (i : PhaseMeans) (q : Nat) :
    ((s.balance r.val i).phase q).running = (s.phase q).running := by
  rcases Nat.lt_or_ge q 8 with hq | hq
  · rw [phase_fin (p := ⟨q, hq⟩), phase_fin (p := ⟨q, hq⟩)]
    cases hin : (s.running r.val).contains q with
    | true => rw [balance_in rfl (p := ⟨q, hq⟩) hin]
    | false => rw [balance_out (p := ⟨q, hq⟩) hin]
  · rw [phase_beyond hq, phase_beyond hq]

end Balance

/-- The overload timer counts a mean above the limit of its rail (R332). -/
theorem overloadMs_counts {r : Nat} (hr : r < 2) (hover : s.olNowMa r < (s.railMa r).natAbs) :
    ((s.overloadMs r).rail r).olMs = (s.rail r).olMs + 1 := by
  unfold State.overloadMs
  dsimp only
  rw [onRail_self hr, if_pos (by simp [hover])]

theorem overloadMs_other {q r : Nat} (hq : q ≠ r) : (s.overloadMs r).rail q = s.rail q := onRail_other hq _

/-- The limit of a rail rests on the parameters, the phases that run and their wear (R332, R344). -/
theorem olNowMa_congr {t : State} (hparam : ∀ id, t.param id = s.param id)
    (hrun : ∀ q, (t.phase q).running = (s.phase q).running) (hctr : t.ctr = s.ctr) (r : Nat) :
    t.olNowMa r = s.olNowMa r := by
  have holph : t.olPhMa = s.olPhMa := funext fun q => by
    simp only [State.olPhMa, State.phStep, railOf_congr hparam, hparam, hctr]
  unfold State.olNowMa
  rw [running_congr hparam hrun, holph]

theorem railMa_congr {t : State} (hparam : ∀ id, t.param id = s.param id) (hphase : ∀ q, t.phase q = s.phase q) (r : Nat) :
    t.railMa r = s.railMa r := by
  unfold State.railMa
  rw [running_congr hparam fun q => congrArg Phase.running (hphase q)]
  simp only [hphase]

/-- A task that ends leaves every parameter (R151). -/
theorem taskEnd_param (s : State) (level id : Nat) : (s.taskEnd level).param id = s.param id := by
  unfold State.param
  rw [taskEnd_config, (taskEnd_changes level).same .ident (by decide)]

theorem balanceTick_acts (s : State) (r : Fin 2) (i : PhaseMeans) (m : Int)
    (hm : m = ((s.running r.val).foldl (fun a p => a + s.senseMa p (i.uv.toList.getD p 0)) 0) /
      (max (s.running r.val).length 1 : Nat)) : ∃ t, exec (.balanceTick r i) s = .next t ∧
    (∀ p : Fin 8, (s.running r.val).contains p.val = true → (t.arm.ph[p]).meanMa = s.senseMa p.val (i.uv[p])) ∧
    (∀ p : Fin 8, (s.running r.val).contains p.val = false → t.arm.ph[p] = s.arm.ph[p]) ∧
    (∀ p : Fin 8, (s.isOn (P.armBalEn r.val) = false ∨ s.seqRuns = false ∨ m < 500) →
      (t.arm.ph[p]).trim = (s.arm.ph[p]).trim) ∧
    (∀ p : Fin 8, (s.running r.val).contains p.val = true → s.isOn (P.armBalEn r.val) = true → s.seqRuns = true →
      500 ≤ m → (t.arm.ph[p]).trim = trimClip (s.trimLimit r.val)
        (trimStep m (s.senseMa p.val (i.uv[p]) - m) (s.arm.ph[p]).trim)) ∧
    (s.olNowMa r.val < (t.railMa r.val).natAbs → (t.rail r.val).olMs = (s.rail r.val).olMs + 1) ∧
    (∀ q : Fin 2, q ≠ r → t.rail q.val = s.rail q.val) ∧
    t = { s with arm := { s.arm with ph := t.arm.ph, rail := t.arm.rail } }.taskEnd 2 := by
  refine ⟨_, rfl, ?_⟩
  have ended := taskEnd_changes (s := (s.balance r.val i).overloadMs r.val) 2
  have harm : (((s.balance r.val i).overloadMs r.val).taskEnd 2).arm = ((s.balance r.val i).overloadMs r.val).arm :=
    ended.same .arm (by decide)
  have hph : (((s.balance r.val i).overloadMs r.val).taskEnd 2).arm.ph = (s.balance r.val i).arm.ph :=
    (congrArg Arm.ph harm).trans rfl
  rw [hph]
  refine ⟨fun p hin => ?mean, fun p hout => balance_out hout, fun p hoff => ?still, fun p hin hbal hseq hmean => ?moves,
    fun hover => ?overload, fun q hq => ?others, ?frame⟩
  case mean => rw [balance_in hm hin]
  case still =>
    have off : (s.isOn (P.armBalEn r.val) && s.seqRuns && decide (500 ≤ m)) = false := by
      rcases hoff with h | h | h <;> simp [h]
    cases hin : (s.running r.val).contains p.val with
    | true => rw [balance_in hm hin, off, if_neg Bool.false_ne_true]
    | false => rw [balance_out hin]
  case moves => rw [balance_in hm hin, if_pos (by simp [hbal, hseq, hmean])]
  case overload =>
    have hma : (((s.balance r.val i).overloadMs r.val).taskEnd 2).railMa r.val = (s.balance r.val i).railMa r.val :=
      railMa_congr (taskEnd_param _ 2) (fun q => ended.phase (by decide) q) r.val
    have hol : (s.balance r.val i).olNowMa r.val = s.olNowMa r.val :=
      olNowMa_congr (s := s) (t := s.balance r.val i) (fun _ => rfl) (balance_running s r i) rfl r.val
    rw [hma, ← hol] at hover
    exact (congrArg Rail.olMs (ended.rail (by decide) _)).trans (overloadMs_counts r.isLt hover)
  case others =>
    exact (ended.rail (by decide) _).trans (overloadMs_other fun h => hq (Fin.ext h))
  case frame =>
    rw [harm]
    rfl

/-- The trims' mark of a rail, taken back. -/
def State.offLimit (s : State) (r : Nat) : State :=
  { s with arm := { s.arm with
      ph := Vector.ofFn fun q => if s.railOf q.val = r then { s.arm.ph[q] with atLimit := false } else s.arm.ph[q] } }

theorem offLimit_changes (r : Nat) : ChangesOnly [.arm] s (s.offLimit r) := .write _ rfl

theorem offLimit_own {q : Fin 8} {r : Nat} (hq : s.railOf q.val = r) :
    (s.offLimit r).arm.ph[q] = { s.arm.ph[q] with atLimit := false } := by
  refine (Vector.getElem_ofFn q.isLt).trans ?_
  exact if_pos hq

theorem balanceLimit_raises (s : State) (p : Fin 8) (hlim : s.trimLimit (s.railOf p.val) ≤ (s.phase p.val).trim.natAbs) :
    ∃ t, exec (.balanceLimit p false) s = .next t ∧ (t.phase p.val).atLimit = true ∧
      t.holds (Ev.balanceLimit (s.railOf p.val)) = true ∧ t = { s.withLogs t with arm := t.arm } := by
  refine ⟨_, congrArg Host.Outcome.next ((if_neg Bool.false_ne_true).trans (if_pos hlim)), ?_, raiseOnce_holds ..,
    ((onPhase_changes ..).trans (raiseOnce_changes ..)).frame_arm⟩
  rw [(raiseOnce_changes ..).phase (by decide), onPhase_self p.isLt]

theorem balanceLimit_clears (s : State) (p : Fin 8) (hin : ∀ q : Fin 8, s.railOf q.val = s.railOf p.val →
      (s.phase q.val).trim.natAbs < max 1 (s.trimLimit (s.railOf p.val))) :
    ∃ t, exec (.balanceLimit p true) s = .next t ∧
      (∀ q : Fin 8, s.railOf q.val = s.railOf p.val → (t.arm.ph[q]).atLimit = false) ∧
      t.holdsC (Ev.balanceLimit (s.railOf p.val)) = false ∧ t = { s.withLogs t with arm := t.arm } := by
  have inside : ((List.range 8).all fun q => decide (s.railOf q ≠ s.railOf p.val ∨
      (s.phase q).trim.natAbs < max 1 (s.trimLimit (s.railOf p.val)))) = true :=
    List.all_eq_true.2 fun q hq => decide_eq_true (Decidable.or_iff_not_imp_left.2 fun h =>
      hin ⟨q, List.mem_range.1 hq⟩ (Decidable.not_not.1 h))
  have clears : exec (.balanceLimit p true) s = .next
      ((s.offLimit (s.railOf p.val)).clearE (Ev.balanceLimit (s.railOf p.val))) :=
    congrArg Host.Outcome.next ((if_pos rfl).trans (if_neg (by rw [inside]; decide)))
  refine ⟨_, clears, fun q hq => ?_, clearE_holdsC .., ((offLimit_changes _).trans (clearE_changes _)).frame_arm⟩
  exact congrArg Phase.atLimit (offLimit_own hq)

/-! ### SYNC (R321) -/

theorem syncChange_changes_after (on : Bool) :
    ChangesOnly [.logs] { s with arm := { s.arm with sync := on, glideMs := 6 } } (s.syncChange on) :=
  .foldl (fun _ _ => .thenOnly (raiseP_changes ..)) _ _

theorem syncAcquire_acts (s : State) (hmode : s.param P.armSyncMode = 1) (hoff : s.arm.sync = false) :
    ∃ t, exec .syncAcquire s = .next t ∧ t = { s.withLogs t with arm := { s.arm with sync := true, glideMs := 6 } } :=
  ⟨_, congrArg Host.Outcome.next (if_pos ⟨hmode, hoff⟩), (syncChange_changes_after true).eq_copy⟩

theorem syncLoss_acts (s : State) (hon : s.arm.sync = true) :
    ∃ t, exec .syncLoss s = .next t ∧ t = { s.withLogs t with arm := { s.arm with sync := false, glideMs := 6 } } :=
  ⟨_, congrArg Host.Outcome.next (if_pos hon), (syncChange_changes_after false).eq_copy⟩

/-! ### Braking (R324) -/

/-- The on-times of a list of phases end. -/
def State.endOnTimes (s : State) (l : List Nat) : State :=
  l.foldl (fun (s : State) p => s.onPhase p fun x => { x with onLeft := 0 }) s

theorem endOnTimes_changes (l : List Nat) : ChangesOnly [.arm] s (s.endOnTimes l) := .foldl (fun _ _ => onPhase_changes ..) _ _

theorem endOnTimes_rail (s : State) (l : List Nat) (q : Nat) : (s.endOnTimes l).rail q = s.rail q :=
  foldl_keeps (State.rail · q) (fun _ _ => onPhase_rail ..) l s

theorem endOnTimes_phase {p : Nat} (hp : p < 8) {l : List Nat} (hmem : p ∈ l) (s : State) :
    ((s.endOnTimes l).phase p).onLeft = 0 := by
  obtain ⟨before, after, rfl⟩ := List.append_of_mem hmem
  unfold State.endOnTimes
  rw [List.foldl_append, List.foldl_cons]
  refine List.foldlRecOn (motive := fun v : State => (v.phase p).onLeft = 0) after _ ?own fun v hv q _ => ?others
  case own => rw [onPhase_self hp]
  case others =>
    rw [onPhase_phase]
    split
    · rfl
    · exact hv

/-- The gates of a rail are held low, and the event is counted. -/
def State.braked (s : State) (r : Nat) : State :=
  { (s.onRail r fun x => { x with braking := true }).endOnTimes (s.running r) with
    ctr := { s.ctr with brakes := upd s.ctr.brakes r fun n => wrapAdd 32 n 1 } }

theorem braked_changes (r : Nat) : ChangesOnly [.arm, .ctr, .hoCount] s (s.braked r) :=
  (((onRail_changes ..).trans (endOnTimes_changes _)).trans (.write [.ctr, .hoCount] rfl)).mono (by decide)

theorem brakeStart_acts (s : State) (r : Fin 2) (hon : s.isOn (P.armBrakeEn r.val) = true)
    (hlive : (s.rail r.val).st.live = true) (hfree : (s.rail r.val).braking = false) :
    ∃ t, exec (.brakeStart r) s = .next t ∧ t.rail r.val = { s.rail r.val with braking := true } ∧
      (∀ p : Fin 8, p.val ∈ s.running r.val → (t.phase p.val).onLeft = 0) ∧
      t.ctr = { s.ctr with brakes := upd s.ctr.brakes r.val fun n => wrapAdd 32 n 1 } ∧
      t = { s with arm := t.arm, ctr := t.ctr } := by
  have brakes : exec (.brakeStart r) s = .next (s.braked r.val) :=
    congrArg Host.Outcome.next (if_pos (by simp [hon, hlive, hfree]))
  exact ⟨_, brakes, (endOnTimes_rail ..).trans (onRail_self r.isLt _), fun p hp => endOnTimes_phase p.isLt hp _, rfl,
    (braked_changes _).eq_copy⟩

theorem brakeEnd_acts (s : State) (r : Fin 2) (why : BrakeEnd) : ∃ t, exec (.brakeEnd r why) s = .next t ∧
    t.rail r.val = { s.rail r.val with braking := false } ∧ t = { s with arm := t.arm } :=
  ⟨_, rfl, onRail_self r.isLt _, rfl⟩

/-- Settles O29: each command by its lemmas above; an evaluation of the comparator fires a phase, leaves the rail as evaluated,
or finds none that switches. -/
theorem regulationAndBalancingAct : Obligations.RegulationAndBalancingAct := by
  unfold Obligations.RegulationAndBalancingAct
  intro s r
  exact ⟨fun _ _ _ _ _ _ _ _ hlive hbrake hrun hu hcomp hnext => railFiring_fires hlive hrun hu hbrake hcomp hnext,
    fun _ _ _ _ _ _ _ hlive hrun hu hno => railFiring_silent hlive hrun hu hno,
    fun _ _ _ _ _ _ hidle => congrArg Host.Outcome.next (fire_idle hidle ..),
    lockChange_acts s r, quietMapRecompute_acts s, balanceTick_acts s r, balanceLimit_raises s, balanceLimit_clears s,
    syncAcquire_acts s, syncLoss_acts s, brakeStart_acts s r, brakeEnd_acts s r⟩

end Sys2Proof.Machine
end

section
/-! PROOFS. PLL lock with its checks, the ends of a soft-start and a soft-stop, and a TRK follower that falls short: one lemma
per clause, and the statement on them. -/

namespace Sys2Proof.Machine

variable {s t : State} {r : Fin 2}

/-! ### Names that hold while operations in hand are answered -/

/-- A reply that takes no entry from the FIFO leaves every name holding. -/
theorem held_subset_deliver (s : State) (t : Transport) {y : Reply} (hdrops : y.drops = []) :
    s.events.held ⊆ (s.deliver t y).events.held := by
  cases t with
  | nfc =>
    unfold State.deliver
    dsimp only
    rw [hdrops]
    split
    · exact List.Subset.refl _
    · exact List.Subset.refl _
  | link =>
    unfold State.deliver
    dsimp only
    rw [hdrops]
    exact List.Subset.refl _
  | spi | i2c => exact held_subset_raiseOnce (s.onPort _ _) _ _ _
  | uart | gateway | line => exact List.Subset.refl _

theorem held_subset_finish (s : State) (o : Op) (st : Status) (data : List Byte) :
    s.events.held ⊆ (s.finish o st data).events.held := by
  unfold State.finish
  dsimp only
  split
  · exact List.Subset.refl _
  · exact held_subset_deliver (State.onPort (s.onOps _) _ _) _ (by rfl)

theorem held_subset_settle (s : State) : s.events.held ⊆ s.settle.events.held := by
  refine List.foldlRecOn (motive := fun v : State => s.events.held ⊆ v.events.held) _ _ (List.Subset.refl _)
    fun v hv o _ => ?_
  split
  · exact List.Subset.trans hv (held_subset_finish ..)
  · exact hv

theorem holds_settle {src : Src} (hs : s.holds src = true) : s.settle.holds src = true :=
  holds_of_held_subset (held_subset_settle s) hs

@[simp] theorem settle_rail (s : State) (q : Nat) : s.settle.rail q = s.rail q := settle_changes.rail (by decide) q

@[simp] theorem settle_phase (s : State) (q : Nat) : s.settle.phase q = s.phase q := settle_changes.phase (by decide) q

/-! ### PLL lock with the pre-start checks (R317, R320, R340) -/

/-- A start as PLL384 locks, before its checks; TRK above 1.35 V ends the tracking of a TRK follower (R320). -/
def State.pllLocked (s : State) (chk : PreStart) : State :=
  let s0 : State := { s with plinth := { s.plinth with pll := s.pllWanted } }
  if chk.trkHigh && s.param (P.armTrackSrc chk.rail.val) == 2 then
    (s0.onRail chk.rail.val fun x => { x with tracking := false }).raiseP (Ev.trackFault chk.rail.val) 0 0 else s0

/-- The phases that fail their checks are shed. -/
def State.checked (s : State) (chk : PreStart) : State :=
  ((s.pllLocked chk).badPhases chk.rail.val chk).foldl (fun (s : State) e => s.shedPhase chk.rail.val e.1 e.2)
    (s.pllLocked chk)

/-- DETAIL of the record of a start that its checks end (Table 11.5). -/
def State.preDetail (s : State) (chk : PreStart) : Nat :=
  flag chk.fbOpen 0 + flag chk.preBias 1 + flag (!s.enoughPhases chk.rail.val) 2

/-- The phases of a rail that are not shed begin to switch. -/
def State.switchOn (s : State) (r : Nat) : State :=
  { s with arm := { s.arm with
      ph := Vector.ofFn fun p =>
        if ((s.slots r).filter fun p => (s.phase p).shed == 0).contains p.val then
          { s.arm.ph[p] with running := true, emuNa := 0, onLeft := 0, offFor := 47 }
        else s.arm.ph[p] } }

theorem switchOn_changes (q : Nat) : ChangesOnly [.arm] s (s.switchOn q) := .write _ rfl

theorem exec_pll384Locked {chk : PreStart} (hst : (s.rail chk.rail.val).st = .starting)
    (hwait : (s.rail chk.rail.val).waitLeader = false) : exec (.pll384Locked chk) s = .next
      (if (s.checked chk).preDetail chk ≠ 0 then (s.checked chk).railStop chk.rail.val 9 ((s.checked chk).preDetail chk)
        else ((s.checked chk).switchOn chk.rail.val).remap).settle :=
  congrArg (fun v => Host.Outcome.next (State.settle v)) (if_neg (by simp [hst, hwait]))

theorem pll384Locked_fbOpen (s : State) (chk : PreStart) (hst : (s.rail chk.rail.val).st = .starting)
    (hwait : (s.rail chk.rail.val).waitLeader = false) (hfb : chk.fbOpen = true) :
    ∃ t, exec (.pll384Locked chk) s = .next t ∧ (t.rail chk.rail.val).st = .faulted ∧
      (t.rail chk.rail.val).reason = 9 ∧ t.holds (Ev.railStop chk.rail.val) = true := by
  have hdetail : (s.checked chk).preDetail chk ≠ 0 := by
    simp [State.preDetail, flag, hfb]
  obtain ⟨hfault, hreason, hholds⟩ :=
    railStop_self (s := s.checked chk) chk.rail.isLt 9 ((s.checked chk).preDetail chk)
  refine ⟨_, exec_pll384Locked hst hwait, ?_⟩
  rw [if_pos hdetail, settle_rail]
  exact ⟨hfault, hreason, holds_settle hholds⟩

theorem pllLocked_changes (chk : PreStart) : ChangesOnly [.plinth, .arm, .logs] s (s.pllLocked chk) := by
  have locked : ChangesOnly [.plinth] s { s with plinth := { s.plinth with pll := s.pllWanted } } := .write _ rfl
  exact .mono (.ite ((locked.trans (onRail_changes ..)).trans (raiseP_changes ..)) locked) (by decide)

theorem pllLocked_plinth (s : State) (chk : PreStart) :
    (s.pllLocked chk).plinth = { s.plinth with pll := s.pllWanted } := by
  unfold State.pllLocked
  dsimp only
  split
  · exact (raiseP_changes ..).same .plinth (by decide)
  · rfl

theorem pllLocked_phase (s : State) (chk : PreStart) (q : Nat) : (s.pllLocked chk).phase q = s.phase q := by
  unfold State.pllLocked
  dsimp only
  split
  · exact (raiseP_changes ..).phase (by decide) q
  · rfl

theorem pllLocked_st (s : State) (chk : PreStart) :
    ((s.pllLocked chk).rail chk.rail.val).st = (s.rail chk.rail.val).st := by
  unfold State.pllLocked
  dsimp only
  split
  · rw [(raiseP_changes ..).rail (by decide), onRail_self chk.rail.isLt]
    rfl
  · rfl

theorem pllLocked_trackFault {chk : PreStart} (htrk : chk.trkHigh = true)
    (hsrc : s.param (P.armTrackSrc chk.rail.val) = 2) : (s.pllLocked chk).holds (Ev.trackFault chk.rail.val) = true := by
  unfold State.pllLocked
  dsimp only
  rw [if_pos (by simp [htrk, hsrc])]
  exact raiseP_holds ..

/-- The slots of a rail that are not shed are as before the lock. -/
theorem pllLocked_slots (s : State) (chk : PreStart) (q : Nat) : (s.pllLocked chk).slots q = s.slots q :=
  slots_congr ((pllLocked_changes chk).param (by decide) (by decide)) q

/-- With no phase to shed, a start passes the lock alone. -/
theorem checked_of_badPhases_nil {chk : PreStart} (hbad : s.badPhases chk.rail.val chk = []) :
    s.checked chk = s.pllLocked chk := by
  have same : (s.pllLocked chk).badPhases chk.rail.val chk = s.badPhases chk.rail.val chk := by
    unfold State.badPhases
    simp only [pllLocked_slots, pllLocked_phase]
  unfold State.checked
  rw [same, hbad]
  rfl

theorem pllLocked_enoughPhases (s : State) (chk : PreStart) (q : Nat) :
    (s.pllLocked chk).enoughPhases q = s.enoughPhases q := by
  unfold State.enoughPhases
  simp only [pllLocked_slots, pllLocked_phase, (pllLocked_changes chk).param (by decide) (by decide)]

theorem switchOn_running {q : Nat} {p : Fin 8} (hslot : p.val ∈ s.slots q) (hshed : (s.phase p.val).shed = 0) :
    ((s.switchOn q).phase p.val).running = true := by
  have hrun : ((s.slots q).filter fun p => (s.phase p).shed == 0).contains p.val = true := by
    simp [hslot, hshed]
  have hphase : (s.switchOn q).arm.ph[p] = { s.arm.ph[p] with running := true, emuNa := 0, onLeft := 0, offFor := 47 } := by
    refine (Vector.getElem_ofFn p.isLt).trans ?_
    exact if_pos hrun
  rw [phase_fin, hphase]

/-- PLL384 is wanted in RUN while a rail starts (R131). -/
theorem pllWanted_of_starting (hmode : s.plinth.mode = .run) (hst : (s.rail r.val).st = .starting) : s.pllWanted = true := by
  have hany : ((List.range 2).any fun q => (s.rail q).st.live ||
      ((s.rail q).st == .faulted && ((s.rail q).reason == 5 || (s.rail q).reason == 8))) = true :=
    List.any_eq_true.2 ⟨r.val, List.mem_range.2 r.isLt, by simp [hst, RailState.live]⟩
  unfold State.pllWanted
  rw [hany, hmode]
  rfl

theorem trackFault_ne_quietPlan (a b : Nat) : Ev.trackFault a ≠ Ev.quietPlan b := fun h =>
  absurd (show 3 = 4 from congrArg Src.bit h) (by decide)

theorem pll384Locked_starts (s : State) (chk : PreStart) (hst : (s.rail chk.rail.val).st = .starting)
    (hwait : (s.rail chk.rail.val).waitLeader = false) (hbad : s.badPhases chk.rail.val chk = [])
    (hfb : chk.fbOpen = false) (hbias : chk.preBias = false) (henough : s.enoughPhases chk.rail.val = true) :
    ∃ t, exec (.pll384Locked chk) s = .next t ∧ t.plinth = { s.plinth with pll := s.pllWanted } ∧
      (s.plinth.mode = .run → t.plinth.pll = true) ∧
      (chk.trkHigh = true → s.param (P.armTrackSrc chk.rail.val) = 2 →
        t.holds (Ev.trackFault chk.rail.val) = true) ∧
      (t.rail chk.rail.val).st = .starting ∧
      (∀ p : Fin 8, p.val ∈ s.slots chk.rail.val → (s.phase p.val).shed = 0 → (t.phase p.val).running = true) := by
  have hdetail : ¬ (s.pllLocked chk).preDetail chk ≠ 0 := by
    simp [State.preDetail, flag, hfb, hbias, pllLocked_enoughPhases, henough]
  have after : ChangesOnly [.arm, .camyx, .nfc, .tab, .logs] (s.pllLocked chk)
      ((s.pllLocked chk).switchOn chk.rail.val).remap.settle :=
    (((switchOn_changes _).trans remap_changes).trans settle_changes).mono (by decide)
  have hplinth : ((s.pllLocked chk).switchOn chk.rail.val).remap.settle.plinth = { s.plinth with pll := s.pllWanted } :=
    Eq.trans (after.same .plinth (by decide)) (pllLocked_plinth s chk)
  refine ⟨_, exec_pll384Locked hst hwait, ?_⟩
  rw [checked_of_badPhases_nil hbad, if_neg hdetail]
  refine ⟨hplinth, fun hmode => ?pll, fun htrk hsrc => ?track, ?starting, fun p hslot hshed => ?running⟩
  case pll => exact (congrArg Plinth.pll hplinth).trans (pllWanted_of_starting hmode hst)
  case track =>
    have held : ((s.pllLocked chk).switchOn chk.rail.val).holds (Ev.trackFault chk.rail.val) = true :=
      ((switchOn_changes _).holds (by decide) _).trans (pllLocked_trackFault htrk hsrc)
    exact holds_settle (holds_remap (trackFault_ne_quietPlan _) held)
  case starting =>
    rw [settle_rail, remap_rail]
    exact (pllLocked_st s chk).trans hst
  case running =>
    rw [settle_phase, remap_phase]
    exact switchOn_running ((pllLocked_slots s chk _).symm ▸ hslot) ((pllLocked_phase s chk _).symm ▸ hshed)

/-! ### The ends of a soft-start and of a soft-stop (R317, R318) -/

theorem ChangesOnly.frame_railUp (h : ChangesOnly [.arm, .camyx, .nfc, .tab, .logs] s t) :
    t = { s.withLogs t with arm := t.arm, camyx := t.camyx, nfc := t.nfc, tab := t.tab } := h.eq_copy

theorem ChangesOnly.frame_softStop (h : ChangesOnly [.mode, .plinth, .arm, .camyx, .nfc, .tab, .logs] s t) {pll : Bool}
    (hplinth : t.plinth = { s.plinth with pll := pll }) : t = { s.withLogs t with
      plinth := { s.plinth with pll := t.plinth.pll }, arm := t.arm, camyx := t.camyx, nfc := t.nfc, tab := t.tab } := by
  have same : { s.plinth with pll := t.plinth.pll } = t.plinth := by rw [hplinth]
  rw [same]
  exact h.eq_copy

theorem railUp_acts (s : State) (r : Fin 2) (hst : (s.rail r.val).st = .starting)
    (hwait : (s.rail r.val).waitLeader = false) (hrun : s.running r.val ≠ []) :
    ∃ t, exec (.railUp r) s = .next t ∧ (t.rail r.val).st = .regulating ∧
      (t.rail r.val).vref = s.vrefTarget r.val ∧ t.holds (Ev.railUp r.val) = true ∧
      (∀ q : Fin 2, q ≠ r → t.rail q.val = s.rail q.val) ∧
      t = { s.withLogs t with arm := t.arm, camyx := t.camyx, nfc := t.nfc, tab := t.tab } := by
  have up := onRail_changes (s := s) r.val fun x =>
    { x with st := .regulating, vref := s.vrefTarget r.val, tracking := false }
  have reaches : s.reachTarget r.val = (s.onRail r.val fun x =>
      { x with st := .regulating, vref := s.vrefTarget r.val, tracking := false }).raiseP (Ev.railUp r.val) 0 0 :=
    if_neg (by simp [hst, hwait, hrun])
  refine ⟨_, congrArg (fun v => Host.Outcome.next (State.settle v)) reaches, ?_⟩
  simp only [settle_rail, (raiseP_changes ..).rail (by decide), onRail_self r.isLt, true_and]
  exact ⟨holds_settle (raiseP_holds ..), fun q hq => onRail_other (fun h => hq (Fin.ext h)) _,
    (((up.trans (raiseP_changes ..)).trans settle_changes).mono (by decide)).frame_railUp⟩

/-- A rail whose soft-stop for a reason, 0 for none, is at its end. -/
def Rail.softStopped (why : Nat) (x : Rail) : Rail :=
  { x with st := if why = 0 then .stopped else .faulted, reason := why, stopReason := 0, vref := 0, locked := false,
           corrLim := false, tracking := false, braking := false }

theorem phasesOff_changes (q : Nat) : ChangesOnly [.arm] s (s.phasesOff q) := .write _ rfl

theorem phasesOff_other {q j : Nat} (hj : j ≠ q) : (s.phasesOff q).rail j = s.rail j := onRail_other hj _

/-- The gates of a rail are low after its soft-stop, before PLL384 and the edge map follow. -/
def State.gatesOff (s : State) (q : Nat) : State :=
  (s.phasesOff q).onRail q (Rail.softStopped (s.rail q).stopReason)

theorem gatesOff_changes (q : Nat) : ChangesOnly [.arm] s (s.gatesOff q) :=
  ((phasesOff_changes _).trans (onRail_changes ..)).mono (by decide)

theorem exec_softStopComplete (hst : (s.rail r.val).st = .stopping) :
    exec (.softStopComplete r) s = .next (s.gatesOff r.val).pllEval.remap.settle :=
  congrArg (fun v => Host.Outcome.next (State.settle v)) (if_neg (Decidable.not_not.2 hst))

theorem softStopped_rail (s : State) (r : Fin 2) : (s.gatesOff r.val).pllEval.remap.settle.rail r.val =
    ((s.phasesOff r.val).rail r.val).softStopped (s.rail r.val).stopReason := by
  rw [settle_rail, remap_rail, pllEval_changes.rail (by decide), State.gatesOff, onRail_self r.isLt]

theorem softStopComplete_idle (s : State) (r : Fin 2) (hst : (s.rail r.val).st = .stopping)
    (hwhy : (s.rail r.val).stopReason = 0) : ∃ t, exec (.softStopComplete r) s = .next t ∧
      (t.rail r.val).st = .stopped ∧ (t.rail r.val).vref = 0 ∧ (∀ q : Fin 2, q ≠ r → t.rail q.val = s.rail q.val) ∧
      t = { s.withLogs t with
        plinth := { s.plinth with pll := t.plinth.pll }, arm := t.arm, camyx := t.camyx, nfc := t.nfc, tab := t.tab } := by
  have after : ChangesOnly [.arm, .camyx, .nfc, .tab, .logs] (s.gatesOff r.val).pllEval
      (s.gatesOff r.val).pllEval.remap.settle := (remap_changes.trans settle_changes).mono (by decide)
  have hplinth : (s.gatesOff r.val).pllEval.remap.settle.plinth =
      { s.plinth with pll := (s.gatesOff r.val).pllEval.plinth.pll } := after.same .plinth (by decide)
  refine ⟨_, exec_softStopComplete hst, ?_⟩
  rw [softStopped_rail]
  refine ⟨if_pos hwhy, rfl, fun q hq => ?others, ?frame⟩
  case others =>
    have hqr : q.val ≠ r.val := fun h => hq (Fin.ext h)
    rw [settle_rail, remap_rail, pllEval_changes.rail (by decide)]
    exact (onRail_other hqr _).trans (phasesOff_other hqr)
  case frame =>
    exact ((((gatesOff_changes _).trans pllEval_changes).trans after).mono (by decide)).frame_softStop hplinth

theorem softStopComplete_faulted (s : State) (r : Fin 2) (hst : (s.rail r.val).st = .stopping)
    (hwhy : (s.rail r.val).stopReason ≠ 0) : ∃ t, exec (.softStopComplete r) s = .next t ∧
      (t.rail r.val).st = .faulted ∧ (t.rail r.val).reason = (s.rail r.val).stopReason := by
  refine ⟨_, exec_softStopComplete hst, ?_⟩
  rw [softStopped_rail]
  exact ⟨if_neg hwhy, rfl⟩

/-! ### A TRK follower that falls short (R320) -/

theorem trackFault_acts (s : State) (r : Fin 2) (hsrc : s.param (P.armTrackSrc r.val) = 2)
    (hst : (s.rail r.val).st = .starting) : ∃ t, exec (.trackFault r) s = .next t ∧
      t.rail r.val = { s.rail r.val with tracking := false } ∧ t.holds (Ev.trackFault r.val) = true ∧
      t = { s.withLogs t with arm := t.arm } :=
  ⟨_, congrArg Host.Outcome.next (if_pos ⟨hsrc, hst⟩),
    ((raiseP_changes ..).rail (by decide) _).trans (onRail_self r.isLt _), raiseP_holds ..,
    ((onRail_changes ..).trans (raiseP_changes ..)).frame_arm⟩

/-- Settles O30: each command by its lemmas above; no reply to an operation in hand takes back a name that the command has
raised. -/
theorem railsStartAndStop : Obligations.RailsStartAndStop := by
  unfold Obligations.RailsStartAndStop
  intro s r
  refine ⟨fun chk hrail => ?locks, fun chk hrail => ?refused, railUp_acts s r, softStopComplete_idle s r,
    softStopComplete_faulted s r, trackFault_acts s r⟩
  case locks =>
    subst hrail
    exact pll384Locked_starts s chk
  case refused =>
    subst hrail
    exact pll384Locked_fbOpen s chk

end Sys2Proof.Machine
end

section
/-! PROOFS. One step: what every command keeps, from the lemma of its meaning; the front of the queue; and the bounds at
reset. -/

namespace Sys2Proof.Machine

/-- Every command completes and keeps what its meaning keeps: the queue behind it, what is fixed of the identity, and the
bounds of clocks and logs where they hold before. -/
theorem exec_kept {B : Prop} {Q : List Instr} {K : Ident} {s : State} (h : Kept B Q K s) (c : Instr) :
    ∃ t, exec c s = .next t ∧ Kept B Q K t := by
  cases c with
  | plinthPowerOnReset src straps => exact execPlinthPowerOnReset_kept src straps s h
  | rstNAssert => exact execRstNAssert_kept s h
  | rstNRelease straps => exact execRstNRelease_kept straps s h
  | watchdogExpiry => exact execWatchdogExpiry_kept s h
  | coreLockup => exact execCoreLockup_kept s h
  | vcoreBrownout => exact execVcoreBrownout_kept s h
  | rc48Failure => exact execRc48Failure_kept s h
  | rc48RestartTimeout => exact execRc48RestartTimeout_kept s h
  | warmRestartComplete => exact execWarmRestartComplete_kept s h
  | coldBootComplete chk => exact execColdBootComplete_kept chk s h
  | xtalFail => exact execXtalFail_kept s h
  | xtalRetry => exact execXtalRetry_kept s h
  | xtalFailClear => exact execXtalFailClear_kept s h
  | busUvFall vbusMv => exact execBusUvFall_kept vbusMv s h
  | busQualify vbusMv => exact execBusQualify_kept vbusMv s h
  | busLost => exact execBusLost_kept s h
  | busFullCrossing rising vbusMv => exact execBusFullCrossing_kept rising vbusMv s h
  | busHighCrossing rising vbusMv => exact execBusHighCrossing_kept rising vbusMv s h
  | busOv vbusMv => exact execBusOv_kept vbusMv s h
  | busOvFall vbusMv => exact execBusOvFall_kept vbusMv s h
  | busDump vbusMv => exact execBusDump_kept vbusMv s h
  | busDumpFall vbusMv => exact execBusDumpFall_kept vbusMv s h
  | busReverse vbusMv => exact execBusReverse_kept vbusMv s h
  | busReverseRelease vbusMv => exact execBusReverseRelease_kept vbusMv s h
  | reverseHoldOn vbusMv => exact execReverseHoldOn_kept vbusMv s h
  | gndOpen => exact execGndOpen_kept s h
  | gndOpenClear => exact execGndOpenClear_kept s h
  | handoverMake => exact execHandoverMake_kept s h
  | dwellExpiry => exact execDwellExpiry_kept s h
  | vselCollapseAfterMake => exact execVselCollapseAfterMake_kept s h
  | stoQualify stoMv => exact execStoQualify_kept stoMv s h
  | stoDisqualify stoMv => exact execStoDisqualify_kept stoMv s h
  | fieldQualify => exact execFieldQualify_kept s h
  | fieldDisqualify => exact execFieldDisqualify_kept s h
  | bakQualifyChange bakMv => exact execBakQualifyChange_kept bakMv s h
  | plinthSupplyFail => exact execPlinthSupplyFail_kept s h
  | scDerateChange tempC => exact execScDerateChange_kept tempC s h
  | stoShortDetect stoMv => exact execStoShortDetect_kept stoMv s h
  | stoShortRetry stoMv => exact execStoShortRetry_kept stoMv s h
  | stoOpenDetect stoMv => exact execStoOpenDetect_kept stoMv s h
  | stoOvervoltage stoMv => exact execStoOvervoltage_kept stoMv s h
  | prechargeTimeout stoMv => exact execPrechargeTimeout_kept stoMv s h
  | chargeTermination => exact execChargeTermination_kept s h
  | midOpen midMv => exact execMidOpen_kept midMv s h
  | midOpenClear midMv => exact execMidOpenClear_kept midMv s h
  | stoImbalance cleared => exact execStoImbalance_kept cleared s h
  | balancerStop => exact execBalancerStop_kept s h
  | bakMeasure bakMv loaded => exact execBakMeasure_kept bakMv loaded s h
  | vhostCurrentLimit loadMa => exact execVhostCurrentLimit_kept loadMa s h
  | vhostRetry failed => exact execVhostRetry_kept failed s h
  | cscStart p => exact execCscStart_kept p s h
  | cscStop => exact execCscStop_kept s h
  | cscVocSample p => exact execCscVocSample_kept p s h
  | plinthStartFromSto stoMv delivering straps => exact execPlinthStartFromSto_kept stoMv delivering straps s h
  | coldBootTrigger stoMv => exact execColdBootTrigger_kept stoMv s h
  | tegUp vocUv => exact execTegUp_kept vocUv s h
  | tegLost => exact execTegLost_kept s h
  | vibUp vocUv hz => exact execVibUp_kept vocUv hz s h
  | vibLost => exact execVibLost_kept s h
  | pvUp vocUv => exact execPvUp_kept vocUv s h
  | pvLost => exact execPvLost_kept s h
  | nfcHrv rectMv uw => exact execNfcHrv_kept rectMv uw s h
  | trackerPeriod c meanUw => exact execTrackerPeriod_kept c meanUw s h
  | trackerSkip c => exact execTrackerSkip_kept c s h
  | vocSample c vocUv carrier => exact execVocSample_kept c vocUv carrier s h
  | vocSampleRestart c => exact execVocSampleRestart_kept c s h
  | mpptLimit c uw ma => exact execMpptLimit_kept c uw ma s h
  | mpptLimitClear c => exact execMpptLimitClear_kept c s h
  | storeFullStop vhbMv => exact execStoreFullStop_kept vhbMv s h
  | storeResume vhbMv => exact execStoreResume_kept vhbMv s h
  | boostCeiling rising => exact execBoostCeiling_kept rising s h
  | referenceRefresh => exact execReferenceRefresh_kept s h
  | hbClamp conducting => exact execHbClamp_kept conducting s h
  | tegOscCheck gained => exact execTegOscCheck_kept gained s h
  | lstoOpen => exact execLstoOpen_kept s h
  | lstoRetry works => exact execLstoRetry_kept works s h
  | stageOc st => exact execStageOc_kept st s h
  | stageOcRetry st works => exact execStageOcRetry_kept st works s h
  | vhbLow cleared => exact execVhbLow_kept cleared s h
  | vibDcOv cleared => exact execVibDcOv_kept cleared s h
  | ledgerUpdate g => exact execLedgerUpdate_kept g s h
  | holdRise => exact execHoldRise_kept s h
  | holdFall => exact execHoldFall_kept s h
  | rearmEnd => exact execRearmEnd_kept s h
  | holdOverrun => exact execHoldOverrun_kept s h
  | breachGraceExpiry => exact execBreachGraceExpiry_kept s h
  | reservationRequest j units => exact execReservationRequest_kept j units s h
  | reservationWaitExpiry j => exact execReservationWaitExpiry_kept j s h
  | reservationRelease j => exact execReservationRelease_kept j s h
  | ledgerFirmwareTimeout => exact execLedgerFirmwareTimeout_kept s h
  | calendarHourEnd => exact execCalendarHourEnd_kept s h
  | calendarSave ok => exact execCalendarSave_kept ok s h
  | forecastCheck => exact execForecastCheck_kept s h
  | fcSuspendEnd => exact execFcSuspendEnd_kept s h
  | runLingerExpiry => exact execRunLingerExpiry_kept s h
  | wakeSource w => exact execWakeSource_kept w s h
  | housekeepingRun => exact execHousekeepingRun_kept s h
  | housekeepingLimit => exact execHousekeepingLimit_kept s h
  | shadowTransfer => exact execShadowTransfer_kept s h
  | u0BaudChange => exact execU0BaudChange_kept s h
  | adcSSample ch slot pos ma => exact execAdcSSample_kept ch slot pos ma s h
  | dozeBurst ch ma => exact execDozeBurst_kept ch ma s h
  | blockOverrun level us => exact execBlockOverrun_kept level us s h
  | spiWriteTransaction bytes => exact execSpiWriteTransaction_kept bytes s h
  | spiReadTransaction n => exact execSpiReadTransaction_kept n s h
  | spiVoidTransaction header n => exact execSpiVoidTransaction_kept header n s h
  | i2cWriteTransaction addr bytes => exact execI2cWriteTransaction_kept addr bytes s h
  | i2cReadTransaction addr n => exact execI2cReadTransaction_kept addr n s h
  | uartPacketReceived bytes => exact execUartPacketReceived_kept bytes s h
  | uartGapTimeout => exact execUartGapTimeout_kept s h
  | uartReplyTransmit => exact execUartReplyTransmit_kept s h
  | bridgeFrame bytes => exact execBridgeFrame_kept bytes s h
  | bridgeReplyTimeout addr seq => exact execBridgeReplyTimeout_kept addr seq s h
  | packetPart opc rq => exact execPacketPart_kept opc rq s h
  | camyxApdu bytes => exact execCamyxApdu_kept bytes s h
  | sWtx => exact execSWtx_kept s h
  | sessionPendingLapse t => exact execSessionPendingLapse_kept t s h
  | sessionIdleExpiry t => exact execSessionIdleExpiry_kept t s h
  | ping rq => exact execPing_kept rq s h
  | openSession rq => exact execOpenSession_kept rq s h
  | closeSession rq => exact execCloseSession_kept rq s h
  | abort rq => exact execAbort_kept rq s h
  | getInfo rq => exact execGetInfo_kept rq s h
  | tabForward rq => exact execTabForward_kept rq s h
  | readParam rq => exact execReadParam_kept rq s h
  | writeParam rq => exact execWriteParam_kept rq s h
  | commit rq => exact execCommit_kept rq s h
  | revert rq => exact execRevert_kept rq s h
  | save rq => exact execSave_kept rq s h
  | readLive rq => exact execReadLive_kept rq s h
  | imageExport rq => exact execImageExport_kept rq s h
  | imageImport rq => exact execImageImport_kept rq s h
  | chSet rq => exact execChSet_kept rq s h
  | chClear rq => exact execChClear_kept rq s h
  | railCtrlStop rq => exact execRailCtrlStop_kept rq s h
  | railCtrlStart rq => exact execRailCtrlStart_kept rq s h
  | railCtrlClearLatch rq => exact execRailCtrlClearLatch_kept rq s h
  | faultRead rq => exact execFaultRead_kept rq s h
  | shedSet rq => exact execShedSet_kept rq s h
  | timeSet rq => exact execTimeSet_kept rq s h
  | allowanceSet rq => exact execAllowanceSet_kept rq s h
  | nodeList rq => exact execNodeList_kept rq s h
  | evtRead rq => exact execEvtRead_kept rq s h
  | patinaRead rq => exact execPatinaRead_kept rq s h
  | traceArm rq => exact execTraceArm_kept rq s h
  | traceStop rq => exact execTraceStop_kept rq s h
  | traceRead rq => exact execTraceRead_kept rq s h
  | keyWrite rq => exact execKeyWrite_kept rq s h
  | keyErase rq => exact execKeyErase_kept rq s h
  | attest rq => exact execAttest_kept rq s h
  | fwBegin rq => exact execFwBegin_kept rq s h
  | fwBlock rq => exact execFwBlock_kept rq s h
  | fwActivate rq => exact execFwActivate_kept rq s h
  | debugUnlock rq => exact execDebugUnlock_kept rq s h
  | debugUnlockLapse => exact execDebugUnlockLapse_kept s h
  | reset rq => exact execReset_kept rq s h
  | resetExecute => exact execResetExecute_kept s h
  | shelf rq => exact execShelf_kept rq s h
  | decommission rq => exact execDecommission_kept rq s h
  | pwmCycleStart ch tick => exact execPwmCycleStart_kept ch tick s h
  | secondBoundaryPattern ch => exact execSecondBoundaryPattern_kept ch s h
  | strobeLoss d => exact execStrobeLoss_kept d s h
  | strobeReturn d => exact execStrobeReturn_kept d s h
  | rangeSwitchDown ch => exact execRangeSwitchDown_kept ch s h
  | measurementWindow ch => exact execMeasurementWindow_kept ch s h
  | openLoadDetect ch => exact execOpenLoadDetect_kept ch s h
  | openLoadClear ch => exact execOpenLoadClear_kept ch s h
  | pairShare ch => exact execPairShare_kept ch s h
  | gpioDebounceComplete g high => exact execGpioDebounceComplete_kept g high s h
  | dimHold g => exact execDimHold_kept g s h
  | dimRampStep g => exact execDimRampStep_kept g s h
  | wallActionApply => exact execWallActionApply_kept s h
  | restoreAtStart d => exact execRestoreAtStart_kept d s h
  | livePlugWindow ch => exact execLivePlugWindow_kept ch s h
  | inrushWindowClose ch => exact execInrushWindowClose_kept ch s h
  | currentLimitReached ch => exact execCurrentLimitReached_kept ch s h
  | limitTrip ch hard => exact execLimitTrip_kept ch hard s h
  | inrushRetry ch => exact execInrushRetry_kept ch s h
  | limitTimerReset ch => exact execLimitTimerReset_kept ch s h
  | thermalShutdown ch tempC => exact execThermalShutdown_kept ch tempC s h
  | thermalRestart ch tempC => exact execThermalRestart_kept ch tempC s h
  | dieTempWarn d tempC => exact execDieTempWarn_kept d tempC s h
  | clampEvent ch ma tclUs vclMv => exact execClampEvent_kept ch ma tclUs vclMv s h
  | noFreewheel ch => exact execNoFreewheel_kept ch s h
  | heartbeatLoss d => exact execHeartbeatLoss_kept d s h
  | heartbeatReturn d => exact execHeartbeatReturn_kept d s h
  | dieFence d why => exact execDieFence_kept d why s h
  | dieSelfTest d pass => exact execDieSelfTest_kept d pass s h
  | dieSumWarn d above => exact execDieSumWarn_kept d above s h
  | dieSupplyLoss d => exact execDieSupplyLoss_kept d s h
  | dieSupplyReturn d => exact execDieSupplyReturn_kept d s h
  | railFiring r dt fbUv integUv vosMv vbusMv low => exact execRailFiring_kept r dt fbUv integUv vosMv vbusMv low s h
  | lockChange r locked corrLimit => exact execLockChange_kept r locked corrLimit s h
  | quietMapRecompute vbusMv => exact execQuietMapRecompute_kept vbusMv s h
  | balanceTick r means => exact execBalanceTick_kept r means s h
  | balanceLimit p cleared => exact execBalanceLimit_kept p cleared s h
  | pll384Locked chk => exact execPll384Locked_kept chk s h
  | railUp r => exact execRailUp_kept r s h
  | softStopComplete r => exact execSoftStopComplete_kept r s h
  | trackFault r => exact execTrackFault_kept r s h
  | syncAcquire => exact execSyncAcquire_kept s h
  | syncLoss => exact execSyncLoss_kept s h
  | brakeStart r => exact execBrakeStart_kept r s h
  | brakeEnd r why => exact execBrakeEnd_kept r why s h
  | scLimit p => exact execScLimit_kept p s h
  | overloadTimeout r onePhase => exact execOverloadTimeout_kept r onePhase s h
  | overloadRetry r => exact execOverloadRetry_kept r s h
  | undervolt r atMaxDuty limited => exact execUndervolt_kept r atMaxDuty limited s h
  | dropoutClear r => exact execDropoutClear_kept r s h
  | hiccupRestart r => exact execHiccupRestart_kept r s h
  | hiccupCountClear r => exact execHiccupCountClear_kept r s h
  | vdrvLockout => exact execVdrvLockout_kept s h
  | vdrvRelease => exact execVdrvRelease_kept s h
  | pllLoss => exact execPllLoss_kept s h
  | pllRelock => exact execPllRelock_kept s h
  | outOvLatch r peakFbMv => exact execOutOvLatch_kept r peakFbMv s h
  | phaseFailedPath p why => exact execPhaseFailedPath_kept p why s h
  | phaseShed p => exact execPhaseShed_kept p s h
  | vosMismatch r => exact execVosMismatch_kept r s h
  | faultRecordWrite r => exact execFaultRecordWrite_kept r s h
  | pilotWordSend => exact execPilotWordSend_kept s h
  | pilotWordReceived w => exact execPilotWordReceived_kept w s h
  | pilotLoss byWords => exact execPilotLoss_kept byWords s h
  | timeApply => exact execTimeApply_kept s h
  | superframeStart => exact execSuperframeStart_kept s h
  | headExchange slotsLeft => exact execHeadExchange_kept slotsLeft s h
  | lineFrameReceived desc bytes snrQ => exact execLineFrameReceived_kept desc bytes snrQ s h
  | replyWindow rlen rmode => exact execReplyWindow_kept rlen rmode s h
  | accessFrameSend => exact execAccessFrameSend_kept s h
  | joinReceived desc bytes => exact execJoinReceived_kept desc bytes s h
  | joinRetry => exact execJoinRetry_kept s h
  | reassemblyTimeout addr => exact execReassemblyTimeout_kept addr s h
  | laneDrop lane restore => exact execLaneDrop_kept lane restore s h
  | nodeLost addr => exact execNodeLost_kept addr s h
  | nodeUnjoin => exact execNodeUnjoin_kept s h
  | alertTrigger group => exact execAlertTrigger_kept group s h
  | pilotHoldExpiry => exact execPilotHoldExpiry_kept s h
  | shedHoldExpiry => exact execShedHoldExpiry_kept s h
  | droopRise level vbusMv => exact execDroopRise_kept level vbusMv s h
  | droopFall vbusMv => exact execDroopFall_kept vbusMv s h
  | pickupDelayExpiry ch => exact execPickupDelayExpiry_kept ch s h
  | allowanceReached cls => exact execAllowanceReached_kept cls s h
  | allowanceDayStart => exact execAllowanceDayStart_kept s h
  | txFault short => exact execTxFault_kept short s h
  | txFaultRetry works => exact execTxFaultRetry_kept works s h
  | headStartupListenEnd heard => exact execHeadStartupListenEnd_kept heard s h
  | headClash => exact execHeadClash_kept s h
  | headClashListenEnd heard => exact execHeadClashListenEnd_kept heard s h
  | stoodDownCheck quiet => exact execStoodDownCheck_kept quiet s h
  | tabCycleStart => exact execTabCycleStart_kept s h
  | leadFrameReceived bytes => exact execLeadFrameReceived_kept bytes s h
  | gangShareStart r => exact execGangShareStart_kept r s h
  | memberFrameReceived bytes => exact execMemberFrameReceived_kept bytes s h
  | bulkFrameReceived bytes => exact execBulkFrameReceived_kept bytes s h
  | joinFrameReceived bytes => exact execJoinFrameReceived_kept bytes s h
  | electionStart => exact execElectionStart_kept s h
  | electionListenEnd => exact execElectionListenEnd_kept s h
  | readbackFailure => exact execReadbackFailure_kept s h
  | tsyncLock => exact execTsyncLock_kept s h
  | tsyncLoss => exact execTsyncLoss_kept s h
  | tsyncContention => exact execTsyncContention_kept s h
  | memberSilent m => exact execMemberSilent_kept m s h
  | memberLost m => exact execMemberLost_kept m s h
  | leadLostTimeout => exact execLeadLostTimeout_kept s h
  | memberReturn m => exact execMemberReturn_kept m s h
  | disagreementCheck m => exact execDisagreementCheck_kept m s h
  | linkFault cleared => exact execLinkFault_kept cleared s h
  | nfcReqa rectMv => exact execNfcReqa_kept rectMv s h
  | nfcAnticollision uid => exact execNfcAnticollision_kept uid s h
  | nfcRats param => exact execNfcRats_kept param s h
  | nfcPps param => exact execNfcPps_kept param s h
  | appSelect bytes => exact execAppSelect_kept bytes s h
  | readBinary file offset len => exact execReadBinary_kept file offset len s h
  | updateBinary => exact execUpdateBinary_kept s h
  | fieldLost => exact execFieldLost_kept s h
  | keyCommitSurplusCheck uw rectMv expired => exact execKeyCommitSurplusCheck_kept uw rectMv expired s h
  | fwTrialConfirm => exact execFwTrialConfirm_kept s h
  | fifoWrite => exact execFifoWrite_kept s h
  | pulseAckTimeout g bit => exact execPulseAckTimeout_kept g bit s h
  | patinaCapture => exact execPatinaCapture_kept s h
  | tokenGain => exact execTokenGain_kept s h
  | patinaFlush ok => exact execPatinaFlush_kept ok s h
  | traceSample => exact execTraceSample_kept s h
  | traceTrigger => exact execTraceTrigger_kept s h
  | traceDone => exact execTraceDone_kept s h
  | wearUpdate w => exact execWearUpdate_kept w s h
  | shutdownStep2 => exact execShutdownStep2_kept s h
  | shutdownStep3 => exact execShutdownStep3_kept s h
  | shutdownCommit => exact execShutdownCommit_kept s h
  | plinthEntry => exact execPlinthEntry_kept s h
  | railPickup => exact execRailPickup_kept s h
  | autostartPending r => exact execAutostartPending_kept r s h
  | channelPickup ch => exact execChannelPickup_kept ch s h
  | clpRetryReset => exact execClpRetryReset_kept s h
  | floorEssentialCommit stoMv => exact execFloorEssentialCommit_kept stoMv s h
  | shelfShutdownStart => exact execShelfShutdownStart_kept s h
  | shelfEntry => exact execShelfEntry_kept s h
  | shelfTimer straps => exact execShelfTimer_kept straps s h
  | shelfReentry => exact execShelfReentry_kept s h
  | shelfMarkerClear => exact execShelfMarkerClear_kept s h
  | decommissionOutputs => exact execDecommissionOutputs_kept s h
  | decommissionErase => exact execDecommissionErase_kept s h
  | decommissionReset => exact execDecommissionReset_kept s h
  | xo32Started => exact execXo32Started_kept s h
  | nvmProgramEraseComplete ok => exact execNvmProgramEraseComplete_kept ok s h
  | onStaggerExpiry => exact execOnStaggerExpiry_kept s h
  | evtPinMinHoldExpiry pin => exact execEvtPinMinHoldExpiry_kept pin s h
  | nfcSessionRenewal => exact execNfcSessionRenewal_kept s h

/-- A state keeps its own queue and identity; nothing is asked of its clocks and logs. -/
theorem Kept.self (s : State) : Kept False s.pending s.ident s :=
  ⟨rfl, rfl, rfl, rfl, rfl, False.elim, False.elim, False.elim, False.elim, False.elim, False.elim, rfl⟩

/-- Settles O59: each command by the lemma of its meaning. -/
theorem commandsLeaveQueueAndIdentity : Obligations.CommandsLeaveQueueAndIdentity := by
  unfold Obligations.CommandsLeaveQueueAndIdentity
  intro c s
  obtain ⟨t, hexec, hkept⟩ := exec_kept (Kept.self s) c
  exact ⟨t, hexec, hkept.pend, hkept.qb, hkept.uid, hkept.ck, hkept.ap, hkept.ac⟩

/-- Settles O55: that is how `step` is defined on a queue that is not empty. -/
theorem stepRunsTheFrontCommand : Obligations.StepRunsTheFrontCommand := by
  unfold Obligations.StepRunsTheFrontCommand
  intro c q s
  rfl

/-- Settles O58: at reset the clocks stand at 0, the FIFO and the Patina RAM are empty, and the bucket is full. -/
theorem resetIsWithinTheBounds : Obligations.ResetIsWithinTheBounds := by
  unfold Obligations.ResetIsWithinTheBounds
  have hclock : State.reset.clockBounded := ⟨by decide, by decide, by decide⟩
  have hlogs : State.reset.logsBounded := ⟨by decide, by decide, by decide⟩
  exact ⟨hclock, hlogs⟩

end Sys2Proof.Machine
end

section
/-! PROOFS. What ends a stop on a fault at a carrier of a gang rail that does not lead: nothing of its own (R411), and the
two obligations that have every rail restart by itself fail there. -/

namespace Sys2Proof.Machine

/-- R411: a carrier that does not lead waits for the order of its lead. -/
theorem restartRail_carried {s : State} {r : Nat} (hcarries : s.carries r = true) (hlead : s.tab.lead = false) :
    s.restartRail r = s := by
  unfold State.restartRail
  split
  · rfl
  · simp [hlead]

theorem restartAll_eq (s : State) (why : Nat) :
    s.restartAll why =
      if ((if (s.rail 0).reason = why then s.restartRail 0 else s).rail 1).reason = why then
        (if (s.rail 0).reason = why then s.restartRail 0 else s).restartRail 1
      else if (s.rail 0).reason = why then s.restartRail 0 else s := rfl

/-- Member 0 of a Tableau, which carries rail A in a gang with member 1 and does not lead; rail A stands stopped on a fault
while VBUS and VDRV let it run. -/
def carrierInFault (why : Nat) : State :=
  { State.reset with
    tab := { State.reset.tab with inTab := true }
    config := { State.reset.config with inForce := State.reset.config.inForce.put P.tabGangA 3 }
    power := { State.reset.power with busFull := true, busOv := false, busRev := false }
    life := { State.reset.life with st := .running }
    arm := { State.reset.arm with
      vdrvOk := true
      rail := upd State.reset.arm.rail 0 fun x => { x with st := .faulted, reason := why } } }

theorem exec_hiccupRestart_carrier : exec (.hiccupRestart 0) (carrierInFault 5) = .next (carrierInFault 5) := by
  have hkept : (carrierInFault 5).restartRail 0 = carrierInFault 5 := restartRail_carried (by decide) rfl
  exact congrArg Host.Outcome.next ((if_pos rfl).trans hkept)

/-- Refutes O31: its restart clauses take every rail that stopped on a hiccup, and the rail of a gang does not restart by
itself at a carrier that does not lead (R411): rail A of the carrier stays in state 5 at the end of its hiccup wait. -/
theorem not_railLimitsAndRestartsAct : ¬ Obligations.RailLimitsAndRestartsAct := by
  unfold Obligations.RailLimitsAndRestartsAct
  intro h
  obtain ⟨-, -, hrestart, -⟩ := h (carrierInFault 5) 0
  obtain ⟨-, hhiccup⟩ := hrestart 5 rfl rfl (by decide) (by decide)
  obtain ⟨t, ht, hst, -⟩ := hhiccup rfl
  rw [exec_hiccupRestart_carrier] at ht
  obtain rfl := Host.Outcome.next.inj ht
  exact absurd hst (by decide)

/-- The carrier as the relock of its PLL leaves it: with the PLL as its rails want it. -/
def carrierRelocked : State :=
  { carrierInFault 8 with
    plinth := { (carrierInFault 8).plinth with pll := (carrierInFault 8).pllWanted } }

theorem exec_pllRelock_carrier : exec .pllRelock (carrierInFault 8) = .next carrierRelocked := by
  have hkept : carrierRelocked.restartRail 0 = carrierRelocked := restartRail_carried (by decide) rfl
  have hother : (carrierRelocked.rail 1).reason ≠ 8 := by decide
  have hall : carrierRelocked.restartAll 8 = carrierRelocked := by
    rw [restartAll_eq, if_pos (show (carrierRelocked.rail 0).reason = 8 from rfl), hkept, if_neg hother]
  exact congrArg Host.Outcome.next hall

/-- Refutes O32: its clause on the relock of the PLL takes every rail that stopped with PLL, and the rail of a gang does not
restart by itself at a carrier that does not lead (R411): rail A of the carrier stays in state 5. -/
theorem not_railFaultsAndRecordsAct : ¬ Obligations.RailFaultsAndRecordsAct := by
  unfold Obligations.RailFaultsAndRecordsAct
  intro h
  obtain ⟨-, -, ⟨t, ht, -, hrestart⟩, -⟩ := h (carrierInFault 8) 0
  have hst := hrestart rfl rfl (by decide) (by decide)
  rw [exec_pllRelock_carrier] at ht
  obtain rfl := Host.Outcome.next.inj ht
  exact absurd hst (by decide)

end Sys2Proof.Machine
end

section
/-! PROOFS. The disagreement of VOSx and FBx (R342): the rail soft-stops, and its soft-stop ends in state 5. -/

namespace Sys2Proof.Machine

variable {s t : State} {r : Fin 2}

theorem capture_changes (q cause phases detail : Nat) : ChangesOnly [.arm, .ctr] s (s.capture q cause phases detail) :=
  .write _ rfl

theorem capture_st (s : State) (q cause phases detail j : Nat) :
    ((s.capture q cause phases detail).rail j).st = (s.rail j).st := by
  show ((s.onRail q _).rail j).st = _
  rw [onRail_rail]
  split <;> rfl

theorem leaderFault_changes (q : Nat) : ChangesOnly [.arm, .logs] s (s.leaderFault q) :=
  .thenOnly ((stopOne_changes ..).trans (raiseP_changes ..))

theorem softFault_changes (q reason detail : Nat) : ChangesOnly [.arm, .ctr, .logs] s (s.softFault q reason detail) :=
  (((capture_changes ..).trans (stopOne_changes ..)).trans (leaderFault_changes _)).mono (by decide)

/-- A soft-stop for a reason leaves a rail that runs stopping for it. -/
theorem softFault_self (hlive : (s.rail r.val).st.live = true) (reason detail : Nat) :
    ((s.softFault r.val reason detail).rail r.val).st = .stopping ∧
      ((s.softFault r.val reason detail).rail r.val).stopReason = reason := by
  have hst := capture_st s r.val reason (s.runMask r.val) detail r.val
  unfold State.softFault
  rw [leaderFault_leader, State.stopOne, if_pos (by rw [hst, hlive]), onRail_self r.isLt]
  exact ⟨rfl, rfl⟩

/-- The phases of a rail are off when its gates are low. -/
theorem gatesOff_phase (s : State) (q : Nat) (p : Fin 8) (hrail : s.railOf p.val = q) :
    ((s.gatesOff q).phase p.val).running = false := by
  unfold State.gatesOff State.phasesOff
  rw [onRail_phase, onRail_phase, phase_fin]
  simp [hrail]

/-- The phases of a rail are off after its soft-stop. -/
theorem softStopped_phase (s : State) (q : Nat) (p : Fin 8) (hrail : s.railOf p.val = q) :
    ((s.gatesOff q).pllEval.remap.settle.phase p.val).running = false := by
  rw [settle_phase, remap_phase, pllEval_changes.phase (by decide), gatesOff_phase s q p hrail]

/-- A rail that disagrees with its sense stops for VOS, and at the end of that stop stands in state 5 with its gates low. -/
theorem vosMismatch_stops (hst : (s.rail r.val).st = .regulating) (hvos : s.targetMv r.val < 2 * (s.rail r.val).vos) :
    ∃ t u, exec (.vosMismatch r) s = .next t ∧
      (t.rail r.val).st = .stopping ∧ t.holds (Ev.railStop r.val) = true ∧ exec (.softStopComplete r) t = .next u ∧
      (u.rail r.val).st = .faulted ∧ (u.rail r.val).reason = 10 ∧ (∀ p : Fin 8, s.railOf p.val = r.val →
        (u.phase p.val).running = false) := by
  let t := (s.softFault r.val 10 0).raiseC (Ev.railStop r.val) 10 0
  have hexec : exec (.vosMismatch r) s = .next t := congrArg Host.Outcome.next (if_pos ⟨hst, hvos⟩)
  have hchanges : ChangesOnly [.arm, .ctr, .logs] s t := ((softFault_changes ..).trans (raiseC_changes ..)).mono (by decide)
  have hrail : t.rail r.val = (s.softFault r.val 10 0).rail r.val := (raiseC_changes ..).rail (by decide) _
  obtain ⟨hstops, hwhy⟩ := softFault_self (s := s) (r := r) (by rw [hst]; rfl) 10 0
  rw [← hrail] at hstops hwhy
  refine ⟨t, _, hexec, hstops, raiseC_holds .., exec_softStopComplete hstops, ?_⟩
  rw [softStopped_rail, hwhy]
  refine ⟨rfl, rfl, fun p hp => softStopped_phase t r.val p ?_⟩
  rw [railOf_congr (hchanges.param (by decide) (by decide)), hp]

/-- Settles O53: above half of its target the rail stops; else the command does nothing. -/
theorem outputSenseMismatchStopsTheRail : Obligations.OutputSenseMismatchStopsTheRail := by
  unfold Obligations.OutputSenseMismatchStopsTheRail
  intro s r hst
  refine ⟨vosMismatch_stops hst, fun hvos => congrArg Host.Outcome.next (if_neg ?_)⟩
  rintro ⟨-, hover⟩
  omega

end Sys2Proof.Machine
end

section
/-! PROOFS. Fault records (R347): what FAULT_READ returns, and the record that a clear of the latch rewrites in its place. -/

namespace Sys2Proof.Machine

/-! ### Fields of little-endian bytes -/

theorem length_toLe (k n : Nat) : (toLe k n).length = k := by
  induction k generalizing n with
  | zero => rfl
  | succ k ih => simp [toLe, ih]

theorem ofLe_toLe (k n : Nat) : ofLe (toLe k n) = n % 256 ^ k := by
  induction k generalizing n with
  | zero => simp [toLe, ofLe, Nat.mod_one]
  | succ k ih =>
    rw [toLe, ofLe, ih, BitVec.toNat_ofNat, show 256 ^ (k + 1) = 256 * 256 ^ k from Nat.pow_succ']
    exact Nat.mod_mul.symm

theorem toNat_crc32c (b : List Byte) : ofLe (toLe 4 (crc32c b).toNat) = (crc32c b).toNat := by
  rw [ofLe_toLe]
  exact Nat.mod_eq_of_lt (crc32c b).isLt

/-- A field that lies within the first bytes is read from them alone. -/
theorem fieldAt_append_left {a : List Byte} (l : List Byte) {o k : Nat} (h : o + k ≤ a.length) :
    fieldAt (a ++ l) o k = fieldAt a o k := by
  unfold fieldAt
  rw [List.drop_append_of_le_length (by omega), List.take_append_of_le_length (by simp; omega)]

/-- A field that begins where the first bytes end. -/
theorem fieldAt_append_right (a l : List Byte) (k : Nat) : fieldAt (a ++ l) a.length k = ofLe (l.take k) := by
  unfold fieldAt
  rw [List.drop_left]

/-! ### FAULT_READ -/

section
variable {s : State} {w : Waiting}

theorem cmdFaultRead_stored {b : List Byte} (hrec : (s.rail (fieldAt w.body 0 1)).ring[fieldAt w.body 1 1]? = some b) :
    s.cmdFaultRead w = if recordOk b then s.respond w .ok b else s.respond w .state [] := by
  unfold State.cmdFaultRead
  rw [hrec]

theorem cmdFaultRead_absent (hrec : (s.rail (fieldAt w.body 0 1)).ring[fieldAt w.body 1 1]? = none) :
    s.cmdFaultRead w = s.respond w .state [] := by
  unfold State.cmdFaultRead
  rw [hrec]

end

/-! ### A record marked cleared -/

section
variable {b : List Byte}

theorem length_markCleared (hlen : b.length = 64) : (markCleared b).length = 60 := by
  simp [markCleared, length_toLe, hlen]

theorem length_head (hlen : b.length = 64) : (b.take 15).length = 15 := by simp [hlen]

/-- A sealed record of 60 bytes passes its own CRC. -/
theorem recordOk_sealRec (hlen : b.length = 60) (hmagic : fieldAt b 0 1 = 0xAF) : recordOk (sealRec b) = true := by
  have hcrc : fieldAt (sealRec b) 60 4 = (crc32c b).toNat := by
    rw [← hlen, sealRec, fieldAt_append_right, List.take_of_length_le (length_toLe ..).le, toNat_crc32c]
  have hbody : (sealRec b).take 60 = b := by rw [sealRec, ← hlen, List.take_left]
  have hfirst : fieldAt (sealRec b) 0 1 = 0xAF := by rw [sealRec, fieldAt_append_left _ (by omega), hmagic]
  have hall : (sealRec b).length = 64 := by simp [sealRec, length_toLe, hlen]
  simp [recordOk, hcrc, hbody, hfirst, hall]

/-- FLAGS bit 1, clear before, is set by the sum, which stays within its byte. -/
theorem flags_marked {f : Nat} (hclear : bitAt f 1 = false) : bitAt ((f + 2) % 256) 1 = true := by
  simp only [bitAt, Nat.testBit_eq_decide_div_mod_eq, decide_eq_false_iff_not, decide_eq_true_eq] at hclear ⊢
  omega

theorem markCleared_flags (hlen : b.length = 64) : fieldAt (markCleared b) 15 1 = (fieldAt b 15 1 + 2) % 256 := by
  have h15 := length_head hlen
  have hfield : fieldAt (b.take 15 ++ (toLe 1 (fieldAt b 15 1 + 2) ++ (b.drop 16).take 44)) (b.take 15).length 1 =
      (fieldAt b 15 1 + 2) % 256 := by
    rw [fieldAt_append_right, List.take_append_of_le_length (by simp [length_toLe]),
      List.take_of_length_le (by simp [length_toLe]), ofLe_toLe, Nat.pow_one]
  rwa [h15, ← List.append_assoc] at hfield

/-- What a sealed record holds beside FLAGS is what the record held before the mark. -/
theorem sealed_keeps (hlen : b.length = 64) : (sealRec (markCleared b)).take 15 = b.take 15 ∧
    ((sealRec (markCleared b)).drop 16).take 44 = (b.drop 16).take 44 := by
  have h15 := length_head hlen
  have h44 : ((b.drop 16).take 44).length = 44 := by simp [hlen]
  constructor
  · simp only [sealRec, markCleared, List.append_assoc]
    rw [List.take_append_of_le_length h15.ge, List.take_of_length_le h15.le]
  · have h16 : (b.take 15 ++ toLe 1 (fieldAt b 15 1 + 2)).length = 16 := by simp [h15, length_toLe]
    simp only [sealRec, markCleared, List.append_assoc]
    rw [← List.append_assoc, List.drop_append_of_le_length h16.ge, List.drop_of_length_le h16.le, List.nil_append,
      List.take_append_of_le_length h44.ge, List.take_of_length_le h44.le]

theorem sealed_marked (hlen : b.length = 64) (hov : ovRecord b = true) :
    bitAt (fieldAt (sealRec (markCleared b)) 15 1) 1 = true := by
  have hclear : bitAt (fieldAt b 15 1) 1 = false := by
    simp only [ovRecord, Bool.and_eq_true, Bool.not_eq_true'] at hov
    exact hov.2
  rw [sealRec, fieldAt_append_left _ (by rw [length_markCleared hlen]; decide), markCleared_flags hlen]
  exact flags_marked hclear

theorem sealed_ok (hok : recordOk b = true) : b.length = 64 ∧ recordOk (sealRec (markCleared b)) = true := by
  simp only [recordOk, Bool.and_eq_true, beq_iff_eq] at hok
  obtain ⟨⟨hlen, hmagic⟩, -⟩ := hok
  refine ⟨hlen, recordOk_sealRec (length_markCleared hlen) ?_⟩
  have h15 := length_head hlen
  rw [← hmagic]
  unfold markCleared
  rw [List.append_assoc, fieldAt_append_left _ (by rw [h15]; decide)]
  simp [fieldAt, List.take_take]

end

theorem clearRecord_ring {x : Rail} {i : Nat} {b : List Byte} (hrec : x.ring[i]? = some b) :
    x.clearRecord.ring[i]? = some (if ovRecord b then sealRec (markCleared b) else b) := by
  simp [Rail.clearRecord, hrec]

theorem clearRecord_marks {x : Rail} {i : Nat} {b : List Byte} (hrec : x.ring[i]? = some b) (hok : recordOk b = true)
    (hov : ovRecord b = true) : ∃ m, x.clearRecord.ring[i]? = some m ∧ recordOk m = true ∧
      bitAt (fieldAt m 15 1) 1 = true ∧ m.take 15 = b.take 15 ∧ (m.drop 16).take 44 = (b.drop 16).take 44 := by
  obtain ⟨hlen, hsealed⟩ := sealed_ok hok
  exact ⟨_, (clearRecord_ring hrec).trans (congrArg some (if_pos hov)), hsealed, sealed_marked hlen hov,
    sealed_keeps hlen⟩

/-- Settles O54: the two answers of FAULT_READ, and the marked record by its fields. -/
theorem faultRecordsAreCheckedAndMarked : Obligations.FaultRecordsAreCheckedAndMarked := by
  unfold Obligations.FaultRecordsAreCheckedAndMarked
  refine ⟨fun s rq w hready => ⟨fun b hrec => ?stored, fun hrec => ?absent⟩, fun x i b => clearRecord_marks,
    fun x i b hrec hother => ?other⟩
  case stored =>
    exact served (own := anyBody) hready rfl (cmdFaultRead_stored (s := s.taken w) hrec)
  case absent => exact served (own := anyBody) hready rfl (cmdFaultRead_absent (s := s.taken w) hrec)
  case other => rw [clearRecord_ring hrec, if_neg (by simp [hother])]

end Sys2Proof.Machine
end

section
/-! PROOFS. Levels, allowances, device time and the trace set by request: one lemma per answer. -/

namespace Sys2Proof.Machine

variable {s : State} {w : Waiting}

/-! ### What the rest of a request leaves -/

theorem ofField_lt (l : List Byte) (o k : Nat) : fieldAt l o k < 256 ^ k :=
  (leFold_lt _).trans_le (Nat.pow_le_pow_right (by decide) (List.length_take_le ..))

/-- The answer to a request and the end of its task leave the level, the allowances and the counters. -/
theorem answered_changes (st : Status) (data : List Byte) :
    ChangesOnly [.camyx, .nfc, .tab, .plinth, .config, .logs] s ((s.respond w st data).done w) :=
  ((respond_changes ..).trans (done_changes w)).mono (by decide)

/-- The end of a task writes at most the watchdog's fields of the Plinth. -/
theorem taskEnd_plinth (s : State) (level : Nat) : ∃ ms seen done,
    (s.taskEnd level).plinth = { s.plinth with wdtMs := ms, wdtSeen := seen, wdtDone := done } := by
  unfold State.taskEnd
  dsimp only
  split
  · exact ⟨_, _, _, rfl⟩
  · split
    · exact ⟨_, _, _, rfl⟩
    · exact ⟨_, _, _, rfl⟩

theorem done_plinth (s : State) (w : Waiting) : ∃ ms seen done,
    (s.done w).plinth = { s.plinth with wdtMs := ms, wdtSeen := seen, wdtDone := done } := taskEnd_plinth ..

/-- Setting a command leaves it standing in the line's record. -/
theorem relevel_cmd (s : State) : s.relevel.line.cmd = s.line.cmd ∧ s.relevel.line.cmdUntil = s.line.cmdUntil := by
  unfold State.relevel
  dsimp only
  split
  · exact ⟨rfl, rfl⟩
  · rw [(applyShed_changes.trans (raiseP_changes ..)).same .line (by decide)]
    exact ⟨rfl, rfl⟩

theorem applyAllowances_changes : ChangesOnly [.line, .sw, .logs] s s.applyAllowances :=
  .foldl (fun _ k => applyAllowance_changes k) _ _

theorem clearDay_changes : ChangesOnly [.ctr, .line, .sw, .logs] s s.clearDay :=
  ((ChangesOnly.write [.ctr, .line] (by rfl)).trans applyAllowances_changes).mono (by decide)

theorem dayCheck_changes : ChangesOnly [.ctr, .line, .sw, .logs] s s.dayCheck := .thenOnly clearDay_changes

theorem setTime_plinth (s : State) (t : Nat) : (s.setTime t).plinth =
    { s.plinth with rtcSec := t % 2 ^ 32, rtcSub := 0, rtcRem := 0, slew := 0, timeValid := true } :=
  dayCheck_changes.same .plinth (by decide)

/-! ### The bodies -/

theorem cmdShedSet_role (hauth : s.authority w.priv = false) : s.cmdShedSet w = s.respond w .role [] :=
  if_pos (by rw [hauth]; rfl)

theorem cmdShedSet_sets (hauth : s.authority w.priv = true) (hlimits : s.fieldLimits w.rq.via = false) :
    s.cmdShedSet w = (s.setLevel (fieldAt w.body 0 1) (fieldAt w.body 1 2)).respond w .ok
      (toLe 1 (s.setLevel (fieldAt w.body 0 1) (fieldAt w.body 1 2)).line.eff) := by
  simp [State.cmdShedSet, hauth, hlimits]

theorem cmdAllowanceSet_sets (hauth : s.authority w.priv = true) (hlimits : s.fieldLimits w.rq.via = false) :
    s.cmdAllowanceSet w = (s.setAllowance (fieldAt w.body 0 1) (fieldAt w.body 1 4)).respond w .ok [] := by
  simp [State.cmdAllowanceSet, hauth, hlimits]

theorem cmdAllowanceSet_late (hauth : s.authority w.priv = true) (hlimits : s.fieldLimits w.rq.via = true) :
    s.cmdAllowanceSet w = ({ s with camyx := { s.camyx with
      late := s.camyx.late ++ [Late.allow (fieldAt w.body 0 1) (fieldAt w.body 1 4)] } }).respond w .ok [] := by
  simp [State.cmdAllowanceSet, hauth, hlimits]

theorem cmdTraceStop_stops (hruns : s.trace.runs = true) :
    s.cmdTraceStop w = ({ s with trace := { s.trace with st := .stopped } }).respond w .ok (toLe 1 4) := by
  unfold State.cmdTraceStop
  rw [if_pos hruns]
  rfl

/-! ### The requests -/

theorem setAllowance_allowWh (s : State) (cls wh : Nat) :
    (s.setAllowance cls wh).ctr.allowWh = upd s.ctr.allowWh cls fun _ => wh := by
  unfold State.setAllowance
  dsimp only
  split
  · rw [(sendLine_changes ..).same .ctr (by decide), (applyAllowance_changes cls).same .ctr (by decide)]
  · rw [(applyAllowance_changes cls).same .ctr (by decide)]

theorem shedSet_acts (hready : s.Ready 0x30 w.rq w) (hauth : s.authority w.priv = true)
    (hlimits : s.fieldLimits w.rq.via = false) : ∃ t, exec (.shedSet w.rq) s = .next t ∧
      t.line.cmd = fieldAt w.body 0 1 ∧ t.line.cmdUntil = (if fieldAt w.body 1 2 = 0 then none
        else some ((s.plinth.upMs + 1000 * fieldAt w.body 1 2) % 2 ^ 32)) ∧ Answers t w .ok (toLe 1 t.line.eff) := by
  let u := (s.taken w).setLevel (fieldAt w.body 0 1) (fieldAt w.body 1 2)
  have hline : ((u.respond w .ok (toLe 1 u.line.eff)).done w).line = u.line := (answered_changes ..).same .line (by decide)
  refine ⟨_, served (own := anyBody) hready rfl (cmdShedSet_sets (s := s.taken w) hauth hlimits), ?_⟩
  rw [hline]
  exact ⟨(relevel_cmd _).1, (relevel_cmd _).2, u, rfl⟩

theorem allowanceSet_acts (hready : s.Ready 0x32 w.rq w) (hauth : s.authority w.priv = true)
    (hlimits : s.fieldLimits w.rq.via = false) : ∃ t, exec (.allowanceSet w.rq) s = .next t ∧ Answers t w .ok [] ∧
      t.ctr.allowWh = upd s.ctr.allowWh (fieldAt w.body 0 1) fun _ => fieldAt w.body 1 4 := by
  refine ⟨_, served (own := anyBody) hready rfl (cmdAllowanceSet_sets (s := s.taken w) hauth hlimits), ⟨_, rfl⟩, ?_⟩
  rw [(answered_changes ..).same .ctr (by decide), setAllowance_allowWh]
  rfl

theorem allowanceSet_late (hready : s.Ready 0x32 w.rq w) (hauth : s.authority w.priv = true)
    (hlimits : s.fieldLimits w.rq.via = true) : ∃ t, exec (.allowanceSet w.rq) s = .next t ∧ Answers t w .ok [] ∧
      t.camyx.late = s.camyx.late ++ [.allow (fieldAt w.body 0 1) (fieldAt w.body 1 4)] := by
  refine ⟨_, served (own := anyBody) hready rfl (cmdAllowanceSet_late (s := s.taken w) hauth hlimits), ⟨_, rfl⟩, ?_⟩
  rw [done_camyx, respond_late]
  rfl

theorem timeSet_acts (hready : s.Ready 0x31 w.rq w) : ∃ t, exec (.timeSet w.rq) s = .next t ∧
    t.plinth.timeValid = true ∧ t.plinth.rtcSec = fieldAt w.body 0 4 ∧ t.plinth.rtcSub = fieldAt w.body 4 2 / 2 ∧
    Answers t w .ok (toLe 4 s.stamp) := by
  refine ⟨_, served (own := anyBody) hready rfl rfl, ?_⟩
  obtain ⟨_, _, _, hdone⟩ := done_plinth ((s.taken w).cmdTimeSet w) w
  have hset : ((s.taken w).cmdTimeSet w).plinth =
      { ((s.taken w).setTime (fieldAt w.body 0 4)).plinth with rtcSub := fieldAt w.body 4 2 / 2 } :=
    (respond_changes ..).same .plinth (by decide)
  rw [hdone, hset, setTime_plinth]
  exact ⟨rfl, Nat.mod_eq_of_lt (ofField_lt _ _ 4), rfl, _, rfl⟩

/-- Settles O18: each request by its lemma above, on the state without it. -/
theorem levelTimeAndTraceRequestsAct : Obligations.LevelTimeAndTraceRequestsAct := by
  unfold Obligations.LevelTimeAndTraceRequestsAct
  intro s rq w
  refine ⟨fun hready hauth hlimits => ?level, fun hready hauth => ?role, fun hready hauth hlimits => ?allowance,
    fun hready hauth hlimits => ?late, fun hready => ?time, fun hready haction => ?arm, fun hready haction hruns => ?stop⟩
  all_goals obtain ⟨rfl, -⟩ := ready_rq hready
  case level => exact shedSet_acts hready hauth hlimits
  case role => exact served (own := anyBody) hready rfl (cmdShedSet_role (s := s.taken w) hauth)
  case allowance => exact allowanceSet_acts hready hauth hlimits
  case late => exact allowanceSet_late hready hauth hlimits
  case time => exact timeSet_acts hready
  case arm => exact served (own := fun b => fieldAt b 0 1 == 0) hready (by simp [haction]) rfl
  case stop =>
    exact served (own := fun b => fieldAt b 0 1 == 1) hready (by simp [haction])
      (cmdTraceStop_stops (s := s.taken w) hruns)

end Sys2Proof.Machine
end

section
/-! PROOFS. Superframes, the exchanges of a HEAD without nodes, frames received, the reply window in ROBUST mode and access frames:
one lemma per clause, and the statement on them. -/

namespace Sys2Proof.Machine

variable {s : State}

/-! ### A superframe (R361, R362, R374) -/

/-- The state at the start of a superframe: no exchange of it made, and the first slot to be heard where there is lock. -/
def State.framed (s : State) : State :=
  { s with line := { s.line with exch := 0, used := 0, slotMs := if s.line.lock then 20 else s.line.slotMs } }

theorem exec_superframeStart (hrun : s.seqRuns = true) :
    exec .superframeStart s = .next (s.framed.superframe.taskEnd 4) :=
  congrArg Host.Outcome.next (if_pos hrun)

theorem superframe_counts {n : Nat} (h : s.line.backoff = some n) :
    s.superframe = { s with line := { s.line with backoff := some (n - 1) } } := by
  unfold State.superframe
  rw [h]

theorem superframe_draws (h : s.line.backoff = none) (hwants : s.wantsJoin = true) (hsent : s.line.joinSent = false)
    (hconflict : s.line.conflict = false) : s.superframe =
      { s with line := { s.line with backoff := some (Sys2Proof.Config.backoff s.free % 4) }, free := s.free + 1 } := by
  unfold State.superframe
  rw [h]
  simp [hwants, hsent, hconflict, State.draw]

/-! ### The exchange of a HEAD without nodes (R361, R366, R370) -/

theorem settleGrants_noNodes (h : s.line.nodes = []) : s.settleGrants = s := by
  unfold State.settleGrants
  rw [h]
  rfl

theorem dropDead_noNodes (h : s.line.nodes = []) : s.dropDead = s := by
  unfold State.dropDead
  rw [show s.line.nodes.map _ = s.line.nodes from by rw [h]; rfl]

theorem loadBridge_noNodes (h : s.line.nodes = []) : s.loadBridge = s := by
  unfold State.loadBridge
  rw [h]
  rfl

theorem formAcks_none (h : s.line.joinAcks = []) : s.formAcks = s := if_pos (by rw [h]; rfl)

/-- With no node there is nothing to poll or to send to one, so the first cast of the queue goes. -/
theorem exchange_noNodes (hnodes : s.line.nodes = []) (hacks : s.line.joinAcks = []) {c : Cast} {rest : List Cast}
    (hq : s.line.castQ = c :: rest) (hcasts : ∀ d ∈ s.line.castQ, d.ptype ≠ 2) (left : Nat) :
    s.exchange left = s.castFrame c left := by
  have hnoAck : s.line.castQ.find? (fun c => c.ptype == 2) = none := by
    simpa using hcasts
  have hcarried : s.camyx.bridge.findSome? (fun _ => (none : Option Node)) = none := by simp
  unfold State.exchange
  simp only [settleGrants_noNodes hnodes, dropDead_noNodes hnodes, loadBridge_noNodes hnodes, formAcks_none hacks, hnodes,
    hnoAck, List.find?_nil, hcarried, Option.or_none]
  rw [hq]

/-- The frame of a cast. -/
def State.castBody (s : State) (c : Cast) (x : List Byte × Bool) : List Byte :=
  frameBody 1 (s.param P.lineFeederId) c.addr 0 s.line.fseq false none
    (if c.ptype = 2 then 0x80 else c.frag % 16 + flag x.2 7) c.ptype [0, 0, 0] x.1

/-- A frame of a cast sent in `n` slots, with the casts that are then left. -/
def State.castSent (s : State) (c : Cast) (x : List Byte × Bool) (n : Nat) (left : List Cast) : State :=
  { s with
    line := { s.line with
      txOut := pushMax 4 s.line.txOut { lanes := s.activeLanes, mode := s.castMode, body := s.castBody c x }
      txMs := 20 * slotsOf s.castMode s.laneCount (s.castBody c x).length, exch := s.line.exch + 1
      used := s.line.used + n, slotMs := 0, fseq := wrapAdd 16 s.line.fseq 1, castQ := left }
    ctr := { s.ctr with lineTx := wrapAdd 32 s.ctr.lineTx 1 } }

theorem castFrame_eq (s : State) (c : Cast) (left : Nat) : s.castFrame c left =
    if decide (left < slotsOf s.castMode s.laneCount (17 + (c.piece s.castMode s.laneCount left).1.length)) ||
        ((c.piece s.castMode s.laneCount left).1.isEmpty && !(c.piece s.castMode s.laneCount left).2) then s
    else s.castSent c (c.piece s.castMode s.laneCount left)
      (slotsOf s.castMode s.laneCount (17 + (c.piece s.castMode s.laneCount left).1.length))
      (replaceCast c (c.after (c.piece s.castMode s.laneCount left)) s.line.castQ) := by
  simp only [State.castFrame, State.castSent, State.castBody, State.sendFrame, State.useSlots, State.nextFseq, Nat.mul_zero]

theorem castFrame_sends {c : Cast} {rest : List Cast} (hq : s.line.castQ = c :: rest) {left n : Nat}
    {x : List Byte × Bool} (hx : x = c.piece s.castMode s.laneCount left)
    (hn : n = slotsOf s.castMode s.laneCount (17 + x.1.length)) (hfits : n ≤ left) (hsome : x.1 ≠ [] ∨ x.2 = true) :
    s.castFrame c left = s.castSent c x n ((c.after x).toList ++ rest) := by
  have hgoes : ¬ (decide (left < n) || (x.1.isEmpty && !x.2)) = true := by
    rcases hsome with hne | hlast
    · simp [hne, hfits]
    · simp [hlast, hfits]
  rw [castFrame_eq, ← hx, ← hn, if_neg hgoes, hq, show replaceCast c (c.after x) (c :: rest) = _ from if_pos rfl]

theorem headExchange_acts {left n : Nat} {c : Cast} {rest : List Cast} {x : List Byte × Bool} (hpilot : s.pilotOn = true)
    (hrun : s.seqRuns = true) (hexch : s.line.exch < 4) (hnodes : s.line.nodes = []) (hacks : s.line.joinAcks = [])
    (hq : s.line.castQ = c :: rest) (hcasts : ∀ d ∈ s.line.castQ, d.ptype ≠ 2)
    (hx : x = c.piece s.castMode s.laneCount (min left (44 - s.line.used)))
    (hn : n = slotsOf s.castMode s.laneCount (17 + x.1.length)) (hfits : n ≤ min left (44 - s.line.used))
    (hsome : x.1 ≠ [] ∨ x.2 = true) :
    exec (.headExchange left) s = .next ((s.castSent c x n ((c.after x).toList ++ rest)).taskEnd 4) := by
  rw [← castFrame_sends hq hx hn hfits hsome, ← exchange_noNodes hnodes hacks hq hcasts]
  exact congrArg Host.Outcome.next (if_pos (by simp [hpilot, hrun, hexch]))

theorem headExchange_idle (left : Nat) (h : s.pilotOn = false ∨ s.seqRuns = false ∨ 4 ≤ s.line.exch) :
    exec (.headExchange left) s = .next s := by
  refine congrArg Host.Outcome.next (if_neg ?_)
  rcases h with h | h | h
  · simp [h]
  · simp [h]
  · simp [Nat.not_lt.2 h]

/-! ### Frames received (R353, R355, R356) -/

/-- The receiver stays busy for 2 ms after a burst (R89). -/
def State.burstHeard (s : State) : State := { s with line := { s.line with rxMs := 2 } }

theorem heard_deaf (hdeaf : s.lineReceives = false) (d : Byte) (f : State → State) : s.heard d f = s :=
  if_pos (by rw [hdeaf]; rfl)

theorem heard_lost (hears : s.lineReceives = true) {d : Byte} (hlost : descMode d.toNat = none ∨ s.seqRuns = false)
    (f : State → State) : s.heard d f = s.burstHeard := by
  have hnot : ((descMode d.toNat).isNone || !s.seqRuns) = true := by
    rcases hlost with h | h
    · simp [h]
    · simp [h]
  unfold State.heard
  rw [if_neg (by simp [hears])]
  exact if_pos hnot

theorem heard_taken (hears : s.lineReceives = true) {d : Byte} (hdesc : (descMode d.toNat).isSome = true)
    (hrun : s.seqRuns = true) (f : State → State) : s.heard d f = (f s.burstHeard).taskEnd 4 := by
  have htaken : ((descMode d.toNat).isNone || !s.seqRuns) = false := by
    rw [← Option.not_isSome, hdesc, hrun]
    rfl
  unfold State.heard
  rw [if_neg (by simp [hears])]
  exact if_neg (by rw [htaken]; decide)

theorem lineFrame_bad {bs : List Byte} (hbad : crcOk bs = false ∨ fieldAt bs 1 2 ≠ s.param P.lineFeederId) (lanes : BitVec 4)
    (q : Nat) : s.lineFrame lanes bs q = s.badFrameIn := by
  refine if_pos ?_
  rcases hbad with h | h
  · simp [h]
  · simp [h]

/-- An intact frame of this feeder is counted, and acts by its type. -/
theorem lineFrame_good {bs : List Byte} (hcrc : crcOk bs = true) (hfeeder : fieldAt bs 1 2 = s.param P.lineFeederId)
    (htype : fieldAt bs 0 1 % 8 = 4) (lanes : BitVec 4) (q : Nat) : s.lineFrame lanes bs q =
      if s.isHead then (s.goodFrameIn q).onNode (fieldAt bs 3 1) fun n => { n with alert := true } else s.goodFrameIn q := by
  unfold State.lineFrame
  rw [if_neg (by simp [hcrc, hfeeder])]
  simp only [htype]

theorem lineFrame_alert (d : Byte) {bs : List Byte} (q : Nat) (hears : s.lineReceives = true)
    (hdesc : (descMode d.toNat).isSome = true) (hrun : s.seqRuns = true) (hcrc : crcOk bs = true)
    (hfeeder : fieldAt bs 1 2 = s.param P.lineFeederId) (htype : fieldAt bs 0 1 % 8 = 4) :
    ∃ t, exec (.lineFrameReceived d bs q) s = .next t ∧ t.ctr = { s.ctr with lineRx := wrapAdd 32 s.ctr.lineRx 1 } ∧
      (s.isHead = true → ∀ n ∈ t.line.nodes, n.addr = fieldAt bs 3 1 → n.alert = true) ∧
      (∀ l : Fin 4, t.line.snr[l] = if s.activeLanes.getLsbD l.val then min q 255 else s.line.snr[l]) ∧
      t = { s with ctr := t.ctr, line := { s.line with
        rxMs := 2, snr := t.line.snr, nodes := t.line.nodes } }.taskEnd 4 := by
  let u := s.burstHeard.lineFrame (BitVec.ofNat 4 d.toNat) bs q
  have hu : u = if s.isHead then (s.burstHeard.goodFrameIn q).onNode (fieldAt bs 3 1) fun n => { n with alert := true }
      else s.burstHeard.goodFrameIn q := lineFrame_good (s := s.burstHeard) hcrc hfeeder htype ..
  have hline : (u.taskEnd 4).line = u.line := (taskEnd_changes 4).same .line (by decide)
  have hctr : (u.taskEnd 4).ctr = u.ctr := (taskEnd_changes 4).same .ctr (by decide)
  refine ⟨u.taskEnd 4, congrArg Host.Outcome.next (heard_taken hears hdesc hrun _), ?_⟩
  rw [hline, hctr, hu]
  cases s.isHead with
  | true =>
    refine ⟨rfl, fun _ n hn haddr => ?_, fun l => by simp [State.onNode, State.goodFrameIn, State.burstHeard]; rfl, rfl⟩
    obtain ⟨m, -, rfl⟩ := List.mem_map.1 hn
    split
    · rfl
    · rename_i hother
      rw [if_neg hother] at haddr
      exact absurd haddr hother
  | false =>
    exact ⟨rfl, nofun, fun l => by simp [State.goodFrameIn, State.burstHeard]; rfl, rfl⟩

/-! ### The reply window (R362, R363) -/

/-- A node that R363 lets send sends. -/
theorem nodeBurst_sends (h : s.mayBurst) (m : LinkMode) (b : List Byte) : s.nodeBurst m b = s.sendFrame m b := by
  obtain ⟨hlock, hfree, hmode, hpath, hdark⟩ := h
  unfold State.nodeBurst
  simp [hlock, hfree, hmode, hpath, hdark]

/-- The state with a window granted in ROBUST mode, in which the alerts count as told. -/
def State.windowed (s : State) : State :=
  { s with
    line := { s.line with mode := .robust, grantAt := s.plinth.upMs, alertDue := [] }
    events := { s.events with alert := 0 } }

/-- The bare frame of a reply. -/
def State.bareReply (s : State) : List Byte :=
  frameBody 2 (s.param P.lineFeederId) 0 (s.param P.lineAddr) s.line.fseq false s.line.rxSeq 0 0 [] []

/-- In ROBUST mode a node with no transfer in hand answers with the bare frame. -/
theorem reply_robust (htx : s.line.tx = none) {rlen : Nat} (hfits : slotsOf .robust s.laneCount 14 ≤ rlen) :
    s.reply rlen .robust = (s.windowed.nodeBurst .robust s.bareReply).nextFseq := by
  simp only [State.reply, htx, if_true, Bool.false_eq_true, if_false, hfits, ne_eq, not_true_eq_false, decide_false,
    Bool.false_and, State.windowed, State.bareReply]

theorem replyWindow_robust {rlen : Nat} (hnode : s.isHead = false) (hrun : s.seqRuns = true) (hjoined : s.line.joined = true)
    (hmay : s.mayBurst) (htx : s.line.tx = none) (hfits : slotsOf .robust s.laneCount 14 ≤ rlen) :
    exec (.replyWindow rlen 2) s = .next ((s.windowed.sendFrame .robust s.bareReply).nextFseq.taskEnd 4) := by
  obtain ⟨hlock, -⟩ := id hmay
  have hmode : s.windowed.mayBurst := hmay
  rw [← nodeBurst_sends hmode, ← reply_robust htx hfits]
  refine congrArg Host.Outcome.next ((if_neg ?_).trans (if_pos ?_))
  · simp [hnode, hrun]
  · simp [hjoined, hlock]

theorem replyWindow_notes (rlen : Nat) (m : Fin 3) (hnode : s.isHead = false) (hrun : s.seqRuns = true)
    (hout : s.line.joined = false ∨ s.line.lock = false) :
    exec (.replyWindow rlen m) s = .next { s with line := { s.line with grantAt := s.plinth.upMs } } := by
  refine congrArg Host.Outcome.next ((if_neg ?_).trans (if_neg ?_))
  · simp [hnode, hrun]
  · rcases hout with h | h
    · simp [h]
    · simp [h]

theorem replyWindow_idle (rlen : Nat) (m : Fin 3) (h : s.isHead = true ∨ s.seqRuns = false) :
    exec (.replyWindow rlen m) s = .next s := by
  refine congrArg Host.Outcome.next (if_pos ?_)
  rcases h with h | h
  · simp [h]
  · simp [h]

/-! ### Access frames (R362, R373, R377) -/

/-- The JOIN of a node. -/
def State.joinBody (s : State) : List Byte := accessBody 3 (s.param P.lineFeederId) (s.param P.lineAddr) s.lineUid

/-- What an access frame leaves of a node that waits to join. -/
def State.joinTried (s : State) : State := { s with line := { s.line with backoff := none, joinSent := true } }

theorem exec_accessFrameSend_join (hback : s.line.backoff = some 0) (hrun : s.seqRuns = true) (hlock : s.line.lock = true)
    (hjoined : s.line.joined = false) (hwants : s.wantsJoin = true) :
    exec .accessFrameSend s = .next (s.nodeBurst .diversity s.joinBody).joinTried := by
  refine congrArg Host.Outcome.next ((if_neg (by simp [hback, hlock, hrun])).trans ?_)
  rw [hjoined]
  exact if_pos hwants

theorem exec_accessFrameSend_alert {g : Nat} {rest : List Nat} (hback : s.line.backoff = some 0) (hrun : s.seqRuns = true)
    (hmay : s.mayBurst) (hjoined : s.line.joined = true) (hdue : s.line.alertDue = g :: rest) {b : List Byte}
    (hb : b = accessBody 4 (s.param P.lineFeederId) (s.param P.lineAddr) (toLe 1 g)) :
    exec .accessFrameSend s = .next { s.sendFrame .diversity b with
      line := { (s.sendFrame .diversity b).line with backoff := none, alertDue := rest } } := by
  obtain ⟨hlock, -⟩ := id hmay
  refine congrArg Host.Outcome.next ((if_neg (by simp [hback, hlock, hrun])).trans ?_)
  simp only [hjoined, hdue, ← hb, nodeBurst_sends hmay]
  rw [show (s.sendFrame .diversity b).line.alertDue.drop 1 = rest from congrArg (List.drop 1) hdue]

theorem accessFrameSend_dark (hback : s.line.backoff = some 0) (hrun : s.seqRuns = true) (hlock : s.line.lock = true)
    (hfree : s.txFree = true) (hmode : s.plinth.mode = .run) (hpath : s.power.path = .onSto) (hharv : s.harvesting = false)
    (hjoined : s.line.joined = false) (hwants : s.wantsJoin = true)
    (hcan : s.canReserve .lineTxDark (4 * slotsOf .diversity s.laneCount s.joinBody.length * mj) = false) :
    ∃ t, exec .accessFrameSend s = .next t ∧ t.line.txOut = s.line.txOut ∧ t.line.joinSent = true ∧
      t.holds Ev.resRefused = true := by
  have hdark : s.txDark = true := by simp [State.txDark, hpath, hharv]
  have hrefused : s.nodeBurst .diversity s.joinBody = s.refuse .lineTxDark := by
    unfold State.nodeBurst
    simp [hlock, hfree, hmode, hpath, hdark, hcan]
  refine ⟨_, exec_accessFrameSend_join hback hrun hlock hjoined hwants, ?_⟩
  rw [hrefused]
  have hline : (s.refuse .lineTxDark).line = s.line := (refuse_changes _).same .line (by decide)
  exact ⟨show (s.refuse .lineTxDark).line.txOut = _ from congrArg Line.txOut hline, rfl, raiseP_holds ..⟩

/-- A bit of its own, as the masks of the model write it. -/
theorem getLsbD_single {w k : Nat} (j : Nat) (hk : k < w) : (BitVec.ofNat w (2 ^ k)).getLsbD j = decide (j = k) := by
  rw [BitVec.getLsbD_ofNat, Nat.testBit_two_pow]
  by_cases hjk : j = k
  · simp [hjk, hk]
  · simp [hjk, Ne.symm hjk]

theorem getLsbD_cleared {w k : Nat} (x : BitVec w) {j : Nat} (hk : k < w) (hj : j < w) :
    (x &&& ~~~(BitVec.ofNat w (2 ^ k))).getLsbD j = (x.getLsbD j && decide (j ≠ k)) := by
  rw [BitVec.getLsbD_and, BitVec.getLsbD_not, getLsbD_single j hk]
  simp [hj]

theorem getLsbD_set {w k : Nat} (x : BitVec w) (j : Nat) (hk : k < w) :
    (x ||| BitVec.ofNat w (2 ^ k)).getLsbD j = (x.getLsbD j || decide (j = k)) := by
  rw [BitVec.getLsbD_or, getLsbD_single j hk]

theorem alertTrigger_due {g : Fin 16} (hjoined : s.line.joined = true) (halert : s.events.alert.getLsbD g.val = true) :
    ∃ t, exec (.alertTrigger g) s = .next t ∧ t.line = { s.line with alertDue := s.line.alertDue ++ [g.val] } ∧
      t.events.alert.getLsbD g.val = false ∧
      t = { s with line := t.line, events := { s.events with alert := t.events.alert } } := by
  refine ⟨_, congrArg Host.Outcome.next (if_pos (by rw [hjoined, halert]; rfl)), rfl, ?_, rfl⟩
  rw [getLsbD_cleared _ g.isLt g.isLt]
  simp

/-- Settles O34: each clause by its lemma above. -/
theorem framesFollowTheSuperframe : Obligations.FramesFollowTheSuperframe := by
  unfold Obligations.FramesFollowTheSuperframe
  intro s
  refine ⟨fun n hrun hback => ?counts, fun hrun hback hwants hsent hconflict => ?draws,
    fun left c rest x n hpilot hrun hexch hnodes hacks hq hcasts hx hn hfits hsome => ?casts,
    fun left h => headExchange_idle left h, fun d bs q hdeaf => congrArg Host.Outcome.next (heard_deaf hdeaf ..),
    fun d bs q hears hlost => congrArg Host.Outcome.next (heard_lost hears hlost _),
    fun d bs q hears hdesc hrun hbad => ?bad,
    fun d bs q hears hdesc hrun hcrc hfeeder htype => lineFrame_alert d q hears hdesc hrun hcrc hfeeder htype,
    fun rlen m hnode hrun hout => ⟨_, replyWindow_notes rlen m hnode hrun hout, rfl⟩,
    fun rlen m h => replyWindow_idle rlen m h,
    fun rlen hnode hrun hjoined hmay htx hfits =>
      ⟨_, s.bareReply, replyWindow_robust hnode hrun hjoined hmay htx hfits, rfl, ?window⟩,
    fun hback hrun hmay hjoined hwants => ?join, fun g rest hback hrun hmay hjoined hdue => ?alert,
    fun hback hrun hlock hfree hmode hpath hharv hjoined hwants hcan =>
      accessFrameSend_dark hback hrun hlock hfree hmode hpath hharv hjoined hwants hcan,
    fun g hjoined halert => alertTrigger_due hjoined halert⟩
  case counts => exact ⟨_, exec_superframeStart hrun, congrArg (State.taskEnd · 4) (superframe_counts hback)⟩
  case draws =>
    exact ⟨_, _, exec_superframeStart hrun, Nat.mod_lt _ (by decide),
      congrArg (State.taskEnd · 4) (superframe_draws (s := s.framed) hback hwants hsent hconflict)⟩
  case casts =>
    exact ⟨_, s.castBody c x, headExchange_acts hpilot hrun hexch hnodes hacks hq hcasts hx hn hfits hsome,
      by simp only [State.castBody, if_neg (hcasts c (by simp [hq]))], rfl⟩
  case bad =>
    exact ⟨_, congrArg Host.Outcome.next (heard_taken hears hdesc hrun _),
      congrArg (State.taskEnd · 4) (lineFrame_bad (s := s.burstHeard) hbad ..)⟩
  case window => rfl
  case join =>
    obtain ⟨hlock, -⟩ := id hmay
    refine ⟨_, s.joinBody, exec_accessFrameSend_join hback hrun hlock hjoined hwants, rfl, ?_⟩
    rw [nodeBurst_sends hmay]
    rfl
  case alert => exact ⟨_, _, exec_accessFrameSend_alert hback hrun hmay hjoined hdue rfl, rfl, rfl⟩

end Sys2Proof.Machine
end

section
/-! PROOFS. Nodes that join, are refused, leave or are lost: one lemma per clause, and the statement on them. -/

namespace Sys2Proof.Machine

variable {s t u : State}

/-! ### What is queued for the line -/

/-- Between two states the line's record differs in its casts alone, and every name that held goes on holding. -/
def QueuesOnly (s t : State) : Prop :=
  t.line = { s.line with castQ := t.line.castQ } ∧ s.events.held ⊆ t.events.held

namespace QueuesOnly

theorem refl (s : State) : QueuesOnly s s := ⟨rfl, List.Subset.refl _⟩

theorem trans (h : QueuesOnly s t) (h' : QueuesOnly t u) : QueuesOnly s u := by
  obtain ⟨hline, hheld⟩ := h
  obtain ⟨hline', hheld'⟩ := h'
  refine ⟨?_, List.Subset.trans hheld hheld'⟩
  rw [hline', hline]

theorem nodes (h : QueuesOnly s t) : t.line.nodes = s.line.nodes := by rw [h.1]

theorem joinAcks (h : QueuesOnly s t) : t.line.joinAcks = s.line.joinAcks := by rw [h.1]

theorem holds (h : QueuesOnly s t) {src : Src} (hs : s.holds src = true) : t.holds src = true :=
  holds_of_held_subset h.2 hs

theorem foldl {α : Type} {f : State → α → State} (h : ∀ v a, QueuesOnly v (f v a)) (l : List α) (s : State) :
    QueuesOnly s (l.foldl f s) :=
  List.foldlRecOn (motive := fun v => QueuesOnly s v) l f (refl s) fun v hv a _ => hv.trans (h v a)

end QueuesOnly

theorem ownLinePkt_changes (dst opc : Nat) (params : List Byte) :
    ChangesOnly [.camyx, .logs] s (s.ownLinePkt dst opc params).2 ∧
      s.events.held ⊆ (s.ownLinePkt dst opc params).2.events.held := by
  unfold State.ownLinePkt
  split
  · exact ⟨(raiseP_changes ..).mono (by decide), held_subset_raiseAs ..⟩
  · exact ⟨(ChangesOnly.write [.camyx] rfl).mono (by decide), List.Subset.refl _⟩

theorem sendLine_queues (s : State) (dst opc : Nat) (params : List Byte) (times : Nat) :
    QueuesOnly s (s.sendLine dst opc params times) := by
  obtain ⟨own, hheld⟩ := ownLinePkt_changes (s := s) dst opc params
  have hline := own.same .line (by decide)
  unfold State.sendLine
  split
  next hsome =>
    rw [hsome] at hline hheld
    exact ⟨by rw [show _ = s.line from hline], hheld⟩
  next hnone =>
    rw [hnone] at hline hheld
    exact ⟨by rw [show _ = s.line from hline], hheld⟩

theorem sendAllowances_queues (s : State) (dst : Nat) : QueuesOnly s (s.sendAllowances dst) :=
  .foldl (fun _ _ => sendLine_queues ..) _ _

theorem notify_queues (s : State) (report : List Byte) : QueuesOnly s (s.notify report) := by
  unfold State.notify
  split
  · exact .refl s
  · exact .refl s

/-! ### A JOIN at the HEAD (R373, R374) -/

/-- Whether an address is held by another UID that has replied within LINE_NODE_LOST_S (R373). -/
def State.addrTaken (s : State) (a : Nat) (uid : List Byte) : Bool :=
  (s.node? a).any fun n => n.uid != uid && decide (since s.plinth.upMs n.heardAt < s.param P.lineNodeLostS * 1000)

theorem addrTaken_of_other {a : Nat} {uid : List Byte} {n : Node} (hnode : s.node? a = some n) (huid : n.uid ≠ uid)
    (hheard : since s.plinth.upMs n.heardAt < s.param P.lineNodeLostS * 1000) : s.addrTaken a uid = true := by
  simp [State.addrTaken, hnode, huid, hheard]

theorem addrTaken_of_free {a : Nat} {uid : List Byte} (hfree : ∀ n ∈ s.line.nodes, n.addr = a → n.uid = uid ∨
    s.param P.lineNodeLostS * 1000 ≤ since s.plinth.upMs n.heardAt) : s.addrTaken a uid = false := by
  unfold State.addrTaken
  cases hnode : s.node? a with
  | none => rfl
  | some n =>
    have haddr : n.addr = a := by simpa using List.find?_some hnode
    rcases hfree n (List.mem_of_find?_eq_some hnode) haddr with huid | hlost
    · simp [huid]
    · simp [Nat.not_lt.2 hlost]

/-- An intact JOIN of this feeder, with its record queued for the broadcast of JOIN_ACKs. -/
def State.joinHeard (s : State) (a : Nat) (uid : List Byte) (refused : Bool) : State :=
  { s with
    ctr := { s.ctr with lineRx := wrapAdd 32 s.ctr.lineRx 1 }
    line := { s.line with joinAcks := s.line.joinAcks ++ [uid ++ toLe 1 a ++ toLe 1 (flag refused 0)] } }

/-- The table of a HEAD with a node that has joined. -/
def State.joinNode (s : State) (a : Nat) (uid : List Byte) : State :=
  { s with line := { s.line with
    nodes := (s.line.nodes.filter fun n => n.addr ≠ a) ++ [newNode a uid s.plinth.upMs] } }

section
variable {bs uid : List Byte} {a : Nat}

theorem join_eq (hcrc : crcOk bs = true) (hfeeder : fieldAt bs 1 2 = s.param P.lineFeederId)
    (htype : fieldAt bs 0 1 % 8 = 3) (ha : fieldAt bs 3 1 = a) (hlow : 1 ≤ a) (hhigh : a ≤ 250)
    (huid : (bs.drop 4).take 8 = uid) : s.join bs =
      if s.addrTaken a uid then
        ((s.joinHeard a uid (s.addrTaken a uid)).raiseP Ev.addrConflict 0 0).notify (toLe 1 a ++ toLe 1 4 ++ uid)
      else
        ((((s.joinHeard a uid (s.addrTaken a uid)).joinNode a uid).raiseP Ev.nodeChange 0 a).sendAllowances a).notify
          (toLe 1 a ++ toLe 1 2 ++ uid) := by
  subst ha huid
  refine (if_neg ?intact).trans ((if_neg ?addressed).trans ?acts)
  case intact => simp [hcrc, hfeeder, htype]
  case addressed => simp; omega
  case acts =>
    unfold State.addrTaken
    cases s.node? (fieldAt bs 3 1) with
    | none => rfl
    | some n => rfl

theorem join_accepts (hcrc : crcOk bs = true) (hfeeder : fieldAt bs 1 2 = s.param P.lineFeederId)
    (htype : fieldAt bs 0 1 % 8 = 3) (ha : fieldAt bs 3 1 = a) (hlow : 1 ≤ a) (hhigh : a ≤ 250)
    (huid : (bs.drop 4).take 8 = uid) (hfree : s.addrTaken a uid = false) :
    (s.join bs).line.nodes = (s.line.nodes.filter fun n => n.addr ≠ a) ++ [newNode a uid s.plinth.upMs] ∧
      (s.join bs).line.joinAcks = s.line.joinAcks ++ [uid ++ toLe 1 a ++ toLe 1 0] ∧
      (s.join bs).holds Ev.nodeChange = true := by
  let told := (s.joinHeard a uid false).joinNode a uid
  have hline : (told.raiseP Ev.nodeChange 0 a).line = told.line := (raiseP_changes ..).same .line (by decide)
  have hjoin : QueuesOnly (told.raiseP Ev.nodeChange 0 a) (s.join bs) := by
    rw [join_eq hcrc hfeeder htype ha hlow hhigh huid, hfree, if_neg Bool.false_ne_true]
    exact (sendAllowances_queues ..).trans (notify_queues ..)
  exact ⟨hjoin.nodes.trans (congrArg Line.nodes hline), hjoin.joinAcks.trans (congrArg Line.joinAcks hline),
    hjoin.holds (raiseP_holds ..)⟩

theorem join_refuses (hcrc : crcOk bs = true) (hfeeder : fieldAt bs 1 2 = s.param P.lineFeederId)
    (htype : fieldAt bs 0 1 % 8 = 3) (ha : fieldAt bs 3 1 = a) (hlow : 1 ≤ a) (hhigh : a ≤ 250)
    (huid : (bs.drop 4).take 8 = uid) (htaken : s.addrTaken a uid = true) :
    (s.join bs).line.nodes = s.line.nodes ∧
      (s.join bs).line.joinAcks = s.line.joinAcks ++ [uid ++ toLe 1 a ++ toLe 1 1] ∧
      (s.join bs).holds Ev.addrConflict = true := by
  let told := s.joinHeard a uid true
  have hline : (told.raiseP Ev.addrConflict 0 0).line = told.line := (raiseP_changes ..).same .line (by decide)
  have hjoin : QueuesOnly (told.raiseP Ev.addrConflict 0 0) (s.join bs) := by
    rw [join_eq hcrc hfeeder htype ha hlow hhigh huid, htaken, if_pos rfl]
    exact notify_queues ..
  have hnodes : told.line.nodes = s.line.nodes := rfl
  exact ⟨(hjoin.nodes.trans (congrArg Line.nodes hline)).trans hnodes,
    hjoin.joinAcks.trans (congrArg Line.joinAcks hline), hjoin.holds (raiseP_holds ..)⟩

end

theorem taskEnd_holds (s : State) (level : Nat) (src : Src) : (s.taskEnd level).holds src = s.holds src :=
  (taskEnd_changes level).holds (by decide) src

theorem exec_joinReceived (d : Byte) (bs : List Byte) (hhead : s.isHead = true) (hears : s.lineReceives = true)
    (hrun : s.seqRuns = true) (hdesc : (descMode d.toNat).isSome = true) :
    exec (.joinReceived d bs) s = .next ((s.burstHeard.join bs).taskEnd 4) :=
  congrArg Host.Outcome.next ((if_pos hhead).trans (heard_taken hears hdesc hrun _))

/-! ### Retries, partial packets and lanes (R362, R365, R368) -/

theorem joinRetry_acts (hsent : s.line.joinSent = true) (hout : s.line.joined = false) :
    ∃ t n, exec .joinRetry s = .next t ∧ n < 2 ^ (min (s.line.joinTry + 1) 4 + 2) ∧
      t = { s with line := { s.line with joinSent := false, joinTry := min (s.line.joinTry + 1) 4, backoff := some n }
                   free := s.free + 1 } :=
  ⟨_, _, congrArg Host.Outcome.next (if_pos (by rw [hsent, hout]; rfl)), Nat.mod_lt _ (Nat.two_pow_pos _), rfl⟩

theorem reassemblyTimeout_head (a : Nat) (hhead : s.isHead = true) : ∃ t, exec (.reassemblyTimeout a) s = .next t ∧
    (∀ n ∈ t.line.nodes, n.addr = a → n.rx = none) ∧ (∀ n ∈ s.line.nodes, n.addr ≠ a → n ∈ t.line.nodes) ∧
    t = { s with line := { s.line with nodes := t.line.nodes } } := by
  refine ⟨_, congrArg Host.Outcome.next (if_pos hhead), fun n hn haddr => ?emptied, fun n hn haddr => ?others, rfl⟩
  case emptied =>
    obtain ⟨m, -, rfl⟩ := List.mem_map.1 hn
    by_cases hm : m.addr = a
    · rw [if_pos hm]
    · rw [if_neg hm] at haddr
      exact absurd haddr hm
  case others => exact List.mem_map.2 ⟨n, hn, if_neg haddr⟩

theorem laneDrop_drops (l : Fin 4) (hhead : s.isHead = true) (hlane : s.line.lanes.getLsbD l.val = true)
    (hstays : s.line.lanes &&& ~~~(BitVec.ofNat 4 (2 ^ l.val)) ≠ 0) : ∃ t, exec (.laneDrop l false) s = .next t ∧
      (∀ k : Fin 4, t.line.lanes.getLsbD k.val = (s.line.lanes.getLsbD k.val && k != l)) ∧
      t.holds Ev.laneDrop = true ∧ t = { s.withLogs t with line := { s.line with lanes := t.line.lanes } } := by
  let next := s.line.lanes &&& ~~~(BitVec.ofNat 4 (2 ^ l.val))
  let v : State := { s with line := { s.line with lanes := next } }
  have hchanged : next ≠ s.line.lanes := fun h => by
    have hbit : next.getLsbD l.val = false := by rw [getLsbD_cleared _ l.isLt l.isLt]; simp
    rw [h, hlane] at hbit
    exact Bool.noConfusion hbit
  have hraised := raiseP_changes (s := v) Ev.laneDrop 1 l.val
  have hline : (v.raiseP Ev.laneDrop 1 l.val).line = v.line := hraised.same .line (by decide)
  refine ⟨v.raiseP Ev.laneDrop 1 l.val, congrArg Host.Outcome.next (if_neg ?_), fun k => ?_, raiseP_holds .., ?_⟩
  · show ¬ (!s.isHead || decide (next = 0) || decide (next = s.line.lanes)) = true
    simp only [hhead, hchanged, show next ≠ 0 from hstays, decide_false, Bool.not_true, Bool.or_self, Bool.false_eq_true,
      not_false_eq_true]
  · rw [hline, getLsbD_cleared _ l.isLt k.isLt]
    simp [bne, beq_eq_decide, Fin.ext_iff]
  · rw [hline]
    exact hraised.eq_copy

theorem laneDrop_last (l : Fin 4) (honly : s.line.lanes = BitVec.ofNat 4 (2 ^ l.val)) :
    exec (.laneDrop l false) s = .next s := by
  have hnone : s.line.lanes &&& ~~~(BitVec.ofNat 4 (2 ^ l.val)) = 0 := by rw [honly, BitVec.and_not_self]
  refine congrArg Host.Outcome.next (if_pos ?_)
  show (!s.isHead || decide (s.line.lanes &&& ~~~(BitVec.ofNat 4 (2 ^ l.val)) = 0) || _) = true
  rw [decide_eq_true hnone, Bool.or_true, Bool.true_or]

/-! ### Nodes that are lost or unjoined (R375) -/

theorem nodeLost_acts {a : Nat} {n : Node} (hnode : s.node? a = some n)
    (hlost : s.param P.lineNodeLostS * 1000 ≤ since s.plinth.upMs n.heardAt) :
    ∃ t, exec (.nodeLost a) s = .next t ∧ t.line.nodes = s.line.nodes.filter (fun n => n.addr ≠ a) ∧
      t.node? a = none ∧ t.holds Ev.nodeChange = true := by
  let freed : State := { s with line := { s.line with nodes := s.line.nodes.filter fun n => n.addr ≠ a } }
  let v := freed.raiseP Ev.nodeChange 0 a
  have hexec : exec (.nodeLost a) s = .next (v.notify (toLe 1 a ++ toLe 1 3)) := by
    show execNodeLost a s = _
    unfold execNodeLost
    rw [hnode]
    exact congrArg Host.Outcome.next (if_neg (Nat.not_lt.2 hlost))
  have hqueued := notify_queues v (toLe 1 a ++ toLe 1 3)
  have hline : v.line = freed.line := (raiseP_changes ..).same .line (by decide)
  have hnodes := hqueued.nodes.trans (congrArg Line.nodes hline)
  refine ⟨_, hexec, hnodes, ?_, hqueued.holds (raiseP_holds ..)⟩
  unfold State.node?
  rw [hnodes]
  simp [freed]

/-- Settles O35: each clause by its lemma above. -/
theorem nodesJoinAndLeave : Obligations.NodesJoinAndLeave := by
  unfold Obligations.NodesJoinAndLeave
  intro s
  refine ⟨fun d bs hhead hears hrun hdesc hcrc hfeeder htype hlow hhigh hfree => ?accepts,
    fun d bs n hhead hears hrun hdesc hcrc hfeeder htype hlow hhigh hnode huid hheard => ?refuses,
    fun hsent hout => joinRetry_acts hsent hout,
    fun a => ⟨fun hnode => ⟨_, congrArg Host.Outcome.next (if_neg (by simp [hnode])), rfl⟩,
      fun hhead => reassemblyTimeout_head a hhead⟩,
    fun l hhead hlane hstays => laneDrop_drops l hhead hlane hstays, fun l honly => ⟨s, laneDrop_last l honly, rfl⟩,
    fun a n hnode hlost => nodeLost_acts hnode hlost,
    fun hjoined hlost => ⟨_, congrArg Host.Outcome.next (if_pos (by simp [hjoined, hlost])), rfl⟩⟩
  case accepts =>
    obtain ⟨hnodes, hacks, hholds⟩ := join_accepts (s := s.burstHeard) hcrc hfeeder htype rfl hlow hhigh rfl
      (addrTaken_of_free hfree)
    refine ⟨_, exec_joinReceived d bs hhead hears hrun hdesc, ?_⟩
    rw [(taskEnd_changes 4).same .line (by decide), taskEnd_holds]
    exact ⟨hnodes, hacks, hholds⟩
  case refuses =>
    obtain ⟨hnodes, hacks, hholds⟩ := join_refuses (s := s.burstHeard) hcrc hfeeder htype rfl hlow hhigh rfl
      (addrTaken_of_other (s := s.burstHeard) hnode huid hheard)
    refine ⟨_, exec_joinReceived d bs hhead hears hrun hdesc, ?_⟩
    rw [(taskEnd_changes 4).same .line (by decide), taskEnd_holds]
    exact ⟨hnodes, hacks, hholds⟩

end Sys2Proof.Machine
end

section
/-! PROOFS. The level in effect with the SHED inhibit it asks for, droop, the pickup delay, and the allowances with their day: what
one inhibit writes, what a pass over the channels leaves at each, and the statement on them. -/

namespace Sys2Proof.Machine

variable {s t u : State} {ps : List StatePart}

/-! ### The level in effect (R378) -/

/-- The level that the sources give reads the line's record, the Tableau, the Plinth and the configuration alone. -/
theorem ChangesOnly.levelOf (h : ChangesOnly ps s t) (hline : .line ∉ ps) (htab : .tab ∉ ps) (hplinth : .plinth ∉ ps)
    (hconfig : .config ∉ ps) (hident : .ident ∉ ps) : t.levelOf = s.levelOf := by
  unfold State.levelOf State.droopCounts State.tabLevel State.memberDroop
  rw [h.same .line hline, h.same .tab htab, h.same .plinth hplinth, h.same .ident hident, h.param hconfig hident]

/-- The state with another level in effect. -/
def State.withEff (s : State) (l : Nat) : State := { s with line := { s.line with eff := l } }

theorem relevel_changes_after (s : State) : ChangesOnly [.sw, .logs] (s.withEff s.levelOf) s.relevel := by
  unfold State.relevel
  dsimp only
  split
  next heff =>
    have hsame : s.withEff s.levelOf = s := by
      unfold State.withEff
      rw [heff]
    rw [hsame]
    exact .refl s
  next => exact (applyShed_changes.trans (raiseP_changes ..)).mono (by decide)

theorem relevel_line (s : State) : s.relevel.line = { s.line with eff := s.levelOf } :=
  (relevel_changes_after s).same .line (by decide)

theorem relevel_tab (s : State) : s.relevel.tab = s.tab := (relevel_changes_after s).same .tab (by decide)

theorem relevel_power (s : State) : s.relevel.power = s.power := (relevel_changes_after s).same .power (by decide)

/-- After an evaluation the level in effect is what the sources give. -/
theorem relevel_eff (s : State) : s.relevel.line.eff = s.relevel.levelOf := by
  have hsame : s.relevel.levelOf = (s.withEff s.levelOf).levelOf :=
    (relevel_changes_after s).levelOf (by decide) (by decide) (by decide) (by decide) (by decide)
  rw [relevel_line, hsame]
  rfl

theorem relevel_of_change (hchange : s.levelOf ≠ s.line.eff) :
    s.relevel = ((s.withEff s.levelOf).applyShed).raiseP Ev.shedChange 0 s.levelOf := if_neg hchange

theorem relevel_of_same (hsame : s.levelOf = s.line.eff) : s.relevel = s := if_pos hsame

theorem relevel_held (s : State) : s.events.held ⊆ s.relevel.events.held := by
  by_cases hsame : s.levelOf = s.line.eff
  · rw [relevel_of_same hsame]
    exact List.Subset.refl _
  · have hevents : (s.withEff s.levelOf).applyShed.events = s.events := (applyShed_changes.same .logs (by decide)).1
    rw [relevel_of_change hsame, ← hevents]
    exact held_subset_raiseAs ..

/-- A pulse does not hold a condition. -/
theorem raiseP_holdsC (s : State) (x src : Src) (r d : Nat) : (s.raiseP x r d).holdsC src = s.holdsC src := by
  unfold State.raiseP State.holdsC
  rw [held_raiseAs]
  split
  · rfl
  · simp

theorem relevel_holdsC (s : State) (src : Src) : s.relevel.holdsC src = s.holdsC src := by
  by_cases hsame : s.levelOf = s.line.eff
  · rw [relevel_of_same hsame]
  · have hshed := applyShed_changes (s := s.withEff s.levelOf).holdsC (by decide) src
    rw [relevel_of_change hsame, raiseP_holdsC, hshed]
    rfl

/-! ### What an inhibit writes of a channel (R383, Table 8.6) -/

/-- Of a channel its inhibits SHED and ALLOWANCE, its delayed return and its inrush window. -/
def Chan.returns (h : Chan) : Bool × Bool × Option Nat × Bool := (h.shed, h.allow, h.pickAt, h.window)

/-- An output driven without a fresh turn-on opens no window. -/
theorem refresh_returns (s : State) (c j : Nat) : ((s.refresh c false).chan j).returns = (s.chan j).returns := by
  unfold State.refresh
  dsimp only
  split
  · rfl
  split
  · rfl
  · rw [Bool.and_false, if_neg Bool.false_ne_true]
    exact latch_keeps Chan.returns (fun _ => rfl) ..

theorem inhibit_other {c j : Nat} (hj : j ≠ c) (f : Chan → Chan) :
    ((s.inhibit c f).chan j).returns = (s.chan j).returns := by
  unfold State.inhibit State.cancelInrush
  rw [refresh_returns, onChan_chan, if_neg fun h => hj h.1, onChan_chan, if_neg fun h => hj h.1]

theorem inhibit_self {c : Nat} (hc : c < 16) (f : Chan → Chan) : ((s.inhibit c f).chan c).returns =
    ((f (s.chan c)).shed, (f (s.chan c)).allow, none, false) := by
  unfold State.inhibit State.cancelInrush
  rw [refresh_returns, onChan_self hc, onChan_self hc]
  rfl

theorem uninhibit_other {c j : Nat} (hj : j ≠ c) (f : Chan → Chan) : (s.uninhibit c f).chan j = s.chan j := by
  unfold State.uninhibit
  rw [onChan_chan, if_neg fun h => hj h.1]

theorem uninhibit_shed {c : Nat} (hc : c < 16) (f : Chan → Chan) :
    ((s.uninhibit c f).chan c).shed = (f (s.chan c)).shed := by
  unfold State.uninhibit
  rw [onChan_self hc]
  dsimp only
  split
  · rfl
  · rfl

/-! ### One pass over the channels -/

/-- In a pass over distinct places, what only the step of a place writes stands as that step leaves it. -/
theorem foldl_at {β : Type} {f : State → Nat → State} {get : State → β} {inv : State → Prop} {x : Nat}
    (hinv : ∀ v j, inv v → inv (f v j)) (hother : ∀ v j, j ≠ x → get (f v j) = get v) {l : List Nat} (hl : l.Nodup)
    (hx : x ∈ l) (hs : inv s) : ∃ v, inv v ∧ get v = get s ∧ get (l.foldl f s) = get (f v x) := by
  induction l generalizing s with
  | nil => exact absurd hx List.not_mem_nil
  | cons y l ih =>
    obtain ⟨hy, hl⟩ := List.nodup_cons.1 hl
    rcases List.mem_cons.1 hx with rfl | hx
    · have hrest : ∀ v, get (l.foldl f v) = get v := fun v =>
        List.foldlRecOn (motive := fun w => get w = get v) l f rfl fun w hw j hj =>
          (hother w j fun h => hy (h ▸ hj)).trans hw
      exact ⟨s, hs, rfl, hrest _⟩
    · have hyx : y ≠ x := fun h => hy (h ▸ hx)
      obtain ⟨v, hv, hsame, hlast⟩ := ih hl hx (hinv s y hs)
      exact ⟨v, hv, hsame.trans (hother s y hyx), hlast⟩

/-! ### SHED -/

/-- Whether a channel is shed at the level in effect (R378). -/
def State.wantShed (s : State) (c : Nat) : Bool :=
  decide (1 ≤ s.line.eff) && decide (s.param (P.lineShedFrom (s.line.eff - 1)) ≤ s.param (P.lswShedClass c))

/-- The step of the pass at one channel. -/
def State.shedStep (s : State) (c : Nat) : State :=
  if s.wantShed c == (s.chan c).shed then s
  else if s.wantShed c then s.inhibit c fun h => { h with shed := true }
  else s.uninhibit c fun h => { h with shed := false }

theorem applyShed_eq (s : State) : s.applyShed = (List.range s.chans).foldl State.shedStep s := rfl

theorem shedStep_changes (c : Nat) : ChangesOnly [.sw] s (s.shedStep c) :=
  .elseOnly (.mono (.ite (inhibit_changes ..) (uninhibit_changes ..)) (by decide))

theorem ChangesOnly.wantShed (h : ChangesOnly [.sw] s t) : t.wantShed = s.wantShed := by
  unfold State.wantShed
  funext c
  rw [h.same .line (by decide), h.param (by decide) (by decide), h.param (by decide) (by decide)]

theorem shedStep_other {c j : Nat} (hj : j ≠ c) : ((s.shedStep c).chan j).returns = (s.chan j).returns := by
  unfold State.shedStep
  split
  · rfl
  split
  · exact inhibit_other hj _
  · rw [uninhibit_other hj]

/-- At its own step a channel gets the inhibit that the level asks for; one that is shed loses a return in progress and its
window. -/
theorem shedStep_self {c : Nat} (hc : c < 16) : ((s.shedStep c).chan c).shed = s.wantShed c ∧
    (((s.shedStep c).chan c).shed = true → (s.chan c).shed = false →
      ((s.shedStep c).chan c).pickAt = none ∧ ((s.shedStep c).chan c).window = false) := by
  unfold State.shedStep
  split
  next heq => exact ⟨(beq_iff_eq.1 heq).symm, fun h h' => absurd (h.symm.trans h') (by decide)⟩
  split
  next hwant =>
    have hself := inhibit_self (s := s) hc fun h => { h with shed := true }
    simp only [Chan.returns, Prod.mk.injEq] at hself
    obtain ⟨hshed, -, hpick, hwindow⟩ := hself
    exact ⟨hshed.trans hwant.symm, fun _ _ => ⟨hpick, hwindow⟩⟩
  next hwant =>
    have hshed := uninhibit_shed (s := s) hc fun h => { h with shed := false }
    exact ⟨hshed.trans (Bool.eq_false_iff.2 hwant).symm, fun h => absurd (hshed.symm.trans h) Bool.false_ne_true⟩

theorem chans_le (s : State) : s.chans ≤ 16 := by
  unfold State.chans
  split
  · decide
  · decide

theorem applyShed_chan {c : Nat} (hc : c ∈ List.range s.chans) : (s.applyShed.chan c).shed = s.wantShed c ∧
    ((s.applyShed.chan c).shed = true → (s.chan c).shed = false →
      (s.applyShed.chan c).pickAt = none ∧ (s.applyShed.chan c).window = false) := by
  have hlt : c < 16 := (List.mem_range.1 hc).trans_le (chans_le s)
  obtain ⟨v, hv, hsame, hlast⟩ := foldl_at (get := fun v => (v.chan c).returns) (inv := ChangesOnly [.sw] s)
    (fun v j hv => (hv.trans (shedStep_changes j)).mono (by decide)) (fun v j hj => shedStep_other hj.symm)
    List.nodup_range hc (.refl s)
  rw [← applyShed_eq] at hlast
  simp only [Chan.returns, Prod.mk.injEq] at hsame hlast
  obtain ⟨hbefore, -⟩ := hsame
  obtain ⟨hshed, -, hpick, hwindow⟩ := hlast
  obtain ⟨hstep, hcancels⟩ := shedStep_self (s := v) hlt
  rw [hshed, hpick, hwindow, ← hbefore, ← hv.wantShed]
  exact ⟨hstep, hcancels⟩

theorem relevel_shed (hchange : s.relevel.line.eff ≠ s.line.eff) {c : Nat} (hc : c ∈ List.range s.chans) :
    (s.relevel.chan c).shed = (decide (1 ≤ s.relevel.line.eff) &&
        decide (s.param (P.lineShedFrom (s.relevel.line.eff - 1)) ≤ s.param (P.lswShedClass c))) ∧
      ((s.relevel.chan c).shed = true → (s.chan c).shed = false →
        (s.relevel.chan c).pickAt = none ∧ (s.relevel.chan c).window = false) := by
  have heff : s.relevel.line.eff = s.levelOf := congrArg Line.eff (relevel_line s)
  rw [heff] at hchange ⊢
  rw [relevel_of_change hchange, (raiseP_changes ..).chan (by decide)]
  exact applyShed_chan (s := s.withEff s.levelOf) hc

theorem relevel_raises (hchange : s.relevel.line.eff ≠ s.line.eff) : s.relevel.holds Ev.shedChange = true := by
  have heff : s.relevel.line.eff = s.levelOf := congrArg Line.eff (relevel_line s)
  rw [heff] at hchange
  rw [relevel_of_change hchange]
  exact raiseP_holds ..

/-! ### Holds that expire (R378, R380, R406) -/

/-- Whether the lead has been lost for as long as a pilot level is held (R406). -/
def State.leadHeldOut (s : State) : Bool :=
  s.tab.leadLost && decide (s.param P.linePilotHoldS * 1000 ≤ since s.plinth.upMs s.tab.leadAt)

/-- The levels that are left when holds have expired: the pilot's under lock, the lead's while it is not lost for long. -/
def State.heldLevels (s : State) : State :=
  { s with
    line := { s.line with level := if s.line.lock then s.line.level else 0 }
    tab := { s.tab with level := if s.leadHeldOut then 0 else s.tab.level } }

theorem exec_pilotHoldExpiry (hgone : (s.line.lock && !s.leadHeldOut) = false) :
    exec .pilotHoldExpiry s = .next s.heldLevels.relevel :=
  congrArg Host.Outcome.next (if_neg (Bool.eq_false_iff.1 hgone))

theorem pilotHoldExpiry_unlocked (hlock : s.line.lock = false) (hlead : s.tab.leadLost = false) :
    ∃ t, exec .pilotHoldExpiry s = .next t ∧ t.line.level = 0 ∧ t.line.eff = t.levelOf ∧ t.tab = s.tab := by
  have hout : s.leadHeldOut = false := by simp [State.leadHeldOut, hlead]
  refine ⟨_, exec_pilotHoldExpiry (by rw [hlock]; rfl), ?_, relevel_eff _, ?_⟩
  · rw [relevel_line]
    exact if_neg (Bool.eq_false_iff.1 hlock)
  · rw [relevel_tab, State.heldLevels, hout]
    rfl

theorem pilotHoldExpiry_alone (hlock : s.line.lock = true) (hlead : s.tab.leadLost = true)
    (hheld : s.param P.linePilotHoldS * 1000 ≤ since s.plinth.upMs s.tab.leadAt) :
    ∃ t, exec .pilotHoldExpiry s = .next t ∧ t.tab.level = 0 ∧ t.line.eff = t.levelOf ∧ t.line.level = s.line.level := by
  have hout : s.leadHeldOut = true := by simp [State.leadHeldOut, hlead, hheld]
  refine ⟨_, exec_pilotHoldExpiry (by rw [hout, hlock]; rfl), ?_, relevel_eff _, ?_⟩
  · rw [relevel_tab]
    exact if_pos hout
  · rw [relevel_line]
    exact if_pos hlock

theorem shedHoldExpiry_acts {x : Nat} (huntil : s.line.cmdUntil = some x) (hpast : since s.plinth.upMs x < 2 ^ 31)
    (hfree : s.levelFree = true) : ∃ t, exec .shedHoldExpiry s = .next t ∧
      t.line.cmd = 0 ∧ t.line.cmdUntil = none ∧ t.line.eff = t.levelOf ∧
      (t.line.eff ≠ s.line.eff → t.holds Ev.shedChange = true) ∧
      (t.line.eff ≠ s.line.eff → ∀ c ∈ List.range s.chans, (t.chan c).shed =
        (decide (1 ≤ t.line.eff) && decide (s.param (P.lineShedFrom (t.line.eff - 1)) ≤ s.param (P.lswShedClass c)))) := by
  let v : State := { s with line := { s.line with cmd := 0, cmdUntil := none } }
  have hexec : exec .shedHoldExpiry s = .next v.relevel := by
    show execShedHoldExpiry s = _
    unfold execShedHoldExpiry
    rw [huntil]
    exact congrArg Host.Outcome.next (if_pos (by simp only [hpast, hfree, decide_true, Bool.and_self]))
  exact ⟨_, hexec, congrArg Line.cmd (relevel_line v), congrArg Line.cmdUntil (relevel_line v), relevel_eff v,
    fun h => relevel_raises (s := v) h, fun h c hc => (relevel_shed (s := v) h hc).1⟩

/-! ### Droop (R381) -/

theorem droopRise_acts {l : Fin 4} {v : Int} (hup : s.line.droop < l.val) (hlow : v < (s.droopMv l.val : Int))
    (hfree : s.levelFree = true) : ∃ t, exec (.droopRise l v) s = .next t ∧ t.line.droop = l.val ∧
      t.power = { s.power with vbusMv := v } ∧ t.holds Ev.droopShed = true ∧ t.line.eff = t.levelOf ∧
      (t.line.eff ≠ s.line.eff → ∀ c ∈ List.range s.chans, (t.chan c).shed =
          (decide (1 ≤ t.line.eff) && decide (s.param (P.lineShedFrom (t.line.eff - 1)) ≤ s.param (P.lswShedClass c))) ∧
          ((t.chan c).shed = true → (s.chan c).shed = false → (t.chan c).pickAt = none ∧ (t.chan c).window = false)) := by
  let drooped : State :=
    { s with power := { s.power with vbusMv := v }, line := { s.line with droop := l.val } }
  let raised := drooped.raiseC Ev.droopShed 0 0
  have hraised := raiseC_changes (s := drooped) Ev.droopShed 0 0
  have hline : raised.line = drooped.line := hraised.same .line (by decide)
  have hexec : exec (.droopRise l v) s = .next raised.relevel := congrArg Host.Outcome.next (if_pos ⟨hup, hlow, hfree⟩)
  refine ⟨_, hexec, ?droop, (relevel_power raised).trans (hraised.power (by decide)),
    holds_of_held_subset (relevel_held raised) (raiseC_holds ..), relevel_eff raised, fun heff c hc => ?shed⟩
  case droop =>
    rw [relevel_line, hline]
  case shed =>
    have hchange : raised.relevel.line.eff ≠ raised.line.eff := by
      rw [hline]
      exact heff
    have hchans : raised.chans = s.chans := hraised.chans (by decide)
    have hshed := relevel_shed hchange (c := c) (by rwa [hchans])
    rw [hraised.chan (by decide), hraised.param (by decide) (by decide), hraised.param (by decide) (by decide)] at hshed
    exact hshed

theorem droopFall_acts {v : Int} (hfree : s.levelFree = true) (hdroop : 0 < s.line.droop)
    (hhigh : ((s.droopMv s.line.droop + s.param P.lineDroopRelMv : Nat) : Int) < v) :
    ∃ t, exec (.droopFall v) s = .next t ∧ t.line.droop = s.line.droop - 1 ∧ t.line.eff = t.levelOf ∧
      (s.line.droop = 1 → t.holdsC Ev.droopShed = false) ∧ t.power = { s.power with vbusMv := v } := by
  let fallen : State :=
    { s with power := { s.power with vbusMv := v }, line := { s.line with droop := s.line.droop - 1 } }
  let cleared := if s.line.droop = 1 then fallen.clearE Ev.droopShed else fallen
  have hcleared : ChangesOnly [.logs] fallen cleared := .thenOnly (clearE_changes _)
  have hexec : exec (.droopFall v) s = .next cleared.relevel :=
    congrArg Host.Outcome.next (if_pos ⟨hdroop, hfree, hhigh⟩)
  refine ⟨_, hexec, ?_, relevel_eff cleared, fun hone => ?_, (relevel_power cleared).trans (hcleared.power (by decide))⟩
  · rw [relevel_line, hcleared.same .line (by decide)]
  · rw [relevel_holdsC, show cleared = fallen.clearE Ev.droopShed from if_pos hone, clearE_holdsC]

/-! ### The pickup delay (R383) -/

theorem pickup_changes (c : Nat) : ChangesOnly [.sw] s (s.pickup c) :=
  .elseOnly (.mono (.ite (.write [.sw] rfl) ((ChangesOnly.write [.sw] rfl).trans (refresh_changes ..))) (by decide))

theorem refresh_pickAt (s : State) (c : Nat) (fresh : Bool) (j : Nat) :
    ((s.refresh c fresh).chan j).pickAt = (s.chan j).pickAt := by
  have hopen : ∀ v : State, ((v.openWindow (s.lead c)).chan j).pickAt = (v.chan j).pickAt := fun v =>
    onChan_keeps Chan.pickAt (fun h => by dsimp only; split <;> rfl) ..
  unfold State.refresh
  dsimp only
  split
  · rfl
  split
  · rfl
  split
  · rw [hopen, latch_keeps Chan.pickAt fun _ => rfl]
  · exact latch_keeps Chan.pickAt (fun _ => rfl) ..

/-- A return turns on what is wanted on; no delay and no demand changes with it. -/
theorem pickup_keeps (s : State) (c j : Nat) : ((s.pickup c).chan j).pickAt = (s.chan j).pickAt ∧
    (s.pickup c).demandOf j = s.demandOf j := by
  unfold State.pickup
  extract_lets busy
  split
  · exact ⟨rfl, rfl⟩
  cases busy with
  | true => exact ⟨rfl, rfl⟩
  | false =>
    rw [if_neg Bool.false_ne_true, refresh_pickAt, refresh_demandOf]
    exact ⟨rfl, rfl⟩

/-- The delay of a channel's return ends. -/
def State.endDelay (s : State) (c : Nat) : State := s.onChan c fun h => { h with pickAt := none }

theorem endDelay_demandOf (s : State) (c : Nat) : (s.endDelay c).demandOf = s.demandOf :=
  onChan_demandOf_of_kept c fun _ => rfl

theorem pickupDelayExpiry_acts {c : Fin 16} {x : Nat} (hpick : (s.chan c.val).pickAt = some x)
    (hfree : (s.chan c.val).inhibited = false) : ∃ t, exec (.pickupDelayExpiry c) s = .next t ∧
      (t.chan c.val).pickAt = none ∧ (∀ d : Fin 16, (t.chan d.val).demand = (s.chan d.val).demand) ∧
      t = { s with sw := t.sw } := by
  have hexec : exec (.pickupDelayExpiry c) s = .next ((s.endDelay c.val).pickup c.val) := by
    show execPickupDelayExpiry c s = _
    unfold execPickupDelayExpiry
    rw [hpick]
    exact congrArg Host.Outcome.next (if_neg (by rw [hfree]; decide))
  refine ⟨_, hexec, ?_, fun d => ?_, (((onChan_changes ..).trans (pickup_changes _)).mono (by decide)).frame_sw_silent⟩
  · rw [(pickup_keeps ..).1, State.endDelay, onChan_self c.isLt]
  · show ((s.endDelay c.val).pickup c.val).demandOf d.val = s.demandOf d.val
    rw [(pickup_keeps ..).2, endDelay_demandOf]

/-! ### Allowances (R384, R385) -/

/-- The channels of a shed class. -/
def State.classChans (s : State) (k : Nat) : List Nat :=
  (List.range s.chans).filter fun c => s.param (P.lswShedClass c) == k

/-- The state with a class noted as having reached its allowance. -/
def State.withHit (s : State) (k : Nat) : State :=
  { s with line := { s.line with hit := s.line.hit ||| BitVec.ofNat 8 (2 ^ k) } }

theorem applyAllowance_reached {k : Nat} (hhit : s.classHit k = true) (hwas : s.line.hit.getLsbD k = false) :
    s.applyAllowance k = ((s.classChans k).foldl (fun (s : State) c => s.inhibit c fun h => { h with allow := true })
      (s.withHit k)).raiseC Ev.allowance 0 k := by
  unfold State.applyAllowance
  simp only [hhit, hwas, show (true == false) = false from rfl, Bool.false_eq_true, if_false, if_true]
  rfl

theorem allowanceReached_acts {k : Fin 8} (hhit : s.classHit k.val = true) (hwas : s.line.hit.getLsbD k.val = false) :
    ∃ t, exec (.allowanceReached k) s = .next t ∧ t.line = { s.line with hit := t.line.hit } ∧
      (∀ j : Fin 8, t.line.hit.getLsbD j.val = (s.line.hit.getLsbD j.val || j == k)) ∧
      t.holds Ev.allowance = true ∧
      (∀ c ∈ List.range s.chans, s.param (P.lswShedClass c) = k.val → (t.chan c).allow = true) := by
  have hinhibited : ChangesOnly [.sw] (s.withHit k.val)
      ((s.classChans k.val).foldl (fun (s : State) c => s.inhibit c fun h => { h with allow := true }) (s.withHit k.val)) :=
    .foldl (fun _ _ => inhibit_changes ..) _ _
  have hline : (s.applyAllowance k.val).line = (s.withHit k.val).line := by
    rw [applyAllowance_reached hhit hwas, (raiseC_changes ..).same .line (by decide), hinhibited.same .line (by decide)]
  refine ⟨_, rfl, ?line, fun j => ?hit, ?holds, fun c hc hclass => ?allow⟩
  case line =>
    rw [hline]
    rfl
  case hit =>
    rw [hline]
    refine (getLsbD_set _ _ k.isLt).trans ?_
    simp [beq_eq_decide, Fin.ext_iff]
  case holds =>
    rw [applyAllowance_reached hhit hwas]
    exact raiseC_holds ..
  case allow =>
    have hlt : c < 16 := (List.mem_range.1 hc).trans_le (chans_le s)
    have hmem : c ∈ s.classChans k.val := List.mem_filter.2 ⟨hc, by simp [hclass]⟩
    obtain ⟨v, -, -, hlast⟩ := foldl_at (get := fun v : State => (v.chan c).returns) (inv := fun _ => True)
      (f := fun (s : State) c => s.inhibit c fun h => { h with allow := true }) (fun _ _ _ => trivial)
      (l := s.classChans k.val) (fun v j hj => inhibit_other hj.symm _) (List.nodup_range.filter _) hmem (s := s.withHit k.val) trivial
    rw [inhibit_self hlt] at hlast
    simp only [Chan.returns, Prod.mk.injEq] at hlast
    obtain ⟨-, hallow, -⟩ := hlast
    rw [applyAllowance_reached hhit hwas, (raiseC_changes ..).chan (by decide), hallow]

/-- Of the line's record an evaluation of the allowances writes what it notes of the classes. -/
theorem applyAllowance_line (s : State) (k : Nat) : ∃ hit, (s.applyAllowance k).line = { s.line with hit := hit } := by
  have lifted : ∀ (cs : List Nat) (v : State), ChangesOnly [.sw] v (cs.foldl (fun (s : State) c =>
      if (s.chan c).allow then s.uninhibit c fun h => { h with allow := false } else s) v) :=
    fun cs v => .foldl (fun _ _ => .thenOnly (uninhibit_changes ..)) cs v
  have inhibited : ∀ (cs : List Nat) (v : State), ChangesOnly [.sw] v (cs.foldl (fun (s : State) c =>
      s.inhibit c fun h => { h with allow := true }) v) := fun cs v => .foldl (fun _ _ => inhibit_changes ..) cs v
  unfold State.applyAllowance
  dsimp only
  split
  · exact ⟨_, rfl⟩
  split
  · exact ⟨_, ((inhibited ..).trans (raiseC_changes ..)).same .line (by decide)⟩
  · split
    · exact ⟨_, ((lifted ..).trans (clearE_changes _)).same .line (by decide)⟩
    · exact ⟨_, (lifted ..).same .line (by decide)⟩

theorem applyAllowances_line (s : State) : ∃ hit, s.applyAllowances.line = { s.line with hit := hit } :=
  List.foldlRecOn (motive := fun v : State => ∃ hit, v.line = { s.line with hit := hit }) _ _ ⟨_, rfl⟩
    fun v hv k _ => by
      obtain ⟨_, hbefore⟩ := hv
      obtain ⟨hit, hstep⟩ := applyAllowance_line v k
      exact ⟨hit, by rw [hstep, hbefore]⟩

theorem sumOf_zero {n : Nat} {f : Nat → Nat} (hf : ∀ i, f i = 0) : sumOf n f = 0 := by
  unfold sumOf
  exact List.foldlRecOn (motive := fun a => a = 0) _ _ rfl fun a ha i _ => by rw [ha, hf]

theorem classJ_cleared (hctr : s.ctr.eDayJ = Vector.replicate 16 0) (k : Nat) : s.classJ k = 0 := by
  unfold State.classJ
  refine sumOf_zero fun c => ?_
  rw [hctr, getD_toList_replicate, ite_self]

/-- The state as an allowance day begins, before the allowances are evaluated. -/
def State.dayBegun (s : State) : State :=
  { s with
    ctr := { s.ctr with eDayJ := Vector.replicate 16 0 }
    line := { s.line with
      dayTime := if s.plinth.timeValid then some s.plinth.rtcSec else none
      dayUp := s.plinth.upMs } }

theorem allowanceDayStart_acts (s : State) : ∃ t, exec .allowanceDayStart s = .next t ∧
    t.ctr = { s.ctr with eDayJ := Vector.replicate 16 0 } ∧ t.line.dayUp = s.plinth.upMs ∧
    (s.plinth.timeValid = true → t.line.dayTime = some s.plinth.rtcSec) ∧ (∀ k : Fin 8, t.classJ k.val = 0) := by
  obtain ⟨_, hline⟩ := applyAllowances_line s.dayBegun
  have hctr : s.dayBegun.applyAllowances.ctr = s.dayBegun.ctr := applyAllowances_changes.same .ctr (by decide)
  refine ⟨s.dayBegun.applyAllowances, rfl, hctr, ?_, fun hvalid => ?_,
    fun k => classJ_cleared (congrArg Counters.eDayJ hctr) k.val⟩
  · rw [hline]
    rfl
  · rw [hline]
    exact if_pos hvalid

/-- Settles O36: each command by its lemma above. -/
theorem levelsAndAllowancesAct : Obligations.LevelsAndAllowancesAct := by
  unfold Obligations.LevelsAndAllowancesAct
  intro s
  exact ⟨⟨fun hlock hlead => pilotHoldExpiry_unlocked hlock hlead,
      fun hlock hlead hheld => pilotHoldExpiry_alone hlock hlead hheld⟩,
    fun x huntil hpast hfree => shedHoldExpiry_acts huntil hpast hfree,
    fun l v hup hlow hfree => droopRise_acts hup hlow hfree, fun v hfree hdroop hhigh => droopFall_acts hfree hdroop hhigh,
    fun c x hpick hfree => pickupDelayExpiry_acts hpick hfree, fun k hhit hwas => allowanceReached_acts hhit hwas,
    allowanceDayStart_acts s⟩

end Sys2Proof.Machine
end

section
/-! PROOFS. The transmitter fault and two heads on one feeder: one lemma per clause, and the statement on them. -/

namespace Sys2Proof.Machine

variable {s t : State}

/-! ### The source of TB8 after its evaluation (R133) -/

theorem tb8Eval_source (s : State) : s.tb8Eval.tb8Source = s.tb8Source := by
  unfold State.tb8Eval
  dsimp only
  split
  · rfl
  · rfl

/-- An evaluation writes the source, the trim of RC32 and the glide. -/
theorem tb8Eval_eq (s : State) : s.tb8Eval = { s with
    plinth := { s.plinth with tb8 := s.tb8Eval.tb8Source, rc32Trim := s.tb8Eval.plinth.rc32Trim }
    arm := { s.arm with glideMs := s.tb8Eval.arm.glideMs } } := by
  rw [tb8Eval_source]
  unfold State.tb8Eval
  dsimp only
  split
  next hsame => rw [hsame]
  next => rfl

/-! ### A burst that ends (R363, Table 4.5) -/

theorem endBurst_idle (h : s.line.txMs = 0) : s.endBurst = s := if_pos h

theorem endBurst_eq (s : State) : s.endBurst =
    { s with line := { s.line with txMs := 0 }, ledger := { s.ledger with res := s.endBurst.ledger.res } } := by
  unfold State.endBurst
  split
  next hidle => rw [← hidle]
  next => rfl

/-! ### The transmitter fault (R388) -/

/-- A transmitter that stops on a fault of its coupling. -/
def State.txStopped (s : State) : State := { s.endBurst with line := { s.endBurst.line with txFault := true } }

theorem txStopped_eq (s : State) : s.txStopped = { s with
    line := { s.line with txFault := true, txMs := 0 }, ledger := { s.ledger with res := s.txStopped.ledger.res } } := by
  unfold State.txStopped
  rw [endBurst_eq]

theorem txStopped_frame (h : ChangesOnly [.logs] s.txStopped t) : t = { s.withLogs t with
    line := { s.line with txFault := true, txMs := 0 }, ledger := { s.ledger with res := t.ledger.res } } := by
  have hledger : t.ledger = s.txStopped.ledger := h.same .ledger (by decide)
  rw [hledger]
  exact h.eq_copy.trans (congrArg (State.withLogs · t) (txStopped_eq s))

/-- Under a transmitter fault with no burst neither a frame nor the pilot is driven. -/
theorem txFault_silences (hfault : t.line.txFault = true) (hms : t.line.txMs = 0) :
    t.txFree = false ∧ t.pilotOn = false ∧ t.pad .lnTx = .hiZ := by
  have hfree : t.txFree = false := by simp [State.txFree, hfault]
  have hpilot : t.pilotOn = false := by simp [State.pilotOn, State.pilotDue, hfree]
  refine ⟨hfree, hpilot, ?_⟩
  show t.padLineTx = .hiZ
  simp [State.padLineTx, hpilot, hms]

theorem txFault_acts (s : State) (short : Bool) : ∃ t, exec (.txFault short) s = .next t ∧ t.holds Ev.txFault = true ∧
    (s.line.txMs = 0 → t.ledger = s.ledger) ∧ t.txFree = false ∧ t.pilotOn = false ∧ t.pad .lnTx = .hiZ ∧
    t = { s.withLogs t with line := { s.line with txFault := true, txMs := 0 }, ledger := { s.ledger with
      res := t.ledger.res } } := by
  let t := s.txStopped.raiseOnce Ev.txFault (if short then 2 else 1) 0
  have hraised : ChangesOnly [.logs] s.txStopped t := raiseOnce_changes ..
  have hframe := txStopped_frame hraised
  have hledger : t.ledger = s.endBurst.ledger := hraised.same .ledger (by decide)
  have hline : t.line = { s.line with txFault := true, txMs := 0 } := congrArg State.line hframe
  obtain ⟨hfree, hpilot, hpad⟩ := txFault_silences (congrArg Line.txFault hline) (congrArg Line.txMs hline)
  exact ⟨t, rfl, raiseOnce_holds .., fun hidle => hledger.trans (congrArg State.ledger (endBurst_idle hidle)), hfree, hpilot,
    hpad, hframe⟩

theorem txFaultRetry_works (s : State) : ∃ t, exec (.txFaultRetry true) s = .next t ∧ t.holdsC Ev.txFault = false ∧
    t = { s.withLogs t with line := { s.line with txFault := false } } :=
  ⟨_, rfl, clearE_holdsC .., (clearE_changes (s := { s with line := { s.line with txFault := false } }) _).eq_copy⟩

/-! ### Two heads on one feeder (R415) -/

/-- The line's record of a HEAD as its listen ends. -/
def Line.listened (l : Line) (heard : Bool) : Line :=
  { l with
    listening := false, generating := !heard, stoodDown := heard
    nodes := if heard then [] else l.nodes, joinAcks := if heard then [] else l.joinAcks }

theorem endListen_eq (s : State) (heard : Bool) :
    s.endListen heard = { s with line := s.line.listened heard }.tb8Eval := rfl

/-- The parts that a change of head may write. -/
theorem headFrame_of (h : ChangesOnly [.mode, .plinth, .arm, .ledger, .line, .logs] s t)
    (hplinth : t.plinth = { s.plinth with tb8 := t.tb8Source, rc32Trim := t.plinth.rc32Trim })
    (harm : t.arm = { s.arm with glideMs := t.arm.glideMs })
    (hledger : t.ledger = { s.ledger with res := t.ledger.res }) : t = { s.withLogs t with
      plinth := { s.plinth with tb8 := t.tb8Source, rc32Trim := t.plinth.rc32Trim }
      arm := { s.arm with glideMs := t.arm.glideMs }, ledger := { s.ledger with res := t.ledger.res }, line := t.line } := by
  have frame : t = { s.withLogs t with plinth := t.plinth, arm := t.arm, ledger := t.ledger, line := t.line } := h.eq_copy
  rw [hplinth, harm, hledger] at frame
  exact frame

/-- A listen that ends writes the line's record, the source of TB8 with its trim and the glide. -/
theorem endListen_frame (heard : Bool) (ht : t = s.endListen heard) : t.line = s.line.listened heard ∧ t = { s with
    line := t.line, plinth := { s.plinth with tb8 := t.tb8Source, rc32Trim := t.plinth.rc32Trim }
    arm := { s.arm with glideMs := t.arm.glideMs } } := by
  have heq := tb8Eval_eq { s with line := s.line.listened heard }
  rw [← endListen_eq, ← ht] at heq
  have hline : t.line = s.line.listened heard := congrArg State.line heq
  rw [hline]
  exact ⟨rfl, heq⟩

theorem tb8Source_congr (hplinth : t.plinth = s.plinth) (hlock : t.line.lock = s.line.lock) (htab : t.tab = s.tab)
    (hconfig : t.config = s.config) (hident : t.ident = s.ident) : t.tb8Source = s.tb8Source := by
  unfold State.tb8Source State.isHead State.speaks State.follower
  rw [hplinth, hlock, htab, hident, isOn_congr (param_congr hconfig hident)]

theorem headStartupListenEnd_acts (heard : Bool) (hhead : s.isHead = true) (hlisten : s.line.listening = true)
    (hclash : s.holds Ev.headClash = false) : exec (.headStartupListenEnd heard) s = .next (s.endListen heard) :=
  congrArg Host.Outcome.next (if_pos (by simp [hhead, hlisten, hclash]))

/-- The line's record of a HEAD that meets another. -/
def Line.clashed (l : Line) : Line :=
  { l with generating := false, listening := true, nodes := [], joinAcks := [], txMs := 0 }

theorem headClash_acts (hhead : s.isHead = true) (hgen : s.line.generating = true) : ∃ t, exec .headClash s = .next t ∧
    t.holds Ev.headClash = true ∧ t.pilotOn = false ∧ (s.line.txMs = 0 → t.ledger = s.ledger) ∧
    t = { s.withLogs t with
      plinth := { s.plinth with tb8 := t.tb8Source, rc32Trim := t.plinth.rc32Trim },
      arm := { s.arm with glideMs := t.arm.glideMs }, ledger := { s.ledger with res := t.ledger.res },
      line := { s.line with generating := false, listening := true, nodes := [], joinAcks := [], txMs := 0 } } := by
  let met : State := { s.endBurst with
    line := { s.endBurst.line with generating := false, listening := true, nodes := [], joinAcks := [] } }
  let v := met.raiseC Ev.headClash 0 0
  have hmet : met = { s with line := s.line.clashed, ledger := { s.ledger with res := s.endBurst.ledger.res } } := by
    unfold met
    rw [endBurst_eq]
    rfl
  have hraised : ChangesOnly [.logs] met v := raiseC_changes ..
  have hexec : exec .headClash s = .next v.tb8Eval :=
    congrArg Host.Outcome.next (if_pos (by rw [hhead, hgen]; rfl))
  have hafter : ChangesOnly [.plinth, .arm] v v.tb8Eval := tb8Eval_changes
  have hline : v.tb8Eval.line = s.line.clashed := by
    rw [hafter.same .line (by decide), hraised.same .line (by decide), hmet]
  have hledger : v.tb8Eval.ledger = s.endBurst.ledger := by
    rw [hafter.same .ledger (by decide), hraised.same .ledger (by decide)]
  have hwrites : ChangesOnly [.line, .ledger] s met := hmet ▸ .write _ rfl
  have hparts : ChangesOnly [.mode, .plinth, .arm, .ledger, .line, .logs] s v.tb8Eval :=
    ((hwrites.trans hraised).trans hafter).mono (by decide)
  have hbefore : v.plinth = s.plinth ∧ v.arm = s.arm :=
    ⟨(hwrites.trans hraised).same .plinth (by decide), (hwrites.trans hraised).same .arm (by decide)⟩
  have heval := tb8Eval_eq v
  have hholds : v.tb8Eval.holds Ev.headClash = true := (hafter.holds (by decide) _).trans (raiseC_holds ..)
  have hpilot : v.tb8Eval.pilotOn = false := by simp [State.pilotOn, State.pilotDue, hline, Line.clashed]
  refine ⟨_, hexec, hholds, hpilot, fun hidle => ?_, ?_⟩
  · rw [hledger, endBurst_idle hidle]
  · generalize v.tb8Eval = t at *
    have hplinth := congrArg State.plinth heval
    have harm := congrArg State.arm heval
    rw [hbefore.1] at hplinth
    rw [hbefore.2] at harm
    have hres : t.ledger = { s.ledger with res := t.ledger.res } := by
      rw [hledger]
      exact congrArg State.ledger (endBurst_eq s)
    have hframe := headFrame_of hparts hplinth harm hres
    rw [hline] at hframe
    exact hframe

/-- A clash listen that ends counts on to the next byte of the UID. -/
theorem headClashListenEnd_acts (heard : Bool) (hhead : s.isHead = true) (hlisten : s.line.listening = true)
    (hclash : s.holds Ev.headClash = true) : ∃ t, exec (.headClashListenEnd heard) s = .next t ∧
      t.holdsC Ev.headClash = false ∧ t = { s.withLogs t with
        plinth := { s.plinth with tb8 := t.tb8Source, rc32Trim := t.plinth.rc32Trim },
        arm := { s.arm with glideMs := t.arm.glideMs },
        line := { s.line with
          listening := false, generating := !heard, stoodDown := heard, clashByte := (s.line.clashByte + 1) % 8,
          nodes := if heard then [] else s.line.nodes, joinAcks := if heard then [] else s.line.joinAcks } } := by
  let u := s.endListen heard
  let v : State := { u with line := { u.line with clashByte := (s.line.clashByte + 1) % 8 } }
  have hexec : exec (.headClashListenEnd heard) s = .next (v.clearE Ev.headClash) :=
    congrArg Host.Outcome.next (if_pos (by simp [hhead, hlisten, hclash]))
  have hcleared : ChangesOnly [.logs] v (v.clearE Ev.headClash) := clearE_changes _
  obtain ⟨hline, hframe⟩ := endListen_frame (s := s) (t := u) heard rfl
  refine ⟨_, hexec, clearE_holdsC .., ?_⟩
  generalize v.clearE Ev.headClash = t at hcleared
  have hplinth : t.plinth = u.plinth := hcleared.same .plinth (by decide)
  have harm : t.arm = u.arm := hcleared.same .arm (by decide)
  have hvline : t.line = v.line := hcleared.same .line (by decide)
  have hsource : t.tb8Source = u.tb8Source := tb8Source_congr hplinth ((congrArg Line.lock hvline).trans rfl)
    (hcleared.same .tab (by decide)) (hcleared.same .config (by decide)) (hcleared.same .ident (by decide))
  rw [hsource, hplinth, harm]
  rw [hline] at hframe
  exact hcleared.eq_copy.trans (congrArg (fun x : State =>
    ({ x with line := { x.line with clashByte := (s.line.clashByte + 1) % 8 } } : State).withLogs t) hframe)

theorem stoodDownCheck_resumes (hhead : s.isHead = true) (hdown : s.line.stoodDown = true) :
    exec (.stoodDownCheck true) s = .next (s.endListen false) :=
  congrArg Host.Outcome.next (if_pos (by rw [hhead, hdown]; rfl))

/-- Settles O37: each command by its lemma above. -/
theorem transmitterAndHeadsYield : Obligations.TransmitterAndHeadsYield := by
  unfold Obligations.TransmitterAndHeadsYield
  intro s
  refine ⟨txFault_acts s, txFaultRetry_works s, ⟨s, rfl, rfl⟩, fun heard hhead hlisten hclash => ?startup,
    fun hhead hgen => headClash_acts hhead hgen,
    fun heard hhead hlisten hclash => headClashListenEnd_acts heard hhead hlisten hclash,
    fun hhead hdown => ?resumes⟩
  case startup => exact ⟨_, headStartupListenEnd_acts heard hhead hlisten hclash, endListen_frame heard rfl⟩
  case resumes =>
    obtain ⟨hline, hframe⟩ := endListen_frame (s := s) false rfl
    rw [hline] at hframe
    exact ⟨_, stoodDownCheck_resumes hhead hdown, hframe⟩

end Sys2Proof.Machine
end

section
/-! PROOFS. What the operations on the Tableau write, and election, readback, TSYNC and the link fault: one lemma per clause, and
the statement on them. -/

namespace Sys2Proof.Machine

variable {s t u : State}

/-! ### What the operations on the Tableau write -/

theorem regang_changes : ChangesOnly [.tab] s s.regang := .write _ rfl

/-- Of the Tableau's record the lead's evaluation writes MEMBERS, the qualification, the previous set and the mix of firmware. -/
theorem regang_tab (s : State) : ∃ prev mix, s.regang.tab = { s.tab with
    members := s.memberMask, qualified := qualifies (s.param P.tabIndex) s.memberMask s.tab.prevSet
    prevSet := prev, fwMix := mix } := ⟨_, _, rfl⟩

/-- P_tot noted, before the edge map follows it. -/
def State.withPtot (s : State) : State := { s with tab := { s.tab with ptot := min (s.pTot 0) 63 } }

theorem respace_changes_after (was : Vector Nat 2) : ChangesOnly [.arm, .logs] s.withPtot (s.respace was) :=
  .thenOnly (((ChangesOnly.write [.arm] rfl).trans remap_changes).mono (by decide))

theorem respace_tab (was : Vector Nat 2) : (s.respace was).tab = { s.tab with ptot := min (s.pTot 0) 63 } :=
  (respace_changes_after was).same .tab (by decide)

theorem respace_changes (was : Vector Nat 2) : ChangesOnly [.tab, .arm, .logs] s (s.respace was) :=
  ((ChangesOnly.write (t := s.withPtot) [.tab] rfl).trans (respace_changes_after was)).mono (by decide)

/-- An evaluation leaves TB8 on its source. -/
theorem tb8Eval_tb8 (s : State) : s.tb8Eval.plinth.tb8 = s.tb8Eval.tb8Source :=
  congrArg (fun x : State => x.plinth.tb8) (tb8Eval_eq s)

/-- What is left of the lock on the pilot when it is lost. -/
theorem loseLock_lock (s : State) : s.loseLock.line.lock = false := by
  unfold State.loseLock
  split
  next hoff => simpa using hoff
  next =>
    rw [relevel_line, (raiseP_changes ..).same .line (by decide), tb8Eval_changes.same .line (by decide)]

/-! ### Election (R403, R404) -/

theorem electionStart_acts (hears : s.linkHears = true) (hlead : s.tab.lead = false) (hbus : s.busCarries = true)
    (hdue : s.tab.inTab = false ∨ 100 ≤ since s.plinth.upMs s.tab.leadAt) : ∃ t, exec .electionStart s = .next t ∧
      t.line.eff = t.levelOf ∧ t = { s.withLogs t with
        tab := { s.tab with electing := true, leadLost := s.tab.inTab }, sw := t.sw
        line := { s.line with eff := t.line.eff } } := by
  let listening : State := { s with tab := { s.tab with electing := true, leadLost := s.tab.inTab } }
  have hexec : exec .electionStart s = .next listening.relevel := by
    refine congrArg Host.Outcome.next (if_pos ?_)
    rcases hdue with h | h
    · simp [hears, hlead, hbus, h]
    · simp [hears, hlead, hbus, h]
  have hafter := relevel_changes_after listening
  refine ⟨_, hexec, relevel_eff _, ?_⟩
  have hline := relevel_line listening
  generalize listening.relevel = t at *
  rw [hline]
  exact hafter.eq_copy

/-- A device that becomes lead, with its member table empty, before the Tableau is evaluated. -/
def State.elected (s : State) : State :=
  { s with
    tab := { s.tab with
      electing := false, inTab := true, lead := true, leadLost := false, leadIdx := s.param P.tabIndex, drive := true
      tsync := false, readFails := 0, readFailed := false, member := Vector.replicate 8 none, aside := false
      adopting := false, asideReason := 0, acked := true, bulkOut := [], bulkIn := [], bulkIdx := 0 }
    line := { s.line with
      generating := s.ident.role == .head && (s.tab.inTab && s.tab.leadState.getLsbD 5)
      listening := s.ident.role == .head && !(s.tab.inTab && s.tab.leadState.getLsbD 5) } }

theorem becomeLead_eq (s : State) : s.becomeLead =
    ((((((s.elected.clearE Ev.setAside).regang).respace s.pTots).raiseP Ev.leadChange 0 0).tb8Eval).relevel) := rfl

/-- No member is in an empty table. -/
theorem memberMask_empty (h : s.tab.member = Vector.replicate 8 none) : s.memberMask = 0 := by
  have hnone : ∀ m, s.member? m = none := fun m => by
    unfold State.member?
    rw [h, getD_toList_replicate]
  unfold State.memberMask
  simp only [hnone]
  rfl

/-- A new lead has no member, and is qualified by the previous set alone. -/
theorem becomeLead_tab (s : State) : ∃ prev mix ptot, s.becomeLead.tab = { s.elected.tab with
    members := 0, qualified := qualifies (s.param P.tabIndex) 0 s.tab.prevSet, prevSet := prev, fwMix := mix
    ptot := ptot } := by
  let v := s.elected.clearE Ev.setAside
  have hcleared : ChangesOnly [.logs] s.elected v := clearE_changes _
  have hv : v.tab = s.elected.tab := hcleared.same .tab (by decide)
  have hmask : v.memberMask = 0 := memberMask_empty (congrArg Tab.member hv)
  have hindex : v.param P.tabIndex = s.param P.tabIndex := hcleared.param (by decide) (by decide) _
  obtain ⟨prev, mix, hgang⟩ := regang_tab v
  rw [hmask, hindex, hv] at hgang
  refine ⟨prev, mix, min (v.regang.pTot 0) 63, ?_⟩
  rw [becomeLead_eq, relevel_tab, tb8Eval_changes.same .tab (by decide), (raiseP_changes ..).same .tab (by decide),
    respace_tab, hgang]
  rfl

theorem becomeLead_line (s : State) : s.becomeLead.line = { s.elected.line with eff := s.becomeLead.line.eff } := by
  rw [becomeLead_eq, relevel_line, tb8Eval_changes.same .line (by decide), (raiseP_changes ..).same .line (by decide),
    (respace_changes _).same .line (by decide), regang_changes.same .line (by decide),
    (clearE_changes _).same .line (by decide)]

/-- The level does not enter the source of TB8. -/
theorem relevel_tb8 (h : s.plinth.tb8 = s.tb8Source) : s.relevel.plinth.tb8 = s.relevel.tb8Source := by
  have hafter := relevel_changes (s := s)
  have hsource : s.relevel.tb8Source = s.tb8Source :=
    tb8Source_congr (hafter.same .plinth (by decide)) ((congrArg Line.lock (relevel_line s)).trans rfl) (relevel_tab s)
      (hafter.same .config (by decide)) (hafter.same .ident (by decide))
  rw [hsource, hafter.same .plinth (by decide), h]

theorem electionListenEnd_acts (hears : s.linkHears = true) (hlisten : s.tab.electing = true)
    (hprio : s.param P.tabLeadPrio ≠ 0) : ∃ t, exec .electionListenEnd s = .next t ∧
      t.tab.lead = true ∧ t.tab.inTab = true ∧ t.tab.electing = false ∧ t.tab.leadIdx = s.param P.tabIndex ∧
      t.tab.members = 0 ∧ t.tab.qualified = qualifies (s.param P.tabIndex) 0 s.tab.prevSet ∧
      t.holds Ev.leadChange = true ∧ t.line.eff = t.levelOf ∧ t.plinth.tb8 = t.tb8Source ∧
      t.line.generating = (s.ident.role == .head && (s.tab.inTab && s.tab.leadState.getLsbD 5)) ∧
      t.line.listening = (s.ident.role == .head && !(s.tab.inTab && s.tab.leadState.getLsbD 5)) := by
  have hexec : exec .electionListenEnd s = .next s.becomeLead :=
    congrArg Host.Outcome.next (if_pos (by simp [hears, hlisten, hprio]))
  obtain ⟨prev, mix, ptot, htab⟩ := becomeLead_tab s
  have hline := becomeLead_line s
  have hheld : s.becomeLead.holds Ev.leadChange = true := by
    rw [becomeLead_eq]
    refine holds_of_held_subset (relevel_held _) ?_
    rw [tb8Eval_changes.holds (by decide)]
    exact raiseP_holds ..
  have heff : s.becomeLead.line.eff = s.becomeLead.levelOf := relevel_eff _
  have htb8 : s.becomeLead.plinth.tb8 = s.becomeLead.tb8Source := relevel_tb8 (tb8Eval_tb8 _)
  exact ⟨_, hexec, congrArg Tab.lead htab, congrArg Tab.inTab htab, congrArg Tab.electing htab, congrArg Tab.leadIdx htab,
    congrArg Tab.members htab, congrArg Tab.qualified htab, hheld, heff, htb8, congrArg Line.generating hline,
    congrArg Line.listening hline⟩

theorem electionListenEnd_silent (hprio : s.param P.tabLeadPrio = 0) : exec .electionListenEnd s = .next s :=
  congrArg Host.Outcome.next (if_neg (by simp [hprio]))

/-! ### Readback (R403, R416) -/

/-- A lead that stops for its readback, before it loses the pilot with the lead's work. -/
def State.leadStopped (s : State) : State :=
  { s with tab := { s.tab with
    lead := false, electing := true, drive := false, readFails := 0, readFailed := true, framesOut := [] } }

/-- The state with so many cycles in a row of failed readback. -/
def State.readFailed (s : State) (n : Nat) : State := { s with tab := { s.tab with readFails := n, readFailed := true } }

theorem readbackFailure_stops (hlead : s.tab.lead = true) (hfails : s.tab.readFails = 1) (hqual : s.tab.qualified = false) :
    ∃ t, exec .readbackFailure s = .next t ∧ t.tab = { s.tab with
        lead := false, electing := true, drive := false, readFails := 0, readFailed := true, framesOut := [] } ∧
      t.line.lock = false ∧ t.plinth.tb8 = t.tb8Source := by
  have hexec : exec .readbackFailure s = .next s.leadStopped.loseLock.tb8Eval :=
    congrArg Host.Outcome.next ((if_neg (by simp [hlead])).trans ((if_pos (by simp [hfails, hqual])).trans rfl))
  refine ⟨_, hexec, ?_, ?_, tb8Eval_tb8 _⟩
  · rw [tb8Eval_changes.same .tab (by decide), loseLock_changes.same .tab (by decide)]
    rfl
  · rw [tb8Eval_changes.same .line (by decide), loseLock_lock]

theorem readbackFailure_faults (hlead : s.tab.lead = true) (hfails : s.tab.readFails = 7) (hqual : s.tab.qualified = true) :
    ∃ t, exec .readbackFailure s = .next t ∧ t.holds Ev.linkFault = true ∧
      t = { s.withLogs t with tab := { s.tab with readFails := 8, readFailed := true } } := by
  have hexec : exec .readbackFailure s = .next ((s.readFailed (s.tab.readFails + 1)).raiseOnce Ev.linkFault 0 0) :=
    congrArg Host.Outcome.next ((if_neg (by simp [hlead])).trans
      ((if_neg (by simp [hqual])).trans (if_pos (by simp [hfails]))))
  rw [hfails] at hexec
  exact ⟨_, hexec, raiseOnce_holds .., (raiseOnce_changes (s := s.readFailed 8) Ev.linkFault 0 0).eq_copy⟩

/-! ### TSYNC (R394, R395) -/

/-- A watch of the lead writes what it finds of its loss. -/
theorem leadWatch_tab (s : State) : s.leadWatch.tab =
    { s.tab with leadLost := if s.tab.inTab && !s.tab.lead then s.leadGone else s.tab.leadLost } := by
  unfold State.leadWatch
  split
  · rw [relevel_tab]
  · rfl

theorem realignAll_changes : ChangesOnly [.sw, .free] s s.realignAll :=
  .foldl (fun _ _ => .thenOnly ((onChan_changes ..).trans draw_changes)) _ _

/-- The alignment of the channels does not enter the source of TB8. -/
theorem realignAll_tb8 (h : s.plinth.tb8 = s.tb8Source) : s.realignAll.plinth.tb8 = s.realignAll.tb8Source := by
  have hafter := realignAll_changes (s := s)
  have hplinth : s.realignAll.plinth = s.plinth := hafter.same .plinth (by decide)
  have hline : s.realignAll.line = s.line := hafter.same .line (by decide)
  rw [tb8Source_congr hplinth (congrArg Line.lock hline) (hafter.same .tab (by decide)) (hafter.same .config (by decide))
    (hafter.same .ident (by decide)), hplinth, h]

theorem leadWatch_changes : ChangesOnly [.tab, .line, .sw, .logs] s s.leadWatch :=
  .thenOnly (((ChangesOnly.write [.tab] rfl).trans relevel_changes).mono (by decide))

theorem tb8Source_tsync (hmode : s.plinth.mode ≠ .field) (hen : s.isOn P.tabEn = true) (hlead : s.tab.lead = false)
    (hsync : s.tab.tsync = true) : s.tb8Source = .tsync := by
  simp [State.tb8Source, State.follower, hmode, hen, hlead, hsync]

theorem tb8Source_unlocked (hsync : s.tab.tsync = false) : s.tb8Source ≠ .tsync := by
  unfold State.tb8Source
  rw [hsync, Bool.and_false, if_neg Bool.false_ne_true]
  split
  · decide
  split
  · decide
  split
  · decide
  · decide

theorem tsyncLock_acts (hen : s.isOn P.tabEn = true) (hlead : s.tab.lead = false) (hsync : s.tab.tsync = false) :
    ∃ t, exec .tsyncLock s = .next t ∧
      t.tab = { s.tab with tsync := true, leadLost := if s.tab.inTab then
        s.busCarries && decide (10 ≤ since s.plinth.upMs s.tab.leadAt) else s.tab.leadLost } ∧
      t.plinth.tb8 = t.tb8Source ∧ (s.tab.inTab = true → s.plinth.mode ≠ .field → t.plinth.tb8 = .tsync) := by
  let locked : State := { s with tab := { s.tab with tsync := true } }
  have hexec : exec .tsyncLock s = .next locked.leadWatch.tb8Eval.realignAll :=
    congrArg Host.Outcome.next (if_pos (by simp [hen, hlead, hsync]))
  have htab : locked.leadWatch.tb8Eval.realignAll.tab = locked.leadWatch.tab := by
    rw [realignAll_changes.same .tab (by decide), tb8Eval_changes.same .tab (by decide)]
  have htb8 := realignAll_tb8 (tb8Eval_tb8 locked.leadWatch)
  refine ⟨_, hexec, ?tab, htb8, fun _ hmode => ?source⟩
  case tab =>
    have hgone : locked.leadGone = (s.tab.inTab && !s.tab.lead && s.busCarries &&
        (!true || decide (10 ≤ since s.plinth.upMs s.tab.leadAt))) := rfl
    have hlost : (if (locked.tab.inTab && !locked.tab.lead) = true then locked.leadGone else locked.tab.leadLost) =
        if s.tab.inTab then s.busCarries && decide (10 ≤ since s.plinth.upMs s.tab.leadAt) else s.tab.leadLost := by
      rw [hgone, show locked.tab.inTab = s.tab.inTab from rfl, show locked.tab.lead = false from hlead, Bool.not_true,
        Bool.false_or]
      generalize decide (10 ≤ since s.plinth.upMs s.tab.leadAt) = due
      cases s.tab.inTab with
      | true => rfl
      | false => rfl
    rw [htab, leadWatch_tab, hlost]
  case source =>
    have hafter : ChangesOnly [.tab, .line, .sw, .arm, .plinth, .free, .logs] s
        locked.leadWatch.tb8Eval.realignAll :=
      ((((ChangesOnly.write (t := locked) [.tab] rfl).trans leadWatch_changes).trans tb8Eval_changes).trans
        realignAll_changes).mono (by decide)
    rw [htb8]
    refine tb8Source_tsync ?_ ?_ ?_ ?_
    · rw [hafter.mode (by decide)]
      exact hmode
    · rw [isOn_congr (hafter.param (by decide) (by decide)), hen]
    · rw [htab, leadWatch_tab]
      exact hlead
    · rw [htab, leadWatch_tab]

theorem tsyncLoss_acts (hsync : s.tab.tsync = true) : ∃ t, exec .tsyncLoss s = .next t ∧
    t.tab = { s.tab with tsync := false, leadLost := if s.tab.inTab && !s.tab.lead then
      s.busCarries else s.tab.leadLost } ∧ t.plinth.tb8 = t.tb8Source ∧ t.plinth.tb8 ≠ .tsync := by
  let lost : State := { s with tab := { s.tab with tsync := false } }
  have hexec : exec .tsyncLoss s = .next lost.leadWatch.tb8Eval := congrArg Host.Outcome.next (if_pos hsync)
  have htab : lost.leadWatch.tb8Eval.tab =
      { s.tab with tsync := false, leadLost := if s.tab.inTab && !s.tab.lead then s.busCarries else s.tab.leadLost } := by
    have hgone : lost.leadGone = (s.tab.inTab && !s.tab.lead && s.busCarries && true) := rfl
    have hlost : (if (lost.tab.inTab && !lost.tab.lead) = true then lost.leadGone else lost.tab.leadLost) =
        if s.tab.inTab && !s.tab.lead then s.busCarries else s.tab.leadLost := by
      rw [hgone, show lost.tab.inTab = s.tab.inTab from rfl, show lost.tab.lead = s.tab.lead from rfl]
      cases s.tab.inTab && !s.tab.lead with
      | true => exact Bool.and_true _
      | false => rfl
    rw [tb8Eval_changes.same .tab (by decide), leadWatch_tab, hlost]
  have htb8 := tb8Eval_tb8 lost.leadWatch
  refine ⟨_, hexec, htab, htb8, ?_⟩
  rw [htb8]
  exact tb8Source_unlocked (congrArg Tab.tsync htab)

/-- Settles O39: each command by its lemma above. -/
theorem leadIsElectedAndTimed : Obligations.LeadIsElectedAndTimed := by
  unfold Obligations.LeadIsElectedAndTimed
  intro s
  refine ⟨fun hears hlead hbus hdue => electionStart_acts hears hlead hbus hdue,
    fun hears hlisten hprio => electionListenEnd_acts hears hlisten hprio,
    fun _ hprio => ⟨s, electionListenEnd_silent hprio, rfl⟩,
    fun hlead hfails hqual => readbackFailure_stops hlead hfails hqual,
    fun hlead hfails hqual => readbackFailure_faults hlead hfails hqual,
    fun hen hlead hsync => tsyncLock_acts hen hlead hsync, fun hsync => tsyncLoss_acts hsync,
    fun hlead hdrive => ⟨_, congrArg Host.Outcome.next (if_pos (by rw [hlead, hdrive]; rfl)), raiseOnce_holds ..,
      (raiseOnce_changes ..).eq_copy⟩,
    fun hears => ⟨_, congrArg Host.Outcome.next (if_neg (by simp [hears])), raiseOnce_holds ..,
      (raiseOnce_changes ..).eq_copy⟩,
    fun hears => ⟨_, congrArg Host.Outcome.next (if_neg (by simp [hears])), clearE_holdsC .., (clearE_changes _).eq_copy⟩⟩

end Sys2Proof.Machine
end

section
/-! PROOFS. The cycle of the Miovin link: what a lead counts and sends, what a member sends, and frames that are dropped. -/

namespace Sys2Proof.Machine

variable {s t u : State}

/-! ### What the set points of a gang depend on (R408, R410) -/

/-- Two states agree in what the phases and currents of a gang rail depend on. -/
structure SameGang (s t : State) : Prop where
  arm : t.arm = s.arm
  config : t.config = s.config
  ident : t.ident = s.ident
  member : t.tab.member = s.tab.member
  inTab : t.tab.inTab = s.tab.inTab
  lead : t.tab.lead = s.tab.lead

namespace SameGang

theorem param (h : SameGang s t) (id : Nat) : t.param id = s.param id := param_congr h.config h.ident id

theorem phase (h : SameGang s t) (p : Nat) : t.phase p = s.phase p := by
  unfold State.phase
  rw [h.arm]

theorem running (h : SameGang s t) (r : Nat) : t.running r = s.running r :=
  running_congr h.param (fun q => congrArg Phase.running (h.phase q)) r

theorem member? (h : SameGang s t) (m : Nat) : t.member? m = s.member? m := by
  unfold State.member?
  rw [h.member]

theorem carriedBy (h : SameGang s t) (r m : Nat) : t.carriedBy r m = s.carriedBy r m := by
  unfold State.carriedBy
  rw [h.param]

theorem carries (h : SameGang s t) (r : Nat) : t.carries r = s.carries r := by
  unfold State.carries
  rw [h.inTab, h.carriedBy, h.param]

theorem ganged (h : SameGang s t) (r : Nat) : t.ganged r = s.ganged r := by
  unfold State.ganged
  rw [h.inTab, h.param, h.lead, h.carries]

theorem shareSum (h : SameGang s t) (r : Nat) : t.shareSum r = s.shareSum r := by
  unfold State.shareSum State.shareCa
  simp only [h.carries, railMa_congr h.param h.phase, h.member?, h.carriedBy]

theorem gangPhases (h : SameGang s t) (hlead : s.tab.lead = true) (r m : Nat) : t.gangPhases r m = s.gangPhases r m := by
  unfold State.gangPhases
  rw [h.carriedBy, h.param, h.running, h.lead, hlead, h.member]
  rfl

theorem pTot (h : SameGang s t) (hlead : s.tab.lead = true) (r : Nat) : t.pTot r = s.pTot r := by
  unfold State.pTot
  rw [show t.gangPhases r = s.gangPhases r from funext (h.gangPhases hlead r)]

theorem gangSet (h : SameGang s t) (hlead : s.tab.lead = true) (r : Nat) : t.gangSet r = s.gangSet r := by
  unfold State.gangSet
  rw [h.ganged, h.shareSum, h.pTot hlead]

end SameGang

/-! ### The lead's cycle (R396, R404, R410) -/

/-- What the lead publishes in a cycle: its count, its drive of TSYNC, MEMBERS, its qualification, the set points and the
member table. -/
def Tab.published (x : Tab) : Nat × Bool × BitVec 8 × Bool × Vector Int 2 × Vector (Option Member) 8 :=
  (x.cyc, x.drive, x.members, x.qualified, x.setCa, x.member)

/-- The Tableau evaluated at the start of the lead's cycle. -/
def State.evaluatedLead (s : State) : State := ((s.regang.gangPublish).bulkOrder).relevel

/-- The lead's cycle counted, with its set points and the frames that each member is to send. -/
def State.cycleBegun (s : State) : State :=
  { s with tab := { s.tab with
      cyc := (s.tab.cyc + 1) % 1000, drive := true
      setCa := Vector.ofFn fun r => s.gangSet r.val, vref := Vector.ofFn fun r => s.gangVref r.val
      readFails := if s.tab.readFailed then s.tab.readFails else 0, readFailed := false
      member := Vector.ofFn fun m => s.tab.member[m].map fun x => { x with missed := x.missed + 1 } } }

/-- The lead frame goes out, and with a grant of its own a bulk frame behind it. -/
def State.cycleSent (s : State) : State :=
  let led : State := { s with tab := { s.tab with framesOut := [s.leadFrame] } }
  if s.bulkGrant ≠ 0 ∧ s.bulkGrant / 8 % 2 = 0 then led.sendBulk else led

/-- The device trim of each share takes its step. -/
def State.cycleTrimmed (s : State) : State :=
  (List.range 2).foldl (fun (s : State) r => s.gangTrim r (s.tab.setCa.toList.getD r 0)) s

theorem leadCycle_eq (s : State) :
    s.leadCycle = ((s.evaluatedLead.cycleBegun.cycleSent.cycleTrimmed).respace s.pTots).settle := rfl

theorem sendBulk_published (s : State) : s.sendBulk.tab.published = s.tab.published := by
  unfold State.sendBulk
  split
  · rfl
  · rfl

theorem sendBulk_sends (s : State) : ∃ l, s.sendBulk.tab.framesOut = s.tab.framesOut ++ l := by
  unfold State.sendBulk
  split
  · exact ⟨_, rfl⟩
  · exact ⟨[], (List.append_nil _).symm⟩

theorem cycleSent_published (s : State) : s.cycleSent.tab.published = s.tab.published := by
  unfold State.cycleSent
  dsimp only
  split
  · exact sendBulk_published _
  · rfl

theorem cycleSent_sends (s : State) : s.cycleSent.tab.framesOut ≠ [] := by
  unfold State.cycleSent
  dsimp only
  split
  · obtain ⟨l, hl⟩ := sendBulk_sends { s with tab := { s.tab with framesOut := [s.leadFrame] } }
    rw [hl]
    exact List.cons_ne_nil _ _
  · exact List.cons_ne_nil _ _

/-- A step of a device trim writes nothing else of the Tableau. -/
theorem gangTrim_tab (s : State) (r : Nat) (set : Int) : ∃ trim, (s.gangTrim r set).tab = { s.tab with devTrim := trim } := by
  unfold State.gangTrim
  dsimp only
  split
  · exact ⟨_, rfl⟩
  · exact ⟨_, rfl⟩

theorem cycleTrimmed_tab (s : State) : ∃ trim, s.cycleTrimmed.tab = { s.tab with devTrim := trim } :=
  List.foldlRecOn (motive := fun v : State => ∃ trim, v.tab = { s.tab with devTrim := trim }) _ _ ⟨_, rfl⟩
    fun v hv r _ => by
      obtain ⟨_, hbefore⟩ := hv
      obtain ⟨trim, hstep⟩ := gangTrim_tab v r (v.tab.setCa.toList.getD r 0)
      exact ⟨trim, by rw [hstep, hbefore]⟩

/-- A reply to the lead is queued for the link; any other leaves the Tableau's record. -/
theorem deliver_tab (s : State) (v : Transport) (y : Reply) : ∃ out, (s.deliver v y).tab = { s.tab with bulkOut := out } := by
  unfold State.deliver
  cases v with
  | link => exact ⟨_, (handOver_changes _).same .tab (by decide)⟩
  | nfc =>
    dsimp only
    split
    · exact ⟨_, (handOver_changes _).same .tab (by decide)⟩
    · exact ⟨_, rfl⟩
  | spi | i2c => exact ⟨_, (raiseOnce_changes ..).same .tab (by decide)⟩
  | uart | gateway | line => exact ⟨_, rfl⟩

theorem finish_tab (s : State) (o : Op) (st : Status) (data : List Byte) :
    ∃ out, (s.finish o st data).tab = { s.tab with bulkOut := out } := by
  unfold State.finish
  dsimp only
  split
  · exact ⟨_, rfl⟩
  · exact deliver_tab ..

/-- Replies that leave with the commands that they wait for go to the link as transfers. -/
theorem settle_tab (s : State) : ∃ out, s.settle.tab = { s.tab with bulkOut := out } :=
  List.foldlRecOn (motive := fun v : State => ∃ out, v.tab = { s.tab with bulkOut := out }) _ _ ⟨_, rfl⟩
    fun v hv o _ => by
      split
      · obtain ⟨_, hbefore⟩ := hv
        obtain ⟨out, hstep⟩ := finish_tab v o _ _
        exact ⟨out, by rw [hstep, hbefore]⟩
      · exact hv

theorem cycleTrimmed_published (s : State) :
    s.cycleTrimmed.tab.published = s.tab.published ∧ s.cycleTrimmed.tab.framesOut = s.tab.framesOut := by
  obtain ⟨_, h⟩ := cycleTrimmed_tab s
  rw [h]
  exact ⟨rfl, rfl⟩

theorem respace_published (before : Vector Nat 2) (s : State) :
    (s.respace before).tab.published = s.tab.published ∧ (s.respace before).tab.framesOut = s.tab.framesOut := by
  rw [respace_tab]
  exact ⟨rfl, rfl⟩

theorem settle_published (s : State) :
    s.settle.tab.published = s.tab.published ∧ s.settle.tab.framesOut = s.tab.framesOut := by
  obtain ⟨_, h⟩ := settle_tab s
  rw [h]
  exact ⟨rfl, rfl⟩

/-- What the lead publishes stands from its count on to the end of the cycle. -/
theorem leadCycle_tab (s : State) : s.leadCycle.tab.published = s.evaluatedLead.cycleBegun.tab.published ∧
    s.leadCycle.tab.framesOut ≠ [] := by
  rw [leadCycle_eq]
  generalize s.evaluatedLead.cycleBegun = v
  obtain ⟨hsettled, houtSettled⟩ := settle_published (v.cycleSent.cycleTrimmed.respace s.pTots)
  obtain ⟨hspaced, houtSpaced⟩ := respace_published s.pTots v.cycleSent.cycleTrimmed
  obtain ⟨htrimmed, houtTrimmed⟩ := cycleTrimmed_published v.cycleSent
  exact ⟨hsettled.trans (hspaced.trans (htrimmed.trans (cycleSent_published v))),
    ((houtSettled.trans (houtSpaced.trans houtTrimmed)).symm ▸ cycleSent_sends v)⟩

theorem evaluatedLead_changes : ChangesOnly [.tab, .line, .sw, .logs] s s.evaluatedLead := by
  have ordered : ∀ v : State, ChangesOnly [.tab] v v.bulkOrder := fun v => .elseOnly (.write _ rfl)
  have published : ∀ v : State, ChangesOnly [.tab] v v.gangPublish := fun v => .write _ rfl
  exact ((((regang_changes).trans (published _)).trans (ordered _)).trans relevel_changes).mono (by decide)

theorem evaluatedLead_tab (s : State) : ∃ prev mix state reason out, s.evaluatedLead.tab = { s.tab with
    members := s.memberMask, qualified := qualifies (s.param P.tabIndex) s.memberMask s.tab.prevSet
    prevSet := prev, fwMix := mix, rstate := state, rreason := reason, bulkOut := out } := by
  have ordered : ∀ v : State, ∃ out, v.bulkOrder.tab = { v.tab with bulkOut := out } := fun v => by
    unfold State.bulkOrder
    dsimp only
    split
    · exact ⟨_, rfl⟩
    · exact ⟨_, rfl⟩
  have published : ∀ v : State, ∃ state reason, v.gangPublish.tab = { v.tab with rstate := state, rreason := reason } :=
    fun v => ⟨_, _, rfl⟩
  obtain ⟨prev, mix, hgang⟩ := regang_tab s
  obtain ⟨state, reason, hstate⟩ := published s.regang
  obtain ⟨out, hout⟩ := ordered s.regang.gangPublish
  exact ⟨prev, mix, state, reason, out, by rw [State.evaluatedLead, relevel_tab, hout, hstate, hgang]⟩

theorem evaluatedLead_sameGang (s : State) : SameGang s s.evaluatedLead := by
  obtain ⟨prev, mix, state, reason, out, htab⟩ := evaluatedLead_tab s
  have hchanges := evaluatedLead_changes (s := s)
  exact {
    arm := hchanges.same .arm (by decide)
    config := hchanges.same .config (by decide)
    ident := hchanges.same .ident (by decide)
    member := (congrArg Tab.member htab).trans rfl
    inTab := (congrArg Tab.inTab htab).trans rfl
    lead := (congrArg Tab.lead htab).trans rfl }

theorem tabCycleStart_leads (hears : s.linkHears = true) (hmode : s.plinth.mode = .run) (hlead : s.tab.lead = true)
    (hbus : s.busCarries = true) : ∃ t, exec .tabCycleStart s = .next t ∧ t.tab.cyc = (s.tab.cyc + 1) % 1000 ∧
      t.tab.drive = true ∧ t.tab.framesOut ≠ [] ∧ t.tab.members = s.memberMask ∧
      t.tab.qualified = qualifies (s.param P.tabIndex) s.memberMask s.tab.prevSet ∧
      (∀ r : Fin 2, t.tab.setCa[r] = s.gangSet r.val) ∧
      (∀ m : Fin 8, t.tab.member[m] = s.tab.member[m].map fun x => { x with missed := x.missed + 1 }) := by
  have hexec : exec .tabCycleStart s = .next (s.leadCycle.taskEnd 4) :=
    congrArg Host.Outcome.next ((if_neg (by simp [hears, hmode])).trans ((if_pos hlead).trans (if_pos hbus)))
  have hend : (s.leadCycle.taskEnd 4).tab = s.leadCycle.tab := (taskEnd_changes 4).same .tab (by decide)
  obtain ⟨hview, hframes⟩ := leadCycle_tab s
  obtain ⟨prev, mix, state, reason, out, htab⟩ := evaluatedLead_tab s
  have hset := (evaluatedLead_sameGang s).gangSet hlead
  simp only [Tab.published, Prod.mk.injEq] at hview
  obtain ⟨hcyc, hdrive, hmembers, hqual, hca, hmember⟩ := hview
  refine ⟨_, hexec, ?_⟩
  rw [hend, hcyc, hdrive, hmembers, hqual, hca, hmember]
  refine ⟨?_, rfl, hframes, congrArg Tab.members htab, congrArg Tab.qualified htab, fun r => ?_, fun m => ?_⟩
  · show (s.evaluatedLead.tab.cyc + 1) % 1000 = _
    rw [htab]
  · show (Vector.ofFn fun r : Fin 2 => s.evaluatedLead.gangSet r.val)[r] = _
    simp [hset]
  · show (Vector.ofFn fun m : Fin 8 => s.evaluatedLead.tab.member[m].map _)[m] = _
    simp [htab]

/-! ### Cycles of others (R395, R401, R413) -/

theorem tabCycleStart_quiet (h : s.linkHears = false ∨ s.plinth.mode ≠ .run ∨ (s.tab.lead = true ∧ s.busCarries = false) ∨
    (s.tab.lead = false ∧ (s.tab.inTab = false ∨ s.tab.tsync = false))) :
    exec .tabCycleStart s = .next { s with tab := { s.tab with drive := false, framesOut := [] } } := by
  show execTabCycleStart s = .next s.linkQuiet
  unfold execTabCycleStart
  rcases h with hdeaf | hmode | ⟨hlead, hbus⟩ | ⟨hlead, hout⟩
  · simp [hdeaf]
  · simp [hmode]
  · simp [hlead, hbus]
  · rcases hout with hout | hout
    · simp [hlead, hout]
    · simp [hlead, hout]

theorem exec_tabCycleStart_member (hears : s.linkHears = true) (hmode : s.plinth.mode = .run) (hlead : s.tab.lead = false)
    (hin : s.tab.inTab = true) (hsync : s.tab.tsync = true) :
    exec .tabCycleStart s = .next (s.memberCycle.taskEnd 4) :=
  congrArg Host.Outcome.next ((if_neg (by simp [hears, hmode])).trans ((if_neg (by simp [hlead])).trans
    (if_pos (by rw [hin, hsync]; rfl))))

theorem memberCycle_acked (hu : u = { s with tab := { s.tab with cyc := (s.tab.cyc + 1) % 1000, framesOut := [] } })
    (hacked : s.tab.acked = true) :
    s.memberCycle = { u with tab := { u.tab with framesOut := [u.memberFrame] } } := by
  subst hu
  exact if_pos hacked

theorem memberCycle_joins (hu : u = { s with tab := { s.tab with cyc := (s.tab.cyc + 1) % 1000, framesOut := [] } })
    (hacked : s.tab.acked = false) (hwindow : u.tab.cyc % 50 = 49) (hwait : s.tab.joinWait = 0) :
    s.memberCycle = { u with tab := { u.tab with
      framesOut := [tabFrame (toLe 1 (s.param P.tabIndex + 32) ++ s.tabRecord)]
      joinWait := fieldAt s.ident.uid 0 1 % 8 + 1 } } := by
  subst hu
  exact (if_neg (by simp [hacked])).trans ((if_neg (by simpa using hwindow)).trans (if_neg (by simp [hwait])))

/-! ### Frames that are dropped (R397) -/

/-- A frame that fails is counted. -/
def State.frameFailed (s : State) : State := { s with tab := { s.tab with crcErr := wrapAdd 32 s.tab.crcErr 1 } }

theorem framesReceived_bad {bs : List Byte} (hears : s.linkHears = true) (hcrc : crcOk bs = false) :
    exec (.leadFrameReceived bs) s = .next s.frameFailed ∧ exec (.memberFrameReceived bs) s = .next s.frameFailed ∧
      exec (.bulkFrameReceived bs) s = .next s.frameFailed ∧ exec (.joinFrameReceived bs) s = .next s.frameFailed :=
  ⟨congrArg Host.Outcome.next ((if_neg (by simp [hears])).trans (if_pos (by simp [hcrc]))),
    congrArg Host.Outcome.next ((if_neg (by simp [hears])).trans (if_pos (by simp [hcrc]))),
    congrArg Host.Outcome.next ((if_neg (by simp [hears])).trans (if_pos (by simp [hcrc]))),
    congrArg Host.Outcome.next ((if_neg (by simp [hears])).trans (if_pos (by simp [hcrc])))⟩

theorem framesReceived_deaf (bs : List Byte) (hdeaf : s.linkHears = false) :
    exec (.leadFrameReceived bs) s = .next s ∧ exec (.memberFrameReceived bs) s = .next s ∧
      exec (.bulkFrameReceived bs) s = .next s ∧ exec (.joinFrameReceived bs) s = .next s := by
  have hnot : (!s.linkHears) = true := by rw [hdeaf]; rfl
  exact ⟨congrArg Host.Outcome.next (if_pos hnot), congrArg Host.Outcome.next (if_pos hnot),
    congrArg Host.Outcome.next (if_pos hnot), congrArg Host.Outcome.next (if_pos hnot)⟩

end Sys2Proof.Machine
end

section
/-! PROOFS. The event FIFO and its pins: an entry written, the acknowledgement of a pulse, the end of a pin's minimum assertion,
and the statement on them. -/

namespace Sys2Proof.Machine

variable {s t u : State}

/-! ### Captures and entries (R450, R451) -/

/-- A task's end reads none of the logs. -/
theorem taskEnd_frame_logs (h : ChangesOnly [.logs] s u) (level : Nat) :
    u.taskEnd level = (s.withLogs (u.taskEnd level)).taskEnd level := by
  obtain ⟨hevents, hpatina, htrace⟩ := (taskEnd_changes (s := u) level).same .logs (by decide)
  have hback : s.withLogs (u.taskEnd level) = u := by
    unfold State.withLogs
    rw [hevents, hpatina, htrace]
    exact h.eq_copy.symm
  rw [hback]

/-- An entry that leaves may take the name of its pulse with it, and nothing else. -/
theorem leave_eq (e : Events) (c : Capture) : e.leave c = { e with held := (e.leave c).held } := by
  unfold Events.leave
  dsimp only
  split
  · rfl
  split
  · rfl
  · rfl

/-- A raise writes neither the FIFO nor its counts. -/
theorem raiseAs_entries (s : State) (src : Src) (pulse : Bool) (r d : Nat) (pin : Bool) :
    (s.raiseAs src pulse r d pin).events.fifo = s.events.fifo ∧ (s.raiseAs src pulse r d pin).events.lost = s.events.lost ∧
      (s.raiseAs src pulse r d pin).events.eseq = s.events.eseq := by
  unfold State.raiseAs
  dsimp only
  split
  · exact ⟨rfl, rfl, rfl⟩
  · exact ⟨rfl, rfl, rfl⟩

/-- The state with its oldest capture taken as an entry of a FIFO that has room. -/
def State.entryAdded (s : State) (c : Capture) (rest : List Capture) : State :=
  { s with events := { s.events with
      caps := rest, eseq := wrapAdd 16 s.events.eseq 1
      fifo := s.events.fifo ++ [({ cap := c, dropped := false, eseq := s.events.eseq } : FifoEntry)] } }

theorem fifoWrite_idle (h : s.events.caps = []) : s.fifoWrite = s := by
  unfold State.fifoWrite
  rw [h]

theorem fifoWrite_room {c : Capture} {rest : List Capture} (hcaps : s.events.caps = c :: rest)
    (hroom : s.events.fifo.length < 256) : s.fifoWrite = s.entryAdded c rest := by
  have hfull : decide (256 ≤ s.events.fifo.length) = false := by simpa using hroom
  unfold State.fifoWrite
  rw [hcaps]
  simp only [hfull]
  rfl

/-- The events with the oldest of a full FIFO dropped for a new entry. -/
def Events.replaced (e : Events) (c : Capture) : Events :=
  { e with
    fifo := e.fifo ++ [({ cap := c, dropped := true, eseq := e.eseq } : FifoEntry)]
    eseq := wrapAdd 16 e.eseq 1, lost := satAdd 32 e.lost 1 }

/-- A capture and an entry that leave a full FIFO, and the new entry. -/
def State.entryReplaced (s : State) (old c : Capture) (more : List FifoEntry) (rest : List Capture) : State :=
  { s with events := (({ s.events with caps := rest, fifo := more } : Events).leave old).replaced c }

theorem fifoWrite_full {e : FifoEntry} {more : List FifoEntry} {c : Capture} {rest : List Capture}
    (hcaps : s.events.caps = c :: rest) (hfifo : s.events.fifo = e :: more) (hfull : 256 ≤ s.events.fifo.length) :
    s.fifoWrite = if !(s.entryReplaced e.cap c more rest).holds Ev.evtOverflow then
      (s.entryReplaced e.cap c more rest).raiseC Ev.evtOverflow 0 0 else s.entryReplaced e.cap c more rest := by
  have hdrop : ({ s with events := { s.events with caps := rest } } : State).fifoDrop 1 =
      { s with events := ({ s.events with caps := rest, fifo := more } : Events).leave e.cap } := by
    unfold State.fifoDrop
    dsimp only
    rw [hfifo]
    rfl
  unfold State.fifoWrite
  rw [hcaps]
  dsimp only
  rw [decide_eq_true hfull, if_pos rfl, hdrop, if_pos rfl, Bool.true_and]
  unfold State.entryReplaced Events.replaced
  rw [leave_eq]

/-- An entry for a full FIFO: the oldest goes, the loss is counted and EVT_OVERFLOW is held. -/
theorem fifoWrite_drops {c : Capture} {rest : List Capture} (hcaps : s.events.caps = c :: rest)
    (hfull : s.events.fifo.length = 256) :
    s.fifoWrite.events.fifo = s.events.fifo.drop 1 ++ [{ cap := c, dropped := true, eseq := s.events.eseq }] ∧
      s.fifoWrite.events.lost = satAdd 32 s.events.lost 1 ∧ s.fifoWrite.events.eseq = wrapAdd 16 s.events.eseq 1 ∧
      s.fifoWrite.holds Ev.evtOverflow = true ∧ ChangesOnly [.logs] s s.fifoWrite := by
  obtain ⟨e, more, hfifo⟩ : ∃ e more, s.events.fifo = e :: more := by
    cases h : s.events.fifo with
    | nil => simp [h] at hfull
    | cons e more => exact ⟨e, more, rfl⟩
  have hwritten : ChangesOnly [.logs] s (s.entryReplaced e.cap c more rest) := .write _ rfl
  have hentry : (s.entryReplaced e.cap c more rest).events.fifo =
      s.events.fifo.drop 1 ++ [{ cap := c, dropped := true, eseq := s.events.eseq }] ∧
      (s.entryReplaced e.cap c more rest).events.lost = satAdd 32 s.events.lost 1 ∧
      (s.entryReplaced e.cap c more rest).events.eseq = wrapAdd 16 s.events.eseq 1 := by
    unfold State.entryReplaced Events.replaced
    rw [leave_eq, hfifo]
    exact ⟨rfl, rfl, rfl⟩
  rw [fifoWrite_full hcaps hfifo hfull.ge]
  generalize s.entryReplaced e.cap c more rest = v at *
  obtain ⟨hqueue, hlost, heseq⟩ := hentry
  cases hheld : v.holds Ev.evtOverflow with
  | true => exact ⟨hqueue, hlost, heseq, hheld, hwritten⟩
  | false =>
    obtain ⟨hqueue', hlost', heseq'⟩ := raiseAs_entries v Ev.evtOverflow false 0 0 false
    exact ⟨hqueue'.trans hqueue, hlost'.trans hlost, heseq'.trans heseq, raiseC_holds ..,
      (hwritten.trans (raiseC_changes ..)).mono (by decide)⟩

/-! ### Pulses and pins (R446, R448) -/

/-- An acknowledged pulse of a source that is not queued is held no longer, and only such a pulse goes. -/
theorem pulseAckTimeout_acts {g b : Fin 16} (hqueued : bitAt (s.param (P.evtQG g.val)) b.val = false) :
    ∃ t, exec (.pulseAckTimeout g b) s = .next t ∧
      (∀ h ∈ t.events.held, h.pulse = true → h.src.grp = g.val → h.src.bit = b.val → s.events.hasEntry h = true) ∧
      (∀ h ∈ s.events.held, (h.pulse = false ∨ h.src.grp ≠ g.val ∨ h.src.bit ≠ b.val) → h ∈ t.events.held) ∧
      t = { s with events := { s.events with held := t.events.held } } := by
  refine ⟨_, congrArg Host.Outcome.next (if_neg (by simp [hqueued])), fun h hmem hpulse hgrp hbit => ?gone,
    fun h hmem hother => ?kept, rfl⟩
  case gone =>
    obtain ⟨-, hnot⟩ := List.mem_filter.1 hmem
    simpa [hpulse, hgrp, hbit] using hnot
  case kept =>
    refine List.mem_filter.2 ⟨hmem, ?_⟩
    rcases hother with h1 | h1 | h1
    · simp [h1]
    · simp [h1]
    · simp [h1]

theorem evtPinMinHoldExpiry_acts (p : Fin 2) : ∃ t, exec (.evtPinMinHoldExpiry p) s = .next t ∧
    (∀ q : Fin 2, t.events.hold.getLsbD q.val = (s.events.hold.getLsbD q.val && q != p)) ∧
    t = { s with events := { s.events with hold := t.events.hold } } := by
  refine ⟨_, rfl, fun q => ?_, rfl⟩
  show (s.events.hold &&& ~~~(BitVec.ofNat 2 (2 ^ p.val))).getLsbD q.val = _
  rw [getLsbD_cleared _ p.isLt q.isLt]
  simp [bne, BEq.beq, Fin.ext_iff, decide_not]

/-- Settles O41: each command by its lemma above. -/
theorem fifoAndPinsAct : Obligations.FifoAndPinsAct := by
  unfold Obligations.FifoAndPinsAct
  intro s
  refine ⟨fun c rest hcaps hroom => ⟨_, rfl, congrArg (State.taskEnd · 1) (fifoWrite_room hcaps hroom)⟩,
    fun c rest hcaps hfull => ?full, fun hcaps => ⟨_, rfl, congrArg (State.taskEnd · 1) (fifoWrite_idle hcaps)⟩,
    fun g b hqueued => pulseAckTimeout_acts hqueued, fun g b hqueued => ⟨s, congrArg Host.Outcome.next (if_pos hqueued), rfl⟩,
    fun p => evtPinMinHoldExpiry_acts p⟩
  case full =>
    obtain ⟨hfifo, hlost, heseq, hholds, hchanges⟩ := fifoWrite_drops hcaps hfull
    have hevents : (s.fifoWrite.taskEnd 1).events = s.fifoWrite.events :=
      ((taskEnd_changes (s := s.fifoWrite) 1).same .logs (by decide)).1
    refine ⟨s.fifoWrite.taskEnd 1, rfl, ?_, ?_, ?_, ?_, taskEnd_frame_logs hchanges 1⟩
    · rw [hevents, hfifo]
    · rw [hevents, hlost]
    · rw [hevents, heseq]
    · rw [taskEnd_holds, hholds]

end Sys2Proof.Machine
end

section
/-! PROOFS. The Patina: records admitted and refused, the SUMMARY, the flush, and the statement on them. -/

namespace Sys2Proof.Machine

variable {s t u : State}

/-! ### Admission (R453, R454) -/

/-- The state with its oldest capture taken. -/
def State.captureTaken (s : State) (rest : List PatCap) : State := { s with patina := { s.patina with caps := rest } }

theorem exec_patinaCapture {c : PatCap} {rest : List PatCap} (hrun : s.seqRuns = true) (hcaps : s.patina.caps = c :: rest) :
    exec .patinaCapture s = .next (((s.captureTaken rest).admitRec c).taskEnd 1) := by
  show execPatinaCapture s = _
  unfold execPatinaCapture
  rw [hcaps]
  exact congrArg Host.Outcome.next (if_pos hrun)

theorem admitRec_exempt {c : PatCap} (hexempt : c.exempt = true) (hroom : s.patina.ram.length < 64) :
    s.admitRec c = s.keepRec c := by
  have hfull : (!decide (64 ≤ s.patina.ram.length)) = true := by simpa using hroom
  exact (if_pos hexempt).trans (if_pos hfull)

theorem admitRec_token {c : PatCap} (hexempt : c.exempt = false) (hroom : s.patina.ram.length < 64)
    (htokens : 0 < s.patina.tokens) :
    s.admitRec c = ({ s with patina := { s.patina with tokens := s.patina.tokens - 1 } } : State).keepRec c :=
  (if_neg (by simp [hexempt])).trans (if_neg (by simp; omega))

theorem admitRec_refused {c : PatCap} (hexempt : c.exempt = false) (htokens : s.patina.tokens = 0) :
    s.admitRec c = s.refuseRec c :=
  (if_neg (by simp [hexempt])).trans (if_pos (by simp [htokens]))

theorem exempt_of_pinned {c : PatCap} (hexempt : c.exempt = false) : c.pinned = false := by
  unfold PatCap.exempt at hexempt
  exact (Bool.or_eq_false_iff.1 hexempt).1

/-- The count of a record that is refused, for the SUMMARY. -/
def State.refusalCounted (s : State) (c : PatCap) : State :=
  { s with
    ctr := { s.ctr with suppressed := satAdd 32 s.ctr.suppressed 1 }
    patina := { s.patina with refused := some (match s.patina.refused with
      | some (n, g, first, _) => (satAdd 32 n 1, g ||| 2 ^ (c.grp % 16), first, c.up)
      | none => (1, 2 ^ (c.grp % 16), c.up, c.up)) } }

theorem refuseRec_eq (s : State) (c : PatCap) : s.refuseRec c =
    if (s.refusalCounted c).holds Ev.patinaSuppress then s.refusalCounted c
    else (s.refusalCounted c).raiseC Ev.patinaSuppress 0 0 := rfl

/-- A raise asks the Patina for a record at most. -/
theorem raiseAs_patina (s : State) (src : Src) (pulse : Bool) (r d : Nat) (pin : Bool) : ∃ caps,
    (s.raiseAs src pulse r d pin).patina = { s.patina with caps := caps } := by
  unfold State.raiseAs
  dsimp only
  split
  · exact ⟨_, rfl⟩
  · exact ⟨_, rfl⟩

theorem raiseAs_ram (s : State) (src : Src) (pulse : Bool) (r d : Nat) (pin : Bool) :
    (s.raiseAs src pulse r d pin).patina.ram = s.patina.ram := by
  obtain ⟨_, hpatina⟩ := raiseAs_patina s src pulse r d pin
  rw [hpatina]

theorem raiseOnce_ram (s : State) (src : Src) (r d : Nat) : (s.raiseOnce src r d).patina.ram = s.patina.ram := by
  unfold State.raiseOnce
  split
  · rfl
  · exact raiseAs_ram ..

theorem refuseRec_acts (s : State) (c : PatCap) : (s.refuseRec c).patina.ram = s.patina.ram ∧
    (s.refuseRec c).ctr = { s.ctr with suppressed := satAdd 32 s.ctr.suppressed 1 } ∧
    (s.refuseRec c).patina.refused.isSome = true ∧ (s.refuseRec c).holds Ev.patinaSuppress = true ∧
    ChangesOnly [.ctr, .hoCount, .logs] s (s.refuseRec c) := by
  have hcounted : ChangesOnly [.ctr, .hoCount, .logs] s (s.refusalCounted c) := .write _ rfl
  have hram : (s.refusalCounted c).patina.ram = s.patina.ram := rfl
  have hctr : (s.refusalCounted c).ctr = { s.ctr with suppressed := satAdd 32 s.ctr.suppressed 1 } := rfl
  have hsum : (s.refusalCounted c).patina.refused.isSome = true := rfl
  rw [refuseRec_eq]
  generalize s.refusalCounted c = v at *
  split
  next hheld => exact ⟨hram, hctr, hsum, hheld, hcounted⟩
  next =>
    obtain ⟨caps, hpatina⟩ := raiseAs_patina v Ev.patinaSuppress false 0 0 false
    have hraised : (v.raiseC Ev.patinaSuppress 0 0).patina = { v.patina with caps := caps } := hpatina
    refine ⟨?_, Eq.trans ((raiseC_changes ..).same .ctr (by decide)) hctr, ?_, raiseC_holds ..,
      (hcounted.trans (raiseC_changes ..)).mono (by decide)⟩
    · rw [hraised, ← hram]
    · rw [hraised, ← hsum]

/-! ### A record captured (R453 to R455) -/

/-- What a command writes beside the Plinth and the configuration can be read after its task's end. -/
theorem taskEnd_frame {ps : List StatePart} (h : ChangesOnly ps s u) (level : Nat) (hplinth : .plinth ∉ ps)
    (hconfig : .config ∉ ps) : u.taskEnd level = (s.copy ps (u.taskEnd level)).taskEnd level := by
  have hback : s.copy ps (u.taskEnd level) = s.copy ps u := by
    have hend := (taskEnd_changes (s := u) level).eq_copy
    generalize u.taskEnd level = v at *
    rw [hend]
    unfold State.copy
    simp only [if_neg hplinth, if_neg hconfig]
    rfl
  rw [hback, ← h.eq_copy]

theorem patinaCapture_token {c : PatCap} {rest : List PatCap} (hrun : s.seqRuns = true) (hcaps : s.patina.caps = c :: rest)
    (hexempt : c.exempt = false) (hroom : s.patina.ram.length < 64) (htokens : 0 < s.patina.tokens) :
    ∃ t, exec .patinaCapture s = .next t ∧ t = { s with
      ctr := { s.ctr with pseq := wrapAdd 32 s.ctr.pseq 1 }
      patina := { s.patina with caps := rest, tokens := s.patina.tokens - 1, ram := s.patina.ram ++
        [({ pseq := s.ctr.pseq, up := c.up, time := c.time, pinned := c.pinned, byShutdown := false, pinRefused := false
            released := false, body := c.body } : PatRec)] } }.taskEnd 1 := by
  refine ⟨_, exec_patinaCapture hrun hcaps, congrArg (State.taskEnd · 1) ?_⟩
  rw [admitRec_token (s := s.captureTaken rest) hexempt hroom htokens]
  unfold State.keepRec
  rw [exempt_of_pinned hexempt, Bool.or_false]
  rfl

theorem patinaCapture_exempt {c : PatCap} {rest : List PatCap} (hrun : s.seqRuns = true) (hcaps : s.patina.caps = c :: rest)
    (hexempt : c.exempt = true) (hroom : s.patina.ram.length < 64) :
    ∃ t, exec .patinaCapture s = .next t ∧ t.patina.tokens = s.patina.tokens ∧
      t.patina.ram.length = s.patina.ram.length + 1 ∧ t.patina.flushReq = (s.patina.flushReq || c.pinned) ∧
      t = { s with ctr := { s.ctr with pseq := wrapAdd 32 s.ctr.pseq 1 }, patina := t.patina }.taskEnd 1 := by
  have hkept : (s.captureTaken rest).admitRec c = (s.captureTaken rest).keepRec c := admitRec_exempt hexempt hroom
  have hend : ((((s.captureTaken rest).admitRec c).taskEnd 1)).patina = ((s.captureTaken rest).keepRec c).patina := by
    rw [hkept]
    exact ((taskEnd_changes 1).same .logs (by decide)).2.1
  refine ⟨_, exec_patinaCapture hrun hcaps, ?_, ?_, ?_, ?_⟩
  · rw [hend]
    rfl
  · rw [hend]
    exact List.length_append
  · rw [hend]
    rfl
  · rw [hend, hkept]
    rfl

theorem patinaCapture_refused {c : PatCap} {rest : List PatCap} (hrun : s.seqRuns = true) (hcaps : s.patina.caps = c :: rest)
    (hexempt : c.exempt = false) (htokens : s.patina.tokens = 0) :
    ∃ t, exec .patinaCapture s = .next t ∧ t.patina.ram = s.patina.ram ∧
      t.ctr = { s.ctr with suppressed := satAdd 32 s.ctr.suppressed 1 } ∧ t.patina.refused.isSome = true ∧
      t.holds Ev.patinaSuppress = true ∧ t = { s.withLogs t with ctr := t.ctr }.taskEnd 1 := by
  have hrefused : (s.captureTaken rest).admitRec c = (s.captureTaken rest).refuseRec c := admitRec_refused hexempt htokens
  obtain ⟨hram, hctr, hsum, hheld, hafter⟩ := refuseRec_acts (s.captureTaken rest) c
  have hchanges : ChangesOnly [.ctr, .hoCount, .logs] s ((s.captureTaken rest).refuseRec c) :=
    ((ChangesOnly.write (t := s.captureTaken rest) [.logs] rfl).trans hafter).mono (by decide)
  rw [exec_patinaCapture hrun hcaps, hrefused]
  generalize (s.captureTaken rest).refuseRec c = v at *
  have hend := taskEnd_changes (s := v) 1
  obtain ⟨-, hpatina, -⟩ := hend.same .logs (by decide)
  refine ⟨_, rfl, ?_, Eq.trans (hend.same .ctr (by decide)) hctr, ?_, ?_, taskEnd_frame hchanges 1 (by decide) (by decide)⟩
  · rw [hpatina, hram]
    rfl
  · rw [hpatina, hsum]
  · rw [taskEnd_holds, hheld]

/-! ### The SUMMARY (R454) -/

/-- The state with a token gained. -/
def State.tokenGained (s : State) : State :=
  { s with patina := { s.patina with tokens := min 64 (s.patina.tokens + 1) } }

theorem tokenGain_plain (h : s.patina.refused = none) : exec .tokenGain s = .next s.tokenGained := by
  show Host.Outcome.next s.tokenGained.summary = _
  unfold State.summary
  rw [show s.tokenGained.patina.refused = none from h]

/-- The record of what was refused. -/
def State.summaryCap (s : State) (n g first last : Nat) : PatCap :=
  { pinned := false, up := s.plinth.upMs, time := s.stamp, grp := 15, body := .summary n g first last }

/-- The SUMMARY with the token it takes, in the RAM. -/
def State.summaryKept (s : State) (n g first last : Nat) : State :=
  ({ s with patina := { s.patina with tokens := s.patina.tokens - 1, refused := none } } : State).keepRec
    (s.summaryCap n g first last)

theorem tokenGain_summary {n g first last : Nat} (h : s.patina.refused = some (n, g, first, last))
    (hroom : s.patina.ram.length < 64) : exec .tokenGain s = .next
      ((s.tokenGained.summaryKept n g first last).clearE Ev.patinaSuppress) := by
  show Host.Outcome.next s.tokenGained.summary = _
  unfold State.summary
  rw [show s.tokenGained.patina.refused = _ from h]
  exact congrArg Host.Outcome.next (if_pos ⟨hroom, by simp [State.tokenGained]⟩)

theorem tokenGain_acts {n g first last : Nat} (h : s.patina.refused = some (n, g, first, last))
    (hroom : s.patina.ram.length < 64) : ∃ t, exec .tokenGain s = .next t ∧
      t.patina.refused = none ∧ t.patina.tokens = min 64 (s.patina.tokens + 1) - 1 ∧
      t.patina.ram.length = s.patina.ram.length + 1 ∧ t.ctr = { s.ctr with pseq := wrapAdd 32 s.ctr.pseq 1 } ∧
      t.holdsC Ev.patinaSuppress = false :=
  ⟨_, tokenGain_summary h hroom, rfl, rfl, List.length_append, rfl, clearE_holdsC ..⟩

/-! ### The flush (R455, R459) -/

/-- Records that are not pinned go to the end of a ring that holds them all. -/
theorem writeRecs_ring {l : List PatRec} (hpins : ∀ r ∈ l, r.pinned = false) (hroom : s.patina.ring.length + l.length ≤ 4096) :
    l.foldl State.writeRec s = { s with patina := { s.patina with ring := s.patina.ring ++ l } } := by
  induction l generalizing s with
  | nil => simp
  | cons r l ih =>
    have hlength : (r :: l).length = l.length + 1 := rfl
    have hwrite : s.writeRec r = { s with patina := { s.patina with ring := s.patina.ring ++ [r] } } := by
      have hring : s.patina.toRing r = { s.patina with ring := s.patina.ring ++ [r] } := by
        unfold Patina.toRing pushMax
        rw [if_pos (by omega)]
      have hplain : (!r.pinned) = true := by rw [hpins r List.mem_cons_self]; rfl
      exact (if_pos hplain).trans (by rw [hring])
    rw [List.foldl_cons, hwrite, ih (fun x hx => hpins x (List.mem_cons_of_mem _ hx))]
    · simp
    · simp
      omega

/-- The records and the counters written to NVM. -/
def State.flushed (s : State) : State :=
  { s with
    patina := { s.patina with ring := s.patina.ring ++ s.patina.ram, ram := [], flushReq := false, lastFlush := s.plinth.upMs }
    nvm := s.ctr }

theorem flush_writes (hpins : ∀ r ∈ s.patina.ram, r.pinned = false)
    (hroom : s.patina.ring.length + s.patina.ram.length ≤ 4096) :
    s.flush true = (s.flushed.clearD Ev.nvmFault 0).clearD Ev.nvmFault 1 := by
  unfold State.flush
  rw [if_pos rfl]
  dsimp only
  rw [writeRecs_ring hpins hroom]
  rfl

theorem exec_patinaFlush (ok : Bool) (hmay : s.mayFlush = true) (hdue : s.flushDue = true)
    (hcan : s.canReserve .patinaFlush (6 * mj) = true) :
    exec (.patinaFlush ok) s = .next ((s.flushDone ok).taskEnd 6) :=
  congrArg Host.Outcome.next ((if_neg (by simp [hmay])).trans ((if_neg (by simp [hdue])).trans (if_pos (by simp [hcan]))))

/-- The reservation of a flush ends with it. -/
theorem flushDone_changes_after (s : State) (ok : Bool) : ChangesOnly [.ledger] (s.flush ok) (s.flushDone ok) := .write _ rfl

theorem flushDone_ledger (ok : Bool) (h : (s.flush ok).ledger = s.ledger) : (s.flushDone ok).ledger = { s.ledger with
    res := dropJob .patinaFlush s.ledger.res, waiting := dropJob .patinaFlush s.ledger.waiting
    fresh := dropJob .patinaFlush s.ledger.fresh } := by
  unfold State.flushDone State.release
  dsimp only
  rw [h]

theorem patinaFlush_writes (hmay : s.mayFlush = true) (hdue : s.flushDue = true)
    (hcan : s.canReserve .patinaFlush (6 * mj) = true) (hpins : ∀ r ∈ s.patina.ram, r.pinned = false)
    (hroom : s.patina.ring.length + s.patina.ram.length ≤ 4096) :
    ∃ t, exec (.patinaFlush true) s = .next t ∧ t.patina.ram = [] ∧ t.patina.ring = s.patina.ring ++ s.patina.ram ∧
      t.patina.pins = s.patina.pins ∧ t.patina.flushReq = false ∧ t.patina.lastFlush = s.plinth.upMs ∧
      t.nvm = s.ctr ∧ t.ledger = { s.ledger with
        res := dropJob .patinaFlush s.ledger.res, waiting := dropJob .patinaFlush s.ledger.waiting
        fresh := dropJob .patinaFlush s.ledger.fresh } ∧
      t = { s.withLogs t with nvm := t.nvm, ledger := t.ledger }.taskEnd 6 := by
  have hflush := flush_writes hpins hroom
  have hcleared : ChangesOnly [.logs] s.flushed (s.flush true) := by
    rw [hflush]
    exact ((clearIf_changes ..).trans (clearIf_changes ..)).mono (by decide)
  have hpatina : (s.flush true).patina = s.flushed.patina := by
    rw [hflush]
    rfl
  have hafter := flushDone_changes_after s true
  have hledger := flushDone_ledger (s := s) true (hcleared.same .ledger (by decide))
  have hchanges : ChangesOnly [.logs, .nvm, .ledger] s (s.flushDone true) :=
    (((ChangesOnly.write (t := s.flushed) [.logs, .nvm] rfl).trans hcleared).trans hafter).mono (by decide)
  have hkept : (s.flushDone true).patina = s.flushed.patina :=
    Eq.trans (hafter.same .logs (by decide)).2.1 hpatina
  have hnvm : (s.flushDone true).nvm = s.ctr := Eq.trans (hafter.same .nvm (by decide)) (hcleared.same .nvm (by decide))
  have hexec := exec_patinaFlush true hmay hdue hcan
  generalize s.flushDone true = v at *
  have hend := taskEnd_changes (s := v) 6
  obtain ⟨-, hlog, -⟩ := hend.same .logs (by decide)
  have hview := hlog.trans hkept
  exact ⟨_, hexec, (congrArg Patina.ram hview).trans rfl, (congrArg Patina.ring hview).trans rfl,
    (congrArg Patina.pins hview).trans rfl, (congrArg Patina.flushReq hview).trans rfl,
    (congrArg Patina.lastFlush hview).trans rfl, Eq.trans (hend.same .nvm (by decide)) hnvm,
    Eq.trans (hend.same .ledger (by decide)) hledger, taskEnd_frame hchanges 6 (by decide) (by decide)⟩

theorem patinaFlush_fails (hmay : s.mayFlush = true) (hdue : s.flushDue = true)
    (hcan : s.canReserve .patinaFlush (6 * mj) = true) : ∃ t, exec (.patinaFlush false) s = .next t ∧
      t.patina.ram = s.patina.ram ∧ t.nvm = s.nvm ∧ t.holds Ev.nvmFault = true ∧
      t = { s.withLogs t with ledger := t.ledger }.taskEnd 6 := by
  have hfault : s.flush false = s.raiseOnce Ev.nvmFault 0 (if s.patina.ram.isEmpty then 1 else 0) := rfl
  have hraised : ChangesOnly [.logs] s (s.flush false) := hfault ▸ raiseOnce_changes ..
  have hheld : (s.flush false).holds Ev.nvmFault = true := hfault ▸ raiseOnce_holds ..
  have hram : (s.flush false).patina.ram = s.patina.ram := hfault ▸ raiseOnce_ram ..
  have hafter := flushDone_changes_after s false
  have hchanges : ChangesOnly [.logs, .ledger] s (s.flushDone false) := (hraised.trans hafter).mono (by decide)
  have hexec := exec_patinaFlush false hmay hdue hcan
  have hkept : (s.flushDone false).patina.ram = s.patina.ram := by
    rw [(hafter.same .logs (by decide)).2.1, hram]
  have hholds : (s.flushDone false).holds Ev.nvmFault = true := by
    rw [hafter.holds (by decide), hheld]
  generalize s.flushDone false = v at *
  have hend := taskEnd_changes (s := v) 6
  refine ⟨_, hexec, ?_, ?_, ?_, taskEnd_frame hchanges 6 (by decide) (by decide)⟩
  · rw [(hend.same .logs (by decide)).2.1, hkept]
  · exact Eq.trans (hend.same .nvm (by decide)) (hchanges.same .nvm (by decide))
  · rw [taskEnd_holds, hholds]

/-- The request of a flush that waits for an update of the ledger. -/
def State.flushWaits (s : State) : State :=
  { s with ledger := { s.ledger with waiting := s.ledger.waiting ++ [(.patinaFlush, 6 * mj)] } }

theorem patinaFlush_waits (hmay : s.mayFlush = true) (hdue : s.flushDue = true) (hfree : s.flushHeld = false)
    (hfirst : (s.ledger.waiting.any fun e => e.1 == .patinaFlush) = false)
    (hcan : s.canReserve .patinaFlush (6 * mj) = false) (ok : Bool) :
    ∃ t, exec (.patinaFlush ok) s = .next t ∧ t.patina.ram = s.patina.ram ∧ t.nvm = s.nvm ∧
      t.ledger.waiting = s.ledger.waiting ++ [(.patinaFlush, 6 * mj)] ∧ t.holds Ev.resRefused = true := by
  have hexec : exec (.patinaFlush ok) s = .next (s.flushWaits.refuse .patinaFlush) :=
    congrArg Host.Outcome.next ((if_neg (by simp [hmay])).trans ((if_neg (by simp [hdue])).trans
      ((if_neg (by simp [hfree, hcan])).trans (if_neg (by simp [hfirst])))))
  have hrefused := refuse_changes (s := s.flushWaits) .patinaFlush
  have hram : (s.flushWaits.refuse .patinaFlush).patina.ram = s.patina.ram := raiseAs_ram ..
  exact ⟨_, hexec, hram, hrefused.same .nvm (by decide), congrArg Ledger.waiting (hrefused.same .ledger (by decide)),
    raiseP_holds ..⟩

/-- Settles O42: each command by its lemma above. -/
theorem patinaAdmitsAndFlushes : Obligations.PatinaAdmitsAndFlushes := by
  unfold Obligations.PatinaAdmitsAndFlushes
  intro s
  exact ⟨fun c rest hrun hcaps hexempt hroom htokens => patinaCapture_token hrun hcaps hexempt hroom htokens,
    fun c rest hrun hcaps hexempt hroom => patinaCapture_exempt hrun hcaps hexempt hroom,
    fun c rest hrun hcaps hexempt htokens => patinaCapture_refused hrun hcaps hexempt htokens,
    fun hnone => ⟨_, tokenGain_plain hnone, rfl⟩,
    fun n g first last hsum hroom => tokenGain_acts hsum hroom,
    fun hmay hdue hcan hpins hroom => patinaFlush_writes hmay hdue hcan hpins hroom,
    fun hmay hdue hcan => patinaFlush_fails hmay hdue hcan,
    fun hmay hdue hfree hfirst hcan ok => patinaFlush_waits hmay hdue hfree hfirst hcan ok⟩

end Sys2Proof.Machine
end

section
/-! PROOFS. The trace and the wear indices: a sample, the trigger and the stop; what the rise of an index writes; and the
statement on them. -/

namespace Sys2Proof.Machine

variable {s t u : State}

/-! ### The trace (R460) -/

theorem traceSample_armed (hmode : s.plinth.mode = .run) (harmed : s.trace.st = .armed) (hroom : s.trace.buf.length < 4096) :
    ∃ t, exec .traceSample s = .next t ∧ t.trace.buf = s.trace.buf ++ [{
        up := s.plinth.upMs, v0 := s.traceValue 0, v1 := s.traceValue 1
        v2 := s.traceValue 2, v3 := s.traceValue 3 }] ∧ t.trace.st = .armed ∧ t.trace.paused = false ∧
      t = { s with trace := t.trace } := by
  refine ⟨_, congrArg Host.Outcome.next (if_neg (by simp [hmode, harmed, Trace.runs])), ?_, harmed, rfl, rfl⟩
  show pushMax 4096 s.trace.buf _ = _
  unfold pushMax
  rw [if_pos hroom]

theorem traceSample_done (htrig : s.trace.st = .triggered) (hleft : s.trace.left = 0) : exec .traceSample s = .next s :=
  congrArg Host.Outcome.next (if_pos (by simp [htrig, hleft]))

theorem traceTrigger_acts (harmed : s.trace.st = .armed) (hseen : s.trace.seen = true) :
    exec .traceTrigger s = .next { s with trace := { s.trace with
      st := .triggered, trig := s.trace.buf.length, left := (100 - s.trace.prePct) * 4096 / 100 } } :=
  congrArg Host.Outcome.next (if_pos ⟨harmed, hseen⟩)

/-- A raise notes a trigger at most, and no sample. -/
theorem raiseAs_trace (s : State) (src : Src) (pulse : Bool) (r d : Nat) (pin : Bool) : ∃ seen,
    (s.raiseAs src pulse r d pin).trace = { s.trace with seen := seen } := by
  unfold State.raiseAs
  dsimp only
  split
  · exact ⟨_, rfl⟩
  · exact ⟨_, rfl⟩

theorem traceDone_acts (htrig : s.trace.st = .triggered) (hleft : s.trace.left = 0) :
    ∃ t, exec .traceDone s = .next t ∧ t.trace.st = .complete ∧ t.trace.buf = s.trace.buf ∧
      t.holds Ev.traceDone = true ∧ t = s.withLogs t := by
  let stopped : State := { s with trace := { s.trace with st := .complete } }
  have hexec : exec .traceDone s = .next (stopped.raiseP Ev.traceDone 0 0) :=
    congrArg Host.Outcome.next (if_pos ⟨htrig, hleft⟩)
  have hchanges : ChangesOnly [.logs] s (stopped.raiseP Ev.traceDone 0 0) :=
    ((ChangesOnly.write (t := stopped) [.logs] rfl).trans (raiseP_changes ..)).mono (by decide)
  obtain ⟨_, htrace⟩ := raiseAs_trace stopped Ev.traceDone true 0 0 false
  exact ⟨_, hexec, (congrArg Trace.st htrace).trans rfl, (congrArg Trace.buf htrace).trans rfl, raiseP_holds ..,
    hchanges.eq_copy⟩

/-! ### The rise of an index (R463) -/

theorem logRec_changes (pinned : Bool) (g : Nat) (b : PatBody) : ChangesOnly [.logs] s (s.logRec pinned g b) := .write _ rfl

theorem stepRise_changes (kind unit : Nat) (old new : Wear) (driver : Nat) (temp : Int) :
    ChangesOnly [.logs] s (s.stepRise kind unit old new driver temp) := by
  unfold State.stepRise
  refine .elseOnly (((?_ : ChangesOnly [.logs] s _).trans (raiseP_changes ..)).trans (logRec_changes ..) |>.mono (by decide))
  split
  · exact raiseP_changes ..
  split
  · exact raiseP_changes ..
  · exact .refl s

/-- A step that has risen is reported. -/
theorem stepRise_reports {kind unit : Nat} {old new : Wear} (hrise : old.step < new.step) (driver : Nat) (temp : Int) :
    (s.stepRise kind unit old new driver temp).holds Ev.wearStep = true := by
  unfold State.stepRise
  rw [if_neg (by omega)]
  exact raiseP_holds ..

/-- A die's step that has risen warns of the die as well (R295). -/
theorem stepRise_warns {unit : Nat} {old new : Wear} (hrise : old.step < new.step) (driver : Nat) (temp : Int) :
    (s.stepRise 1 unit old new driver temp).holds (Ev.dieWarn unit) = true := by
  unfold State.stepRise
  rw [if_neg (by omega)]
  exact holds_raiseAs _ _ _ _ _ (raiseP_holds s (Ev.dieWarn unit) 3 0)

/-- Neither an index nor its step falls. -/
theorem rise_ge (w : Wear) (micro driver : Nat) : w.micro ≤ (w.rise micro driver).micro ∧ w.step ≤ (w.rise micro driver).step :=
  ⟨Nat.le_max_left .., Nat.le_max_left ..⟩

/-! ### Indices (R462) -/

/-- A die's index after one more half cycle (Table 15.8). -/
def Wear.halfCycle (w : Wear) (k x : Int) : Wear :=
  w.rise (w.micro + scalePow (k.toNat ^ 5) (x - 125) 20 / 1000) (w.driver + 1)

theorem halfCycle_ge (w : Wear) (k x : Int) : w.micro ≤ (w.halfCycle k x).micro ∧ w.step ≤ (w.halfCycle k x).step :=
  rise_ge ..

/-- The counters with a die's index in place. -/
def State.dieWorn (s : State) (d : Fin 4) (w : Wear) : State :=
  { s with ctr := { s.ctr with wearDie := upd s.ctr.wearDie d.val fun _ => w } }

/-- The counters with a phase's index in place. -/
def State.phaseWorn (s : State) (p : Fin 8) (w : Wear) : State :=
  { s with ctr := { s.ctr with wearPh := upd s.ctr.wearPh p.val fun _ => w } }

theorem wearUpdate_idle {d : Fin 4} {k x : Int} (hrun : s.seqRuns = true) (hk : k < 5) :
    exec (.wearUpdate (.die d k x)) s = .next s :=
  congrArg Host.Outcome.next ((if_neg (by simp [hrun])).trans (if_pos hk))

theorem exec_wearDie {d : Fin 4} {k x : Int} (hrun : s.seqRuns = true) (hk : 5 ≤ k) :
    ∃ driver temp, exec (.wearUpdate (.die d k x)) s = .next ((s.dieWorn d ((s.ctr.wearDie[d]).halfCycle k x)).stepRise 1 d.val
      s.ctr.wearDie[d] ((s.ctr.wearDie[d]).halfCycle k x) driver temp) := by
  have hold : s.ctr.wearDie.toList.getD d.val Wear.zero = s.ctr.wearDie[d] := by simp
  have hdie : s.wearDie d.val k x = _ := if_neg (Int.not_lt.2 hk)
  rw [hold] at hdie
  exact ⟨_, _, congrArg Host.Outcome.next ((if_neg (by simp [hrun])).trans hdie)⟩

theorem wearUpdate_die {d : Fin 4} {k x : Int} (hrun : s.seqRuns = true) (hk : 5 ≤ k) :
    ∃ t, exec (.wearUpdate (.die d k x)) s = .next t ∧
      t.ctr.wearDie[d] = (s.ctr.wearDie[d]).halfCycle k x ∧
      (s.ctr.wearDie[d]).micro ≤ (t.ctr.wearDie[d]).micro ∧ (s.ctr.wearDie[d]).step ≤ (t.ctr.wearDie[d]).step ∧
      ((s.ctr.wearDie[d]).step < (t.ctr.wearDie[d]).step → t.holds Ev.wearStep = true ∧
        t.holds (Ev.dieWarn d.val) = true) ∧
      (∀ e : Fin 4, e ≠ d → t.ctr.wearDie[e] = s.ctr.wearDie[e]) ∧ t = { s.withLogs t with ctr := t.ctr } := by
  obtain ⟨driver, temp, hexec⟩ := exec_wearDie (d := d) (x := x) hrun hk
  have hgrows := halfCycle_ge s.ctr.wearDie[d] k x
  generalize (s.ctr.wearDie[d]).halfCycle k x = w at *
  have hafter := stepRise_changes (s := s.dieWorn d w) 1 d.val s.ctr.wearDie[d] w driver temp
  have hctr := hafter.same .ctr (by decide)
  have hself : ((s.dieWorn d w).stepRise 1 d.val s.ctr.wearDie[d] w driver temp).ctr.wearDie[d] = w := by
    rw [hctr]
    exact upd_same _ _ _ d.isLt
  refine ⟨_, hexec, hself, ?_, ?_, fun hrise => ?_, fun e hne => ?_, ?_⟩
  · rw [hself]
    exact hgrows.1
  · rw [hself]
    exact hgrows.2
  · rw [hself] at hrise
    exact ⟨stepRise_reports hrise .., stepRise_warns hrise ..⟩
  · rw [hctr]
    exact upd_other _ _ _ _ e.isLt fun h => hne (Fin.ext h)
  · exact ((ChangesOnly.write (t := s.dieWorn d w) [.ctr, .hoCount] rfl).trans hafter |>.mono
      (qs := [.ctr, .hoCount, .logs]) (by decide)).eq_copy

/-- A phase's index after an addition (Table 15.8). -/
def State.phaseRisen (s : State) (p : Fin 8) (add n : Nat) : Wear :=
  (s.ctr.wearPh[p]).rise ((s.ctr.wearPh[p]).micro + add) ((s.ctr.wearPh[p]).driver + n)

theorem wearPhase_eq (s : State) (p : Fin 8) (add n : Nat) : s.wearPhase p.val add n =
    (s.phaseWorn p (s.phaseRisen p add n)).stepRise 2 p.val s.ctr.wearPh[p] (s.phaseRisen p add n)
      ((s.phaseRisen p add n).driver / 1000) s.power.tempC := by
  have hold : s.ctr.wearPh.toList.getD p.val Wear.zero = s.ctr.wearPh[p] := by simp
  unfold State.wearPhase
  rw [hold]
  rfl

theorem wearUpdate_limited (p : Fin 8) (n : Nat) (hrun : s.seqRuns = true) :
    ∃ t, exec (.wearUpdate (.limited p n)) s = .next t ∧ t.ctr.wearPh[p] = s.phaseRisen p (10000 * n) n ∧
      t = { s.withLogs t with ctr := { s.ctr with wearPh := t.ctr.wearPh } } := by
  have hexec : exec (.wearUpdate (.limited p n)) s = .next (s.wearPhase p.val (10000 * n) n) :=
    congrArg Host.Outcome.next (if_neg (by simp [hrun]))
  rw [wearPhase_eq] at hexec
  generalize s.phaseRisen p (10000 * n) n = w at *
  have hafter := stepRise_changes (s := s.phaseWorn p w) 2 p.val s.ctr.wearPh[p] w (w.driver / 1000) s.power.tempC
  generalize (s.phaseWorn p w).stepRise 2 p.val s.ctr.wearPh[p] w (w.driver / 1000) s.power.tempC = t at *
  have hph : t.ctr.wearPh = upd s.ctr.wearPh p.val fun _ => w := congrArg Counters.wearPh (hafter.same .ctr (by decide))
  refine ⟨t, hexec, ?_, ?_⟩
  · simp only [hph]
    exact upd_same _ _ _ p.isLt
  · rw [hph]
    exact hafter.eq_copy

theorem wearUpdate_nvm (n : Nat) (hrun : s.seqRuns = true) : ∃ t, exec (.wearUpdate (.nvm n)) s = .next t ∧
    t.ctr = { s.ctr with wearNvm := s.ctr.wearNvm.rise (n * 10000000) n } ∧
    (s.ctr.wearNvm.step < t.ctr.wearNvm.step → t.holds Ev.wearStep = true) ∧ t = { s.withLogs t with ctr := t.ctr } := by
  have hexec : exec (.wearUpdate (.nvm n)) s = .next (s.wearNvm n) := congrArg Host.Outcome.next (if_neg (by simp [hrun]))
  unfold State.wearNvm at hexec
  dsimp only at hexec
  generalize s.ctr.wearNvm.rise (n * 10000000) n = w at *
  have hafter := stepRise_changes (s := { s with ctr := { s.ctr with wearNvm := w } }) 4 0 s.ctr.wearNvm w w.driver
    s.power.tempC
  have hctr := hafter.same .ctr (by decide)
  refine ⟨_, hexec, hctr, fun hrise => stepRise_reports ?_ .., ?_⟩
  · exact Nat.lt_of_lt_of_eq hrise (congrArg (fun c : Counters => c.wearNvm.step) hctr)
  · exact ((ChangesOnly.write (t := { s with ctr := { s.ctr with wearNvm := w } }) [.ctr, .hoCount] rfl).trans hafter |>.mono
      (qs := [.ctr, .hoCount, .logs]) (by decide)).eq_copy

/-- Settles O43: each command by its lemma above. -/
theorem traceAndWearAct : Obligations.TraceAndWearAct := by
  unfold Obligations.TraceAndWearAct
  intro s
  exact ⟨fun hmode harmed hroom => traceSample_armed hmode harmed hroom,
    fun htrig hleft => ⟨s, traceSample_done htrig hleft, rfl⟩,
    fun harmed hseen => ⟨_, traceTrigger_acts harmed hseen, rfl⟩,
    fun htrig hleft => traceDone_acts htrig hleft,
    fun d k x hrun hk => ⟨s, wearUpdate_idle hrun hk, rfl⟩,
    fun d k x hrun hk => wearUpdate_die hrun hk,
    fun p n hrun => wearUpdate_limited p n hrun,
    fun n hrun => wearUpdate_nvm n hrun⟩

end Sys2Proof.Machine
end

section
/-! PROOFS. The shelf: the refutation of the statement on SHELF and DECOMMISSION. -/

namespace Sys2Proof.Machine

/-- A node on STO with SHELF pending, asleep in PLINTH while die A holds an overcurrent of channel 0 for the wake (R290). -/
def shelfAsleep : State :=
  { State.reset with
    plinth := { State.reset.plinth with mode := .plinth, seq := .off }
    power := { State.reset.power with path := .onSto, busQ := false }
    sw := { State.reset.sw with dieEv := [(Ev.lswOc 0, 0, false, false)] }
    life := { State.reset.life with st := .shelfPending, shelfPend := true } }

/-- The latch instants of channel 0 in the next state that an outcome answers. -/
def latchUpsAfter : Host.Outcome State Fault Refusal → Option (List Nat)
  | .next t => some t.sw.ch[0].latchUps
  | _ => none

/-- The wake to RUN for the shutdown delivers the event of the die, and the latch is counted at its channel. -/
theorem shelfShutdownStart_counts : latchUpsAfter (exec .shelfShutdownStart shelfAsleep) = some [0] := by
  decide +kernel

/-- Refutes O50: its clause on the start of the shutdown keeps every channel's record, also where the sequencer is off. There
the shutdown wakes it first (R137), what the dies held is delivered (R290), and a latch among it is counted at its channel (R282). -/
theorem not_shelfAndDecommissionAct : ¬ Obligations.ShelfAndDecommissionAct := by
  unfold Obligations.ShelfAndDecommissionAct
  intro h
  obtain ⟨hstart, -⟩ := h shelfAsleep ⟨0, 0, 0, 0, false⟩
  obtain ⟨t, ht, -, -, -, hch, -⟩ := hstart rfl rfl rfl rfl
  have hcounted := shelfShutdownStart_counts
  rw [ht] at hcounted
  have hups : t.sw.ch[0].latchUps = [0] := Option.some.inj hcounted
  rw [hch] at hups
  exact absurd hups (by decide)

end Sys2Proof.Machine
end

section
/-! PROOFS. Steps 2 to 5 of the shutdown: the channels opened, the operations that step 3 waits for, what the commit writes, the
entry to PLINTH, and the statement on them. -/

namespace Sys2Proof.Machine

variable {s t u : State}

/-! ### Step 2: the channels (Table 16.4) -/

/-- SHUTDOWN stands on a channel, and its output is off where its latch can be written. -/
def State.Closed (s : State) (c : Nat) : Prop :=
  (s.chan c).shut = true ∧ (s.power.gndOpen = false → s.inReset = false → s.lead c = c → (s.chan c).out = false)

theorem ChangesOnly.inReset (h : ChangesOnly [.sw] s t) : t.inReset = s.inReset := by
  unfold State.inReset
  rw [h.same .plinth (by decide)]

/-- An output that is not turned on afresh opens no window: a refresh only writes latches. -/
theorem refresh_keeps {α : Type} (g : Chan → α) (hg : ∀ (h : Chan) (b : Bool), g (h.latched b) = g h) (c j : Nat) :
    g ((s.refresh c false).chan j) = g (s.chan j) := by
  unfold State.refresh
  dsimp only
  split
  · rfl
  split
  · rfl
  · rw [Bool.and_false, if_neg Bool.false_ne_true]
    exact latch_keeps g (fun h => hg h _) ..

theorem lead_of_mem_group {c l : Nat} (hlead : s.lead c = c) (hmem : c ∈ s.group l) : s.lead l = c := by
  unfold State.group at hmem
  unfold State.lead at hlead ⊢
  split at hmem
  next hpair =>
    have hhalf : c / 2 = l / 2 := by
      rcases List.mem_cons.1 hmem with h | h
      · omega
      · have := List.mem_singleton.1 h
        omega
    have hsame : s.paired c = s.paired l := by
      unfold State.paired
      rw [hhalf]
    rw [if_pos (hsame.trans hpair)] at hlead
    rw [if_pos hpair]
    omega
  next hpair =>
    rw [if_neg hpair, List.mem_singleton.1 hmem]

theorem wantOn_of_shut {c l : Nat} (hshut : (s.chan c).shut = true) (hlead : s.lead l = c) : s.wantOn l = false := by
  unfold State.wantOn
  rw [hlead]
  simp [Chan.inhibited, hshut]

/-- A refresh turns no closed channel on, and turns off the one that it is for. -/
theorem refresh_closes {c j : Nat} (hc : c < 16) (hshut : (s.chan c).shut = true)
    (hout : j = c ∨ ((s.power.gndOpen = false → s.inReset = false → s.lead c = c → (s.chan c).out = false))) :
    (s.refresh j false).Closed c := by
  have hafter := refresh_changes (s := s) j false
  refine ⟨(refresh_keeps Chan.shut (fun _ _ => rfl) j c).trans hshut, fun hgnd hreset hlead => ?_⟩
  rw [hafter.same .power (by decide)] at hgnd
  rw [hafter.inReset] at hreset
  rw [hafter.lead (by decide) (by decide)] at hlead
  have hgroup : s.wantOn (s.lead j) = false ∨ c ∉ s.group (s.lead j) := by
    by_cases hmem : c ∈ s.group (s.lead j)
    · exact .inl (wantOn_of_shut hshut (lead_of_mem_group hlead hmem))
    · exact .inr hmem
  unfold State.refresh
  dsimp only
  split
  next hkeep =>
    rcases hout with rfl | hout
    · rw [hlead, hreset, Bool.or_false] at hkeep
      rw [← beq_iff_eq.1 hkeep]
      exact wantOn_of_shut hshut hlead
    · exact hout hgnd hreset hlead
  split
  next hopen => rw [hgnd] at hopen; exact absurd hopen Bool.false_ne_true
  · rw [Bool.and_false, if_neg Bool.false_ne_true, latch_chan]
    split
    next hmem =>
      rcases hgroup with hwant | hnot
      · exact hwant
      · exact absurd hmem.1 hnot
    next hnot =>
      rcases hout with rfl | hout
      · exact absurd ⟨by rw [hlead]; exact mem_group_self s j, hc⟩ hnot
      · exact hout hgnd hreset hlead

/-- SHUTDOWN set on a channel. -/
def State.shut (s : State) (c : Nat) : State := s.inhibit c fun h => { h with shut := true }

theorem shut_changes (c : Nat) : ChangesOnly [.sw] s (s.shut c) := inhibit_changes ..

theorem shut_demandOf (c : Nat) : (s.shut c).demandOf = s.demandOf := by
  unfold State.shut State.inhibit
  rw [refresh_demandOf, cancelInrush_demandOf]
  exact onChan_demandOf_of_kept c fun _ => rfl

/-- The channel's record with SHUTDOWN, before its output follows. -/
def State.shutNoted (s : State) (c : Nat) : State :=
  (s.onChan c fun h => { h with shut := true, pickAt := none }).cancelInrush c

theorem shut_eq (c : Nat) : s.shut c = (s.shutNoted c).refresh c false := rfl

theorem shutNoted_chan (c j : Nat) : ((s.shutNoted c).chan j).out = (s.chan j).out ∧
    ((s.shutNoted c).chan j).shut = ((s.chan j).shut || decide (j = c ∧ c < 16)) := by
  unfold State.shutNoted State.cancelInrush
  rw [onChan_chan, onChan_chan]
  by_cases hj : j = c ∧ c < 16
  · simp [hj]
  · rw [if_neg hj, if_neg hj, decide_eq_false hj, Bool.or_false]
    exact ⟨rfl, rfl⟩

theorem shut_closes {c : Nat} (hc : c < 16) : (s.shut c).Closed c := by
  rw [shut_eq]
  refine refresh_closes hc ?_ (.inl rfl)
  simp [shutNoted_chan, hc]

/-- What is closed stays so while others close. -/
theorem State.Closed.shut {c : Nat} (hc : c < 16) (h : s.Closed c) (j : Nat) : (s.shut j).Closed c := by
  obtain ⟨hshut, hout⟩ := h
  have hnoted : ChangesOnly [.sw] s (s.shutNoted j) := .write _ rfl
  rw [shut_eq]
  refine refresh_closes hc ?_ (.inr fun hgnd hreset hlead => ?_)
  · rw [(shutNoted_chan j c).2, hshut, Bool.true_or]
  · rw [(shutNoted_chan j c).1]
    exact hout (by rwa [hnoted.same .power (by decide)] at hgnd) (by rwa [hnoted.inReset] at hreset)
      (by rwa [hnoted.lead (by decide) (by decide)] at hlead)

/-- What a step of a fold brings about stands at its end, where the other steps keep it. -/
theorem foldl_reaches {α : Type} {f : State → α → State} {inv P : State → Prop} (hinv : ∀ v y, inv v → inv (f v y)) {x : α}
    (hreach : ∀ v, inv v → P (f v x)) (hkeep : ∀ v y, P v → P (f v y)) {l : List α} (hx : x ∈ l) (hs : inv s) :
    P (l.foldl f s) := by
  obtain ⟨before, after, rfl⟩ := List.append_of_mem hx
  rw [List.foldl_append, List.foldl_cons]
  have hbefore : inv (before.foldl f s) := List.foldlRecOn (motive := inv) _ _ hs fun v hv y _ => hinv v y hv
  exact List.foldlRecOn (motive := P) _ _ (hreach _ hbefore) fun v hv y _ => hkeep v y hv

/-- The channels of one class closed. -/
def State.shutClass (s : State) (k : Nat) : State :=
  (List.range 16).foldl (fun (s : State) c => if s.param (P.lswShedClass c) = 7 - k then s.shut c else s) s

theorem openChannels_eq (s : State) : s.openChannels = (List.range 8).foldl State.shutClass s := rfl

theorem shutClass_changes (k : Nat) : ChangesOnly [.sw] s (s.shutClass k) := .foldl (fun _ _ => .thenOnly (shut_changes _)) _ _

theorem openChannels_changes : ChangesOnly [.sw] s s.openChannels := .foldl (fun _ _ => shutClass_changes _) _ _

theorem ite_demandOf (p : Prop) [Decidable p] (c : Nat) : (if p then s.shut c else s).demandOf = s.demandOf := by
  split
  · exact shut_demandOf c
  · rfl

theorem openChannels_demandOf (s : State) : s.openChannels.demandOf = s.demandOf :=
  foldl_demandOf (fun v k => foldl_demandOf (fun w c => ite_demandOf (w.param (P.lswShedClass c) = 7 - k) c) _ v) _ s

theorem shutClass_closed {c : Nat} (hc : c < 16) (h : s.Closed c) (k : Nat) : (s.shutClass k).Closed c :=
  List.foldlRecOn (motive := fun v : State => v.Closed c) _ _ h fun v hv j _ => by
    split
    · exact hv.shut hc j
    · exact hv

theorem openChannels_closes {c : Nat} (hc : c < 16) (hclass : s.param (P.lswShedClass c) ≤ 7) : s.openChannels.Closed c := by
  rw [openChannels_eq]
  have hstep : ∀ (v : State) (j k : Nat), ChangesOnly [.sw] s v →
      ChangesOnly [.sw] s (if v.param (P.lswShedClass j) = 7 - k then v.shut j else v) := fun v j k hv =>
    (hv.trans (.thenOnly (shut_changes j))).mono (by decide)
  refine foldl_reaches (inv := ChangesOnly [.sw] s) (P := fun v => v.Closed c) (x := 7 - s.param (P.lswShedClass c))
    (fun v k hv => (hv.trans (shutClass_changes k)).mono (by decide)) (fun v hv => ?_)
    (fun v k hv => shutClass_closed hc hv k) (List.mem_range.2 (by omega)) (.refl s)
  refine foldl_reaches (inv := ChangesOnly [.sw] s) (P := fun v => v.Closed c) (x := c) (fun w j hw => hstep w j _ hw)
    (fun w hw => ?_) (fun w j hw => ?_) (List.mem_range.2 hc) hv
  · rw [if_pos (by rw [hw.param (by decide) (by decide)]; omega)]
    exact shut_closes hc
  · split
    · exact hw.shut hc j
    · exact hw

theorem shutdownStep2_acts (hrun : s.seqRuns = true) (hst : s.life.st = .shut1) (hstopped : s.railsStopped = true)
    (harmed : s.config.armed = none) : ∃ t, exec .shutdownStep2 s = .next t ∧
      t.life = { s.life with st := .shut2 } ∧ (∀ c : Fin 16, (t.chan c.val).demand = (s.chan c.val).demand) ∧
      (∀ c : Fin 16, s.param (P.lswShedClass c.val) ≤ 7 → (t.chan c.val).shut = true ∧
        (s.power.gndOpen = false → s.inReset = false → s.lead c.val = c.val → (t.chan c.val).out = false)) ∧
      t = { s with life := t.life, sw := t.sw } := by
  have hchanges := openChannels_changes (s := s)
  have hlife : s.openChannels.life = s.life := hchanges.same .life (by decide)
  have hexec : exec .shutdownStep2 s =
      .next { s.openChannels with life := { s.openChannels.life with st := .shut2 } } := by
    show execShutdownStep2 s = _
    unfold execShutdownStep2
    rw [if_pos ⟨hst, hrun, hstopped⟩, harmed]
  have hdemands := openChannels_demandOf s
  have hclosed := fun (c : Fin 16) hclass => openChannels_closes (s := s) c.isLt hclass
  generalize s.openChannels = v at *
  refine ⟨_, hexec, by rw [hlife], fun c => congrFun hdemands c.val, fun c hclass => ?_, ?_⟩
  · obtain ⟨hshut, hout⟩ := hclosed c hclass
    rw [hchanges.same .power (by decide), hchanges.inReset, hchanges.lead (by decide) (by decide)] at hout
    exact ⟨hshut, hout⟩
  · exact (hchanges.trans (ChangesOnly.write [.life] rfl) |>.mono (qs := [.life, .sw]) (by decide)).eq_copy

/-! ### Step 3: the operations (R475, R477) -/

/-- SHELF is past its point of no return. -/
def State.shelfBound (s : State) : State :=
  s.onOps fun l => l.map fun o => if o.kind = .shelf then { o with pnr := true } else o

theorem shutdownStep3_waits (hrun : s.seqRuns = true) (hst : s.life.st = .shut2)
    (hheld : s.camyx.ops.any Op.holdsShut = true) :
    exec .shutdownStep3 s = .next { s with life := { s.life with st := .shut3 } } :=
  congrArg Host.Outcome.next ((if_pos ⟨.inl hst, hrun⟩).trans (if_pos hheld))

theorem shutdownStep3_chooses (hrun : s.seqRuns = true) (hst : s.life.st = .shut2 ∨ s.life.st = .shut3)
    (hfree : s.camyx.ops.any Op.holdsShut = false) :
    ∃ t, exec .shutdownStep3 s = .next t ∧ t.life = { s.life with st := .shut4, commit := s.commitKind } ∧
      (∀ o ∈ t.camyx.ops, o.kind = .shelf → o.pnr = true) ∧
      t = { s with life := t.life, camyx := { s.camyx with ops := t.camyx.ops } } := by
  refine ⟨{ s.shelfBound with life := { s.life with st := .shut4, commit := s.commitKind } },
    congrArg Host.Outcome.next ((if_pos ⟨hst, hrun⟩).trans (if_neg (by simp [hfree]))), rfl, fun o hmem hkind => ?_, rfl⟩
  obtain ⟨x, -, rfl⟩ := List.mem_map.1 hmem
  by_cases hx : x.kind = .shelf
  · rw [if_pos hx]
  · rw [if_neg hx] at hkind
    exact absurd hkind hx

/-! ### Step 4: the commit (R476) -/

theorem keepRec_changes (c : PatCap) : ChangesOnly [.ctr, .logs] s (s.keepRec c) := .write _ rfl

theorem refuseRec_changes (c : PatCap) : ChangesOnly [.ctr, .logs] s (s.refuseRec c) := by
  rw [refuseRec_eq]
  have counted : ChangesOnly [.ctr, .logs] s (s.refusalCounted c) := .write _ rfl
  exact (ChangesOnly.ite counted (counted.trans (raiseC_changes ..))).mono (by decide)

theorem admitRec_changes (c : PatCap) : ChangesOnly [.ctr, .logs] s (s.admitRec c) := by
  have noted : ∀ (v : State) (p : Patina), ChangesOnly [.logs] v { v with patina := p } := fun _ _ => .write _ rfl
  unfold State.admitRec
  extract_lets full s1
  split
  · split
    · exact keepRec_changes c
    split
    · exact ((noted ..).trans (keepRec_changes c)).mono (by decide)
    · exact ((refuseRec_changes c).trans (noted ..)).mono (by decide)
  split
  · exact refuseRec_changes c
  · exact ((noted ..).trans (keepRec_changes c)).mono (by decide)

theorem admitAll_changes : ChangesOnly [.ctr, .logs] s s.admitAll := by
  have taken : ChangesOnly [.logs] s { s with patina := { s.patina with caps := [] } } := .write _ rfl
  exact (taken.trans (.foldl (fun _ _ => admitRec_changes _) _ _)).mono (by decide)

/-- A record written to NVM leaves the RAM. -/
theorem writeRec_acts (s : State) (r : PatRec) : ChangesOnly [.logs] s (s.writeRec r) ∧
    (s.writeRec r).patina.ram = s.patina.ram := by
  have put : ∀ p : Patina, p.ram = s.patina.ram → ChangesOnly [.logs] s { s with patina := p } ∧
      ({ s with patina := p } : State).patina.ram = s.patina.ram := fun p hp => ⟨.write _ rfl, hp⟩
  unfold State.writeRec
  extract_lets up times place keep marked
  split
  · exact put _ rfl
  split
  · exact put _ rfl
  split
  · exact put _ rfl
  split
  · exact put _ rfl
  · obtain ⟨hchanges, hram⟩ := put (s.patina.toRing { r with pinRefused := true }) rfl
    split
    · exact ⟨hchanges, hram⟩
    · exact ⟨(hchanges.trans (raiseC_changes ..)).mono (by decide), (raiseAs_ram ..).trans hram⟩

theorem writeRecs_acts (f : PatRec → PatRec) (l : List PatRec) (s : State) :
    ChangesOnly [.logs] s (l.foldl (fun (v : State) r => v.writeRec (f r)) s) ∧
      (l.foldl (fun (v : State) r => v.writeRec (f r)) s).patina.ram = s.patina.ram :=
  List.foldlRecOn (motive := fun v : State => ChangesOnly [.logs] s v ∧ v.patina.ram = s.patina.ram) _ _ ⟨.refl s, rfl⟩
    fun v hv r _ => by
      obtain ⟨hchanges, hram⟩ := writeRec_acts v (f r)
      exact ⟨(hv.1.trans hchanges).mono (by decide), hram.trans hv.2⟩

/-- What of the RAM a commit leaves there. -/
theorem writeRam_acts (s : State) (pinnedOnly : Bool) : ChangesOnly [.logs] s (s.writeRam pinnedOnly) ∧
    (s.writeRam pinnedOnly).patina.ram = s.patina.ram.filter fun r => !(r.pinned || !pinnedOnly) := by
  obtain ⟨hchanges, hram⟩ := writeRecs_acts (fun r => { r with byShutdown := true })
    (s.patina.ram.filter fun r => r.pinned || !pinnedOnly)
    { s with patina := { s.patina with
        ram := s.patina.ram.filter fun r => !(r.pinned || !pinnedOnly), flushReq := false, lastFlush := s.plinth.upMs } }
  exact ⟨((ChangesOnly.write [.logs] rfl).trans hchanges).mono (by decide), hram⟩

/-- The rails with their fault records written. -/
def State.faultsWritten (s : State) : State :=
  { s with arm := { s.arm with rail := Vector.ofFn fun r => s.arm.rail[r].writeLate } }

theorem commitRecords_acts (s : State) (kind : CommitKind) (more : Nat) :
    (s.commitRecords kind more).arm = s.faultsWritten.arm ∧ (s.commitRecords kind more).nvm = (s.commitRecords kind more).ctr ∧
      (s.commitRecords kind more).patina.ram = (s.patina.ram.filter fun r => !(r.pinned || !(kind == .essential))) ∧
      ChangesOnly [.arm, .logs, .ctr, .nvm, .hoCount] s (s.commitRecords kind more) := by
  obtain ⟨hchanges, hram⟩ := writeRam_acts s.faultsWritten (kind == .essential)
  have hwritten : ChangesOnly [.arm] s s.faultsWritten := .write _ rfl
  have hall : s.commitRecords kind more = ({ s.faultsWritten.writeRam (kind == .essential) with
      ctr := { (s.faultsWritten.writeRam (kind == .essential)).ctr with
        pseq := wrapAdd 32 (s.faultsWritten.writeRam (kind == .essential)).ctr.pseq more } } : State).writeCounters := rfl
  rw [hall]
  generalize s.faultsWritten.writeRam (kind == .essential) = v at *
  exact ⟨hchanges.same .arm (by decide), rfl, hram,
    ((hwritten.trans hchanges).trans (ChangesOnly.write [.ctr, .nvm, .hoCount] rfl)).mono (by decide)⟩

/-- The SHUTDOWN record with the demands that the restart finds. -/
theorem shutdownRecord_acts (s : State) (step : Nat) :
    (s.shutdownRecord step).sw = { s.sw with saved := some s.demands } ∧
      (s.shutdownRecord step).patina.ram = s.patina.ram ∧ ChangesOnly [.sw, .logs] s (s.shutdownRecord step) := by
  obtain ⟨hchanges, hram⟩ := writeRec_acts s
    { pseq := wrapAdd 32 s.ctr.pseq (2 ^ 32 - 1), up := s.plinth.upMs, time := s.stamp, pinned := false
      byShutdown := true, pinRefused := false, released := false, body := s.shutdownBody step }
  have hsw := hchanges.same .sw (by decide)
  unfold State.shutdownRecord
  dsimp only
  generalize s.writeRec _ = v at *
  refine ⟨?_, hram, (hchanges.trans (ChangesOnly.write [.sw] rfl)).mono (by decide)⟩
  rw [hsw]

/-- The state that the commit chosen writes: every capture admitted, and the marker of a SHELF that is pending (R490). -/
def State.commitReady (s : State) : State :=
  { s.admitAll with ctr := { s.admitAll.ctr with shelfMark := s.admitAll.ctr.shelfMark || s.admitAll.life.shelfPend } }

theorem commitReady_changes : ChangesOnly [.ctr, .logs] s s.commitReady :=
  (admitAll_changes.trans (.write [.ctr] rfl)).mono (by decide)

theorem commitNow_full (hkind : s.life.commit = .full) (hagain : s.life.again = false) :
    s.commitNow = (s.commitReady.commitRecords .full 1).shutdownRecord 4 := by
  have hwrites : ¬(s.life.commit = .none ∨ (s.life.again = true ∧ s.admitAll.commitChanged s.life.commit = false)) := by
    rw [hkind, hagain]
    rintro (h | h)
    · exact absurd h (by decide)
    · exact absurd h.1 Bool.false_ne_true
  refine (if_neg hwrites).trans ?_
  rw [hkind]
  rfl

theorem commitNow_none (hkind : s.life.commit = .none) : s.commitNow = s.admitAll := if_pos (.inl hkind)

/-- The demands and the record of a rail's state stand through a commit. -/
theorem commitNow_acts (hkind : s.life.commit = .full) (hagain : s.life.again = false) :
    s.commitNow.patina.ram = [] ∧ s.commitNow.nvm = s.commitNow.ctr ∧
      s.commitNow.sw = { s.sw with saved := some s.demands } ∧ s.commitNow.arm = s.faultsWritten.arm ∧
      s.commitNow.life = s.life := by
  rw [commitNow_full hkind hagain]
  have hready := commitReady_changes (s := s)
  generalize s.commitReady = v at *
  obtain ⟨harm, hnvm, hram, hrecords⟩ := commitRecords_acts v .full 1
  generalize v.commitRecords .full 1 = w at *
  obtain ⟨hsw, hkept, hlast⟩ := shutdownRecord_acts w 4
  have hbefore : w.sw = s.sw := Eq.trans (hrecords.same .sw (by decide)) (hready.same .sw (by decide))
  have hdemands : w.demands = s.demands := by
    unfold State.demands
    rw [hbefore]
  refine ⟨?_, ?_, ?_, ?_, ?_⟩
  · rw [hkept, hram]
    simp
  · exact Eq.trans (hlast.same .nvm (by decide)) (hnvm.trans (Eq.symm (hlast.same .ctr (by decide))))
  · rw [hsw, hbefore, hdemands]
  · have hown : v.arm = s.arm := hready.same .arm (by decide)
    refine Eq.trans (hlast.same .arm (by decide)) (harm.trans ?_)
    unfold State.faultsWritten
    rw [hown]
  · exact Eq.trans (hlast.same .life (by decide)) (Eq.trans (hrecords.same .life (by decide)) (hready.same .life (by decide)))

theorem exec_shutdownCommit (hrun : s.seqRuns = true) (hst : s.life.st = .shut4) :
    exec .shutdownCommit s = .next { s.commitNow with life := { s.commitNow.life with st := .shut5 } } :=
  congrArg Host.Outcome.next (if_pos ⟨hst, hrun⟩)

theorem shutdownCommit_full (hrun : s.seqRuns = true) (hst : s.life.st = .shut4) (hkind : s.life.commit = .full)
    (hagain : s.life.again = false) : ∃ t, exec .shutdownCommit s = .next t ∧
      t.life = { s.life with st := .shut5 } ∧ t.patina.ram = [] ∧ t.nvm = t.ctr ∧
      t.sw = { s.sw with saved := some s.demands } ∧
      (∀ r : Fin 2, (t.arm.rail[r]).late = [] ∧ (t.arm.rail[r]).caps = [] ∧ (t.arm.rail[r]).st = (s.arm.rail[r]).st) := by
  obtain ⟨hram, hnvm, hsw, harm, hlife⟩ := commitNow_acts hkind hagain
  rw [exec_shutdownCommit hrun hst]
  generalize s.commitNow = v at *
  refine ⟨_, rfl, by rw [hlife], hram, hnvm, hsw, fun r => ?_⟩
  have hrail : v.arm.rail[r] = (s.arm.rail[r]).writeLate := by
    rw [harm]
    simp [State.faultsWritten]
  show (v.arm.rail[r]).late = [] ∧ (v.arm.rail[r]).caps = [] ∧ (v.arm.rail[r]).st = _
  rw [hrail]
  exact ⟨rfl, rfl, rfl⟩

/-- A capture that is admitted goes no further than the RAM. -/
theorem admitRec_regions (s : State) (c : PatCap) : (s.admitRec c).patina.ring = s.patina.ring ∧
    (s.admitRec c).patina.pins = s.patina.pins := by
  have refused : (s.refuseRec c).patina.ring = s.patina.ring ∧ (s.refuseRec c).patina.pins = s.patina.pins := by
    rw [refuseRec_eq]
    split
    · exact ⟨rfl, rfl⟩
    · obtain ⟨_, hpatina⟩ := raiseAs_patina (s.refusalCounted c) Ev.patinaSuppress false 0 0 false
      exact ⟨(congrArg Patina.ring hpatina).trans rfl, (congrArg Patina.pins hpatina).trans rfl⟩
  unfold State.admitRec
  dsimp only
  split
  · split
    · exact ⟨rfl, rfl⟩
    split
    · exact ⟨rfl, rfl⟩
    · exact refused
  split
  · exact refused
  · exact ⟨rfl, rfl⟩

theorem admitAll_regions (s : State) : s.admitAll.patina.ring = s.patina.ring ∧ s.admitAll.patina.pins = s.patina.pins :=
  List.foldlRecOn (motive := fun v : State => v.patina.ring = s.patina.ring ∧ v.patina.pins = s.patina.pins) _ _ ⟨rfl, rfl⟩
    fun v hv c _ => ⟨(admitRec_regions v c).1.trans hv.1, (admitRec_regions v c).2.trans hv.2⟩

theorem shutdownCommit_none (hrun : s.seqRuns = true) (hst : s.life.st = .shut4) (hkind : s.life.commit = .none) :
    ∃ t, exec .shutdownCommit s = .next t ∧ t.life = { s.life with st := .shut5 } ∧ t.nvm = s.nvm ∧ t.sw = s.sw ∧
      t.arm = s.arm ∧ t.patina.ring = s.patina.ring ∧ t.patina.pins = s.patina.pins := by
  have hchanges := admitAll_changes (s := s)
  obtain ⟨hring, hpins⟩ := admitAll_regions s
  have hlife : s.admitAll.life = s.life := hchanges.same .life (by decide)
  rw [exec_shutdownCommit hrun hst, commitNow_none hkind]
  generalize s.admitAll = v at *
  exact ⟨_, rfl, by rw [hlife], hchanges.same .nvm (by decide), hchanges.same .sw (by decide), hchanges.same .arm (by decide),
    hring, hpins⟩

/-! ### Step 5: PLINTH (R474, R478) -/

/-- The state at the entry to PLINTH: the shutdown is over. -/
def State.downNow (s : State) : State := { s with life := { s.life with st := .down, prev := .down } }

/-- The sequencer stopped, with VHOST as it then may be. -/
def State.atRest (s : State) : State := s.downNow.toPlinth.vhostEval

theorem exec_plinthEntry (hst : s.life.st = .shut5) (hshelf : s.life.shelfPend = false) (howed : s.camyx.resetOwed = none)
    (hmode : s.plinth.mode ≠ .field) :
    exec .plinthEntry s = .next (if s.life.restart then s.atRest.restartBegin else s.atRest) := by
  have hnone : s.downNow.owedReset = false := by
    unfold State.owedReset
    rw [show s.downNow.camyx.resetOwed = none from howed]
  have hrest : (if s.downNow.owedReset then s.downNow.seqReset 7
      else if s.downNow.plinth.mode = .field then s.downNow else s.downNow.toPlinth) = s.downNow.toPlinth := by
    rw [hnone, if_neg Bool.false_ne_true]
    exact if_neg hmode
  refine congrArg Host.Outcome.next ((if_neg (by simp [hst])).trans ((if_neg (by simp [hshelf])).trans ?_))
  exact congrArg (fun v : State => if s.life.restart then v.vhostEval.restartBegin else v.vhostEval) hrest

theorem atRest_changes :
    ChangesOnly [.mode, .plinth, .harvest, .ledger, .line, .sw, .arm, .logs, .power] s.downNow s.atRest :=
  (((toMode_changes .plinth).trans (.write [.plinth] rfl)).trans vhostEval_changes).mono (by decide)

theorem atRest_mode (s : State) : s.atRest.plinth.mode = .plinth := toMode_mode (s := s.downNow) .plinth

/-- Without pilot lock no alignment of a channel ends as the receiver loses its supply. -/
theorem toMode_sw (hlock : s.line.lock = false) (m : Mode) : (s.toMode m).sw = s.sw := by
  have hkept : ∀ v : State, v.line = s.line → v.loseLock = v := fun v hv => if_pos (by rw [hv, hlock]; rfl)
  unfold State.toMode
  extract_lets tr runs off h plinth ledger s1
  rw [pllEval_changes.same .sw (by decide), tb8Eval_changes.same .sw (by decide), hkept s1 rfl]
  exact (congrArg State.sw (ite_self _)).trans rfl

theorem plinthEntry_rests (hst : s.life.st = .shut5) (hshelf : s.life.shelfPend = false) (howed : s.camyx.resetOwed = none)
    (hmode : s.plinth.mode ≠ .field) (hrestart : s.life.restart = false) : ∃ t, exec .plinthEntry s = .next t ∧
      t.life.st = .down ∧ t.plinth.mode = .plinth ∧ t.plinth.seq = .off ∧ (s.line.lock = true ∨ t.sw = s.sw) ∧
      t.nvm = s.nvm := by
  have hchanges := atRest_changes (s := s)
  refine ⟨_, exec_plinthEntry hst hshelf howed hmode, ?_⟩
  rw [hrestart, if_neg Bool.false_ne_true]
  refine ⟨congrArg Lifecycle.st (hchanges.same .life (by decide)), atRest_mode s, rfl, ?_, hchanges.same .nvm (by decide)⟩
  cases hlock : s.line.lock with
  | true => exact .inl rfl
  | false => exact .inr (toMode_sw (s := s.downNow) hlock .plinth)

/-- A restart stands in its pickups from its first one on. -/
def State.restartNoted (s : State) : State :=
  { s with life := { s.life with
      st := if s.life.st = Life.decommissioning then Life.decommissioning else Life.pickup
      prev := .pickup, restart := false, due := false, own := false, railsUp := false } }

theorem toRun_mode (s : State) : s.toRun.plinth.mode = .run := by
  have hwoken : (if s.plinth.mode = .run then s.wakeSeq else (s.toMode .run).wakeSeq).plinth.mode = .run := by
    split
    next hrun => exact Eq.trans (wakeSeq_changes.mode (by decide)) hrun
    next => exact Eq.trans (wakeSeq_changes.mode (by decide)) (toMode_mode .run)
  unfold State.toRun
  extract_lets woken
  change woken.plinth.mode = .run at hwoken
  clear_value woken
  split
  · exact hwoken
  · exact hwoken

theorem restartBegin_acts (s : State) : s.restartBegin.life = s.restartNoted.life ∧ s.restartBegin.plinth.mode = .run := by
  have hlife : s.restartNoted.toRun.life = s.restartNoted.life := toRun_changes.life (by decide)
  have hmode := toRun_mode s.restartNoted
  have hbegun : s.restartBegin = if s.restartNoted.toRun.isHead then
      ({ s.restartNoted.toRun with line := { s.restartNoted.toRun.line with
        generating := false, listening := true, stoodDown := false } }.clearE Ev.headClash).tb8Eval
      else s.restartNoted.toRun := rfl
  rw [hbegun]
  generalize s.restartNoted.toRun = v at *
  split
  · have hafter : ChangesOnly [.line, .logs, .plinth, .arm] v ({ v with line := { v.line with
        generating := false, listening := true, stoodDown := false } }.clearE Ev.headClash).tb8Eval :=
      (((ChangesOnly.write [.line] rfl).trans (clearE_changes _)).trans tb8Eval_changes).mono (by decide)
    exact ⟨Eq.trans (hafter.same .life (by decide)) hlife, Eq.trans (hafter.mode (by decide)) hmode⟩
  · exact ⟨hlife, hmode⟩

theorem plinthEntry_restarts (hst : s.life.st = .shut5) (hshelf : s.life.shelfPend = false) (howed : s.camyx.resetOwed = none)
    (hmode : s.plinth.mode ≠ .field) (hrestart : s.life.restart = true) : ∃ t, exec .plinthEntry s = .next t ∧
      t.life.st = .pickup ∧ t.plinth.mode = .run ∧ t.life.restart = false ∧ t.life.railsUp = false := by
  obtain ⟨hlife, hrun⟩ := restartBegin_acts s.atRest
  have hdown : s.atRest.life.st = .down :=
    (congrArg Lifecycle.st ((atRest_changes (s := s)).same .life (by decide))).trans rfl
  have hpickup : s.atRest.restartNoted.life.st = .pickup := if_neg (by rw [hdown]; decide)
  refine ⟨s.atRest.restartBegin, ?_, ?_, hrun, ?_, ?_⟩
  · rw [exec_plinthEntry hst hshelf howed hmode, if_pos hrestart]
  · rw [hlife, hpickup]
  · rw [hlife]
    rfl
  · rw [hlife]
    rfl

/-- Settles O48: each command by its lemmas above. -/
theorem shutdownStepsAct : Obligations.ShutdownStepsAct := by
  unfold Obligations.ShutdownStepsAct
  intro s hrun
  exact ⟨fun hst hstopped harmed => shutdownStep2_acts hrun hst hstopped harmed,
    fun hst hlive => ⟨s, congrArg Host.Outcome.next (if_neg (by simp [hlive])), rfl⟩,
    fun hst hheld => ⟨_, shutdownStep3_waits hrun hst hheld, rfl⟩,
    fun hst hfree => shutdownStep3_chooses hrun hst hfree,
    fun hst hkind hagain => shutdownCommit_full hrun hst hkind hagain,
    fun hst hkind => shutdownCommit_none hrun hst hkind,
    fun hst hshelf howed hmode => ⟨fun hrestart => plinthEntry_rests hst hshelf howed hmode hrestart,
      fun hrestart => plinthEntry_restarts hst hshelf howed hmode hrestart⟩⟩

end Sys2Proof.Machine
end

section
/-! PROOFS. The start of a rail: what it leaves, the rail that starts, and the other one. -/

namespace Sys2Proof.Machine

variable {s t u : State} {r q : Nat}

/-! ### A RUN condition (R138) -/

theorem toMode_run_changes : ChangesOnly [.mode, .plinth, .harvest, .ledger, .arm, .logs] s (s.toMode .run) := by
  have entered := fun h l p tr => ChangesOnly.write
    (t := { s with harvest := h, ledger := l, plinth := p, trace := tr }) [.mode, .plinth, .harvest, .ledger, .logs] rfl
  exact (((entered ..).trans tb8Eval_changes).trans pllEval_changes).mono (by decide)

theorem toMode_run_keeps (s : State) : (s.toMode .run).plinth.seq = s.plinth.seq ∧
    ∃ g, (s.toMode .run).arm = { s.arm with glideMs := g } := by
  have hkept : ∀ v : State, v.tb8Eval.pllEval.plinth.seq = v.plinth.seq ∧
      ∃ g, v.tb8Eval.pllEval.arm = { v.arm with glideMs := g } := fun v => by
    unfold State.pllEval
    rw [tb8Eval_eq]
    exact ⟨rfl, _, rfl⟩
  exact hkept _

/-- The wake that a start in DOZE needs, where the sequencer runs. -/
theorem needRun_doze (hmode : s.plinth.mode = .doze) (hrun : s.seqRuns = true) : ∃ wakes, s.needRun =
    { s.toMode .run with plinth := { (s.toMode .run).plinth with wakes := wakes } } := by
  have hseq : (s.toMode .run).plinth.seq = .running := (toMode_run_keeps s).1.trans (beq_iff_eq.1 hrun)
  have hawake : (s.toMode .run).wakeSeq = s.toMode .run := if_neg fun h => absurd (hseq.symm.trans h.1) (by decide)
  have hnot : ¬s.plinth.mode = .run := fun h => absurd (hmode.symm.trans h) (by decide)
  unfold State.needRun State.toRun
  rw [if_pos ⟨hmode, hrun⟩, if_neg hnot, hawake]
  generalize s.toMode .run = v
  dsimp only
  split
  · exact ⟨_, rfl⟩
  · exact ⟨v.plinth.wakes, rfl⟩

theorem needRun_awake (hmode : s.plinth.mode ≠ .doze) : s.needRun = s := if_neg fun h => hmode h.1

/-- Where the sequencer runs, the wake that a start needs changes the clocks and the glide of the grid alone. -/
theorem needRun_changes : ChangesOnly [.mode, .plinth, .harvest, .ledger, .arm, .logs] s s.needRun := by
  by_cases h : s.plinth.mode = .doze ∧ s.seqRuns
  · obtain ⟨wakes, heq⟩ := needRun_doze h.1 h.2
    rw [heq]
    exact (toMode_run_changes.trans (.write [.plinth] rfl)).mono (by decide)
  · rw [show s.needRun = s from if_neg h]
    exact .refl s

theorem needRun_arm (s : State) : ∃ g, s.needRun.arm = { s.arm with glideMs := g } := by
  by_cases h : s.plinth.mode = .doze ∧ s.seqRuns
  · obtain ⟨wakes, heq⟩ := needRun_doze h.1 h.2
    rw [heq]
    exact (toMode_run_keeps s).2
  · rw [show s.needRun = s from if_neg h]
    exact ⟨_, rfl⟩

theorem needRun_mode (s : State) : s.needRun.plinth.mode = s.plinth.mode ∨ s.needRun.plinth.mode = .run := by
  unfold State.needRun
  split
  · exact .inr (toRun_mode s)
  · exact .inl rfl

theorem needRun_rail (s : State) (q : Nat) : s.needRun.rail q = s.rail q := by
  obtain ⟨_, harm⟩ := needRun_arm s
  unfold State.rail
  rw [harm]

/-! ### The rail that starts, and the other (R317, R319) -/

theorem unshed_changes (r : Nat) : ChangesOnly [.arm, .logs] s (s.unshed r) :=
  ((ChangesOnly.write [.arm] rfl).trans (clearIf_changes ..)).mono (by decide)

theorem unshed_rail (s : State) (r q : Nat) : (s.unshed r).rail q = s.rail q := (clearIf_changes ..).rail (by decide) q

/-- What a start changes. -/
abbrev startParts : List StatePart := [.mode, .plinth, .harvest, .ledger, .arm, .logs]

/-- The record of a rail in a start, at a follower with the wait for a leader that does not run (R320). -/
def Rail.starts (x : Rail) (tracking waits : Bool) : Rail :=
  { x with
    st := .starting, reason := 0, stopReason := 0, autoPend := false, braking := false
    vref := if x.st = .stopping then x.vref else 0
    tracking := tracking, waitLeader := waits }

/-- A start noted at its rail, before the mode follows. -/
def State.startNoted (s : State) (r : Nat) : State :=
  (if (s.rail r).st = .stopped then s.unshed r else s).onRail r fun x =>
    x.starts (s.param (P.armTrackSrc r) != 0) (s.follows r && !(s.rail (otherRail r)).st.live)

theorem startOne_eq (s : State) (r : Nat) : s.startOne r = (s.startNoted r).needRun := rfl

theorem startNoted_changes (r : Nat) : ChangesOnly [.arm, .logs] s (s.startNoted r) :=
  ((ChangesOnly.thenOnly (unshed_changes r)).trans (onRail_changes ..)).mono (by decide)

theorem startOne_changes (r : Nat) : ChangesOnly startParts s (s.startOne r) :=
  ((startNoted_changes r).trans needRun_changes).mono (by decide)

theorem startOne_awake (hmode : s.plinth.mode ≠ .doze) (r : Nat) : ChangesOnly [.arm, .logs] s (s.startOne r) := by
  have hnoted := startNoted_changes (s := s) r
  rw [startOne_eq, needRun_awake (by rwa [hnoted.mode (by decide)])]
  exact hnoted

theorem startOne_mode (s : State) (r : Nat) : (s.startOne r).plinth.mode = s.plinth.mode ∨
    (s.startOne r).plinth.mode = .run := by
  rw [startOne_eq]
  refine (needRun_mode _).imp_left fun h => ?_
  rw [h, (startNoted_changes r).mode (by decide)]

theorem startNoted_before (s : State) (r q : Nat) :
    (if (s.rail r).st = .stopped then s.unshed r else s).rail q = s.rail q := by
  split
  · exact unshed_rail ..
  · rfl

theorem startOne_self (hr : r < 2) : ((s.startOne r).rail r).st = .starting ∧ ((s.startOne r).rail r).autoPend = false := by
  rw [startOne_eq, needRun_rail, State.startNoted, onRail_self hr]
  exact ⟨rfl, rfl⟩

theorem startOne_other (hq : q ≠ r) : (s.startOne r).rail q = s.rail q := by
  rw [startOne_eq, needRun_rail, State.startNoted, onRail_other hq, startNoted_before]

theorem startOne_vdrvOk (s : State) (r : Nat) : (s.startOne r).arm.vdrvOk = s.arm.vdrvOk := by
  obtain ⟨_, harm⟩ := needRun_arm (s.startNoted r)
  have hnoted : (s.startNoted r).arm.vdrvOk = s.arm.vdrvOk := by
    unfold State.startNoted
    split
    · rfl
    · rfl
  rw [startOne_eq, harm, ← hnoted]

/-! ### A start with its follower (R319) -/

/-- The follower's part in its leader's start. -/
def State.startFollower (s : State) (f : Nat) : State :=
  if s.follows f && (s.rail f).st == .starting && (s.rail f).waitLeader then
    s.onRail f fun x => { x with waitLeader := false }
  else if s.follows f && s.mayStart f && (s.rail f).st == .stopped then s.startOne f
  else s

theorem startRail_eq (s : State) (r : Nat) : s.startRail r = (s.startOne r).startFollower (otherRail r) := rfl

/-- A follower is let go, starts where it may, or is left. -/
theorem startFollower_cases (s : State) (f : Nat) :
    ((s.rail f).st = .starting ∧ s.startFollower f = s.onRail f fun x => { x with waitLeader := false }) ∨
      (s.mayStart f = true ∧ s.startFollower f = s.startOne f) ∨ s.startFollower f = s := by
  unfold State.startFollower
  split
  next h =>
    simp only [Bool.and_eq_true, beq_iff_eq] at h
    obtain ⟨⟨-, hst⟩, -⟩ := h
    exact .inl ⟨hst, rfl⟩
  split
  next h =>
    simp only [Bool.and_eq_true] at h
    obtain ⟨⟨-, hmay⟩, -⟩ := h
    exact .inr (.inl ⟨hmay, rfl⟩)
  · exact .inr (.inr rfl)

theorem startFollower_changes (f : Nat) : ChangesOnly startParts s (s.startFollower f) := by
  rcases startFollower_cases s f with ⟨-, h⟩ | ⟨-, h⟩ | h
  · rw [h]
    exact (onRail_changes ..).mono (by decide)
  · rw [h]
    exact startOne_changes f
  · rw [h]
    exact .refl s

theorem startFollower_awake (hmode : s.plinth.mode ≠ .doze) (f : Nat) : ChangesOnly [.arm, .logs] s (s.startFollower f) := by
  rcases startFollower_cases s f with ⟨-, h⟩ | ⟨-, h⟩ | h
  · rw [h]
    exact (onRail_changes ..).mono (by decide)
  · rw [h]
    exact startOne_awake hmode f
  · rw [h]
    exact .refl s

theorem startFollower_mode (s : State) (f : Nat) : (s.startFollower f).plinth.mode = s.plinth.mode ∨
    (s.startFollower f).plinth.mode = .run := by
  rcases startFollower_cases s f with ⟨-, h⟩ | ⟨-, h⟩ | h
  · rw [h]
    exact .inl rfl
  · rw [h]
    exact startOne_mode s f
  · rw [h]
    exact .inl rfl

theorem startFollower_vdrvOk (s : State) (f : Nat) : (s.startFollower f).arm.vdrvOk = s.arm.vdrvOk := by
  rcases startFollower_cases s f with ⟨-, h⟩ | ⟨-, h⟩ | h
  · rw [h]
    rfl
  · rw [h]
    exact startOne_vdrvOk s f
  · rw [h]

theorem startFollower_other {f : Nat} (hq : q ≠ f) : (s.startFollower f).rail q = s.rail q := by
  rcases startFollower_cases s f with ⟨-, h⟩ | ⟨-, h⟩ | h
  · rw [h, onRail_other hq]
  · rw [h, startOne_other hq]
  · rw [h]

/-- A follower starts, where its supplies let it, or stands as it did. -/
theorem startFollower_self {f : Nat} (hf : f < 2) :
    (((s.startFollower f).rail f).st = .starting ∧ ((s.rail f).st = .starting ∨ s.mayStart f = true)) ∨
      (s.startFollower f).rail f = s.rail f := by
  rcases startFollower_cases s f with ⟨hst, h⟩ | ⟨hmay, h⟩ | h
  · rw [h, onRail_self hf]
    exact .inl ⟨hst, .inl hst⟩
  · rw [h]
    exact .inl ⟨(startOne_self hf).1, .inr hmay⟩
  · rw [h]
    exact .inr rfl

theorem startRail_changes (r : Nat) : ChangesOnly startParts s (s.startRail r) :=
  ((startOne_changes r).trans (startFollower_changes _)).mono (by decide)

theorem startRail_awake (hmode : s.plinth.mode ≠ .doze) (r : Nat) : ChangesOnly [.arm, .logs] s (s.startRail r) := by
  have hone := startOne_awake hmode r
  exact (hone.trans (startFollower_awake (by rwa [hone.mode (by decide)]) _)).mono (by decide)

theorem startRail_mode (s : State) (r : Nat) : (s.startRail r).plinth.mode = s.plinth.mode ∨
    (s.startRail r).plinth.mode = .run := by
  rw [startRail_eq]
  rcases startFollower_mode (s.startOne r) (otherRail r) with h | h
  · rw [h]
    exact startOne_mode s r
  · exact .inr h

theorem startRail_vdrvOk (s : State) (r : Nat) : (s.startRail r).arm.vdrvOk = s.arm.vdrvOk := by
  rw [startRail_eq, startFollower_vdrvOk, startOne_vdrvOk]

theorem startRail_self (hr : r < 2) : ((s.startRail r).rail r).st = .starting ∧ ((s.startRail r).rail r).autoPend = false := by
  rw [startRail_eq, startFollower_other (by unfold otherRail; omega)]
  exact startOne_self hr

end Sys2Proof.Machine
end

section
/-! PROOFS. The pickups of a restart: the rails at P3, an autostart that waits, a channel's return, the commit of a long darkness;
and the statement on them. -/

namespace Sys2Proof.Machine

variable {s t u : State} {r q : Nat}

/-! ### The supplies of a rail -/

theorem railSupply_congr (hpower : t.power = s.power) (hvdrv : t.arm.vdrvOk = s.arm.vdrvOk) : t.railSupply = s.railSupply := by
  unfold State.railSupply State.busFullHigh
  rw [hpower, hvdrv]

theorem startRail_supply (s : State) (r : Nat) : (s.startRail r).railSupply = s.railSupply :=
  railSupply_congr ((startRail_changes r).power (by decide)) (startRail_vdrvOk s r)

theorem mayStart_supply (h : s.mayStart r = true) : s.railSupply = true := by
  unfold State.mayStart at h
  simp only [Bool.and_eq_true] at h
  exact h.1.2

/-! ### P3 (R480, R482) -/

/-- What P3 does at one rail. -/
theorem autostart_cases (s : State) (r : Nat) : s.autostart r = s ∨
    (s.ganged r = true ∧ s.autostart r = s.gangOrder r 1) ∨ (s.mayStart r = true ∧ s.autostart r = s.startRail r) ∨
      (s.railSupply = false ∧ s.autostart r = s.onRail r fun x => { x with autoPend := true }) := by
  unfold State.autostart
  split
  · exact .inl rfl
  split
  next hgang =>
    split
    · exact .inr (.inl ⟨hgang, rfl⟩)
    · exact .inl rfl
  split
  next hmay => exact .inr (.inr (.inl ⟨hmay, rfl⟩))
  split
  · exact .inl rfl
  next hsupply => exact .inr (.inr (.inr ⟨by simpa using hsupply, rfl⟩))

theorem autostart_starts (hauto : s.autostarts r = true) (hgang : s.ganged r = false) (hmay : s.mayStart r = true) :
    s.autostart r = s.startRail r :=
  (if_neg (by simp [hauto])).trans ((if_neg (by simp [hgang])).trans (if_pos hmay))

theorem autostart_pends (hauto : s.autostarts r = true) (hgang : s.ganged r = false) (hsupply : s.railSupply = false) :
    s.autostart r = s.onRail r fun x => { x with autoPend := true } := by
  have hmay : ¬s.mayStart r = true := fun h => absurd ((mayStart_supply h).symm.trans hsupply) (by decide)
  exact (if_neg (by simp [hauto])).trans ((if_neg (by simp [hgang])).trans ((if_neg hmay).trans (if_neg (by simp [hsupply]))))

theorem autostart_skips (hst : (s.rail r).st ≠ .stopped) : s.autostart r = s := by
  refine if_pos ?_
  simp [State.autostarts, hst]

theorem autostart_changes (r : Nat) : ChangesOnly (.tab :: startParts) s (s.autostart r) := by
  rcases autostart_cases s r with h | ⟨-, h⟩ | ⟨-, h⟩ | ⟨-, h⟩
  · rw [h]
    exact .refl s
  · rw [h]
    exact (ChangesOnly.write [.tab] rfl).mono (by decide)
  · rw [h]
    exact (startRail_changes r).mono (by decide)
  · rw [h]
    exact (onRail_changes ..).mono (by decide)

/-- What P3 at one rail leaves for the other: the gang, the supplies, a mode that starts rails. -/
structure SameStarts (s t : State) : Prop where
  inTab : t.tab.inTab = s.tab.inTab
  lead : t.tab.lead = s.tab.lead
  supply : t.railSupply = s.railSupply
  mode : t.plinth.mode = s.plinth.mode ∨ t.plinth.mode = .run

theorem autostart_sameStarts (s : State) (r : Nat) : SameStarts s (s.autostart r) := by
  rcases autostart_cases s r with h | ⟨-, h⟩ | ⟨-, h⟩ | ⟨-, h⟩
  · rw [h]
    exact ⟨rfl, rfl, rfl, .inl rfl⟩
  · rw [h]
    exact ⟨rfl, rfl, rfl, .inl rfl⟩
  · have htab : (s.startRail r).tab = s.tab := (startRail_changes r).same .tab (by decide)
    rw [h]
    exact ⟨by rw [htab], by rw [htab], startRail_supply s r, startRail_mode s r⟩
  · rw [h]
    exact ⟨rfl, rfl, rfl, .inl rfl⟩

/-- P3 at a rail starts the other with it, or leaves its record. -/
theorem autostart_other (hr : r < 2) (hq : q = otherRail r) :
    (s.railSupply = true ∧ ((s.autostart r).rail q).st = .starting) ∨ (s.autostart r).rail q = s.rail q := by
  have hne : q ≠ r := by
    unfold otherRail at hq
    omega
  rcases autostart_cases s r with h | ⟨-, h⟩ | ⟨hmay, h⟩ | ⟨-, h⟩
  · rw [h]
    exact .inr rfl
  · rw [h]
    exact .inr rfl
  · rw [h, startRail_eq, ← hq]
    rcases startFollower_self (s := s.startOne r) (f := q) (by unfold otherRail at hq; omega) with ⟨hst, -⟩ | hsame
    · exact .inl ⟨mayStart_supply hmay, hst⟩
    · rw [hsame, startOne_other hne]
      exact .inr rfl
  · rw [h, onRail_other hne]
    exact .inr rfl

/-- What P3 is to bring about at a rail. -/
def State.PickedUp (s t : State) (r : Nat) : Prop :=
  (s.mayStart r = true → (t.rail r).st = .starting) ∧
    (s.railSupply = false → (t.rail r).autoPend = true ∧ (t.rail r).st = .stopped)

theorem autostart_picksUp (hr : r < 2) (hauto : s.autostarts r = true) (hgang : s.ganged r = false) :
    s.PickedUp (s.autostart r) r := by
  refine ⟨fun hmay => ?_, fun hsupply => ?_⟩
  · rw [autostart_starts hauto hgang hmay]
    exact (startRail_self hr).1
  · have hst : (s.rail r).st = .stopped := by
      unfold State.autostarts at hauto
      simp only [Bool.and_eq_true, beq_iff_eq] at hauto
      exact hauto.1.2
    rw [autostart_pends hauto hgang hsupply, onRail_self hr]
    exact ⟨rfl, hst⟩

/-- P3 at the other rail, after it. -/
theorem State.PickedUp.autostart (h : s.PickedUp t r) (hr : r < 2) (hsupply : t.railSupply = s.railSupply)
    (hq : q = otherRail r) : s.PickedUp (t.autostart q) r := by
  obtain ⟨hstarts, hpends⟩ := h
  have hback : r = otherRail q := by
    unfold otherRail at hq ⊢
    omega
  have hqlt : q < 2 := by
    unfold otherRail at hq
    omega
  rcases autostart_other (s := t) hqlt hback with ⟨hpowered, hst⟩ | hsame
  · exact ⟨fun _ => hst, fun hnone => absurd (hnone.symm.trans (hsupply.symm.trans hpowered)) (by decide)⟩
  · rw [State.PickedUp, hsame]
    exact ⟨hstarts, hpends⟩

/-- P3 at the other rail, before it. -/
theorem autostart_picksUp_after (hr : r < 2) (hq : q = otherRail r) (hauto : s.autostarts r = true)
    (hgang : s.ganged r = false) : s.PickedUp ((s.autostart q).autostart r) r := by
  have hback : r = otherRail q := by
    unfold otherRail at hq ⊢
    omega
  have hqlt : q < 2 := by
    unfold otherRail at hq
    omega
  have hchanges := autostart_changes (s := s) q
  have hsame := autostart_sameStarts s q
  have hparam := hchanges.param (by decide) (by decide)
  have hother := autostart_other (s := s) hqlt hback
  generalize s.autostart q = v at *
  rcases hother with ⟨hpowered, hst⟩ | hrail
  · rw [autostart_skips (by rw [hst]; decide)]
    exact ⟨fun _ => hst, fun hnone => absurd (hnone.symm.trans hpowered) (by decide)⟩
  · have hexists : v.railExists r = s.railExists r := by
      unfold State.railExists State.merged
      rw [isOn_congr hparam]
    have hmay : s.mayStart r = true → v.mayStart r = true := fun h => by
      unfold State.mayStart at h ⊢
      simp only [Bool.and_eq_true] at h ⊢
      obtain ⟨⟨⟨⟨⟨hex, hen⟩, hov⟩, hfault⟩, hsup⟩, hmode⟩ := h
      refine ⟨⟨⟨⟨⟨by rw [hexists, hex], by rw [isOn_congr hparam, hen]⟩, by rw [hrail, hov]⟩, by rw [hrail, hfault]⟩,
        by rw [hsame.supply, hsup]⟩, ?_⟩
      rcases hsame.mode with h | h
      · rw [h, hmode]
      · rw [h]
        rfl
    have hauto' : v.autostarts r = true := by
      unfold State.autostarts at hauto ⊢
      rw [hexists, isOn_congr hparam, hrail, hchanges.same .config (by decide)]
      exact hauto
    have hgang' : v.ganged r = false := by
      unfold State.ganged State.carries State.carriedBy at hgang ⊢
      rw [hsame.inTab, hsame.lead, hparam, hparam]
      exact hgang
    obtain ⟨hstarts, hpends⟩ := autostart_picksUp hr hauto' hgang'
    exact ⟨fun h => hstarts (hmay h), fun h => hpends (hsame.supply.trans h)⟩

theorem railPickup_acts (hst : s.life.st = .pickup) (hrun : s.seqRuns = true) (hup : s.life.railsUp = false) :
    ∃ t, exec .railPickup s = .next t ∧ t.life = { s.life with railsUp := true } ∧
      (∀ r : Fin 2, s.autostarts r.val = true → s.ganged r.val = false →
        (s.mayStart r.val = true → (t.rail r.val).st = .starting) ∧
        (s.railSupply = false → (t.rail r.val).autoPend = true ∧ (t.rail r.val).st = .stopped)) ∧
      t.sw = s.sw ∧ t.power = s.power := by
  have hpickup : s.inPickup = true := by
    unfold State.inPickup
    rw [hst]
  let started := (s.autostart 0).autostart 1
  have hexec : exec .railPickup s = .next { started with life := { started.life with railsUp := true } } :=
    congrArg Host.Outcome.next (if_pos (by simp [hpickup, hrun, hup]))
  have hchanges : ChangesOnly (.tab :: startParts) s started :=
    ((autostart_changes 0).trans (autostart_changes 1)).mono (by decide)
  have hpicked : ∀ r : Fin 2, s.autostarts r.val = true → s.ganged r.val = false → s.PickedUp started r.val := by
    intro r hauto hgang
    match r, hauto, hgang with
    | 0, hauto, hgang =>
      exact State.PickedUp.autostart (autostart_picksUp (by decide) hauto hgang) (by decide)
        (autostart_sameStarts s 0).supply rfl
    | 1, hauto, hgang => exact autostart_picksUp_after (by decide) rfl hauto hgang
  have hlife : started.life = s.life := hchanges.same .life (by decide)
  clear_value started
  exact ⟨_, hexec, by rw [hlife], fun r hauto hgang => hpicked r hauto hgang, hchanges.same .sw (by decide),
    hchanges.same .power (by decide)⟩

theorem autostartPending_acts {r : Fin 2} (hpend : (s.rail r.val).autoPend = true) (hmay : s.mayStart r.val = true) :
    ∃ t, exec (.autostartPending r) s = .next t ∧ (t.rail r.val).st = .starting ∧ (t.rail r.val).autoPend = false ∧
      (s.plinth.mode = .doze ∨ t = { s.withLogs t with arm := t.arm }) := by
  obtain ⟨hst, hgone⟩ := startRail_self (s := s) r.isLt
  refine ⟨_, congrArg Host.Outcome.next (if_pos (by simp [hpend, hmay])), hst, hgone, ?_⟩
  by_cases hmode : s.plinth.mode = .doze
  · exact .inl hmode
  · exact .inr (startRail_awake hmode r.val).eq_copy

/-! ### P4 and P5 (R480) -/

/-- SHUTDOWN cleared on a channel. -/
def State.unshut (s : State) (c : Nat) : State := s.onChan c fun h => { h with shut := false }

theorem refresh_shut (s : State) (c : Nat) (fresh : Bool) (j : Nat) :
    ((s.refresh c fresh).chan j).shut = (s.chan j).shut := by
  have hopen : ∀ v : State, ((v.openWindow (s.lead c)).chan j).shut = (v.chan j).shut := fun v =>
    onChan_keeps Chan.shut (fun h => by dsimp only; split <;> rfl) ..
  unfold State.refresh
  dsimp only
  split
  · rfl
  split
  · rfl
  split
  · rw [hopen, latch_keeps Chan.shut fun _ => rfl]
  · exact latch_keeps Chan.shut (fun _ => rfl) ..

theorem pickup_shut (s : State) (c j : Nat) : ((s.pickup c).chan j).shut = (s.chan j).shut := by
  unfold State.pickup
  extract_lets busy
  split
  · rfl
  cases busy with
  | true => rfl
  | false =>
    rw [if_neg Bool.false_ne_true, refresh_shut]
    rfl

/-- A channel's return, before the last pickup is looked for. -/
def State.pickedUp (s : State) (c : Nat) : State := (s.unshut c).pickup c

theorem pickedUp_changes (c : Nat) : ChangesOnly [.sw] s (s.pickedUp c) :=
  ((onChan_changes ..).trans (pickup_changes c)).mono (by decide)

theorem pickedUp_self {c : Nat} (hc : c < 16) : ((s.pickedUp c).chan c).shut = false := by
  rw [State.pickedUp, pickup_shut, State.unshut, onChan_self hc]

theorem pickedUp_other {c d : Nat} (hd : d ≠ c) : ((s.pickedUp c).chan d).shut = (s.chan d).shut := by
  rw [State.pickedUp, pickup_shut, State.unshut, onChan_chan, if_neg fun h => hd h.1]

theorem unshut_demandOf (s : State) (c : Nat) : (s.unshut c).demandOf = s.demandOf :=
  onChan_demandOf_of_kept c fun _ => rfl

theorem pickedUp_demandOf (s : State) (c : Nat) : (s.pickedUp c).demandOf = s.demandOf := by
  funext d
  rw [State.pickedUp, (pickup_keeps ..).2, unshut_demandOf]

theorem pickupsDone_changes : ChangesOnly [.life] s s.pickupsDone := .elseOnly (.write _ rfl)

/-- The last pickup ends the restart. -/
theorem pickupsDone_ends (hst : s.life.st = .pickup) (hup : s.life.railsUp = true) (hshelf : s.life.shelfPend = false)
    (hall : ∀ c ∈ List.range s.chans, (s.chan c).shut = false) : s.pickupsDone.life.st = .running := by
  have hpickup : s.inPickup = true := by
    unfold State.inPickup
    rw [hst]
  have hnone : (List.range s.chans).any (fun c => (s.chan c).shut) = false := by simpa using hall
  unfold State.pickupsDone
  rw [hpickup, hup, hnone, if_neg (by decide)]
  simp [hst, hshelf]

theorem channelPickup_acts {c : Fin 16} (hbus : s.power.busQ = true) (hrun : s.seqRuns = true) (hst : s.life.st = .pickup)
    (hshut : (s.chan c.val).shut = true) : ∃ t, exec (.channelPickup c) s = .next t ∧ (t.chan c.val).shut = false ∧
      (∀ d : Fin 16, (t.chan d.val).demand = (s.chan d.val).demand) ∧
      (s.life.railsUp = true → s.life.shelfPend = false →
        (∀ d ∈ List.range s.chans, d ≠ c.val → (s.chan d).shut = false) → t.life.st = .running) ∧
      t = { s with sw := t.sw, life := t.life } := by
  have hbegun : s.shutBegun = false := by
    unfold State.shutBegun
    rw [hst]
    rfl
  have hexec : exec (.channelPickup c) s = .next (s.pickedUp c.val).pickupsDone :=
    congrArg Host.Outcome.next ((if_neg (by simp [hbus, hbegun, hrun, hst])).trans
      (congrArg State.pickupsDone (if_pos hshut)))
  have hpicked := pickedUp_changes (s := s) c.val
  have hdone := pickupsDone_changes (s := s.pickedUp c.val)
  have hlife : (s.pickedUp c.val).life = s.life := hpicked.life (by decide)
  refine ⟨_, hexec, ?_, fun d => ?_, fun hup hshelf hothers => pickupsDone_ends ?_ ?_ ?_ fun d hd => ?_,
    ((hpicked.trans hdone).mono (qs := [.sw, .life]) (by decide)).eq_copy⟩
  · rw [hdone.chan (by decide), pickedUp_self c.isLt]
  · rw [hdone.chan (by decide)]
    exact congrFun (pickedUp_demandOf s c.val) d.val
  · rw [hlife, hst]
  · rw [hlife, hup]
  · rw [hlife, hshelf]
  · by_cases hdc : d = c.val
    · rw [hdc, pickedUp_self c.isLt]
    · rw [pickedUp_other hdc]
      exact hothers d (by rwa [hpicked.chans (by decide)] at hd) hdc

/-! ### Long darkness (R488) -/

theorem floorEssentialCommit_acts {mv : Nat} (hst : s.life.st = .down) (hpath : s.power.path = .onSto)
    (hmv : mv ≤ s.param P.pwrStoFloorMv + 100) : ∃ t, exec (.floorEssentialCommit mv) s = .next t ∧ t.nvm = t.ctr ∧
      t.sw = s.sw ∧ t.life = s.life ∧ (∀ r ∈ t.patina.ram, r.pinned = false) := by
  have hexec : exec (.floorEssentialCommit mv) s = .next ((s.setSto mv).admitAll.commitRecords .essential 0) :=
    congrArg Host.Outcome.next (if_pos ⟨hst, hpath, hmv⟩)
  have hbefore := (setSto_changes (s := s) mv).trans admitAll_changes
  generalize (s.setSto mv).admitAll = v at *
  obtain ⟨-, hnvm, hram, hrecords⟩ := commitRecords_acts v .essential 0
  have hall := hbefore.trans hrecords
  refine ⟨_, hexec, hnvm, hall.same .sw (by decide), hall.same .life (by decide), fun r hr => ?_⟩
  rw [hram] at hr
  simpa using (List.mem_filter.1 hr).2

/-- Settles O49: each command by its lemma above. -/
theorem pickupsBringTheLoadBack : Obligations.PickupsBringTheLoadBack := by
  unfold Obligations.PickupsBringTheLoadBack
  intro s
  exact ⟨fun hst hrun hup => railPickup_acts hst hrun hup, fun r hpend hmay => autostartPending_acts hpend hmay,
    fun c hbus hrun hst hshut => channelPickup_acts hbus hrun hst hshut,
    fun c hbegun => ⟨s, congrArg Host.Outcome.next (if_pos (by simp [hbegun])), rfl⟩,
    fun hbus => ⟨_, congrArg Host.Outcome.next (if_pos hbus), rfl⟩,
    fun mv hst hpath hmv => floorEssentialCommit_acts hst hpath hmv⟩

end Sys2Proof.Machine
end

section
/-! PROOFS. An NFC reader: activation, the two applications, the files, the loss of the field, and the statement on them. -/

namespace Sys2Proof.Machine

variable {s t u : State}

/-! ### The end of a session over NFC (R422, R427) -/

/-- What the end of a session over NFC leaves of the NFC record. -/
def Nfc.released (n : Nfc) : Nfc := { n with sessionRes := false, fieldOnly := false }

/-- A session that ends with the field writes its port's queues and the NFC record's reservation. -/
theorem dropSession_field (s : State) (x : Session) : (s.dropSession .nfc x 6).nfc = s.nfc.released ∧
    ((s.dropSession .nfc x 6).port .nfc).pend = (s.port .nfc).pend := by
  unfold State.dropSession
  extract_lets s1 s2 s4 old s3
  have hport : (s1.port .nfc).pend = (s.port .nfc).pend := by rw [onPort_port_same]
  have hfreed : s4.camyx = s2.camyx ∧ s4.nfc = s.nfc := by
    show (if _ then _ else _ : State).camyx = _ ∧ (if _ then _ else _ : State).nfc = _
    split
    · exact ⟨rfl, rfl⟩
    · exact ⟨rfl, rfl⟩
  have hended : s3.camyx = s2.camyx ∧ s3.nfc = s.nfc.released := by
    have htaken : s3 = { s4 with nfc := { s4.nfc with sessionRes := false, fieldOnly := false } } :=
      if_pos ⟨rfl, by decide⟩
    rw [htaken, hfreed.2]
    exact ⟨hfreed.1, rfl⟩
  refine ⟨Eq.trans ((raiseP_changes ..).same .nfc (by decide)) hended.2, ?_⟩
  rw [(raiseP_changes ..).port (by decide), ← hport]
  unfold State.port
  rw [hended.1]
  rfl

theorem endSession_field (s : State) : ((s.endSession .nfc 6).port .nfc).est = none ∧
    ((s.endSession .nfc 6).port .nfc).pend = (s.port .nfc).pend ∧
    ((s.endSession .nfc 6).nfc = s.nfc.released ∨ (s.endSession .nfc 6).nfc = s.nfc) := by
  cases hest : (s.port .nfc).est with
  | some x =>
    obtain ⟨hnfc, hpend⟩ := dropSession_field (s.onPort .nfc fun p => { p with est := none }) x
    refine ⟨(endSession_ends hest 6).1, ?_, ?_⟩
    · rw [endSession_of_est hest, hpend, onPort_port_same]
    · rw [endSession_of_est hest, hnfc]
      exact .inl rfl
  | none =>
    have hkept : s.endSession .nfc 6 = s := by
      unfold State.endSession
      rw [hest]
    rw [hkept]
    exact ⟨hest, rfl, .inr rfl⟩

/-- The port of the session cleared of what is pending. -/
def State.nfcCut (s : State) : State :=
  { s.onPort .nfc fun p => { p with pend := none, parts := [] } with
    camyx := { (s.onPort .nfc fun p => { p with pend := none, parts := [] }).camyx with apdu := false } }

/-- The NFC record without what was reserved for its session. -/
def State.nfcFreed (s : State) : State := { s.nfcRelease with nfc := { s.nfcRelease.nfc with fieldOnly := false } }

theorem nfcSessionEnd_eq (s : State) : s.nfcSessionEnd = (s.nfcCut.endSession .nfc 6).nfcFreed := rfl

theorem nfcFreed_acts (s : State) : ChangesOnly [.ledger, .nfc] s s.nfcFreed ∧ s.nfcFreed.nfc = s.nfc.released := by
  unfold State.nfcFreed State.nfcRelease
  split
  · exact ⟨.write _ rfl, rfl⟩
  next hfree =>
    have hres : s.nfc.sessionRes = false := by simpa using hfree
    refine ⟨.write _ rfl, ?_⟩
    unfold Nfc.released
    rw [← hres]

theorem nfcSessionEnd_acts (s : State) : (s.nfcSessionEnd.port .nfc).est = none ∧ (s.nfcSessionEnd.port .nfc).pend = none ∧
    s.nfcSessionEnd.nfc = s.nfc.released ∧ ChangesOnly [.camyx, .ledger, .nfc, .logs] s s.nfcSessionEnd := by
  have hcut : ChangesOnly [.camyx] s s.nfcCut := .write _ rfl
  have hpend : (s.nfcCut.port .nfc).pend = none :=
    congrArg Port.pend (onPort_port_same s .nfc fun p => { p with pend := none, parts := [] })
  have hnfc : s.nfcCut.nfc = s.nfc := rfl
  rw [nfcSessionEnd_eq]
  obtain ⟨hest, hkept, hreleased⟩ := endSession_field s.nfcCut
  have hended := endSession_changes (s := s.nfcCut) .nfc 6
  generalize s.nfcCut.endSession .nfc 6 = v at *
  obtain ⟨hfreed, hrecord⟩ := nfcFreed_acts v
  refine ⟨?_, ?_, ?_, ((hcut.trans hended).trans hfreed).mono (by decide)⟩
  · rw [hfreed.port (by decide), hest]
  · rw [hfreed.port (by decide), hkept, hpend]
  · rw [hrecord]
    rcases hreleased with h | h
    · rw [h, hnfc]
      rfl
    · rw [h, hnfc]

/-! ### Activation (R419, R420) -/

/-- The state with the rectifier's voltage read. -/
def State.rectified (s : State) (mv : Nat) : State := { s with power := { s.power with fieldMv := mv } }

theorem rectified_answers {mv : Nat} (hpath : s.power.path ≠ .shelf) (hmv : 2200 ≤ mv) :
    (s.rectified mv).fieldAnswers = true := by
  simp [State.fieldAnswers, State.rectified, hpath, hmv]

/-- A request answered with ATQA. -/
def State.requested (s : State) : State := { s with nfc := { s.nfc with st := .ready, out := [0x04#8, 0x00#8] } }

theorem exec_nfcReqa {mv : Nat} (hpath : s.power.path ≠ .shelf) (hmv : 2200 ≤ mv) :
    exec (.nfcReqa mv) s = .next (s.rectified mv).nfcId.requested :=
  congrArg Host.Outcome.next (if_neg (by
    show ¬(!(s.rectified mv).fieldAnswers) = true
    rw [rectified_answers hpath hmv]
    decide))

theorem nfcId_present (h : s.nfc.nfcid ≠ []) : s.nfcId = s := if_neg (by simpa using h)

theorem nfcId_drawn (h : s.nfc.nfcid = []) : s.nfcId = { s with
    nfc := { s.nfc with nfcid := 0x08#8 :: (List.range 3).map fun i => Sys2Proof.Config.trngByte (s.free + i) }
    free := s.free + 3 } := if_pos (by rw [h]; rfl)

theorem nfcReqa_drawn {mv : Nat} (hpath : s.power.path ≠ .shelf) (hmv : 2200 ≤ mv) (hid : s.nfc.nfcid = []) :
    ∃ t, exec (.nfcReqa mv) s = .next t ∧
      t.nfc = { s.nfc with st := .ready, out := [0x04#8, 0x00#8], nfcid := t.nfc.nfcid } ∧
      t.nfc.nfcid.length = 4 ∧ t.nfc.nfcid.head? = some 0x08#8 ∧
      t = { s with nfc := t.nfc, power := { s.power with fieldMv := mv }, free := s.free + 3 } := by
  rw [exec_nfcReqa hpath hmv, nfcId_drawn (s := s.rectified mv) hid]
  exact ⟨_, rfl, rfl, by simp [State.requested], rfl, rfl⟩

theorem nfcReqa_silent {mv : Nat} (h : s.power.path = .shelf ∨ mv < 2200) :
    exec (.nfcReqa mv) s = .next { s with power := { s.power with fieldMv := mv } } := by
  have hnot : (s.rectified mv).fieldAnswers = false := by
    unfold State.fieldAnswers State.rectified
    rcases h with h | h
    · simp [h]
    · simp [Nat.not_le.2 h]
  exact congrArg Host.Outcome.next (if_pos (by
    show (!(s.rectified mv).fieldAnswers) = true
    rw [hnot]
    rfl))

/-- A command of the protocol that is not answered is noted (R420). -/
theorem protoErr_acts (hon : s.plinthOn = true) : ∃ t, (s.nfcOut []).protoErr = t ∧ t.holds Ev.nfcProtoErr = true ∧
    t = { s.withLogs t with nfc := { s.nfc with out := [] } } := by
  have hraise : (s.nfcOut []).protoErr = (s.nfcOut []).raiseP Ev.nfcProtoErr 0 0 := if_pos hon
  rw [hraise]
  exact ⟨_, rfl, raiseP_holds .., (raiseP_changes ..).eq_copy⟩

theorem nfcRats_refused {p : Byte} (hst : s.nfc.st = .active) (hfield : s.fieldAnswers = true)
    (hparam : p.toNat % 16 ≠ 0 ∨ 8 < p.toNat / 16) (hon : s.plinthOn = true) : ∃ t, exec (.nfcRats p) s = .next t ∧
      t.holds Ev.nfcProtoErr = true ∧ t = { s.withLogs t with nfc := { s.nfc with out := [] } } := by
  obtain ⟨t, ht, hacts⟩ := protoErr_acts hon
  refine ⟨t, congrArg Host.Outcome.next ((if_neg (by simp [hst, hfield])).trans ((if_neg ?_).trans ht)), hacts⟩
  rintro ⟨hcid, hfsdi⟩
  rcases hparam with h | h
  · exact h hcid
  · exact absurd hfsdi (by omega)

theorem nfcPps_refused {p : Byte} (hst : s.nfc.st = .isoDep) (hparam : p.toNat % 16 ≠ 0) (hon : s.plinthOn = true) :
    ∃ t, exec (.nfcPps p) s = .next t ∧ t.holds Ev.nfcProtoErr = true ∧
      t = { s.withLogs t with nfc := { s.nfc with out := [] } } := by
  obtain ⟨t, ht, hacts⟩ := protoErr_acts hon
  exact ⟨t, congrArg Host.Outcome.next ((if_neg (by simp [hst])).trans ((if_neg hparam).trans ht)), hacts⟩

/-! ### Applications and files (R422, R423) -/

theorem exec_appSelect {b : List Byte} (hst : s.nfc.st = .isoDep) (hlive : s.portLive .nfc = true) :
    exec (.appSelect b) s = .next (s.selectApdu b) :=
  congrArg Host.Outcome.next ((if_neg (by simp [hst])).trans (if_pos hlive))

theorem selectApdu_camyx (s : State) : s.selectApdu ([0x00#8, 0xA4#8, 0x04#8, 0x00#8, 0x07#8] ++ aidCamyx) =
    { s with nfc := { s.nfc with app := .camyx, file := 0, out := [0x90#8, 0x00#8] } } := by
  unfold State.selectApdu
  dsimp only
  rw [if_neg (by decide), if_pos (by decide)]
  rfl

/-- The Type 4 Tag application selected. -/
def State.type4Selected (s : State) : State :=
  { s.nfcSessionEnd with nfc := { s.nfcSessionEnd.nfc with app := .type4, file := 0, out := [0x90#8, 0x00#8] } }

theorem selectApdu_type4 (s : State) :
    s.selectApdu ([0x00#8, 0xA4#8, 0x04#8, 0x00#8, 0x07#8] ++ aidType4) = s.type4Selected := by
  unfold State.selectApdu
  dsimp only
  rw [if_pos (by decide)]
  rfl

theorem appSelect_type4 (hst : s.nfc.st = .isoDep) (hlive : s.portLive .nfc = true) :
    ∃ t, exec (.appSelect ([0x00#8, 0xA4#8, 0x04#8, 0x00#8, 0x07#8] ++ aidType4)) s = .next t ∧
      t.nfc.app = .type4 ∧ t.nfc.file = 0 ∧ t.nfc.out = [0x90#8, 0x00#8] ∧ (t.port .nfc).est = none ∧
      t = { s.withLogs t with ledger := t.ledger, camyx := t.camyx, nfc := t.nfc } := by
  obtain ⟨hest, -, -, hchanges⟩ := nfcSessionEnd_acts s
  refine ⟨s.type4Selected, (exec_appSelect hst hlive).trans (congrArg _ (selectApdu_type4 s)), rfl, rfl, rfl, hest, ?_⟩
  exact ((hchanges.trans (ChangesOnly.write (t := s.type4Selected) [.nfc] rfl)).mono
    (qs := [.ledger, .camyx, .nfc, .logs]) (by decide)).eq_copy

theorem exec_readBinary {f : BitVec 16} {off len : Nat} (hst : s.nfc.st = .isoDep) (hlive : s.portLive .nfc = true)
    (hfile : f.toNat = s.nfc.file) : exec (.readBinary f off len) s = .next (s.readFile off len) :=
  congrArg Host.Outcome.next ((if_neg (by simp [hst])).trans ((if_neg (by simp [hlive])).trans (if_pos hfile)))

/-- The content of the file that is selected. -/
def State.fileContent (s : State) : List Byte := if s.nfc.file = 0xE103 then capability else s.nfc.ndef

/-- Bytes of the file selected on the carrier. -/
def State.fileAnswered (s : State) (off len : Nat) : State :=
  s.nfcOut ((s.fileContent.drop off).take (min len 255) ++ [0x90#8, 0x00#8])

theorem readFile_within {off : Nat} (len : Nat) (happ : s.nfc.app = .type4) (hfile : s.nfc.file ≠ 0)
    (hoff : off < s.fileContent.length) : s.readFile off len =
      if s.nfc.file = 0xE104 then (s.fileAnswered off len).raiseP Ev.ndefRead 0 0 else s.fileAnswered off len :=
  (if_neg (by simp [happ, hfile])).trans (if_neg (Nat.not_le.2 hoff))

theorem readFile_capability {off : Nat} (len : Nat) (happ : s.nfc.app = .type4) (hfile : s.nfc.file = 0xE103)
    (hoff : off < 15) : s.readFile off len =
      { s with nfc := { s.nfc with out := (capability.drop off).take (min len 255) ++ [0x90#8, 0x00#8] } } := by
  have hlength : capability.length = 15 := by decide
  have hcontent : s.fileContent = capability := if_pos hfile
  rw [readFile_within len happ (by omega) (by rw [hcontent]; omega), if_neg (by omega), State.fileAnswered, hcontent]
  rfl

/-- Bytes of the NDEF file on the carrier. -/
def State.ndefAnswered (s : State) (off len : Nat) : State :=
  s.nfcOut ((s.nfc.ndef.drop off).take (min len 255) ++ [0x90#8, 0x00#8])

theorem readFile_ndef {off : Nat} (len : Nat) (happ : s.nfc.app = .type4) (hfile : s.nfc.file = 0xE104)
    (hoff : off < s.nfc.ndef.length) : s.readFile off len = (s.ndefAnswered off len).raiseP Ev.ndefRead 0 0 := by
  have hcontent : s.fileContent = s.nfc.ndef := if_neg (by omega)
  rw [readFile_within len happ (by omega) (by rwa [hcontent]), if_pos hfile, State.fileAnswered, hcontent]
  rfl

/-! ### The field is lost (R427) -/

/-- The NFC domain without its field. -/
def State.fieldGone (s : State) : State :=
  { s with
    nfc := { s.nfc with st := .idle, app := .none, file := 0, ndef := [], fsd := 0, nfcid := [], out := [], held := none }
    power := { s.power with fieldUw := 0, fieldMv := 0 }
    harvest := { s.harvest with nfc := false, nfcUw := 0 } }

/-- The sessions of the field counted. -/
def State.sessionsCounted (s : State) : State :=
  { s with
    ctr := { s.ctr with nfcSessions := wrapAdd 32 s.ctr.nfcSessions s.nfc.opened }
    nfc := { s.nfc with opened := 0 } }

theorem exec_fieldLost (hon : s.plinthOn = true) :
    exec .fieldLost s = .next s.fieldGone.nfcSessionEnd.sessionsCounted :=
  congrArg Host.Outcome.next (if_neg (by simp [hon]))

theorem fieldLost_acts (hon : s.plinthOn = true) : ∃ t, exec .fieldLost s = .next t ∧ t.nfc.st = .idle ∧
    t.nfc.app = .none ∧ t.nfc.nfcid = [] ∧ t.nfc.opened = 0 ∧ (t.port .nfc).est = none ∧ (t.port .nfc).pend = none ∧
    t.ctr = { s.ctr with nfcSessions := wrapAdd 32 s.ctr.nfcSessions s.nfc.opened } ∧
    t = { s.withLogs t with
      power := { s.power with fieldUw := 0, fieldMv := 0 }
      harvest := { s.harvest with nfc := false, nfcUw := 0 }
      ledger := t.ledger, camyx := t.camyx, nfc := t.nfc, ctr := t.ctr } := by
  obtain ⟨hest, hpend, hnfc, hchanges⟩ := nfcSessionEnd_acts s.fieldGone
  rw [exec_fieldLost hon]
  generalize s.fieldGone.nfcSessionEnd = v at *
  have hopened : v.nfc.opened = s.nfc.opened := (congrArg Nfc.opened hnfc).trans rfl
  have hctr : v.ctr = s.ctr := hchanges.same .ctr (by decide)
  refine ⟨_, rfl, (congrArg Nfc.st hnfc).trans rfl, (congrArg Nfc.app hnfc).trans rfl, (congrArg Nfc.nfcid hnfc).trans rfl, rfl,
    hest, hpend, ?_, ?_⟩
  · unfold State.sessionsCounted
    rw [hctr, hopened]
  · exact ((hchanges.trans (ChangesOnly.write (t := v.sessionsCounted) [.ctr, .hoCount, .nfc] rfl)).mono
      (qs := [.ledger, .camyx, .nfc, .ctr, .hoCount, .logs]) (by decide)).eq_copy

/-- Settles O23: each command by its lemmas above. -/
theorem nfcReaderCommandsAct : Obligations.NfcReaderCommandsAct := by
  unfold Obligations.NfcReaderCommandsAct
  intro s
  refine ⟨fun mv hpath hmv hid => ?reqa, fun mv hpath hmv hid => nfcReqa_drawn hpath hmv hid,
    fun mv hsilent => nfcReqa_silent hsilent,
    fun u hst hfield hid => congrArg Host.Outcome.next ((if_pos ⟨hst, hfield⟩).trans (if_pos hid)),
    fun u hst hfield hid => congrArg Host.Outcome.next ((if_pos ⟨hst, hfield⟩).trans (if_neg hid)),
    fun p hst hfield hcid hfsdi => congrArg Host.Outcome.next
      ((if_neg (by simp [hst, hfield])).trans (if_pos ⟨hcid, hfsdi⟩)),
    fun p hst hfield hparam hon => nfcRats_refused hst hfield hparam hon,
    fun p hst hparam => congrArg Host.Outcome.next ((if_neg (by simp [hst])).trans (if_pos hparam)),
    fun p hst hparam hon => nfcPps_refused hst hparam hon,
    fun hst hlive => (exec_appSelect hst hlive).trans (congrArg _ (selectApdu_camyx s)),
    fun hst hlive => appSelect_type4 hst hlive,
    fun off len hst hlive happ hfile hoff => (exec_readBinary (f := 0xE103#16) hst hlive hfile.symm).trans
      (congrArg _ (readFile_capability len happ hfile hoff)),
    fun off len hst hlive happ hfile hoff => ⟨_, (exec_readBinary (f := 0xE104#16) hst hlive hfile.symm).trans
      (congrArg _ (readFile_ndef len happ hfile hoff)), raiseP_holds .., (raiseP_changes ..).eq_copy⟩,
    fun hst hlive => congrArg Host.Outcome.next ((if_neg (by simp [hst])).trans (if_pos hlive)),
    fun hst hdead => congrArg Host.Outcome.next ((if_neg (by simp [hst])).trans (if_neg (by simp [hdead]))),
    fun hon => fieldLost_acts hon, fun hoff => congrArg Host.Outcome.next (if_pos (by simp [hoff]))⟩
  case reqa =>
    rw [exec_nfcReqa hpath hmv, nfcId_present (s := s.rectified mv) hid]
    rfl

end Sys2Proof.Machine
end

section
/-! PROOFS. A lead frame at a device that follows it: what it gives up, what it hears of the gang, and what its rails then do. -/

namespace Sys2Proof.Machine

variable {s t u : State} {r : Nat} {b : List Byte}

/-! ### What the lead's frame says stands to the end of the command -/

/-- The Tableau without what a member's own shares and transfers write. -/
def Tab.heard (x : Tab) : Tab :=
  { x with
    startPend := Vector.replicate 2 false, stopPend := Vector.replicate 2 false, devTrim := Vector.replicate 2 0
    bulkOut := [], framesOut := [], bulkIdx := 0, ptot := 0, skewMs := 0 }

/-- What the sources of the level and the pending starts of the shares read in both states alike. -/
structure HeardAlike (s t : State) : Prop where
  tab : t.tab.heard = s.tab.heard
  starts : ∀ r : Fin 2, s.tab.startPend[r] = true → t.tab.startPend[r] = true
  line : ∃ hit, t.line = { s.line with hit := hit }
  upMs : t.plinth.upMs = s.plinth.upMs
  config : t.config = s.config
  ident : t.ident = s.ident

namespace HeardAlike

theorem refl (s : State) : HeardAlike s s := ⟨rfl, fun _ h => h, ⟨_, rfl⟩, rfl, rfl, rfl⟩

theorem trans (h : HeardAlike s t) (k : HeardAlike t u) : HeardAlike s u := by
  refine ⟨k.tab.trans h.tab, fun r hr => k.starts r (h.starts r hr), ?_, k.upMs.trans h.upMs, k.config.trans h.config,
    k.ident.trans h.ident⟩
  obtain ⟨_, hline⟩ := h.line
  obtain ⟨hit, kline⟩ := k.line
  exact ⟨hit, by rw [kline, hline]⟩

/-- An operation on the Armature and the logs. -/
theorem of_changes {ps : List StatePart} (h : ChangesOnly ps s t) (htab : .tab ∉ ps) (hline : .line ∉ ps)
    (hplinth : .plinth ∉ ps) (hconfig : .config ∉ ps) (hident : .ident ∉ ps) : HeardAlike s t := by
  have hsame : t.tab = s.tab := h.same .tab htab
  exact ⟨by rw [hsame], fun r hr => by rw [hsame, hr], ⟨s.line.hit, h.same .line hline⟩,
    by rw [h.same .plinth hplinth], h.same .config hconfig, h.same .ident hident⟩

theorem of_arm (h : ChangesOnly [.arm, .ctr, .sw, .camyx, .ledger, .logs] s t) : HeardAlike s t :=
  of_changes h (by decide) (by decide) (by decide) (by decide) (by decide)

theorem pllEval (s : State) : HeardAlike s s.pllEval := ⟨rfl, fun _ h => h, ⟨_, rfl⟩, rfl, rfl, rfl⟩

theorem tb8Eval (s : State) : HeardAlike s s.tb8Eval := by
  rw [tb8Eval_eq]
  exact ⟨rfl, fun _ h => h, ⟨_, rfl⟩, rfl, rfl, rfl⟩

theorem ite {c : Prop} [Decidable c] (h : HeardAlike s t) (k : HeardAlike s u) : HeardAlike s (if c then t else u) := by
  split
  · exact h
  · exact k

theorem foldl {α : Type} {f : State → α → State} (hf : ∀ v x, HeardAlike v (f v x)) (l : List α) (s : State) :
    HeardAlike s (l.foldl f s) :=
  List.foldlRecOn (motive := HeardAlike s) l f (.refl s) fun v hv x _ => hv.trans (hf v x)

theorem param (h : HeardAlike s t) (id : Nat) : t.param id = s.param id := param_congr h.config h.ident id

/-- At a device that does not lead, the level that the sources give is the same. -/
theorem levelOf (h : HeardAlike s t) (hlead : s.tab.lead = false) : t.levelOf = s.levelOf := by
  obtain ⟨_, hline⟩ := h.line
  have hin : t.tab.inTab = s.tab.inTab := (congrArg Tab.inTab h.tab :)
  have hfollows : t.tab.lead = s.tab.lead := (congrArg Tab.lead h.tab :)
  have hlost : t.tab.leadLost = s.tab.leadLost := (congrArg Tab.leadLost h.tab :)
  have hat : t.tab.leadAt = s.tab.leadAt := (congrArg Tab.leadAt h.tab :)
  have hlevel : t.tab.level = s.tab.level := (congrArg Tab.level h.tab :)
  unfold State.levelOf State.droopCounts State.tabLevel
  rw [hin, hfollows, hlost, hat, hlevel, h.upMs, h.param, h.ident, hline, hlead]
  rfl

end HeardAlike

/-! ### The shares at a carrier (R409 to R411) -/

theorem pended_heardAlike (s : State) (r : Nat) :
    HeardAlike s { s with tab := { s.tab with startPend := upd s.tab.startPend r fun _ => true } } := by
  refine ⟨rfl, fun q hq => ?_, ⟨_, rfl⟩, rfl, rfl, rfl⟩
  show (upd s.tab.startPend r fun _ => true)[q.val] = true
  by_cases hqr : q.val = r
  · subst hqr
    exact upd_same _ _ _ q.isLt
  · exact (upd_other _ _ _ _ q.isLt hqr).trans hq

theorem clearOv_changes (r : Nat) : ChangesOnly [.arm, .logs] s (s.clearOv r) :=
  (onRail_changes ..).trans (clearE_changes _)

theorem toIdle_heardAlike (s : State) (r : Nat) : HeardAlike s (s.toIdle r) := by
  unfold State.toIdle
  refine .ite ?_ (.refl s)
  exact (HeardAlike.of_arm (((leaveFault_changes r).trans (onRail_changes ..)).mono (by decide))).trans (.pllEval _)

theorem faultNow_heardAlike (s : State) (r reason : Nat) : HeardAlike s (s.faultNow r reason) := by
  have hoff : ∀ f : Rail → Rail, HeardAlike s ((s.phasesOff r).onRail r f) := fun f =>
    .of_arm (((phasesOff_changes r).trans (onRail_changes ..)).mono (by decide))
  have hend : ∀ v : State, HeardAlike v (v.remap.leaderFault r) := fun v =>
    .of_arm ((remap_changes.trans (leaderFault_changes r)).mono (by decide))
  exact ((hoff _).trans (.pllEval _)).trans (hend _)

theorem railStop_heardAlike (s : State) (r reason detail : Nat) : HeardAlike s (s.railStop r reason detail) :=
  ((HeardAlike.of_arm ((capture_changes ..).mono (by decide))).trans (faultNow_heardAlike ..)).trans
    (.of_arm ((raiseC_changes ..).mono (by decide)))

theorem uncapture_changes (r : Nat) : ChangesOnly [.arm, .ctr] s (s.uncapture r) := .write _ rfl

theorem ovLatch_heardAlike (s : State) (r peak : Nat) : HeardAlike s (s.ovLatch r peak) := by
  have hleft : ∀ v : State, ChangesOnly [.logs] v (if (s.rail r).st = .faulted then v.leaveFault r else v) := fun v =>
    .thenOnly (leaveFault_changes r)
  have htaken : ∀ p d, ChangesOnly [.arm, .ctr, .logs] s
      ((if (s.rail r).st = .faulted then (s.uncapture r).leaveFault r else s.uncapture r).capture r 0x01 p d) := fun p d =>
    (((uncapture_changes r).trans (hleft _)).trans (capture_changes ..)).mono (by decide)
  have hoff : ∀ (v : State) (f : Rail → Rail), HeardAlike v ((v.phasesOff r).onRail r f).pllEval := fun v f =>
    (HeardAlike.of_arm (((phasesOff_changes r).trans (onRail_changes ..)).mono (by decide))).trans (.pllEval _)
  have hend : ∀ v : State, HeardAlike v ((v.remap.leaderFault r).raisePinC (Ev.outOv r) 0 0) := fun v =>
    .of_arm (((remap_changes.trans (leaderFault_changes r)).trans (raiseAs_changes ..)).mono (by decide))
  exact ((HeardAlike.of_arm ((htaken _ _).mono (by decide))).trans (hoff _ _)).trans (hend _)

theorem gangRail_heardAlike (s : State) (r old new reason : Nat) : HeardAlike s (s.gangRail r old new reason) := by
  have hstop : HeardAlike s { s with tab := { s.tab with stopPend := upd s.tab.stopPend r fun _ => true } } :=
    ⟨rfl, fun _ h => h, ⟨_, rfl⟩, rfl, rfl, rfl⟩
  unfold State.gangRail
  dsimp only
  refine .ite (.refl s) (.ite (toIdle_heardAlike s r) (.ite (.ite (.of_arm ((clearOv_changes r).mono (by decide))) (.refl s))
    (.ite (pended_heardAlike s r) (.ite hstop (.ite (.ite (.refl s) (ovLatch_heardAlike ..)) (.ite (.ite (.refl s)
      (.ite (railStop_heardAlike ..) (.of_arm ((softFault_changes ..).mono (by decide))))) (.ite (pended_heardAlike s r)
        (.refl s))))))))

theorem gangTrim_heardAlike (s : State) (r : Nat) (set : Int) : HeardAlike s (s.gangTrim r set) := by
  unfold State.gangTrim
  exact .ite (.refl s) ⟨rfl, fun _ h => h, ⟨_, rfl⟩, rfl, rfl, rfl⟩

theorem gangFollow_heardAlike (s : State) (r set vref : Nat) : HeardAlike s (s.gangFollow r set vref) := by
  have hfollow : ∀ f : Rail → Rail, HeardAlike s (s.onRail r f) := fun f => .of_arm ((onRail_changes ..).mono (by decide))
  exact (HeardAlike.ite (hfollow _) (.refl s)).trans (gangTrim_heardAlike ..)

theorem stopShares_heardAlike (s : State) : HeardAlike s s.stopShares :=
  .foldl (fun v r => .ite (.of_arm ((softStop_changes ..).mono (by decide))) (.refl v)) _ s

theorem sendBulk_heardAlike (s : State) : HeardAlike s s.sendBulk := by
  unfold State.sendBulk
  split
  · exact ⟨rfl, fun _ h => h, ⟨_, rfl⟩, rfl, rfl, rfl⟩
  · exact .refl s

theorem bulkWindow_heardAlike (s : State) (b : List Byte) : HeardAlike s (s.bulkWindow b) := by
  have hqueued : ∀ l, HeardAlike s { s with tab := { s.tab with bulkOut := l } } := fun l =>
    ⟨rfl, fun _ h => h, ⟨_, rfl⟩, rfl, rfl, rfl⟩
  unfold State.bulkWindow
  extract_lets mine tab s1
  have hfilled : HeardAlike s s1 := .ite (hqueued _) (.refl s)
  clear_value s1
  split
  · exact hfilled.trans (sendBulk_heardAlike s1)
  · exact hfilled

theorem respace_heardAlike (s : State) (was : Vector Nat 2) : HeardAlike s (s.respace was) := by
  have hnoted : HeardAlike s s.withPtot := ⟨rfl, fun _ h => h, ⟨_, rfl⟩, rfl, rfl, rfl⟩
  exact hnoted.trans (.of_arm ((respace_changes_after was).mono (by decide)))

/-! ### The lead that is followed (R394, R405) -/

/-- What a device that gives the lead's work up keeps of the sources of its own state. -/
structure GivesUp (s t : State) : Prop where
  tsync : t.tab.tsync = s.tab.tsync
  aside : t.tab.aside = s.tab.aside
  power : t.power = s.power
  config : t.config = s.config
  ident : t.ident = s.ident

theorem GivesUp.refl (s : State) : GivesUp s s := ⟨rfl, rfl, rfl, rfl, rfl⟩

theorem GivesUp.trans (h : GivesUp s t) (k : GivesUp t u) : GivesUp s u :=
  ⟨k.tsync.trans h.tsync, k.aside.trans h.aside, k.power.trans h.power, k.config.trans h.config, k.ident.trans h.ident⟩

theorem finish_givesUp (s : State) (o : Op) (st : Status) (data : List Byte) : GivesUp s (s.finish o st data) := by
  have hchanges := finish_changes (s := s) o st data
  obtain ⟨_, htab⟩ := finish_tab s o st data
  exact ⟨by rw [htab], by rw [htab], hchanges.power (by decide), hchanges.same .config (by decide),
    hchanges.same .ident (by decide)⟩

theorem loseLock_givesUp (s : State) : GivesUp s s.loseLock := by
  have htab : s.loseLock.tab = s.tab := loseLock_changes.same .tab (by decide)
  exact ⟨by rw [htab], by rw [htab], loseLock_changes.power (by decide), loseLock_changes.same .config (by decide),
    loseLock_changes.same .ident (by decide)⟩

/-- The requests that wait for a member answered. -/
def State.forwardsEnded (s : State) : State :=
  s.camyx.ops.foldl
    (fun (s : State) o => match o.kind with
      | .forward _ => s.finish o .noRoute []
      | _ => s) s

theorem forwardsEnded_givesUp (s : State) : GivesUp s s.forwardsEnded :=
  List.foldlRecOn (motive := GivesUp s) _ _ (.refl s) fun v hv o _ => by
    split
    · exact hv.trans (finish_givesUp ..)
    · exact hv

theorem giveUpLead_givesUp (s : State) : GivesUp s s.giveUpLead ∧ s.giveUpLead.tab.lead = false := by
  have hlost := (forwardsEnded_givesUp s).trans (loseLock_givesUp s.forwardsEnded)
  have hall : s.giveUpLead = { s.forwardsEnded.loseLock with
      line := s.giveUpLead.line, tab := s.giveUpLead.tab } := rfl
  have htab : s.giveUpLead.tab = { s.forwardsEnded.loseLock.tab with
      lead := false, drive := false, member := Vector.replicate 8 none, bulkOut := [], bulkIn := [], bulkIdx := 0
      leadRec := Vector.replicate 20 none, acked := false, joinWait := 0, peers := Vector.replicate 8 0 } := rfl
  refine ⟨⟨?_, ?_, ?_, ?_, ?_⟩, by rw [htab]⟩
  · rw [htab]
    exact hlost.tsync
  · rw [htab]
    exact hlost.aside
  · rw [hall]
    exact hlost.power
  · rw [hall]
    exact hlost.config
  · rw [hall]
    exact hlost.ident

/-- Whether a lead frame comes from another lead than the one that is followed. -/
def State.changesLead (s : State) (b : List Byte) : Bool :=
  !s.tab.inTab || s.tab.lead || s.tab.leadIdx != fieldAt b 0 1 % 8

/-- The frame noted, and what it says of a lead that is lost. -/
def State.leadNoted (s : State) (b : List Byte) : State :=
  ((if s.changesLead b then s.giveUpLead else s).noteLead b).leadWatch

/-- The lead's time taken, and the level and the allowances evaluated. -/
def State.leadApplied (s : State) (b : List Byte) : State :=
  let s2 := if s.changesLead b then (s.leadNoted b).raiseP Ev.leadChange 0 0 else s.leadNoted b
  (s2.leadTime (fieldAt b 3 4) s2.tab.cyc).relevel

/-- The shares as the frame orders them. -/
def State.sharesFollow (s : State) (old : Vector Nat 2) (b : List Byte) : State :=
  (List.range 2).foldl
    (fun (s : State) r =>
      (s.gangRail r (old.toList.getD r 7) (s.tab.rstate.toList.getD r 7) (s.tab.rreason.toList.getD r 0)).gangFollow r
        (fieldAt b (14 + 2 * r) 2) (fieldAt b (18 + 2 * r) 2)) s

/-- The end of the command on a lead frame. -/
def State.leadFollowed (s : State) (b : List Byte) (was : Vector Nat 2) : State :=
  (((if bitAt (fieldAt b 7 1) 3 then s.stopShares else s).bulkWindow b).respace was).tb8Eval

theorem takeLead_eq (s : State) (b : List Byte) : s.takeLead b =
    ((s.leadApplied b).applyAllowances.sharesFollow s.tab.rstate b).leadFollowed b s.pTots := rfl

theorem applyAllowances_heardAlike (s : State) : HeardAlike s s.applyAllowances := by
  have hchanges := applyAllowances_changes (s := s)
  have htab : s.applyAllowances.tab = s.tab := hchanges.same .tab (by decide)
  exact ⟨by rw [htab], fun r hr => by rw [htab, hr], applyAllowances_line s, by rw [hchanges.same .plinth (by decide)],
    hchanges.same .config (by decide), hchanges.same .ident (by decide)⟩

theorem sharesFollow_heardAlike (s : State) (old : Vector Nat 2) (b : List Byte) : HeardAlike s (s.sharesFollow old b) :=
  .foldl (fun v _ => (gangRail_heardAlike v ..).trans (gangFollow_heardAlike ..)) _ s

theorem leadFollowed_heardAlike (s : State) (b : List Byte) (was : Vector Nat 2) : HeardAlike s (s.leadFollowed b was) := by
  have hstopped : HeardAlike s (if bitAt (fieldAt b 7 1) 3 then s.stopShares else s) := .ite (stopShares_heardAlike s) (.refl s)
  exact ((hstopped.trans (bulkWindow_heardAlike ..)).trans (respace_heardAlike ..)).trans (.tb8Eval _)

/-- A share that the lead's gang has just begun to regulate starts with it (R409). -/
theorem gangRail_pends {r : Fin 2} {old reason : Nat} (hcarries : s.carries r.val = true) (haside : s.tab.aside = false)
    (hacked : s.tab.acked = true) (hold : old ≠ 1) : (s.gangRail r.val old 1 reason).tab.startPend[r] = true := by
  have hpends : s.gangRail r.val old 1 reason =
      { s with tab := { s.tab with startPend := upd s.tab.startPend r.val fun _ => true } } :=
    (if_neg (by simp [hcarries, haside, hacked])).trans ((if_neg (by simp)).trans ((if_neg (by simp)).trans
      (if_pos (by simp [hold]))))
  rw [hpends]
  exact upd_same _ _ _ r.isLt

theorem HeardAlike.carries (h : HeardAlike s t) (r : Nat) : t.carries r = s.carries r := by
  have hin : t.tab.inTab = s.tab.inTab := (congrArg Tab.inTab h.tab :)
  unfold State.carries State.carriedBy
  rw [hin, h.param, h.param]

theorem sharesFollow_pends {r : Fin 2} {old : Vector Nat 2} (b : List Byte) (hcarries : s.carries r.val = true)
    (haside : s.tab.aside = false) (hacked : s.tab.acked = true) (hold : old[r] ≠ 1) (hnew : s.tab.rstate[r] = 1) :
    (s.sharesFollow old b).tab.startPend[r] = true := by
  refine foldl_reaches (inv := HeardAlike s) (P := fun v => v.tab.startPend[r] = true) (x := r.val)
    (fun v q hv => (hv.trans (gangRail_heardAlike v ..)).trans (gangFollow_heardAlike ..)) (fun v hv => ?_)
    (fun v q hv => ((gangRail_heardAlike v ..).trans (gangFollow_heardAlike ..)).starts r hv)
    (List.mem_range.2 r.isLt) (.refl s)
  have hrstate : v.tab.rstate = s.tab.rstate := (congrArg Tab.rstate hv.tab :)
  have hone : v.tab.rstate.toList.getD r.val 7 = 1 := by
    rw [hrstate, getD_toList, hnew]
  have hwas : old.toList.getD r.val 7 ≠ 1 := by rwa [getD_toList]
  refine (gangFollow_heardAlike ..).starts r ?_
  rw [hone]
  exact gangRail_pends ((hv.carries r.val).trans hcarries) ((congrArg Tab.aside hv.tab :).trans haside)
    ((congrArg Tab.acked hv.tab :).trans hacked) hwas

/-! ### What is noted of the lead -/

theorem since_self (x : Nat) : since x x = 0 := by
  unfold since
  rw [Nat.add_sub_cancel_left, Nat.mod_self]

theorem leadNoted_tab (s : State) (b : List Byte) (hlead : s.tab.lead = false) : ∃ v, GivesUp s v ∧
    (s.leadNoted b).tab = { (v.noteLead b).tab with lead := false, leadLost := s.busCarries && !s.tab.tsync } := by
  obtain ⟨hgives, hfollows⟩ : GivesUp s (if s.changesLead b then s.giveUpLead else s) ∧
      (if s.changesLead b then s.giveUpLead else s).tab.lead = false := by
    split
    · exact giveUpLead_givesUp s
    · exact ⟨.refl s, hlead⟩
  unfold State.leadNoted
  generalize (if s.changesLead b then s.giveUpLead else s) = v at *
  have hgone : (v.noteLead b).leadGone = (s.busCarries && !s.tab.tsync) := by
    have hbus : (v.noteLead b).busCarries = s.busCarries := by
      unfold State.busCarries
      rw [show (v.noteLead b).power = v.power from rfl, hgives.power]
    have hfresh : since (v.noteLead b).plinth.upMs (v.noteLead b).tab.leadAt = 0 := since_self v.plinth.upMs
    unfold State.leadGone
    rw [hbus, hfresh, show (v.noteLead b).tab.inTab = true from rfl, show (v.noteLead b).tab.lead = v.tab.lead from rfl,
      hfollows, show (v.noteLead b).tab.tsync = v.tab.tsync from rfl, hgives.tsync]
    simp
  have hmember : ((v.noteLead b).tab.inTab && !(v.noteLead b).tab.lead) = true := by
    rw [show (v.noteLead b).tab.inTab = true from rfl, show (v.noteLead b).tab.lead = v.tab.lead from rfl, hfollows]
    rfl
  refine ⟨v, hgives, ?_⟩
  rw [leadWatch_tab, if_pos hmember, hgone, ← hfollows]
  rfl

theorem leadNoted_params (s : State) (b : List Byte) : (s.leadNoted b).config = s.config ∧ (s.leadNoted b).ident = s.ident := by
  have hgives : GivesUp s (if s.changesLead b then s.giveUpLead else s) := by
    split
    · exact (giveUpLead_givesUp s).1
    · exact .refl s
  unfold State.leadNoted
  generalize (if s.changesLead b then s.giveUpLead else s) = v at *
  have hwatch := leadWatch_changes (s := v.noteLead b)
  exact ⟨Eq.trans (hwatch.same .config (by decide)) hgives.config, Eq.trans (hwatch.same .ident (by decide)) hgives.ident⟩

/-- The lead's time writes the skew of the Tableau's record alone. -/
theorem leadTime_tab (s : State) (x cyc : Nat) : ∃ skew, (s.leadTime x cyc).tab = { s.tab with skewMs := skew } ∧
    ChangesOnly [.plinth, .ledger, .ctr, .line, .sw, .tab, .logs] s (s.leadTime x cyc) := by
  have hset : ∀ v : State, ChangesOnly [.plinth, .ledger, .ctr, .line, .sw, .logs] v (v.setTime x) := fun v =>
    ((ChangesOnly.write [.plinth, .ledger] rfl).trans dayCheck_changes).mono (by decide)
  have hclock : ∀ v : State, ChangesOnly [.plinth, .ledger, .ctr, .line, .sw, .logs] v
      { v.setTime x with plinth := { (v.setTime x).plinth with rtcSub := cyc * 32768 / 1000 % 32768 } } := fun v =>
    ((hset v).trans (.write [.plinth] rfl)).mono (by decide)
  have hskewed : ∀ (skew : Int) (v : State),
      ChangesOnly [.plinth, .ledger, .ctr, .line, .sw, .logs] { s with tab := { s.tab with skewMs := skew } } v →
      ∃ skew, v.tab = { s.tab with skewMs := skew } ∧ ChangesOnly [.plinth, .ledger, .ctr, .line, .sw, .tab, .logs] s v :=
    fun skew v hv => ⟨skew, hv.same .tab (by decide), ((ChangesOnly.write [.tab] rfl).trans hv).mono (by decide)⟩
  unfold State.leadTime
  split
  · exact ⟨s.tab.skewMs, rfl, .refl s⟩
  dsimp only
  split
  · exact hskewed _ _ (hclock _)
  split
  · split
    · exact hskewed _ _ (((hclock _).trans (raiseP_changes ..)).mono (by decide))
    · exact hskewed _ _ (.refl _)
  · exact ⟨_, rfl, (ChangesOnly.write [.plinth, .tab] rfl).mono (by decide)⟩

theorem leadApplied_acts (s : State) (b : List Byte) : (s.leadApplied b).tab.heard = (s.leadNoted b).tab.heard ∧
    (s.leadApplied b).line.eff = (s.leadApplied b).levelOf ∧ (s.leadApplied b).config = s.config ∧
    (s.leadApplied b).ident = s.ident := by
  obtain ⟨hconfig, hident⟩ := leadNoted_params s b
  have hraised : ChangesOnly [.logs] (s.leadNoted b)
      (if s.changesLead b then (s.leadNoted b).raiseP Ev.leadChange 0 0 else s.leadNoted b) :=
    .thenOnly (raiseP_changes ..)
  refine ⟨?_, relevel_eff _, ?_⟩
  all_goals
    unfold State.leadApplied
    dsimp only
    generalize (if s.changesLead b then (s.leadNoted b).raiseP Ev.leadChange 0 0 else s.leadNoted b) = v at *
    obtain ⟨_, htab, htime⟩ := leadTime_tab v (fieldAt b 3 4) v.tab.cyc
  · rw [relevel_tab, htab, show v.tab = (s.leadNoted b).tab from hraised.same .tab (by decide)]
    rfl
  · have hall := (hraised.trans htime).trans relevel_changes
    exact ⟨Eq.trans (hall.same .config (by decide)) hconfig, Eq.trans (hall.same .ident (by decide)) hident⟩

/-- What a lead frame says, in a Tableau that has heard it. -/
structure Tab.Says (x : Tab) (b : List Byte) (lost aside : Bool) : Prop where
  inTab : x.inTab = true
  lead : x.lead = false
  leadLost : x.leadLost = lost
  leadIdx : x.leadIdx = fieldAt b 0 1 % 8
  cyc : x.cyc = fieldAt b 1 2 % 1024
  level : x.level = fieldAt b 8 1 % 4
  allow : x.allow = BitVec.ofNat 8 (fieldAt b 9 1)
  members : x.members = BitVec.ofNat 8 (fieldAt b 10 1)
  qualified : x.qualified = bitAt (fieldAt b 7 1) 5
  rstate : x.rstate = Vector.ofFn fun r : Fin 2 => fieldAt b 12 1 / 8 ^ r.val % 8
  aside : x.aside = aside

theorem Tab.Says.of_heard {x y : Tab} {lost aside : Bool} (h : x.Says b lost aside) (hy : y.heard = x.heard) :
    y.Says b lost aside where
  inTab := (congrArg Tab.inTab hy :).trans h.inTab
  lead := (congrArg Tab.lead hy :).trans h.lead
  leadLost := (congrArg Tab.leadLost hy :).trans h.leadLost
  leadIdx := (congrArg Tab.leadIdx hy :).trans h.leadIdx
  cyc := (congrArg Tab.cyc hy :).trans h.cyc
  level := (congrArg Tab.level hy :).trans h.level
  allow := (congrArg Tab.allow hy :).trans h.allow
  members := (congrArg Tab.members hy :).trans h.members
  qualified := (congrArg Tab.qualified hy :).trans h.qualified
  rstate := (congrArg Tab.rstate hy :).trans h.rstate
  aside := (congrArg Tab.aside hy :).trans h.aside

theorem leadNoted_says (b : List Byte) (hlead : s.tab.lead = false) :
    (s.leadNoted b).tab.Says b (s.busCarries && !s.tab.tsync) s.tab.aside := by
  obtain ⟨v, hgives, hnoted⟩ := leadNoted_tab s b hlead
  rw [hnoted]
  exact ⟨rfl, rfl, rfl, rfl, rfl, rfl, rfl, rfl, rfl, rfl, hgives.aside⟩

theorem carries_in (hin : s.tab.inTab = true) (hcarries : u.carries r = true) (hconfig : s.config = u.config)
    (hident : s.ident = u.ident) : s.carries r = true := by
  unfold State.carries State.carriedBy at hcarries ⊢
  rw [Bool.and_eq_true] at hcarries
  rw [hin, param_congr hconfig hident, param_congr hconfig hident]
  exact hcarries.2

/-- A lead frame at a device that does not lead: what it says of the gang, and what follows here. -/
theorem takeLead_acts (b : List Byte) (hlead : s.tab.lead = false) :
    (s.takeLead b).tab.Says b (s.busCarries && !s.tab.tsync) s.tab.aside ∧
      (∀ r : Fin 2, s.carries r.val = true → s.tab.aside = false → s.tab.rstate[r] ≠ 1 → (s.takeLead b).tab.rstate[r] = 1 →
        (s.takeLead b).tab.acked = true → (s.takeLead b).tab.startPend[r] = true) ∧
      (s.takeLead b).line.eff = (s.takeLead b).levelOf ∧ (s.takeLead b).plinth.tb8 = (s.takeLead b).tb8Source := by
  have hnoted := leadNoted_says b hlead
  obtain ⟨happlied, heff, hconfig, hident⟩ := leadApplied_acts s b
  rw [takeLead_eq]
  generalize s.leadApplied b = w at *
  have hallow := applyAllowances_heardAlike w
  generalize w.applyAllowances = a at *
  have hshares := sharesFollow_heardAlike a s.tab.rstate b
  have hpends := fun r : Fin 2 => sharesFollow_pends (s := a) (r := r) (old := s.tab.rstate) b
  generalize a.sharesFollow s.tab.rstate b = x at *
  have hlast := leadFollowed_heardAlike x b s.pTots
  have htb8 : (x.leadFollowed b s.pTots).plinth.tb8 = (x.leadFollowed b s.pTots).tb8Source := tb8Eval_tb8 _
  generalize x.leadFollowed b s.pTots = t at *
  have hall : HeardAlike w t := (hallow.trans hshares).trans hlast
  have hsays := hnoted.of_heard happlied
  have hfrom := hsays.of_heard hallow.tab
  have hsame := (hshares.trans hlast).tab
  obtain ⟨_, hline⟩ := hall.line
  refine ⟨hsays.of_heard hall.tab, fun r hcarries haside hold hnew hacked => hlast.starts r (hpends r ?_ ?_ ?_ hold ?_), ?_,
    htb8⟩
  · exact carries_in hfrom.inTab hcarries (hallow.config.trans hconfig) (hallow.ident.trans hident)
  · rw [hfrom.aside, haside]
  · exact (congrArg Tab.acked hsame :).symm.trans hacked
  · have hrstate : t.tab.rstate = a.tab.rstate := (congrArg Tab.rstate hsame :)
    rw [← hrstate, hnew]
  · rw [hall.levelOf hsays.lead, ← heff, hline]

theorem leadFrameReceived_acts (hears : s.linkHears = true) (hlead : s.tab.lead = false) (hlen : b.length = 26)
    (hcrc : crcOk b = true) (htype : fieldAt b 0 1 / 8 = 1) : exec (.leadFrameReceived b) s = .next (s.takeLead b) :=
  congrArg Host.Outcome.next ((if_neg (by simp [hears])).trans ((if_neg (by simp [hlen, hcrc, htype])).trans
    (if_neg (by simp [hlead]))))

end Sys2Proof.Machine
end

section
/-! PROOFS. The Miovin frames of members, bulk and joins, the shares that start and stop at a cycle, and the statement on the
frames of the link. -/

namespace Sys2Proof.Machine

variable {s t u : State} {b : List Byte}

/-! ### Member frames (R399, R408) -/

theorem member?_upd {m : Nat} (hm : m < 8) (f : Option Member → Option Member) (x : Tab)
    (htab : s.tab.member = upd x.member m f) : s.member? m = f (x.member.toList.getD m none) := by
  unfold State.member?
  rw [htab, getD_upd, if_pos ⟨rfl, hm⟩]

theorem gangRail_member (s : State) (r old new reason : Nat) : (s.gangRail r old new reason).tab.member = s.tab.member :=
  (congrArg Tab.member (gangRail_heardAlike s r old new reason).tab :)

theorem shareFault_member (s : State) (r why : Nat) : (s.shareFault r why).tab.member = s.tab.member := by
  unfold State.shareFault
  extract_lets old new
  split
  · rfl
  · exact gangRail_member ..

/-- The lead's evaluation after a frame writes no entry of the member table. -/
theorem evaluated_member (s : State) (was : Vector Nat 2) : ((s.regang.relevel).respace was).tab.member = s.tab.member := by
  rw [respace_tab, relevel_tab]
  rfl

/-- What a member's frame reports of one rail, where it is new. -/
def State.memberFault (s : State) (b : List Byte) (x : Member) (r : Nat) : State :=
  let why := fieldAt b 3 1 / 16 ^ r % 16
  if why = 0 ∨ why = x.mfault.toNat / 16 ^ r % 16 then s else s.shareFault r why

theorem memberFaults_member (b : List Byte) (x : Member) (l : List Nat) (s : State) :
    (l.foldl (fun (v : State) r => v.memberFault b x r) s).tab.member = s.tab.member :=
  List.foldlRecOn (motive := fun w : State => w.tab.member = s.tab.member) l _ rfl fun w hw r _ => by
    unfold State.memberFault
    dsimp only
    split
    · exact hw
    · exact (shareFault_member ..).trans hw

theorem takeMember_eq {x : Member} (hx : s.member? (fieldAt b 0 1 % 8) = some x) : s.takeMember b =
    (List.range 2).foldl (fun (v : State) r => v.memberFault b x r)
      ((((s.onMember (fieldAt b 0 1 % 8) fun y => y.take b (s.tab.cyc % 20)).regang).relevel).respace s.pTots) := by
  unfold State.takeMember
  dsimp only
  rw [hx]
  rfl

theorem takeMember_takes {x : Member} (hx : s.member? (fieldAt b 0 1 % 8) = some x) :
    (s.takeMember b).member? (fieldAt b 0 1 % 8) = some (x.take b (s.tab.cyc % 20)) := by
  have hm : fieldAt b 0 1 % 8 < 8 := Nat.mod_lt _ (by decide)
  have htable : (s.takeMember b).tab.member = upd s.tab.member (fieldAt b 0 1 % 8) fun o =>
      o.map fun y => y.take b (s.tab.cyc % 20) := by
    rw [takeMember_eq hx, memberFaults_member, evaluated_member]
    rfl
  rw [member?_upd hm _ s.tab htable, show s.tab.member.toList.getD (fieldAt b 0 1 % 8) none = some x from hx]
  rfl

theorem memberFrameReceived_lead {x : Member} (hears : s.linkHears = true) (hlead : s.tab.lead = true) (hlen : b.length = 12)
    (hcrc : crcOk b = true) (htype : fieldAt b 0 1 / 8 = 2) (hx : s.member? (fieldAt b 0 1 % 8) = some x) :
    ∃ t, exec (.memberFrameReceived b) s = .next t ∧
        t.member? (fieldAt b 0 1 % 8) = some (x.take b (s.tab.cyc % 20)) ∧
        (x.take b (s.tab.cyc % 20)).mstate = BitVec.ofNat 8 (fieldAt b 1 1) ∧
        (x.take b (s.tab.cyc % 20)).phrun = BitVec.ofNat 8 (fieldAt b 2 1) ∧
        (x.take b (s.tab.cyc % 20)).ia = toInt 16 (fieldAt b 4 2) ∧
        (x.take b (s.tab.cyc % 20)).ib = toInt 16 (fieldAt b 6 2) ∧ (x.take b (s.tab.cyc % 20)).missed = 0 :=
  ⟨_, congrArg Host.Outcome.next ((if_neg (by simp [hears])).trans ((if_neg (by simp [hlen, hcrc, htype])).trans
    (if_pos hlead))), takeMember_takes hx, rfl, rfl, rfl, rfl, rfl⟩

/-- The phases that a member says run, at another device. -/
def State.peerNoted (s : State) (b : List Byte) : State :=
  { s with tab := { s.tab with peers := upd s.tab.peers (fieldAt b 0 1 % 8) fun _ => fieldAt b 2 1 } }

theorem memberFrameReceived_peer (hears : s.linkHears = true) (hlead : s.tab.lead = false) (hlen : b.length = 12)
    (hcrc : crcOk b = true) (htype : fieldAt b 0 1 / 8 = 2) : ∃ t, exec (.memberFrameReceived b) s = .next t ∧
      t.tab.peers = upd s.tab.peers (fieldAt b 0 1 % 8) (fun _ => fieldAt b 2 1) ∧ t.tab.member = s.tab.member := by
  refine ⟨(s.peerNoted b).respace s.pTots, congrArg Host.Outcome.next ((if_neg (by simp [hears])).trans
    ((if_neg (by simp [hlen, hcrc, htype])).trans (if_neg (by simp [hlead])))), ?_⟩
  rw [respace_tab]
  exact ⟨rfl, rfl⟩

/-! ### Bulk frames (R402) -/

/-- The fragment that a bulk frame carries. -/
def bulkData (b : List Byte) : List Byte := (b.drop 5).take (fieldAt b 3 2)

/-- What has come of a transfer with a fragment: the first one begins it anew. -/
def State.gathered (s : State) (b : List Byte) : List Byte :=
  (if bitAt (fieldAt b 2 1) 5 then [] else s.tab.bulkIn) ++ bulkData b

theorem exec_bulkFrameReceived (hears : s.linkHears = true) (hcrc : crcOk b = true) (htype : fieldAt b 0 1 / 8 = 3)
    (hmine : fieldAt b 1 1 % 8 = s.param P.tabIndex) : exec (.bulkFrameReceived b) s = .next
      (if bitAt (fieldAt b 2 1) 6 then
        ({ s with tab := { s.tab with bulkIn := [] } } : State).transfer (fieldAt b 0 1 % 8) (s.gathered b)
      else { s with tab := { s.tab with bulkIn := s.gathered b } }) := by
  have hgathered : s.gathered b = if bitAt (fieldAt b 2 1) 5 then bulkData b else s.tab.bulkIn ++ bulkData b := by
    unfold State.gathered
    split
    · rfl
    · rfl
  rw [hgathered]
  exact congrArg Host.Outcome.next ((if_neg (by simp [hears])).trans ((if_neg (by simp [hcrc, htype])).trans
    (if_neg (by simp [hmine]))))

theorem bulkFrameReceived_other (hears : s.linkHears = true) (hcrc : crcOk b = true) (htype : fieldAt b 0 1 / 8 = 3)
    (hother : fieldAt b 1 1 % 8 ≠ s.param P.tabIndex) : exec (.bulkFrameReceived b) s = .next s :=
  congrArg Host.Outcome.next ((if_neg (by simp [hears])).trans ((if_neg (by simp [hcrc, htype])).trans (if_pos hother)))

/-- A JOIN_ACK is known by its first byte and the UID that it carries. -/
theorem joinAck_fields {d uid : List Byte} (h : d.take 9 = toLe 1 5 ++ uid) :
    fieldAt d 0 1 = 5 ∧ (d.drop 1).take 8 = uid ∧ fieldAt (d.drop 1) 8 1 = fieldAt d 9 1 := by
  refine ⟨?_, ?_, ?_⟩
  · have hfirst : d.take 1 = (d.take 9).take 1 := by rw [List.take_take]; rfl
    unfold fieldAt
    rw [List.drop_zero, hfirst, h]
    rfl
  · have hbody : (d.drop 1).take 8 = (d.take 9).drop 1 := by rw [List.drop_take]
    rw [hbody, h]
    rfl
  · unfold fieldAt
    rw [List.drop_drop]

/-- A member with the join of its lead acknowledged. -/
def State.admitted (s : State) : State :=
  { s with tab := { s.tab with bulkIn := [], acked := true, aside := false, adopting := false, asideReason := 0 } }

theorem transfer_joinAck {d : List Byte} {src : Nat} (hlead : s.tab.lead = false) (hin : s.tab.inTab = true)
    (hsrc : src = s.tab.leadIdx) (hack : d.take 9 = toLe 1 5 ++ s.ident.uid) (hres : fieldAt d 9 1 = 0) :
    ({ s with tab := { s.tab with bulkIn := [] } } : State).transfer src d = s.admitted.clearE Ev.setAside := by
  obtain ⟨hop, hbody, hresult⟩ := joinAck_fields hack
  have htake : ∀ v : State, v.ident = s.ident → v.takeJoinAck (d.drop 1) =
      ({ v with tab := { v.tab with acked := true } } : State).admitMember := fun v hv =>
    (if_neg (by rw [hbody, hv]; simp)).trans (if_pos (by rw [hresult, hres]))
  unfold State.transfer
  rw [if_neg (by simp [hlead]), if_neg (by simp [hin, hsrc]), hop]
  exact htake { s with tab := { s.tab with bulkIn := [] } } rfl

theorem bulkFrameReceived_joinAck (hears : s.linkHears = true) (hcrc : crcOk b = true) (htype : fieldAt b 0 1 / 8 = 3)
    (hmine : fieldAt b 1 1 % 8 = s.param P.tabIndex) (hfirst : bitAt (fieldAt b 2 1) 5 = true)
    (hlast : bitAt (fieldAt b 2 1) 6 = true) (hlead : s.tab.lead = false) (hin : s.tab.inTab = true)
    (hsrc : fieldAt b 0 1 % 8 = s.tab.leadIdx) (hack : (bulkData b).take 9 = toLe 1 5 ++ s.ident.uid)
    (hres : fieldAt (bulkData b) 9 1 = 0) :
    ∃ t, exec (.bulkFrameReceived b) s = .next t ∧ t.holdsC Ev.setAside = false ∧
      t = { s.withLogs t with tab := { s.tab with
        bulkIn := [], acked := true, aside := false, adopting := false, asideReason := 0 } } := by
  have hgathered : s.gathered b = bulkData b := by
    unfold State.gathered
    rw [if_pos hfirst, List.nil_append]
  refine ⟨s.admitted.clearE Ev.setAside, ?_, clearE_holdsC .., (clearE_changes _).eq_copy⟩
  rw [exec_bulkFrameReceived hears hcrc htype hmine, if_pos hlast, hgathered,
    transfer_joinAck hlead hin hsrc hack hres]

/-! ### Joins (R413) -/

/-- The record of a join. -/
def joinRecord (b : List Byte) : List Byte := (b.drop 1).take 40

theorem joinRecord_index (b : List Byte) : fieldAt (joinRecord b) 31 1 = fieldAt b 32 1 := by
  unfold fieldAt joinRecord
  rw [List.drop_take, List.drop_drop, List.take_take]
  rfl

/-- The answer to a join. -/
def joinAnswer (b : List Byte) (code : Nat) : Nat × List Byte :=
  (fieldAt b 32 1 % 8, toLe 1 5 ++ (joinRecord b).take 8 ++ toLe 1 (if code = 0 then 0 else 1 + 16 * code))

/-- A join answered. -/
def State.joinAnswered (s : State) (b : List Byte) (code : Nat) : State :=
  { s with tab := { s.tab with bulkOut := s.tab.bulkOut ++ [joinAnswer b code] } }

theorem joinFrame_enters (hfree : s.member? (fieldAt b 32 1 % 8) = none)
    (hother : fieldAt b 32 1 % 8 ≠ s.param P.tabIndex) : s.joinFrame b =
      (s.joinAnswered b (s.entryCode (recOf (joinRecord b)))).enter (fieldAt b 32 1 % 8)
        (newMember (recOf (joinRecord b)) (s.entryCode (recOf (joinRecord b)))) := by
  have htaken : (fieldAt b 32 1 % 8 == s.param P.tabIndex || false) = false := by simpa using hother
  unfold State.joinFrame State.joinAnswered joinAnswer
  rw [← joinRecord_index] at *
  unfold joinRecord at *
  dsimp only
  rw [hfree]
  simp only [htaken, Bool.false_eq_true, if_false]

/-- A device's entry in the member table. -/
def State.entered (s : State) (m : Nat) (x : Member) : State :=
  { s with tab := { s.tab with member := upd s.tab.member m fun _ => some x } }

/-- The lead's evaluation after an entry. -/
def State.reganged (s : State) (m : Nat) (x : Member) : State :=
  ((if x.aside = 2 then (s.entered m x).sendImage m else s.entered m x).regang).respace s.pTots

theorem reganged_tab {m : Nat} (hm : m < 8) (x : Member) : (s.reganged m x).member? m = some x ∧
    (s.reganged m x).tab.members = (s.reganged m x).memberMask ∧
    (x.aside = 2 ∨ (s.reganged m x).tab.bulkOut = s.tab.bulkOut) := by
  have hentry : ∀ v : State, v.tab.member = upd s.tab.member m (fun _ => some x) →
      ((v.regang).respace s.pTots).member? m = some x ∧
      ((v.regang).respace s.pTots).tab.members = ((v.regang).respace s.pTots).memberMask := fun v hv => by
    have htab := respace_tab (s := v.regang) s.pTots
    have hmember : ((v.regang).respace s.pTots).tab.member = v.tab.member := by
      rw [htab]
      rfl
    refine ⟨?_, ?_⟩
    · rw [member?_upd hm _ s.tab (hmember.trans hv)]
    · unfold State.memberMask State.member?
      rw [hmember, htab]
      rfl
  unfold State.reganged
  split
  next himage =>
    obtain ⟨hmine, hmask⟩ := hentry ((s.entered m x).sendImage m) rfl
    exact ⟨hmine, hmask, .inl himage⟩
  next =>
    obtain ⟨hmine, hmask⟩ := hentry (s.entered m x) rfl
    refine ⟨hmine, hmask, .inr ?_⟩
    rw [respace_tab]
    rfl

theorem enter_eq (s : State) (m : Nat) (x : Member) :
    s.enter m x = if x.aside = 0 then (s.reganged m x).memberJoins m else s.reganged m x := rfl

theorem memberJoins_acts (s : State) (m : Nat) : (s.memberJoins m).tab = s.tab ∧ (s.memberJoins m).holds Ev.memberUp = true ∧
    (s.memberJoins m).holdsC Ev.memberLost = false :=
  ⟨((raiseP_changes Ev.memberUp 2 m).trans (clearE_changes Ev.memberLost)).same .tab (by decide),
    holds_clearE (by decide) (raiseP_holds ..), clearE_holdsC ..⟩

theorem enter_acts {m : Nat} (hm : m < 8) (x : Member) : (s.enter m x).member? m = some x ∧
    (s.enter m x).tab.members = (s.enter m x).memberMask ∧ (x.aside = 2 ∨ (s.enter m x).tab.bulkOut = s.tab.bulkOut) ∧
    (x.aside ≠ 0 ∨ ((s.enter m x).holds Ev.memberUp = true ∧ (s.enter m x).holdsC Ev.memberLost = false)) := by
  obtain ⟨hmine, hmask, hout⟩ := reganged_tab (s := s) hm x
  rw [enter_eq]
  generalize s.reganged m x = v at *
  split
  next =>
    obtain ⟨htab, hup, hlost⟩ := memberJoins_acts v m
    unfold State.memberMask State.member? at *
    rw [htab]
    exact ⟨hmine, hmask, hout, .inr ⟨hup, hlost⟩⟩
  next haside => exact ⟨hmine, hmask, hout, .inl haside⟩

theorem joinFrameReceived_acts (hears : s.linkHears = true) (hlead : s.tab.lead = true) (hbegun : s.shutBegun = false)
    (hlen : b.length = 43) (hcrc : crcOk b = true) (htype : fieldAt b 0 1 / 8 = 4)
    (hfree : s.member? (fieldAt b 32 1 % 8) = none) (hother : fieldAt b 32 1 % 8 ≠ s.param P.tabIndex) :
    ∃ t code, exec (.joinFrameReceived b) s = .next t ∧ code = s.entryCode (recOf ((b.drop 1).take 40)) ∧
      t.member? (fieldAt b 32 1 % 8) = some (newMember (recOf ((b.drop 1).take 40)) code) ∧
      (code = 2 ∨ t.tab.bulkOut = s.tab.bulkOut ++ [joinAnswer b code]) ∧
      t.tab.members = t.memberMask ∧ (code ≠ 0 ∨ (t.holds Ev.memberUp = true ∧ t.holdsC Ev.memberLost = false)) := by
  have hexec : exec (.joinFrameReceived b) s = .next (s.joinFrame b) :=
    congrArg Host.Outcome.next ((if_neg (by simp [hears])).trans ((if_neg (by simp [hlen, hcrc, htype])).trans
      (if_pos (by rw [hlead, hbegun]; rfl))))
  refine ⟨_, s.entryCode (recOf (joinRecord b)), hexec, rfl, ?_⟩
  rw [joinFrame_enters hfree hother]
  generalize s.entryCode (recOf (joinRecord b)) = code
  obtain ⟨hmine, hmask, hout, hjoins⟩ := enter_acts (s := s.joinAnswered b code) (Nat.mod_lt (fieldAt b 32 1) (by decide))
    (newMember (recOf (joinRecord b)) code)
  exact ⟨hmine, hout, hmask, hjoins⟩

/-! ### Shares at a cycle start (R409) -/

/-- The pending changes of a share taken. -/
def State.pendsTaken (s : State) (r : Fin 2) : State :=
  { s with tab := { s.tab with
    startPend := upd s.tab.startPend r.val fun _ => false, stopPend := upd s.tab.stopPend r.val fun _ => false } }

/-- What the pending changes of a share lead to. -/
def State.shareMoves (s : State) (r : Fin 2) (start stop : Bool) : State :=
  if stop then s.softStop r.val 0
  else if start && s.mayRestart r.val then s.restartShare r.val
  else if start && s.mayStart r.val then s.startRail r.val
  else s

theorem exec_gangShareStart {r : Fin 2} (hlost : s.tab.leadLost = false) (hcarries : s.carries r.val = true) :
    exec (.gangShareStart r) s = .next ((s.pendsTaken r).shareMoves r s.tab.startPend[r] s.tab.stopPend[r]) :=
  congrArg Host.Outcome.next (if_neg (by simp [hlost, hcarries]))

theorem restartShare_changes (r : Nat) : ChangesOnly startParts s (s.restartShare r) :=
  (((leaveFault_changes r).trans (onRail_changes ..)).trans (startRail_changes r)).mono (by decide)

theorem shareMoves_tab (r : Fin 2) (start stop : Bool) : (s.shareMoves r start stop).tab = s.tab := by
  unfold State.shareMoves
  split
  · exact (softStop_changes ..).same .tab (by decide)
  split
  · exact (restartShare_changes _).same .tab (by decide)
  split
  · exact (startRail_changes _).same .tab (by decide)
  · rfl

/-- A rail that runs, after a soft-stop that no protection asks for. -/
theorem softStop_self {r : Fin 2} (hlive : (s.rail r.val).st.live = true) : ((s.softStop r.val 0).rail r.val).st = .stopping ∧
    ((s.softStop r.val 0).rail r.val).stopReason = 0 := by
  have hone : ((s.stopOne r.val 0 false).rail r.val).st = .stopping ∧
      ((s.stopOne r.val 0 false).rail r.val).stopReason = 0 := by
    unfold State.stopOne
    rw [if_pos hlive, onRail_self r.isLt]
    exact ⟨rfl, rfl⟩
  have hne : r.val ≠ otherRail r.val := by
    unfold otherRail
    omega
  unfold State.softStop
  dsimp only
  split
  · rw [State.stopFollower, stopOne_other hne]
    exact hone
  · exact hone

theorem shareMoves_stops {r : Fin 2} (start : Bool) (hlive : (s.rail r.val).st.live = true) :
    ((s.shareMoves r start true).rail r.val).st = .stopping ∧ ((s.shareMoves r start true).rail r.val).stopReason = 0 :=
  softStop_self hlive

theorem shareMoves_starts {r : Fin 2} (hmay : s.mayRestart r.val = true ∨ s.mayStart r.val = true) :
    ((s.shareMoves r true false).rail r.val).st = .starting := by
  unfold State.shareMoves
  rw [if_neg Bool.false_ne_true, Bool.true_and, Bool.true_and]
  split
  · exact (startRail_self r.isLt).1
  next hnot =>
    rw [if_pos (hmay.resolve_left hnot)]
    exact (startRail_self r.isLt).1

theorem gangShareStart_acts {r : Fin 2} (hlost : s.tab.leadLost = false) (hcarries : s.carries r.val = true) :
    ∃ t, exec (.gangShareStart r) s = .next t ∧ t.tab.startPend[r] = false ∧ t.tab.stopPend[r] = false ∧
      (s.tab.stopPend[r] = true → (s.rail r.val).st.live = true →
        (t.rail r.val).st = .stopping ∧ (t.rail r.val).stopReason = 0) ∧
      (s.tab.stopPend[r] = false → s.tab.startPend[r] = true → (s.mayRestart r.val = true ∨ s.mayStart r.val = true) →
        (t.rail r.val).st = .starting) := by
  refine ⟨_, exec_gangShareStart hlost hcarries, ?_, ?_, fun hstop hlive => ?_, fun hstop hstart hmay => ?_⟩
  · simp only [shareMoves_tab]
    exact upd_same _ _ _ r.isLt
  · simp only [shareMoves_tab]
    exact upd_same _ _ _ r.isLt
  · rw [hstop]
    exact shareMoves_stops _ hlive
  · rw [hstop, hstart]
    exact shareMoves_starts hmay

/-- Settles O38: the cycle and the frames that are dropped, then each kind of frame and the shares, by their lemmas. -/
theorem linkFramesActOnTheGang : Obligations.LinkFramesActOnTheGang := by
  unfold Obligations.LinkFramesActOnTheGang
  intro s
  refine ⟨fun hears hmode hlead hbus => tabCycleStart_leads hears hmode hlead hbus, fun hquiet => tabCycleStart_quiet hquiet,
    fun u hears hmode hlead hin hsync hu => ⟨fun hacked => ?acked, fun hacked hwindow hwait => ?joins⟩,
    fun b hears hcrc => framesReceived_bad hears hcrc, fun b hdeaf => framesReceived_deaf b hdeaf,
    fun b hears hlead hlen hcrc htype => ?lead,
    fun b x hears hlead hlen hcrc htype hx => memberFrameReceived_lead hears hlead hlen hcrc htype hx,
    fun b hears hlead hlen hcrc htype => memberFrameReceived_peer hears hlead hlen hcrc htype,
    fun b hears hcrc htype => ⟨fun hother => ⟨s, bulkFrameReceived_other hears hcrc htype hother, rfl⟩,
      fun hmine hmore => ⟨_, (exec_bulkFrameReceived hears hcrc htype hmine).trans
        (congrArg _ (if_neg (by simp [hmore]))), rfl⟩,
      fun hmine hfirst hlast hlead hin hsrc hack hres _ =>
        bulkFrameReceived_joinAck hears hcrc htype hmine hfirst hlast hlead hin hsrc hack hres⟩,
    fun b hears hlead hbegun hlen hcrc htype hfree hother =>
      joinFrameReceived_acts hears hlead hbegun hlen hcrc htype hfree hother,
    fun r hlost hcarries => gangShareStart_acts hlost hcarries⟩
  case acked => rw [exec_tabCycleStart_member hears hmode hlead hin hsync, memberCycle_acked hu hacked]
  case joins => rw [exec_tabCycleStart_member hears hmode hlead hin hsync, memberCycle_joins hu hacked hwindow hwait]
  case lead =>
    obtain ⟨hsays, hstarts, heff, htb8⟩ := takeLead_acts b hlead
    refine ⟨_, leadFrameReceived_acts hears hlead hlen hcrc htype, hsays.inTab, hsays.lead, hsays.leadLost, hsays.leadIdx,
      hsays.cyc, hsays.level, hsays.allow, hsays.members, hsays.qualified, fun r => ?_, hstarts, heff, htb8⟩
    rw [hsays.rstate]
    simp

end Sys2Proof.Machine
end
